-- ==== Sys2Proof/Word.lean ====
section
/-!
DEFINITION. Sys2Proof/Word.lean: the word types of the NX2408 (R7: 16-bit words) and their plainest arithmetic.
-/
namespace Sys2Proof

/-- One word of the direct registers and of the state map: 16 bits (R7, R708, R755). -/
abbrev Word := BitVec 16

/-- One octet, as the NVM, the SPI port and the Lace cells carry it. -/
abbrev Byte := BitVec 8

/-- The word that holds the low 16 bits of a natural number. -/
def Word.ofN (n : Nat) : Word := BitVec.ofNat 16 n

/-- The bits `hi` down to `lo` of a number, as a number. -/
def bitsOf (n hi lo : Nat) : Nat := (n >>> lo) % 2 ^ (hi + 1 - lo)

/-- Bit `i` of a number. -/
def bitOf (n i : Nat) : Bool := n.testBit i

/-- 1 for true, 0 for false. -/
def b2n (b : Bool) : Nat := if b then 1 else 0

/-- A number cut to `w` bits. -/
def wrapN (w n : Nat) : Nat := n % 2 ^ w

/-- The `w`-bit two's complement pattern of an integer, as a number. -/
def wrapI (w : Nat) (z : Int) : Nat := (z % (2 ^ w : Int)).toNat

/-- The signed value of a `w`-bit two's complement pattern. -/
def signedN (w n : Nat) : Int := if (n % 2 ^ w) < 2 ^ (w - 1) then (n % 2 ^ w : Nat) else ((n % 2 ^ w : Nat) : Int) - (2 ^ w : Nat)

/-- An integer held inside the signed range of `w` bits. -/
def clampI (w : Nat) (z : Int) : Int := max (-(2 ^ (w - 1) : Int)) (min (2 ^ (w - 1) - 1 : Int) z)

/-- Increment that sticks at the maximum of a `w`-bit counter (STICK, R9). -/
def stick (w n : Nat) : Nat := if n + 1 < 2 ^ w then n + 1 else 2 ^ w - 1

/-- The words of a value of `k` words, least significant word first (R7). -/
def wordsLE (k n : Nat) : List Word := (List.range k).map fun i => Word.ofN (n >>> (16 * i))

/-- The value of a list of words, least significant word first (R7). -/
def ofWordsLE : List Word → Nat
  | [] => 0
  | w :: ws => w.toNat + 65536 * ofWordsLE ws

end Sys2Proof
end

