-- ==== Sys2Proof/Syntax.lean ====
section
/-!
DEFINITION. Sys2Proof/Syntax.lean: the commands of the NX2408, one constructor of `Instr` per row of the table of operations
and events (spec/opcode_table.json), in the table's order. The rows carry no bits and no operands; the operands here are the
facts about the outside world that the row's rule needs (log 24).
-/
namespace Sys2Proof

/-- The two host masters (R526). -/
inductive Master where
  | hb | mp
  deriving DecidableEq, Repr, Inhabited

/-- A switched power domain, in the order in which they power up (R114). -/
inductive Domain where
  | core | syn | outl | outh
  deriving DecidableEq, Repr, Inhabited

/-- The rails with a warning threshold (R134). -/
inductive Rail where
  | vdd33 | vdd09aon | vdd09 | vdd18a
  deriving DecidableEq, Repr, Inhabited

/-- The clocks watched by the monitors of R438, named by what is watched. -/
inductive ClockMon where
  | xo | coreClk | rc
  deriving DecidableEq, Repr, Inhabited

/-- One of the two channels of the safety supervisor (R433). -/
inductive Chan where
  | p | h
  deriving DecidableEq, Repr, Inhabited

/-- Which channels see a filtered change (each channel filters for itself, R445). -/
inductive Who where
  | p | h | both
  deriving DecidableEq, Repr, Inhabited

/-- An access by a host master: a read, or a write of a word. -/
inductive Access where
  | read
  | write (v : Word)
  deriving DecidableEq, Repr, Inhabited

/-- What a host access reaches: a direct register (R706) or a state-map word (R755). -/
inductive Target where
  | direct (a : Fin 128)
  | map (a : Fin 16777216)
  deriving DecidableEq, Repr, Inhabited

/-- The test-pulse lines (R446): TPA feeds the A lines, TPB the B lines. -/
inductive TpLine where
  | tpa | tpb
  deriving DecidableEq, Repr, Inhabited

/-- Whose epoch it is (R315, R318, R348, R349): an APLL's, the FOD outputs' on the timescale of DPLL2 or DPLL3, or the first
edge of an output on an XO or REF source. -/
inductive EpochUnit where
  | apll (n : Fin 2)
  | fods (d : Fin 2)
  | output (n : Fin 24)
  deriving DecidableEq, Repr, Inhabited

/-- The scopes of a cell (R387). -/
inductive Scope where
  | link | unicast | broadcast | reserved
  deriving DecidableEq, Repr, Inhabited

/-- One cell of 32 octets without its SOC and CRC (R387). -/
structure Cell where
  /-- TYPE, 4 bits (R388) -/
  typ : Nat
  /-- VER, 2 bits -/
  ver : Nat
  scope : Scope
  /-- TX_PORT, 1 bit -/
  txPort : Nat
  /-- NET, 1 bit: 0 A, 1 B -/
  net : Nat
  /-- SRC, 5 bits -/
  src : Nat
  /-- DST, 6 bits; 0x3F for BROADCAST and LINK -/
  dst : Nat
  /-- HOPS, 5 bits -/
  hops : Nat
  /-- SEQ, 16 bits -/
  seq : Nat
  /-- the 21 payload octets, octet 7 first -/
  payload : List Byte
  deriving DecidableEq, Repr, Inhabited

/-- A pin as a digital filter sees it: its level, and for how long, in µs of the filtering channel's clock, every sample has been at that level. -/
structure HeldPin where
  level : Bool
  heldUs : Nat
  deriving DecidableEq, Repr, Inhabited

/-- What one channel's samples show of a test pulse (R446), per input: the pulsed line was inactive on at least one sample between 16 µs after
the start of the pulse and its end; the other line was active on every sample throughout. -/
structure PulseSight where
  dropped : BitVec 8
  kept : BitVec 8
  deriving DecidableEq, Repr, Inhabited

/-- What one channel sees on an STO line (R488): its own line's level against its generator on so many consecutive samples, those within 1 µs of
an edge left out; an edge; no edge for so many µs. -/
inductive StoSight where
  | mismatch (samples : Nat)
  | edge
  | quiet (us : Nat)
  deriving DecidableEq, Repr, Inhabited

/-- What one output's sense-back comparator gives for one tick (R357): rising edges at the pad and the static level. -/
structure SenseSample where
  count : Nat
  level : Bool
  deriving DecidableEq, Repr, Inhabited

/-- What SAMPLE latches from outside at a tick boundary (R68, R70). Ages are counted back from the boundary, oldest first.
- `edges`: per source, the ages (2^-16 ns) of its phase-detector edges in the tick, after PREDIV (R186, R228, R408).
- `ages`: per source that had an input edge in the tick, the age of its last one in 100 ps (R189).
- `fb`: the ages (2^-16 ns) of the edges on FB0 and FB1 in the tick (R242).
- `sense`: the sense-back counts (R357).
- `encs`, `edm`, `srst`: channel P's input latch: the encoder counts (as in HSample), EDM0 to EDM3 and SRST_N.
- `tioOk`: the TIO pins that read back, 20 ns later, the level that a commit at this boundary drives them to (R84).
- `late`: the latches of rows 0, 1 and 3 that GUARD stops in this tick, whose accumulations are in the next tick's sample (R77). -/
structure TickSample where
  edges : Vector (List Nat) 12
  ages : Vector (Option Nat) 12
  fb : Vector (List Nat) 2
  sense : Vector SenseSample 24
  encs : Vector Int 4
  edm : Vector HeldPin 4
  srst : HeldPin
  tioOk : BitVec 16
  late : List Nat
  deriving DecidableEq, Repr, Inhabited

/-- What a clock monitor has counted (R438): whether a gap of 32 cycles of the monitoring clock without an edge occurred, and the count of its
cycle. -/
structure ClockCount where
  gap : Bool
  count : Nat
  deriving DecidableEq, Repr, Inhabited

/-- What channel H has at the end of one cycle of 8,000 RC clocks (R433, R438): the encoder counts (fourfold, in the direction of
DIR = 0), EDM0 to EDM3 and SRST_N, the comparators of VDD33, VDD09_AON, VDD09 and VDD18A with their rising warning thresholds (level true:
below, R134), its counts of the XO and of CORE_CLK in the cycle, the CORE_CLK monitor's last count of its
oscillator over 312,500 CORE_CLK cycles, and, where a calibration over 1 s has ended, its oscillator's frequency in Hz as measured with the XO
(R439). -/
structure HSample where
  encs : Vector Int 4
  edm : Vector HeldPin 4
  srst : HeldPin
  warn : Vector HeldPin 4
  xo : ClockCount
  core : ClockCount
  rc : ClockCount
  rcHz : Option Nat
  deriving DecidableEq, Repr, Inhabited

/-- How the jobs of a phase ran (R69, R73, R77): cycles used per job, the jobs that do not finish before GUARD, each with the number of its
items that are done by then (R70), and whether channel P overran its 600 cycles. Jobs are numbered by their row in the table of R70, from
0. -/
structure PhaseReport where
  used : List (Nat × Nat)
  unfinished : List (Nat × Nat)
  pOverrun : Bool
  deriving DecidableEq, Repr, Inhabited

/-- What the hardware of a finishing long operation reports: the NVM or OTP verify passed, the random source is healthy, and the units
under self-test passed. -/
structure OpReport where
  verifyOk : Bool
  rngOk : Bool
  testOk : Bool
  deriving DecidableEq, Repr, Inhabited

/-- The commands: one constructor per row of the table, in the table's order. -/
inductive Instr where
  | powerOnReset
  /-- `straps`: STRAP[3:0] at the release (R128). -/
  | porRelease (straps : BitVec 4)
  | bor33
  | bor09
  /-- `vdd33Up`, `vdd09Up`: which of the two rails has stayed above its rising brown-out threshold for 1 ms (R134); `straps`: STRAP[3:0] at a
  release (R128). -/
  | brownOutRecovery (vdd33Up vdd09Up : Bool) (straps : BitVec 4)
  | rstNAssert
  /-- `heldMs`: how long RST_N was held low, in ms of the channel H oscillator (R126). -/
  | rstNRelease (heldMs : Nat) (straps : BitVec 4)
  /-- `level`: the new level of STRAP[2] (R132). -/
  | bypOut0StrapChange (level : Bool)
  | tapReset
  | bootXoTimeout
  | bootEnd
  | xoValid
  | clockFault (mon : ClockMon)
  | supplyWarn (rail : Rail)
  | supplyOk
  | synInvalid
  | synValid
  | vddoLow (bank : Fin 4)
  | vddoRecover (bank : Fin 4)
  | vddoLevel (bank : Fin 4)
  | vddoLevelRecover (bank : Fin 4)
  | pwrCtrlWrite (m : Master) (v : Word)
  | domainUp (d : Domain)
  | domainFault (d : Domain)
  | domainPowerDown
  | coreOn
  | pwrPendClear (m : Master) (v : Word)
  | resetCauseClear (m : Master) (v : Word)
  | start (m : Master)
  | setup (m : Master)
  | bypass (m : Master)
  | maint (m : Master)
  | softReset (m : Master)
  | softResetHoldEnd
  | shutdown (m : Master)
  | shutdownComplete
  | opmodeChange
  | tickBoundary (smp : TickSample)
  | evaluatePhase (rep : PhaseReport)
  | dispatchPhase (rep : PhaseReport)
  | guardPhase
  | wholeSecond
  | hwmClr (m : Master)
  /-- `sub`: the edge crosses the threshold so many steps of 20 ps after the present CORE_CLK edge (R67, R80). -/
  | tioEdge (pin : Fin 16) (rising : Bool) (sub : Fin 160)
  | tsHeadRead (m : Master) (pin : Fin 16)
  | arm (m : Master) (n : Fin 32)
  | cancel (m : Master) (n : Fin 32)
  /-- `readOk`: each pin driven reads back its level 20 ns later (R84). -/
  | eyeletFire (n : Fin 32) (readOk : Bool)
  /-- `readOk`: as for EYELET_FIRE. -/
  | tioPulseEnd (pin : Fin 16) (readOk : Bool)
  /-- `readOk`: as for EYELET_FIRE. -/
  | windowEdgeFire (w : Fin 8) (readOk : Bool)
  /-- `edges`: phase-detector edges in the gate; `span`: time from the first to the last, 2^-16 ns of the base chosen (R186). -/
  | freqGateComplete (s : Fin 12) (edges span : Nat)
  /-- `edges`: phase-detector edges of the source since the last SAMPLE (R190). -/
  | actAlarm (s : Fin 12) (edges : Nat)
  | actAlarmClear (s : Fin 12)
  /-- `span`: time from the first to the last of the 64 preceding phase-detector edges, `gap`: from the last of them to this edge, 2^-16 ns;
  `edges`: phase-detector edges since the last SAMPLE, this one included (R190). -/
  | phaseHit (s : Fin 12) (span gap edges : Nat)
  | holdoffElapsed (s : Fin 12)
  | wtrDone (d : Fin 4) (s : Fin 12)
  | qlTimeout (s : Fin 12)
  /-- `shapeOk`: marks and bits are well formed; `onTime`: the mark came where it is expected (R201); `age`: time since the rising edge that
  started the mark cycle, 2^-16 ns (R241). -/
  | wmPayloadReceived (s : Fin 8) (payload : BitVec 48) (shapeOk onTime : Bool) (age : Nat)
  | dpllLock (d : Fin 4)
  | dpllUnlock (d : Fin 4)
  | fastLockStage (d : Fin 4)
  | acqTimeout (d : Fin 4)
  | fbLost (d : Fin 4)
  | fbFrozen (d : Fin 4)
  | fbOk (d : Fin 4)
  /-- `v`: the three words of HOST_FREQ (R769). -/
  | hostFreqWrite (m : Master) (d : Fin 4) (v : BitVec 48)
  | hostWdog (d : Fin 4)
  /-- `v`: the three words of PM_CMD (R769). -/
  | step (m : Master) (d : Fin 4) (v : BitVec 48)
  | halt (m : Master) (d : Fin 4)
  | ticknumAdopt
  /-- readings of the diode and of the die in 0.01 K; `settled`: the diode gave a reading (R274, R275). -/
  | tsenseMeasure (ts die : Int) (settled : Bool)
  | tsenseJudge
  | learningMinute
  | modelSaveDue
  | modelSaveRetry
  /-- `off`: which word of SPLL.XO_CFG. -/
  | xoCfgWrite (m : Master) (off : Fin 3) (v : Word)
  | research (m : Master) (n : Fin 2)
  | resync (m : Master) (n : Fin 2)
  /-- `code`: the band found; `vtune`: its tuning voltage code (R310). -/
  | bandDone (n : Fin 2) (code : Fin 128) (vtune : Fin 64)
  | bandFail (n : Fin 2)
  /-- `off`: the measured alignment offset, 2^-16 ns (R312). -/
  | alignDone (n : Fin 2) (off : Int)
  | startEpoch (u : EpochUnit)
  | apllUnlock (n : Fin 2)
  | apllResearchDelay (n : Fin 2)
  | spllUnlock
  | dividerEpoch (u : EpochUnit)
  | cellSlot
  | cellLock (p : Fin 4)
  /-- `cdr`: the CDR has lost its lock too. -/
  | cellLockLost (p : Fin 4) (cdr : Bool)
  /-- `sub`: the arrival of the first bit of its K28.5 after the CORE_CLK edge, in steps of 4 ps (R393). -/
  | timeCell (p : Fin 4) (c : Cell) (sub : Fin 800)
  | secondsAdopt
  | qlCell (p : Fin 4) (c : Cell)
  | stateCell (p : Fin 4) (c : Cell)
  | safeCell (p : Fin 4) (c : Cell)
  | eyeCell (p : Fin 4) (c : Cell)
  | propose (p : Fin 4) (c : Cell)
  | go (p : Fin 4) (c : Cell)
  | abortDc (p : Fin 4) (c : Cell)
  | ready (p : Fin 4) (c : Cell)
  | refused (p : Fin 4) (c : Cell)
  | applied (p : Fin 4) (c : Cell)
  | notApplied (p : Fin 4) (c : Cell)
  | dcDeadline
  | dcParticipantResolve
  | dcSplitCheck
  | portWindowExpire (p : Fin 4)
  | peerReportTimeout (p : Fin 4)
  | portCauseExpire (p : Fin 4)
  | cntClr (m : Master) (p : Fin 4)
  | channelHEvaluation (smp : HSample)
  | xchkTimeout (c : Chan)
  /-- `groups`: the STO groups whose data disagree (R443). -/
  | xchkDisagree (c : Chan) (groups : BitVec 4)
  /-- `line`: 2i for SIiA and 2i + 1 for SIiB; `heldUs`: for how long the samples of the channels named have been at the new level (R445). -/
  | safetyInputChange (line : Fin 16) (level : Bool) (who : Who) (heldUs : Nat)
  /-- `p`, `h`: the pulse as each channel sees it, at the end of its mask (R446). -/
  | testPulse (line : TpLine) (p h : PulseSight)
  | discrepancy (i : Fin 8) (c : Chan)
  /-- `lenP`, `lenH`: length of the pulse in µs as each channel measures it; `highUs`: how long SRST_N had been high before it, in
  µs (R495). -/
  | srstPulse (lenP lenH highUs : Nat)
  /-- `passP`, `passH`: the channel's self-tests passed; `stoOk`: the STO lines answered (R470). -/
  | selftestDone (passP passH stoOk : Bool)
  | srstStuck (who : Who)
  /-- `z`: none for an illegal transition; the count in the direction of DIR = 0 at a rising edge of Z (R479). -/
  | encFault (e : Fin 4) (c : Chan) (z : Option Int)
  | encDisagree (axis : Fin 2) (c : Chan)
  | ss1Tmax (g : Fin 4) (c : Chan)
  | ss1Done (g : Fin 4) (c : Chan)
  | ss1tDone (g : Fin 4) (c : Chan)
  /-- `lineB`: the B line of the group; `sight`: what channel `c` sees on it (R488). -/
  | stoReadback (g : Fin 4) (lineB : Bool) (c : Chan) (sight : StoSight)
  | edmWindowExpire (g : Fin 4) (c : Chan)
  | telCompareWindow (r : Fin 8)
  | telPathLost (r : Fin 8) (net : Fin 2)
  | degExpired (g : Fin 4)
  | hbAccessTimeout (a : Access)
  | hbStrobeConflict
  /-- `ws`: the complete data words of the frame (R533). -/
  | writeReg (addr : BitVec 24) (ws : List Word)
  /-- `n`: the words read to their 16th bit (R533); `late`: those of them, counted from 0, whose fetch is not complete in time (R694). -/
  | readReg (addr : BitVec 24) (n : Nat) (late : List Nat)
  /-- `ws`: the complete data words of the frame. -/
  | writeMap (addr : BitVec 24) (ws : List Word)
  /-- `n`, `late`: as for READ_REG. -/
  | readMap (addr : BitVec 24) (n : Nat) (late : List Nat)
  | spiFrame
  | winData (m : Master) (a : Access)
  | winDataInc (m : Master) (a : Access)
  | rolGroupOpen (m : Master) (t : Target)
  | stale (m : Master) (t : Target)
  | holdingWrite (m : Master) (t : Target) (v : Word)
  | stagedWrite (m : Master) (a : Fin 16777216) (v : Word)
  /-- `rival`: the other master's write of the same arbitration cycle (R542). -/
  | registerWrite (m : Master) (t : Target) (v : Word) (rival : Option (Target × Word))
  | conflictClr (m : Master)
  | begin (m : Master)
  | commitNext (m : Master)
  | commitAtTick (m : Master)
  | commitAtTime (m : Master)
  | commitDist (m : Master)
  | armDc (m : Master)
  | disarm (m : Master)
  | rollback (m : Master)
  | keepalive (m : Master)
  | txnTimeout
  | profileSave (m : Master)
  | profileLoad (m : Master)
  | modelSave (m : Master)
  | modelClear (m : Master)
  | safeConfirm (m : Master)
  | selftest (m : Master)
  | snapExport (m : Master)
  | logClear (m : Master)
  | authChallenge (m : Master)
  | authResponse (m : Master)
  | otpKeyWrite (m : Master)
  | otpDbgPolicy (m : Master)
  | otpProfileLock (m : Master)
  | abort (m : Master)
  /-- `vddOk`: VDD33 is at or above its rising warning threshold now (R138). -/
  | opStart (vddOk : Bool)
  | opDone (rep : OpReport)
  | challengeExpire
  | authDelayExpire
  | evtStatusWrite (m : Master) (hi : Bool) (v : Word)
  | clear (m : Master) (c : Fin 16)
  | cntCmdClear (m : Master) (mask : Word)
  /-- `vddOk`: as for `opStart`. -/
  | logRecordProgram (vddOk : Bool)
  | req (m : Master)
  | release (m : Master)
  | endSession (m : Master)
  | dbgSet (m : Master) (level : BitVec 2)
  | bufClear (m : Master)
  | secData (m : Master) (a : Access)
  | sessionIdle
  | extest (cells : Nat)
  | samplePreload (cells : Nat)
  | idcode
  | bypassInstruction
  /-- the fields OP, ADDR and DATA of R637. -/
  | mapAccess (op : BitVec 2) (addr : BitVec 24) (v : Word)
  | haltP
  | resumeP
  | wmMarkMissing (s : Fin 8)
  /-- `codeErrs`: the code errors among the cell's 32 code groups (R386); 0: it failed its CRC check only. -/
  | cellCrcError (p : Fin 4) (codeErrs : Fin 33)
  | pageProgramEnd
  | hwCounterOverflow (c : Fin 16)
  | tickMismatchExpire (net : Fin 2)
  deriving DecidableEq, Repr

end Sys2Proof
end

