-- ==== Sys2Proof/Machine/EventNames.lean ====
section
/-!
DEFINITION. Sys2Proof/Machine/EventNames.lean: the event numbers 32·g + i of R12 under the names of the group tables (R584 to R591,
R463, R511), the reserved indices (R576), the raw classes (R575) and the events marked F (R582).
-/
namespace Sys2Proof.Machine

/-- Event number of g.i (R12). -/
def ev (g i : Nat) : Nat := 32 * g + i

-- group 0, PWR (R584)
def evResetDone := ev 0 0
def evRstLong := ev 0 1
def evModeChange := ev 0 2
def evCtrlRefused := ev 0 3
def evDomainUp := ev 0 4
def evDomainFault := ev 0 5
def evSupplyWarn := ev 0 6
def evSupplyOk := ev 0 7
def evSynInvalid := ev 0 8
def evVddoLow := ev 0 9
def evBootFallback := ev 0 10
def evBootCopy := ev 0 11
def evNvmHeld := ev 0 12
def evCmdRefused := ev 0 13
def evModeRefused := ev 0 14
-- group 1, TIME (R585)
def evSecond := ev 1 0
def evJump := ev 1 1
def evPeriodChanged := ev 1 2
def evEyeDone := ev 1 3
def evOverrun := ev 1 4
def evEyeLate := ev 1 5
def evEyeFired := ev 1 6
def evWinEmpty := ev 1 7
def evGateOrder := ev 1 8
def evTsReady := ev 1 9
def evTsOvf := ev 1 10
def evTimeMismatch := ev 1 11
def evEyeRemote := ev 1 12
-- group 2, REF (R586)
def evRefQualified := ev 2 0
def evRefDisqualified := ev 2 1
def evFreqAlarm := ev 2 2
def evActAlarm := ev 2 3
def evPhaseHit := ev 2 4
def evQlChange := ev 2 5
def evQlInvalid := ev 2 6
def evQlTimeout := ev 2 7
def evWmSync := ev 2 8
def evWmCrc := ev 2 9
def evRefMismatch := ev 2 10
def evSelChange := ev 2 11
def evNoSource := ev 2 12
def evWtrDone := ev 2 13
-- group 3, DPLL (R587)
def evLock := ev 3 0
def evUnlock := ev 3 1
def evHoEnter := ev 3 2
def evHoExit := ev 3 3
def evStage := ev 3 4
def evAcqTimeout := ev 3 5
def evSwitch := ev 3 6
def evRealignDone := ev 3 7
def evFbLost := ev 3 8
def evFbFrozen := ev 3 9
def evFbOk := ev 3 10
def evPmDone := ev 3 11
def evHostWdog := ev 3 12
def evTicknumMismatch := ev 3 13
def evDpllMismatch := ev 3 14
def evHoNoHistory := ev 3 15
def evHoRecent := ev 3 16
def evModelValid := ev 3 17
def evModelSaved := ev 3 18
def evModelSaveFail := ev 3 19
def evTsenseFrozen := ev 3 20
def evTsenseFault := ev 3 21
def evTsenseOk := ev 3 22
def evModelDiscarded := ev 3 23
-- group 4, SYN (R588)
def evBandDone := ev 4 0
def evBandFail := ev 4 1
def evApllLock := ev 4 2
def evApllUnlock := ev 4 3
def evEpoch := ev 4 4
def evAlignDone := ev 4 5
def evAlignLost := ev 4 6
def evSteerLimit := ev 4 7
def evSpllUnlock := ev 4 8
def evSynMismatch := ev 4 9
def evOutSense := ev 4 10
def evOutSenseOk := ev 4 11
def evSquelch := ev 4 12
def evUnsquelch := ev 4 13
def evSrcSwitch := ev 4 14
def evCycleSkip := ev 4 15
def evWmStart := ev 4 16
def evWmAbandon := ev 4 17
def evVddoLevel := ev 4 18
-- group 5, LACE (R589)
def evCellLock := ev 5 0
def evCellLockLost := ev 5 1
def evPortUp := ev 5 2
def evPeerMismatch := ev 5 3
def evLaceMismatch := ev 5 4
def evTickMismatch := ev 5 5
def evOptionMismatch := ev 5 6
def evAddrConflict := ev 5 7
def evWiring := ev 5 8
def evSignalDegrade := ev 5 9
def evDelayRestart := ev 5 10
def evRxOvf := ev 5 11
def evDcPropose := ev 5 12
def evDcRefused := ev 5 13
def evDcApplied := ev 5 14
def evDcAborted := ev 5 15
def evDcNoDecision := ev 5 16
def evDcSplit := ev 5 17
-- group 7, HOST (R562, R591)
def evBadAddr := ev 7 0
def evBadValue := ev 7 1
def evNoTxn := ev 7 2
def evConflict := ev 7 3
def evCommitted := ev 7 4
def evRefused := ev 7 5
def evTxnTimeout := ev 7 6
def evTxnHeld := ev 7 7
def evStale := ev 7 8
def evOpDone := ev 7 9
def evOpFail := ev 7 10
def evQueueFull := ev 7 11
def evSpiFrame := ev 7 12
def evAccessTimeout := ev 7 13
def evSecDenied := ev 7 14
def evCntOvf := ev 7 15
def evSnapDone := ev 7 16
def evSnapMissed := ev 7 17
def evLogLost := ev 7 18
def evNvmFail := ev 7 19
def evSecState := ev 7 20
def evAuthOk := ev 7 21
def evAuthFail := ev 7 22
def evSessionEnd := ev 7 23
def evDebugLevel := ev 7 24
def evDebugDenied := ev 7 25
def evOtpWrite := ev 7 26

/-- The defined events of each group, one bit per index; the others are reserved (R576). -/
def evDefinedGroup : Nat → Nat
  | 0 => 0x00007FFF
  | 1 => 0x00001FFF
  | 2 => 0x00003FFF
  | 3 => 0x00FFFFFF
  | 4 => 0x0007FFFF
  | 5 => 0x0003FFFF
  | 6 => 0xFFFFFFFF
  | 7 => 0x07FFFFFF
  | _ => 0

/-- The defined events as one mask of 256 bits. -/
def evDefined : BitVec 256 :=
  BitVec.ofNat 256 ((List.range 8).foldl (fun m g => m ||| (evDefinedGroup g <<< (32 * g))) 0)

/-- The events marked F (R582, R584 to R591). -/
def evF : List Nat := [evDomainFault, evSynInvalid, evBootFallback, evBandFail, evSpllUnlock, ev 6 2, ev 6 15, evNvmFail]

end Sys2Proof.Machine
end

