-- ==== Sys2Proof/Config.lean ====
section
/-!
DEFINITION. Sys2Proof/Config.lean: what the spec leaves to the implementation or does not state. Every constant here is
opaque: no proof can see its value, and a claim holds whatever it is. Each has an entry in the assumption log.
-/
namespace Sys2Proof.Config

/-- DESIGN CHOICE (log 1). Which way a quotient that is not exact is rounded where the spec states no rounding: `tag` names
the computation. Safe: nothing is known of the value. -/
opaque roundUp (tag : Nat) (num den : Int) : Bool

/-- DESIGN CHOICE (log 31). The result of a computation for operands for which the spec states none (a gate of a source without a
nominal frequency ...): `tag` names the computation. Safe. -/
opaque unstated (tag : Nat) (a b : Int) : Int

/-- DESIGN CHOICE (log 2). The natural frequency, in rad/s, that the device uses for a −3 dB bandwidth in mHz and a damping factor in
thousandths (R229): an irrational number, whose representation the spec does not give. Safe: held to the two rationals around it. -/
opaque loopOmega (milliHz zeta : Nat) : Rat

/-- DESIGN CHOICE (log 12). ln(1 + x) as the device computes it (R269, R278); the spec states no precision. Safe. -/
opaque ln1p (x : Rat) : Rat

/-- DESIGN CHOICE (log 12). exp(−x) as the device computes it for the forgetting factor of R278. Safe. -/
opaque expNeg (x : Rat) : Rat

/-- DESIGN CHOICE (log 12). Square root as the device computes it (the rms residual of R281). Safe. -/
opaque sqrt (x : Rat) : Nat

/-- DESIGN CHOICE (log 12). The covariance entries a cleared sensor set starts with (upper triangle in row order; R278,
R285): the spec gives no values. Safe. -/
opaque modelCov0 (i : Nat) : Rat

/-- DESIGN CHOICE (log 18). The 128 bits drawn from the random source at the n-th draw (R626). Safe. -/
opaque randomBits (n : Nat) : BitVec 128

/-- DESIGN CHOICE (log 20). DEV_REV.P_FW, the release of channel P's firmware ("Fixed", R713). Safe. -/
opaque pFirmware : BitVec 8

/-- DESIGN CHOICE (log 20). SEC.UID of this device (R628: written at manufacture). Safe. -/
opaque uid : BitVec 64

/-- DESIGN CHOICE (log 21). The count of entries of the INTERNAL directory and its entries (R792: fixed for a DEV_REV, not
listed). Entry k: base, length, type. Safe. -/
opaque internalCount : Nat
opaque internalBase (k : Nat) : Nat
opaque internalLen (k : Nat) : Nat
opaque internalType (k : Nat) : Nat

/-- DESIGN CHOICE (log 21). What an INTERNAL word shows at a bench time, as long as nothing is written to it: the spec names the internal state
that each sub-block holds but neither its addresses nor its layout (R793). Safe. -/
opaque internalWord (addr bench : Nat) : Word

/-- DESIGN CHOICE (log 39). Whether a self-test with this unit mask puts a unit under test: the spec does not say which bit of the mask
names which unit. Kinds: 1 source, 2 DPLL, 3 APLL, 4 output, 5 Lace port, 6 eyelet, 7 TIO pin. Safe. -/
opaque underTest (mask : Word) (kind n : Nat) : Bool

/-- DESIGN CHOICE (log 23). Whether a condition between two of the spec's limits is judged to hold (R496: either judgement is
allowed; log 46: whether a cut program cycle verifies), or one whose limit has no stated value (log 31: a window of a source or a feedback
without a nominal frequency). Safe. -/
opaque bandChoice (tag n : Nat) : Bool

/-- DESIGN CHOICE (log 28). Which erase or page program of an NVM operation is in progress at a bench time: the spec bounds how long each takes
(R138). Safe. -/
opaque nvmStep (ticket bench : Nat) : Nat

/-- DESIGN CHOICE (log 71). How long the SEARCH steps of a band search of an APLL take that starts at a bench time (2^-16 ns): the spec
gives typical times only (R310). Safe. -/
opaque searchSpan (n start : Nat) : Nat

/-- DESIGN CHOICE (log 71). The correction of an alignment offset in one tick, for the tick count, in 2^-16 ns: the spec bounds it by 0.05 ps
(R312), so only its value modulo 4 counts. Safe. -/
opaque alignStep (n tick : Nat) : Nat

end Sys2Proof.Config
end

