-- ==== Sys2Proof/Machine/State.lean ====
section
/-!
DEFINITION. Sys2Proof/Machine/State.lean: the state of one NX2408 hub: every register, counter, FIFO, buffer, mode and pin that
the spec gives it, as plain data, and State.reset, the state a power-on reset leaves. The docstring of a field gives: what it is,
its width, the chapter and rule that name it, and its value in State.reset.
-/
namespace Sys2Proof.Machine

/-! ## Time, tick and eyelets (chapter 02) -/

/-- The four phases of the deckle (R68). -/
inductive Phase where
  | sample | evaluate | dispatch | guard
  deriving DecidableEq, Repr, Inhabited

/-- The time counter, the tick generator and the deckle scheduler. -/
structure TimeUnit where
  /-- bench time: seconds, nanoseconds, fraction and sub-fraction as one count of 2^-40 ns | 120 bits (48+32+16+24) | 02 R56 | 0 (R57) -/
  bench : Nat
  /-- TIME.INC, the increment per CORE_CLK cycle in 2^-40 ns | 48 bits | 02 R58 | 0x033333333333 (R58) -/
  inc : Nat
  /-- TICK_PERIOD in force, units of 125 ns | 13 bits | 02 R63, R64 | 250 (R63) -/
  period : Nat
  /-- the tick generator runs (it starts at the first boundary after CORE_CLK becomes valid) | 1 bit | 03 R116 | 0 (CORE off) -/
  running : Bool
  /-- phase of the present tick | 2 bits | 02 R68 | DESIGN CHOICE guard (log 4) -/
  phase : Phase
  /-- bench time of the internal tick edge of the present tick | as bench time | 02 R67 | DESIGN CHOICE 0 (log 4) -/
  tickEdge : Nat
  /-- ticks begun since reset, the index that "next tick" and activation ticks count in (model's own) | unbounded | 02 R88 | DESIGN CHOICE 0 (log 4) -/
  tickSeq : Nat
  /-- TICK.JOB_HWM[0..20], cycles | 16 bits each | 02 R73, 19 R764 | 0 (R758) -/
  jobHwm : Vector Nat 21
  /-- TICK.OVERRUN_CNT[0..20], STICK | 16 bits each | 02 R73, 19 R764 | 0 (R758) -/
  overrunCnt : Vector Nat 21
  /-- jobs deferred from the last tick, by row of the budget table | 21 bits | 02 R77 | none -/
  deferred : List Nat
  /-- jobs of this tick that did not finish, by row of the budget table | 21 bits | 02 R77 | none -/
  unfinished : List Nat
  /-- round-robin: the REF source evaluated last | 3 bits | 02 R75 | DESIGN CHOICE 7, so that source 0 is first (log 5) -/
  rrRef : Nat
  /-- round-robin: the Lace source evaluated last, 0 to 3 | 2 bits | 02 R75 | DESIGN CHOICE 3 (log 5) -/
  rrLace : Nat
  /-- bench time has jumped since the last DISPATCH: loaded edges are to be judged again | 1 bit | 02 R103 | 0 -/
  rejudge : Bool
  /-- bench second whose boundary was last processed (model's own) | 48 bits | 02 R100 | 0 -/
  secSeen : Nat
  deriving DecidableEq, Repr, Inhabited

/-- The states of an eyelet (R775 EYE STATUS). -/
inductive EyeState where
  | idle | pending | live | done | dropped
  deriving DecidableEq, Repr, Inhabited

/-- Where a scheduled edge stands: loaded into the shadow timer set, or live (R89). -/
inductive EdgeStage where
  | shadow | live
  deriving DecidableEq, Repr, Inhabited

/-- One loaded edge of an eyelet: the k-th repeat, its fire time in 2^-16 ns, its stage, and whether FIRE_ASAP moved it. -/
structure EyeEdge where
  /-- which firing of the series (0 is the first) -/
  k : Nat
  /-- fire time in 2^-16 ns of bench time -/
  time : Nat
  stage : EdgeStage
  /-- made live late under FIRE_ASAP: it fires at the handover (R90) -/
  late : Bool
  /-- ACTION, TARGET and WIDTH of the program the edge was loaded from (R102) -/
  action : Nat
  target : Nat
  width : Nat
  deriving DecidableEq, Repr, Inhabited

/-- One eyelet's state beside its configuration words (R85). -/
structure Eyelet where
  /-- EYE[n].STATUS state | 3 bits | 02 R85, 19 R775 | IDLE (R758) -/
  st : EyeState
  /-- EYE[n].STATUS ABORT_IGNORED | 1 bit | 02 R85, R101 | 0 (R758) -/
  abortIgnored : Bool
  /-- EYE[n].STATUS LATE_FIRED | 1 bit | 02 R90 | 0 (R758) -/
  lateFired : Bool
  /-- EYE[n].STATUS fire count, saturating | 16 bits | 02 R85, 19 R775 | 0 (R758) -/
  fireCount : Nat
  /-- EYE[n].STATUS actual time of the last firing, 2^-16 ns | 96 bits | 02 R85 | 0 (R758) -/
  lastFire : Nat
  /-- EYE[n].QUICK_TIME, 2^-16 ns | 96 bits (RW) | 02 R85 | 0 (R758) -/
  quickTime : Nat
  /-- active fire time of the running program, 2^-16 ns | 96 bits | 02 R88, R94 | 0 (R758) -/
  baseTime : Nat
  /-- an ARM, commit or EYE cell waits for the tick boundary | 1 bit | 02 R88 | 0 -/
  armed : Bool
  /-- fire time of the last EYE cell that it took: a second copy is ignored | 96 bits or none | 02 R94 | none -/
  remote : Option Nat
  /-- the program is active: a next edge is pending | 1 bit | 02 R88 | 0 -/
  active : Bool
  /-- the activation tick (count of ticks) | model's own | 02 R88 | 0 -/
  actTick : Nat
  /-- the next repeat to load | 32 bits | 02 R91 | 0 -/
  nextK : Nat
  /-- the next repeat whose EYE cell is to be sent | 32 bits | 02 R93 | 0 -/
  sentK : Nat
  /-- loaded edges, oldest first | — | 02 R89 | none -/
  edges : List EyeEdge
  deriving DecidableEq, Repr, Inhabited

/-- The states of a window (R775 WIN STATUS). -/
inductive WinState where
  | idle | pending | opened | done | dropped
  deriving DecidableEq, Repr, Inhabited

/-- One loaded edge of a window instance. -/
structure WinEdge where
  /-- which instance of the series -/
  k : Nat
  /-- this is the STOP edge -/
  isStop : Bool
  /-- fire time in 2^-16 ns -/
  time : Nat
  stage : EdgeStage
  deriving DecidableEq, Repr, Inhabited

/-- One window's state beside its configuration words (R96). -/
structure Window where
  /-- WIN[w].STATUS state | 3 bits | 02 R96, 19 R775 | IDLE (R758) -/
  st : WinState
  /-- WIN[w].STATUS instances run | 16 bits | 19 R775 | 0 (R758) -/
  instances : Nat
  /-- a committed program waits for its activation tick | 1 bit | 02 R88, R96 | 0 -/
  armed : Bool
  /-- the program is active: a next edge is pending | 1 bit | 02 R98 | 0 -/
  active : Bool
  /-- the activation tick | model's own | 02 R88 | 0 -/
  actTick : Nat
  /-- the next instance to load | 32 bits | 02 R91, R98 | 0 -/
  nextK : Nat
  /-- the next edge to load is the STOP of that instance | 1 bit | 02 R98 | 0 -/
  nextStop : Bool
  /-- loaded edges, oldest first | — | 02 R98 | none -/
  edges : List WinEdge
  deriving DecidableEq, Repr, Inhabited

/-- One stored timestamp (R80): its time in 2^-16 ns, its edge and its MISSED flag. -/
structure Stamp where
  time : Nat
  rising : Bool
  missed : Bool
  deriving DecidableEq, Repr, Inhabited

/-- One TIO pin (R79 to R84). -/
structure TioPin where
  /-- level driven on TIO[n] in OUT mode | 1 bit | 02 R79, R86 | DESIGN CHOICE 0 (log 6) -/
  level : Bool
  /-- end of the running pulse, 2^-16 ns | 96 bits or none | 02 R86 | none -/
  pulseEnd : Option Nat
  /-- TIO[n] timestamp FIFO, oldest first, at most 16 entries | 16 × 98 bits | 02 R81 | empty (R83) -/
  fifo : List Stamp
  /-- the next entry stored carries MISSED | 1 bit | 02 R81, R82 | 0 -/
  missNext : Bool
  /-- time of the previous captured edge | 96 bits or none | 02 R82 | none -/
  lastEdge : Option Nat
  /-- time of the rising edge counted last (R598, with the limit of R82) | 96 bits or none | 14 R598 | none -/
  lastCount : Option Nat
  /-- a driven edge read back a different level | 1 bit | 02 R84 | 0 -/
  readbackBad : Bool
  deriving DecidableEq, Repr, Inhabited

/-! ## Power, reset and supply (chapter 03) -/

/-- What PWR_STATUS shows of a domain (R718). -/
inductive DomState where
  | off | ramping | on | fault
  deriving DecidableEq, Repr, Inhabited

/-- Where the shutdown sequence of R142 stands. -/
inductive ShutStage where
  | none | draining | saving | logging | powering | ended
  deriving DecidableEq, Repr, Inhabited

/-- The power manager, the reset logic, the supply monitors and BOOT. -/
structure PowerUnit where
  /-- PWR_CTRL: CORE_EN, SYN_EN, OUTL_EN, OUTH_EN in bits 0 to 3 | 4 bits | 03 R113, 18 R717 | 0 (R717) -/
  ctrl : Nat
  /-- PWR_STATUS.CORE | 2 bits | 03 R114, 18 R718 | OFF (R718) -/
  core : DomState
  /-- PWR_STATUS.SYN | 2 bits | 03 R114, 18 R718 | OFF (R718) -/
  syn : DomState
  /-- PWR_STATUS.OUTL | 2 bits | 03 R114, 18 R718 | OFF (R718) -/
  outl : DomState
  /-- PWR_STATUS.OUTH | 2 bits | 03 R114, 18 R718 | OFF (R718) -/
  outh : DomState
  /-- domains still to power up, in order, each with the number of the write that powers it up | — | 03 R114 | none -/
  upQueue : List (Domain × Nat)
  /-- number of the write whose domain ramps or has ramped last | model's own | 03 R114 | 0 -/
  rampWrite : Nat
  /-- number of the last write of PWR_CTRL, or image of BOOT, that powers domains up | model's own | 03 R114 | 0 -/
  upWrites : Nat
  /-- domains to power down at the next start of GUARD, in order | — | 03 R115 | none -/
  downQueue : List Domain
  /-- the loss of CORE is by an accepted write or SHUTDOWN (R169) | 1 bit | 04 R169 | 0 -/
  coreOffByWrite : Bool
  /-- SUPPLY_STATUS warnings of VDD33, VDD09_AON, VDD09, VDD18A | 4 bits | 03 R134, 18 R719 | Present (all rails in range; DESIGN CHOICE, log 7) -/
  warn33 : Bool
  warnAon : Bool
  warn09 : Bool
  warn18 : Bool
  /-- SUPPLY_STATUS.VDD09_BOR | 1 bit | 18 R719 | Present (DESIGN CHOICE 0, log 7) -/
  bor09 : Bool
  /-- SUPPLY_STATUS.VDD18A_BOR: SYN invalid | 1 bit | 03 R134, 18 R719 | Present (DESIGN CHOICE 0, log 7) -/
  bor18 : Bool
  /-- VDD33 or VDD09_AON below brown-out (holds the device in reset) | 1 bit | 03 R122 | Present (DESIGN CHOICE 0, log 7) -/
  bor33 : Bool
  /-- SUPPLY_STATUS.VDDO_BOR | 4 bits | 18 R719 | Present (DESIGN CHOICE 0, log 7) -/
  vddoBor : Vector Bool 4
  /-- SUPPLY_STATUS.VDDO_OVR | 4 bits | 09 R338, 18 R719 | Present (DESIGN CHOICE 0, log 7) -/
  vddoOvr : Vector Bool 4
  /-- SUPPLY_LOW holds | 1 bit | 03 R136, 18 R719 | Present (DESIGN CHOICE 0, log 7) -/
  supplyLow : Bool
  /-- EV_PWR_NVM_HELD raised in this entry of SUPPLY_LOW | 1 bit | 03 R137 | 0 -/
  heldRaised : Bool
  /-- reset sources that hold the device: POR, BOR_33, BOR_09, PIN, SOFT in bits 0 to 4 | 5 bits | 03 R122, R147 | POR (the power-on reset holds; R122, R123; log 3) -/
  resetHeld : Nat
  /-- BOOT is running | 1 bit | 03 R130 | 0 (R714: MODE is RESET) -/
  booting : Bool
  /-- the reset has been asserted and waits for a page program or OTP cycle to complete before it is applied | 1 bit | 03 R144 | 0 -/
  resetWaits : Bool
  /-- class of the reset in force: 0 soft, 1 device, 2 power-on | model's own | 03 R122, R128 | 2 (R123) -/
  resetClass : Nat
  /-- BOOT has loaded its records and waits for a valid XO | 1 bit | 03 R130 | 0 -/
  bootWait : Bool
  /-- stage of the shutdown sequence | — | 03 R142 | none -/
  shut : ShutStage
  /-- DEVICE.RESET_CAUSE: POR, BOR_33, BOR_09, PIN, SOFT, TAP | 6 bits | 03 R122, 19 R764 | 1 (POR, R122) -/
  resetCause : Nat
  /-- DEVICE.RST_HELD_MS | 16 bits | 03 R126, 19 R764 | 0 (R123) -/
  rstHeldMs : Nat
  /-- the hold exceeded 1 s, EV_PWR_RST_LONG owed after BOOT | 1 bit | 03 R126 | 0 -/
  rstLong : Bool
  /-- present level of STRAP[3:0] | 4 bits | 03 R128 | DESIGN CHOICE 0 (log 7) -/
  straps : Nat
  /-- DEVICE.STRAP_ECHO | 4 bits | 03 R128, 19 R764 | sampled (DESIGN CHOICE 0, log 7) -/
  strapEcho : Nat
  /-- OUT0 carries the XO under STRAP[2] | 1 bit | 03 R132 | 0 -/
  bypOut0 : Bool
  /-- DEVICE.PWR_PEND, bit i for event 0.i | 16 bits | 03 R118, 19 R764 | 0 (R123) -/
  pwrPend : Nat
  /-- SAFE events that arose while CORE was off (R458), bit i for event 6.i | 32 bits | 11 R458 | 0 -/
  safePend : Nat
  /-- the pending events are owed in the first tick after CORE is ON | 1 bit | 03 R118 | 0 -/
  pendOwed : Bool
  /-- DEVICE.BOOT_RESULT w0, w1, w2 | 3 × 16 bits | 03 R131, 19 R764 | 0 (R758) -/
  bootResult0 : Nat
  bootResult1 : Nat
  bootResult2 : Nat
  /-- DEV_STATUS.BOOT_PROFILE | 2 bits | 18 R716 | 0 (R716) -/
  bootProfile : Nat
  /-- DEV_STATUS.BOOT_FALLBACK | 1 bit | 18 R716 | 0 (R716) -/
  bootFallback : Bool
  /-- DEV_STATUS.BOOT_DONE | 1 bit | 18 R716 | 0 (R716) -/
  bootDone : Bool
  /-- BOOT owes the mode FREERUN when CORE is ON (autostart) | 1 bit | 03 R130 | 0 -/
  autostart : Bool
  /-- PWR_CTRL image of the profile (R785) | 4 bits | 03 R130 | 0 -/
  bootPwr : Nat
  /-- DEV_STATUS.XO_VALID: channel H's judgement of the XO | 1 bit | 11 R438, 18 R716 | 0 (R716) -/
  xoValid : Bool
  deriving DecidableEq, Repr, Inhabited

/-! ## Device modes (chapter 04) -/

/-- The twelve device modes with the codes of R156. -/
inductive Mode where
  | reset | boot | setup | standby | freerun | acquire | locked | holdover | bypass | maintenance | supplyLow | shutdown
  deriving DecidableEq, Repr, Inhabited

/-- The host's choice of operation (R157). -/
inductive OpMode where
  | setup | run | bypass | maintenance
  deriving DecidableEq, Repr, Inhabited

/-- One entry of DEVICE.MODE_HIST (R764). -/
structure ModeChange where
  newMode : Mode
  oldMode : Mode
  cause : Nat
  /-- bench time of the change, 2^-16 ns -/
  time : Nat
  deriving DecidableEq, Repr, Inhabited

/-- DEV_MODE and what it is resolved from. -/
structure ModeUnit where
  /-- DEV_MODE.MODE | 4 bits | 04 R156, 18 R714 | RESET (R714) -/
  mode : Mode
  /-- DEV_MODE.PREV_MODE | 4 bits | 04 R156, 18 R714 | RESET (R714) -/
  prev : Mode
  /-- DEVICE.OPMODE | 2 bits | 04 R157, 18 R714 | SETUP (R714) -/
  opmode : OpMode
  /-- a mode request waiting for its tick boundary | 2 bits or none | 04 R164 | none -/
  pendingOp : Option OpMode
  /-- tick (count) in which it was accepted | model's own | 04 R164 | 0 -/
  pendingTick : Nat
  /-- DEVICE.STANDBY | 1 bit | 04 R157 | 0 (R718) -/
  standby : Bool
  /-- DEVICE.MAINT_BASE | 2 bits | 04 R161 | SETUP (R758) -/
  maintBase : OpMode
  /-- DEVICE.STANDBY_RET | 2 bits | 04 R166 | SETUP (R758) -/
  standbyRet : OpMode
  /-- DEVICE.MODE_HIST, newest first, at most 16 entries | 16 × 8 words | 04 R158 | none (cleared by power-on reset) -/
  hist : List ModeChange
  deriving DecidableEq, Repr, Inhabited

/-! ## Sources (chapter 05) -/

/-- The qualification states (R191). -/
inductive Qual where
  | disqualified | holdOff | qualified
  deriving DecidableEq, Repr, Inhabited

/-- Where an effective QL comes from (R197, R768). -/
inductive QlOrigin where
  | failed | force | inband | host
  deriving DecidableEq, Repr, Inhabited

/-- One monitored source, 0 to 7 references, 8 to 11 Lace ports (R181, R182). -/
structure Source where
  /-- SRC[s].QUAL_STATUS state | 2 bits | 05 R191 | DISQUALIFIED (R193) -/
  qual : Qual
  /-- QUAL_STATUS alarm FREQ | 1 bit | 05 R188 | 0 -/
  freqAlarm : Bool
  /-- QUAL_STATUS alarm ACT | 1 bit | 05 R189 | 0 (R758) -/
  actAlarm : Bool
  /-- QUAL_STATUS alarm HIT | 1 bit | 05 R190 | 0 -/
  hitAlarm : Bool
  /-- an alarm was raised since the last evaluation | 1 bit | 05 R192 | 0 -/
  alarmSince : Bool
  /-- a completed gate exceeded ACCEPT since the last evaluation | 1 bit | 05 R188 | 0 -/
  gateBad : Bool
  /-- a gate that began at or after the hold-off start completed within ACCEPT | 1 bit | 05 R192 | 0 -/
  gateClean : Bool
  /-- hold-off start, 2^-16 ns of bench time | 96 bits | 05 R192 | 0 -/
  holdStart : Nat
  /-- QUALIFIED was its earlier state (R204) | 1 bit | 05 R204 | 0 -/
  wasQualified : Bool
  /-- the hold-off is that of a return to service (R192 last row, R204) | 1 bit | 05 R204 | 0 -/
  returnHold : Bool
  /-- FREQ_MEAS offset, units of 0.001 ppm | 32 bits signed | 05 R186 | 0 -/
  freqOffset : Int
  /-- FREQ_MEAS.VALID | 1 bit | 05 R186 | 0 -/
  freqValid : Bool
  /-- time of the last input edge, or of the start of the monitors where none has come, in 100 ps of CORE_CLK time | model's own | 05 R189 | 0 -/
  lastEdge : Nat
  /-- gates that began before this bench time give no result (2^-16 ns): the start of the monitors, or a change of GATE | 96 bits | 05 R193, R194 | 0 -/
  gateFrom : Nat
  /-- phase-detector edges of the accumulation now running that came before its last hit or activity alarm | model's own | 05 R190 | 0 -/
  hitSkip : Nat
  /-- edges seen since the hit detector was made inactive, up to 64 | 7 bits | 05 R190 | 0 -/
  hitEdges : Nat
  /-- edges since the last hit, up to 64 | 7 bits | 05 R190 | 0 -/
  hitClean : Nat
  /-- accepted in-band QL code | 4 bits or none | 05 R198 | none -/
  accQl : Option Nat
  /-- in-band code being counted towards acceptance | 4 bits | 05 R198 | 0 -/
  candQl : Nat
  /-- consecutive valid receptions of it | 2 bits | 05 R198 | 0 -/
  candCnt : Nat
  /-- QL_STATUS last in-band code | 4 bits | 05 R182 | 0 (R758) -/
  lastInband : Nat
  /-- bench time of the last valid in-band code, 2^-16 ns | 96 bits | 05 R198 | 0 -/
  inbandAt : Nat
  /-- QL_TIMEOUT has expired | 1 bit | 05 R197 | 0 -/
  qlExpired : Bool
  /-- SRC[s].QL_HOST | 4 bits (RW) | 05 R182 | 0 (R758) -/
  qlHost : Nat
  /-- bench time (2^-40 ns) of the last write of QL_HOST, and the value held at the start of that cycle | model's own | 05 R219 | none -/
  qlWrite : Option (Nat × Nat)
  /-- QL_HOST as latched in SAMPLE | 4 bits | 05 R199 | 0 -/
  qlHostLatched : Nat
  /-- effective QL code; none is FAILED | 4 bits or none | 05 R197 | FAILED -/
  effQl : Option Nat
  /-- QL_STATUS origin | 2 bits | 05 R197 | FAILED (R768) -/
  qlOrigin : QlOrigin
  /-- WM_STATUS.SYNC | 1 bit | 05 R201 | 0 -/
  wmSync : Bool
  /-- consecutive good payloads (not in SYNC) or bad payloads (in SYNC) | 2 bits | 05 R201 | 0 -/
  wmRun : Nat
  /-- WM_STATUS last payload with valid CRC | 48 bits | 05 R182 | 0 -/
  wmPayload : Nat
  /-- bench time of the last mark edge in SYNC against the nearest tick boundary, 2^-16 ns | INTERNAL | 06 R241 | 0 -/
  wmMark : Int
  /-- WM_STATUS CRC error count, STICK | 16 bits | 05 R182 | 0 -/
  wmCrcCnt : Nat
  deriving DecidableEq, Repr, Inhabited

/-! ## DPLLs (chapter 06) -/

/-- The loop states (R224). -/
inductive LoopState where
  | freerun | acquire | locked | holdover
  deriving DecidableEq, Repr, Inhabited

/-- The feedback states (R243). -/
inductive FbState where
  | ok | lost | frozen
  deriving DecidableEq, Repr, Inhabited

/-- The phase mover states (R769 PM_STATUS). -/
inductive PmState where
  | idle | moving | frozen
  deriving DecidableEq, Repr, Inhabited

/-- One history bin (R266): the whole second it covers, the mean word, the mean temperatures and the XO age. -/
structure HistBin where
  /-- bench second at which the bin starts -/
  at_ : Nat
  /-- mean frequency word, units of 2^-48 -/
  mean : Rat
  /-- TSENSE and die readings, 0.01 K -/
  tTs : Rat
  tDie : Rat
  /-- MODEL.XO_AGE in s -/
  age : Rat
  /-- valid seconds: 1 or 0 for a second, the count for a minute -/
  count : Nat
  deriving DecidableEq, Repr, Inhabited

/-- The history basis of a holdover (R267). -/
inductive HoBasis where
  | interval | recent | none
  deriving DecidableEq, Repr, Inhabited

/-- HO[n].FROZEN (R267, R269, R771): what entry into HOLDOVER freezes. -/
structure Frozen where
  /-- F_HIST, 2^-48 -/
  fHist : Rat
  t0Ts : Rat
  t0Die : Rat
  /-- centre time t_c, bench s and ns as 2^-16 ns -/
  tc : Rat
  /-- XO age u_c at t_c, s -/
  uc : Rat
  /-- entry coefficients of the TSENSE set: c1, c2, a (10^-15) -/
  c1Ts : Rat
  c2Ts : Rat
  aTs : Rat
  /-- entry coefficients of the die set -/
  c1Die : Rat
  c2Die : Rat
  aDie : Rat
  /-- τ in s -/
  tau : Rat
  /-- the sensor set in use at entry is the TSENSE set: the words show its coefficients (log 55) -/
  useTs : Bool
  deriving DecidableEq, Repr, Inhabited

/-- One DPLL (R203, R222). -/
structure Dpll where
  /-- SEL_STATUS selected source; none is NONE | 4 bits | 05 R203 | NONE -/
  sel : Option Nat
  /-- SEL_STATUS cause | 8 bits | 19 R770 | NONE (R758) -/
  selCause : Nat
  /-- SEL_STATUS outgoing QL | 4 bits | 05 R207 | 0xF (QL_FREERUN's reset value, R203) -/
  outQl : Nat
  /-- start of the WTR timer of (d, s), 2^-16 ns; none: not running | 12 × 96 bits | 05 R204 | none -/
  wtrStart : Vector (Option Nat) 12
  /-- LOOP_STATUS loop state | 2 bits | 06 R224 | FREERUN (R262) -/
  loop : LoopState
  /-- LOOP_STATUS stage, 0 to 3; 7 is TRACK | 3 bits | 06 R231, 19 R769 | 0 (R758) -/
  stage : Nat
  /-- LOOP_STATUS cause | 4 bits | 19 R770 | NONE (R758) -/
  loopCause : Nat
  /-- LOOP_STATUS last tick's mean phase error, 2^-16 ns | 48 bits signed | 06 R222 | 0 (R758) -/
  meanErr : Int
  /-- loop-filter integrator, 2^-48 | INTERNAL | 06 R229 | 0 -/
  integ : Rat
  /-- LOOP_STATUS frequency word (loop filter, nominal, host or holdover), 2^-48 | 48 bits signed | 06 R222 | 0 (R758) -/
  word : Int
  /-- the word as applied in the last DISPATCH, mover included, 2^-48 | 48 bits signed | 08 R305 | 0 -/
  applied : Int
  /-- STEER_LIMIT (R306) | 1 bit | 08 R306 | 0 -/
  steerLimit : Bool
  /-- LOOP_STATUS BO, 2^-16 ns | 48 bits signed | 06 R228 | 0 (R262) -/
  bo : Int
  /-- tick (count) in which BO was asked to be set at the first edge after the next SAMPLE (R235, R237, R238) | model's own | 06 R235 | none -/
  boPending : Option Nat
  /-- after that rebuild, FIRST_STEP clears BO as a step (R239) | 1 bit | 06 R239 | 0 -/
  firstStep : Bool
  /-- no acquisition since the loops started (R239) | 1 bit | 06 R239 | 1 (R262) -/
  firstAcq : Bool
  /-- a realignment is in progress (R238) | 1 bit | 06 R238 | 0 -/
  realigning : Bool
  /-- a realignment is due once BO is rebuilt after a switch (R238) | 1 bit | 06 R238 | 0 -/
  realignDue : Bool
  /-- LOOP_STATUS feedback | 2 bits | 06 R243 | OK (R769) -/
  fb : FbState
  /-- the tick (count) of a feedback fault whose entry into HOLDOVER is due in the next EVALUATE | model's own | 06 R243 | none -/
  fbFaultTick : Option Nat
  /-- time on the timescale (2^-16 ns) of the last phase-detector edge of the selected source; none: none since it was selected | model's own | 06 R233 | none -/
  pdLast : Option Nat
  /-- runs of the lock detector, up to 65,535 cycles | INTERNAL | 06 R233 | 0, 0 -/
  lockRun : Nat
  unlockRun : Nat
  /-- the detector state latched in SAMPLE: the lock condition, the unlock condition was met | 2 bits | 06 R233, R251 | 0, 0 -/
  lockMet : Bool
  unlockMet : Bool
  /-- feedback divider: edges counted towards FB_PREDIV | 24 bits | 06 R242 | 0 -/
  fbDiv : Nat
  /-- time of the last divided feedback edge, 2^-16 ns of CORE_CLK time | model's own | 06 R242, R243 | none -/
  fbLast : Option Rat
  /-- the last reading of φ_fb − φ_ref, how often it has repeated, and the movement (2^-16 ns) commanded over those | INTERNAL | 06 R243 | none, 0, 0 -/
  fbReading : Option Int
  fbSame : Nat
  fbMove : Rat
  /-- consecutive feedback periods with edges, and whether the readings over them differ | INTERNAL | 06 R243 | 0, 0 -/
  fbGood : Nat
  fbVaried : Bool
  /-- XO age at which it became LOCKED in the tracking loop | 32 bits or none | 07 R277 | none -/
  lockedSince : Option Nat
  /-- tick (count) in which HOLDOVER or FREERUN was entered because no source was left | model's own | 06 R253 | none -/
  lostTick : Option Nat
  /-- TDC accumulation latched in SAMPLE: sum of φ_fb − φ_ref, 2^-16 ns | INTERNAL | 06 R228 | 0 -/
  tdcSum : Int
  /-- its count | INTERNAL | 06 R228 | 0 -/
  tdcCount : Nat
  /-- φ_fb − φ_ref at the first edge of the accumulation, 2^-16 ns | INTERNAL | 06 R235 | 0 -/
  tdcFirst : Int
  /-- lock has held in this stage since (bench, 2^-16 ns) | 96 bits or none | 06 R231 | none -/
  lockSince : Option Nat
  /-- ticks (count) of the last unlock declaration and switch, for R251 and R252 | model's own | 06 R251, R252 | none -/
  unlockTick : Option Nat
  switchTick : Option Nat
  /-- entry into ACQUIRE (bench, 2^-16 ns) | 96 bits | 06 R226 | 0 -/
  acqStart : Nat
  /-- ACQ_TIMEOUT has expired in this ACQUIRE | 1 bit | 06 R226 | 0 -/
  acqTimedOut : Bool
  /-- HOST_FREQ, 10^-15 | 48 bits signed (RW) | 06 R222 | 0 (R758) -/
  hostFreq : Int
  /-- bench time (2^-40 ns) of the last write of HOST_FREQ, and the value held at the start of that cycle | model's own | 06 R258 | none -/
  hostFreqWas : Option (Nat × Int)
  /-- HOST_FREQ as latched in SAMPLE | 48 bits signed | 06 R245 | 0 -/
  hostFreqLatched : Int
  /-- HOST_LOCK | 1 bit (RW) | 06 R222 | 0 (R758) -/
  hostLock : Bool
  /-- bench time of the last HOST_FREQ write, 2^-16 ns; none: none yet or expired | 96 bits | 06 R244 | none -/
  hostWrite : Option Nat
  /-- PM_STATUS TARGET, units of 2^-16 ns | 48 bits signed | 06 R246 | 0 (R262) -/
  pmT : Int
  /-- PM_STATUS POSITION, units of 2^-16 ns / (8·10^6)^2 | 48 bits signed and fraction | 06 R246 | 0 (R262) -/
  pmP : Int
  /-- PM_STATUS VELOCITY, units of 2^-16 ns/s / (8·10^6) | 48 bits signed and fraction | 06 R246 | 0 (R262) -/
  pmV : Int
  /-- target beyond whole 2^-16 ns set by HALT, units as POSITION | fraction | 06 R246 | 0 -/
  pmTfrac : Int
  /-- PM_STATUS STATE | 2 bits | 06 R222 | IDLE (R758) -/
  pmState : PmState
  /-- PM_STATUS ABORT_IGNORED | 1 bit | 06 R254 | 0 (R758) -/
  pmAbort : Bool
  /-- bench time (2^-40 ns) of the last HALT, and the target before it, for R254 | model's own | 06 R254 | none -/
  pmHalt : Option (Nat × Int × Int)
  /-- bench time (2^-40 ns) of the last arrival of the mover, for R254 | model's own | 06 R254 | none -/
  pmArriveAt : Option Nat
  /-- decoded tick-number difference and how often it repeated (R241) | 24 + 2 bits | 06 R241 | 0 -/
  tickDiff : Nat
  tickDiffCnt : Nat
  /-- an adoption waits for the tick boundary | 1 bit | 06 R241 | 0 -/
  adoptDue : Bool
  /-- bench second of the last EV_DPLL_TICKNUM_MISMATCH | 48 bits or none | 06 R241 | none -/
  mismatchSec : Option Nat
  /-- free-running timescale, 2^-40 ns (DPLL1 to DPLL3) | as bench time | 08 R308 | 0 (R758) -/
  timescale : Nat
  deriving DecidableEq, Repr, Inhabited

/-! ## Holdover and the Last model (chapter 07) -/

/-- One DPLL's holdover unit (R263). -/
structure Holdover where
  /-- HO[n].STATUS HOLDOVER | 1 bit | 07 R263 | 0 (R758) -/
  inHo : Bool
  /-- HO[n].STATUS basis | 2 bits | 07 R267 | INTERVAL (R758) -/
  basis : HoBasis
  /-- entry, in MODEL.XO_AGE seconds, for the elapsed time (R297) | 32 bits | 07 R297 | 0 -/
  entryAge : Nat
  /-- HO[n].FROZEN | 20 words | 07 R263 | 0 (R758) -/
  frozen : Frozen
  /-- HO[n].WORD target, 2^-48 | 48 bits signed | 07 R263 | 0 (R758) -/
  target : Int
  /-- HO[n].WORD applied word, 2^-48, exact | 48 bits signed and fraction | 07 R271 | 0 (R758) -/
  appliedWord : Rat
  /-- the sensor set in use at the last computing of the target is the TSENSE set | INTERNAL | 07 R276 | 0 -/
  useTs : Bool
  /-- HO[n].STATUS sensor set in use | 2 bits | 07 R263 | TSENSE, code 0 (R758) -/
  sensor : Nat
  /-- HO[n].STATUS model terms applied: TEMP1, TEMP2, AGE | 3 bits | 07 R263, R270 | 0 (R758) -/
  terms : Bool × Bool × Bool
  /-- MODEL_EN as the target was last computed with it | INTERNAL | 07 R272 | 0 -/
  modelEn : Bool
  /-- per-second history bins, newest first, at most 660 (log 55) | INTERNAL | 07 R266 | none (R268) -/
  secBins : List HistBin
  /-- minute bins, newest first, at most 1440 | INTERNAL | 07 R266 | none (R268) -/
  minBins : List HistBin
  /-- the second being gathered: sum of words, ticks, still valid, its source | INTERNAL | 07 R266 | 0 -/
  accSum : Int
  accTicks : Nat
  accValid : Bool
  accSrc : Option Nat
  /-- bench second being gathered | 48 bits | 07 R266 | 0 -/
  accSec : Nat
  deriving DecidableEq, Repr, Inhabited

/-- The TSENSE states (R275, R771). -/
inductive TsState where
  | disabled | ok | frozen | fault
  deriving DecidableEq, Repr, Inhabited

/-- One learning minute kept for the span, residual and coverage judgements (R281). -/
structure LearnMin where
  /-- XO age in s -/
  age : Nat
  /-- temperature, 0.01 K -/
  temp : Rat
  /-- squared residual, (10^-12)^2 -/
  err2 : Rat
  deriving DecidableEq, Repr, Inhabited

/-- One sensor set of the Last model (R264, R278). -/
structure SensorSet where
  /-- TREF, 0.01 K; none: unset | 16 bits signed | 07 R264 | unset -/
  tref : Option Int
  /-- b0, K1, K2, A as fitted, 10^-15 units | 4 × 32 bits signed | 07 R264 | 0 (R758) -/
  b0 : Rat
  k1 : Rat
  k2 : Rat
  a : Rat
  /-- upper triangle of the covariance in row order | 10 × binary64 | 07 R283 | free value (log 12) -/
  cov : List Rat
  /-- minutes kept for span and residual, newest first | INTERNAL | 07 R281 | none -/
  mins : List LearnMin
  /-- learned minutes | 32 bits | 07 R264 | 0 -/
  minutes : Nat
  /-- XO age of the first learning minute | 32 bits or none | 07 R281 | none -/
  firstAge : Option Nat
  /-- a set that BOOT restored: its span and the XO age from which LEARN_TC takes it out (log 69) | INTERNAL | 07 R281, R283 | none -/
  restored : Option (Nat × Nat)
  /-- span, 0.01 K | 16 bits | 07 R281 | 0 -/
  span : Nat
  /-- rms residual, 10^-12 | 32 bits | 07 R281 | 0 -/
  residual : Nat
  /-- TEMP1_VALID, TEMP2_VALID, AGE_VALID | 3 bits | 07 R281 | 0 -/
  temp1 : Bool
  temp2 : Bool
  ageV : Bool
  deriving DecidableEq, Repr, Inhabited

/-- One learning second recorded towards the present minute (R277). -/
structure LearnSec where
  /-- y = −(bin value), 2^-48 -/
  y : Rat
  tTs : Option Rat
  tDie : Rat
  age : Nat
  deriving DecidableEq, Repr, Inhabited

/-- The Last model and the temperature sensors. -/
structure Model where
  /-- MODEL.COEF_TS and the TSENSE set | 9 words and record fields | 07 R264 | cleared -/
  ts : SensorSet
  /-- MODEL.COEF_DIE and the die set | 9 words and record fields | 07 R264 | cleared -/
  die : SensorSet
  /-- MODEL.TEMP TSENSE, 0.01 K | 16 bits signed | 07 R264 | 0 (R758) -/
  tempTs : Int
  /-- MODEL.TEMP die, 0.01 K | 16 bits signed | 07 R264 | 0 (R758) -/
  tempDie : Int
  /-- MODEL.STATUS TSENSE state | 2 bits | 07 R275 | DISABLED (R758) -/
  tsState : TsState
  /-- 1 s readings of the last 10 min (TSENSE, die), newest first, at most 600 | INTERNAL | 07 R275 | none -/
  readings : List (Int × Int)
  /-- readings of the present second (TSENSE, die), newest first | INTERNAL | 07 R274 | none -/
  samples : List (Int × Int)
  /-- the excitation did not settle, or a reading was out of range, in this second | 1 bit | 07 R275 | 0 -/
  tsBad : Bool
  /-- MODEL.STATUS LEARNING | 1 bit | 07 R277 | 0 (R758) -/
  learning : Bool
  /-- MODEL.STATUS first failing condition of R277, 0 to 4 | 4 bits | 07 R277, 19 R771 | 0 (R758) -/
  whyNot : Nat
  /-- the DPLL that LEARN_SRC named in the last tick of the present second; none: no tick of it yet | model's own | 07 R277 | none -/
  learnOf : Option Nat
  /-- the present second saw a hitless switch or a rebuilt BO on the learning DPLL | 1 bit | 07 R277 | 0 -/
  disturbed : Bool
  /-- learning seconds of the present minute, newest first | INTERNAL | 07 R278 | none -/
  secs : List LearnSec
  /-- learning seconds of the minute that waits for its processing (R280) | INTERNAL | 07 R278 | none -/
  minDue : List LearnSec
  /-- MODEL.XO_AGE, s | 32 bits | 07 R264, R282 | 0 -/
  xoAge : Nat
  /-- MODEL.STATUS bench seconds of the last save | 48 bits | 07 R264 | 0 (R758) -/
  saveSec : Nat
  /-- MODEL.STATUS XO age of the last save | 32 bits | 07 R264 | 0 (R758) -/
  saveAge : Nat
  /-- the XO age from which a day is counted to the next automatic save: saveAge, or 0 after AGE_POWER = RESTART | 32 bits | 07 R284 | 0 -/
  saveFrom : Nat
  /-- XO ages at which model saves were started in the last 24 h (MODEL.STATUS w18 counts them) | 30 × 32 bits | 07 R285 | none -/
  saveStarts : List Nat
  /-- a learning minute has been processed since the last save | 1 bit | 07 R284 | 0 -/
  learnedSince : Bool
  /-- an automatic save failed and is owed once more at this XO age | 32 bits or none | 07 R286 | none -/
  retryAt : Option Nat
  /-- XO age at which the last automatic save failed: the next daily one follows it | 32 bits or none | 07 R286 | none -/
  autoFail : Option Nat
  /-- EV_DPLL_MODEL_DISCARDED is owed once CORE is ON after BOOT | 1 bit | 07 R287 | 0 -/
  discarded : Bool
  deriving DecidableEq, Repr, Inhabited

/-! ## Synthesis (chapter 08) -/

/-- The states of an APLL (R303, R772). -/
inductive ApllState where
  | off | search | locking | aligning | waitEpoch | run | fault
  deriving DecidableEq, Repr, Inhabited

/-- One analog PLL (R303). -/
structure Apll where
  /-- APLL[n].STATUS STATE | 3 bits | 08 R303 | OFF (R772) -/
  st : ApllState
  /-- APLL[n].STATUS band code | 7 bits | 08 R303 | 0 (R758) -/
  band : Nat
  /-- APLL[n].STATUS VTUNE | 6 bits | 08 R303 | 0 (R758) -/
  vtune : Nat
  /-- APLL[n].STATUS analog LOCK | 1 bit | 08 R303 | 0 (R758) -/
  lock : Bool
  /-- APLL[n].STATUS ALIGNED | 1 bit | 08 R312 | 0 (R758) -/
  aligned : Bool
  /-- APLL[n].STATUS last alignment offset, 2^-16 ns | 48 bits signed | 08 R303 | 0 (R758) -/
  alignOff : Int
  /-- the second try of a failed search is running | 1 bit | 08 R311 | 0 -/
  secondTry : Bool
  /-- a band search is owed (SUPPLY_LOW, or SYN not valid) | 1 bit | 03 R137, R149 | 0 -/
  owed : Bool
  /-- a search is due 100 µs after a loss of lock | 1 bit | 08 R311 | 0 -/
  delayDue : Bool
  /-- steering word frozen for the search, 2^-48 | 48 bits signed | 08 R310 | 0 -/
  frozenWord : Int
  /-- steering word in force, 2^-48 | 48 bits signed | 08 R305 | 0 -/
  word : Int
  /-- APLL[n].EPOCH timescale time of the last epoch, 2^-16 ns | 96 bits | 08 R303 | 0 (R758) -/
  epochTime : Nat
  /-- APLL[n].EPOCH tick of the commit it served | 64 bits | 08 R303 | 0 (R758) -/
  epochTick : Nat
  /-- APLL[n].EPOCH outputs changed | 16 bits | 08 R303 | 0 (R758) -/
  epochCount : Nat
  /-- start of the search in progress (bench time, 2^-16 ns), and its VCO frequency in Hz, the average one | INTERNAL | 08 R310, R321 | 0 -/
  searchAt : Nat
  searchFreq : Rat
  /-- in WAIT_EPOCH: 16 CORE_CLK cycles after ALIGNED, on its timescale in 2^-16 ns | 96 bits | 08 R315 | 0 -/
  readyAt : Nat
  deriving DecidableEq, Repr, Inhabited

/-- The SPLL (R298). -/
structure Spll where
  /-- SPLL.STATUS.LOCK | 1 bit | 08 R298 | 0 (R758) -/
  lock : Bool
  /-- SPLL.STATUS XO_IN_USE, MODE | 2 bits | 08 R298, R301 | CRYSTAL (R298) -/
  modeInUse : Nat
  /-- SPLL.STATUS XO_IN_USE, XO_FREQ in Hz | 32 bits | 08 R298, R301 | 25,000,000 (R298) -/
  freqInUse : Nat
  /-- CORE has been ON since the power-on reset (R301) | 1 bit | 08 R301 | 0 -/
  everOn : Bool
  /-- the active XO_CFG was loaded from a profile or written by the host (R301) | 1 bit | 08 R301 | 0 -/
  cfgLoaded : Bool
  deriving DecidableEq, Repr, Inhabited

/-! ## Outputs (chapter 09) -/

/-- What an output does at its pads (R341, R349 to R355). -/
inductive OutRun where
  /-- its OFF_FORMAT state: out of service, or nothing drives it -/
  | off
  /-- waits for its start (STARTING) -/
  | waiting
  | running
  /-- stopped by a squelch with MODE STOP -/
  | squelchedStop
  /-- carries the XO under XO_SUB -/
  | substituting
  /-- held at logic low between two sources (R351), or after the bypass of STRAP[2] (R132) -/
  | gap
  deriving DecidableEq, Repr, Inhabited

/-- Sense-back results (R335, R773). -/
inductive Sense where
  | ok | stuckLow | stuckHigh | freqErr | activeOff | notChecked
  deriving DecidableEq, Repr, Inhabited

/-- The double-buffered settings of an output (R318): source, divider, duty, delay and prescaler. -/
structure OutSet where
  sel : Nat
  idx : Nat
  div : Nat
  high : Nat
  coarse : Nat
  fine : Nat
  presc : Nat
  deriving DecidableEq, Repr, Inhabited

/-- One output (R335). -/
structure Output where
  /-- what the output does | — | 09 R341, R349 | off (OUT_OF_SERVICE, R335) -/
  run : OutRun
  /-- settings in force at the pads (double-buffered) | 7 fields | 08 R318 | the reset configuration (R335) -/
  cur : OutSet
  /-- OUT[n].STATUS present fine delay, steps of 1.25 ps | 9 bits | 09 R335 | 0 (R758) -/
  fineNow : Nat
  /-- a change of the double-buffered settings, or a stop, waits for an epoch | 1 bit | 08 R318, 09 R350 | 0 -/
  changePending : Bool
  /-- a source change has stopped on its old source (R351) | 1 bit | 09 R351 | 0 -/
  switching : Bool
  /-- the epoch at which the change takes effect, on the timescale of its source in 2^-16 ns; none: at its own reload | 96 bits or none | 08 R318 | none -/
  epochAt : Option Nat
  /-- tick of the commit that the change comes from | 64 bits | 08 R303, R318 | 0 -/
  epochFor : Nat
  /-- its old or new frequency is not a whole number of hertz: it changes at its own first reload from that epoch on | 1 bit | 08 R318 | 0 -/
  ownReload : Bool
  /-- while it waits for its start on a running source: the earliest instant of it, as for epochAt | 96 bits or none | 09 R349, R351 | none -/
  startAt : Option Nat
  /-- channel P's time (0.1 ns) up to which the fine delay has slewed | INTERNAL | 09 R345 | 0 -/
  slewFrom : Rat
  /-- bench time (2^-16 ns) at which the present substitution began | model's own | 09 R355 | 0 -/
  subFrom : Nat
  /-- OUT[n].STATUS SQUELCHED | 1 bit | 09 R335 | 0 (R758) -/
  squelched : Bool
  /-- OUT[n].STATUS SENSE | 3 bits | 09 R335 | OK (R773) -/
  sense : Sense
  /-- failing result being counted, and its run | 3 + 2 bits | 09 R358 | OK, 0 -/
  senseCand : Sense
  senseRun : Nat
  /-- consecutive checked OK ticks | 5 bits | 09 R358 | 0 -/
  senseOkRun : Nat
  /-- OUT[n].SENSE_CNT expected | 32 bits | 09 R335 | 0 (R758) -/
  senseExp : Nat
  /-- OUT[n].SENSE_CNT counted | 32 bits | 09 R335 | 0 (R758) -/
  senseCnt : Nat
  /-- pad level latched in SAMPLE | 1 bit | 09 R357 | 0 -/
  padLevel : Bool
  /-- this tick held a start, stop, source, squelch or substitution change or epoch | 1 bit | 09 R357 | 0 -/
  disturbed : Bool
  /-- OUT[n].STATUS cycle-skip count, STICK | 8 bits | 09 R352 | 0 (R758) -/
  skips : Nat
  /-- OUT[n].STATUS WM_ACTIVE | 1 bit | 09 R366 | 0 (R758) -/
  wmActive : Bool
  /-- the payload composed for the next tick | 48 bits | 09 R364 | 0 -/
  wmNext : Nat
  /-- the payload being sent (none: no mark in this tick, or abandoned) | 48 bits or none | 09 R366 | none -/
  wmSending : Option Nat
  deriving DecidableEq, Repr, Inhabited

/-- One fractional output divider (R336, R347). -/
structure Fod where
  /-- FOD[k].STATUS RUN | 1 bit | 09 R336 | 0 (R758) -/
  run : Bool
  /-- FOD[k].STATUS ALIGNED | 1 bit | 09 R336 | 0 (R758) -/
  aligned : Bool
  /-- FOD[k].STATUS present ratio, 2^-32 | 48 bits | 09 R336, 19 R774 | 0 (R758) -/
  ratio : Nat
  /-- settings in force: APLL, DPLL, FREQ | 1 + 2 + 48 bits | 09 R348 | 0 -/
  curApll : Nat
  curDpll : Nat
  curFreq : Nat
  /-- the epoch at which a changed FREQ takes effect, on its timescale in 2^-16 ns | 96 bits or none | 09 R348 | none -/
  epochAt : Option Nat
  /-- while it can run and has not started: the earliest start, on its timescale in 2^-16 ns | 96 bits or none | 09 R348 | none -/
  readyAt : Option Nat
  deriving DecidableEq, Repr, Inhabited

/-! ## Lace (chapter 10) -/

/-- What an OPER_STATE shows (R396, R757). -/
inductive Oper where
  | off | starting | up | down
  deriving DecidableEq, Repr, Inhabited

/-- A cell waiting in a transmit queue: its arrival order, the bench time (2^-16 ns) at which it came, and whether it is forwarded. -/
structure TxCell where
  cell : Cell
  order : Nat
  since : Nat
  fwd : Bool
  deriving DecidableEq, Repr, Inhabited

/-- A received cell waiting for its processing, with its arrival time in 2^-16 ns (R76, R393) and channel P's clock at its arrival. -/
structure RxCell where
  cell : Cell
  arrival : Nat
  clk : Nat
  deriving DecidableEq, Repr, Inhabited

/-- One Lace port (R382). -/
structure LacePort where
  /-- LACE[p].STATUS CDR lock | 1 bit | 10 R382 | 0 (R758) -/
  cdrLock : Bool
  /-- LACE[p].STATUS cell lock | 1 bit | 10 R392 | 0 (R758) -/
  cellLock : Bool
  /-- consecutive failing cells while cell lock is held | 2 bits | 10 R392 | 0 -/
  failRun : Nat
  /-- cause WIRING is present until this tick (count) | model's own | 10 R413 | none -/
  wiringUntil : Option Nat
  /-- cause ADDR_CONFLICT is present until this tick (count) | model's own | 10 R401 | none -/
  conflictUntil : Option Nat
  /-- start of the 1 s window of R411 (bench, 2^-16 ns); none: it has run out | 96 bits | 10 R411 | none -/
  window : Option Nat
  /-- LACE[p].STATUS measurements, saturating | 8 bits | 10 R382 | 0 (R758) -/
  measures : Nat
  /-- LACE[p].STATUS SD | 1 bit | 10 R420 | 0 (R758) -/
  sd : Bool
  /-- seconds in a row with at most SD_THR / 10 errors | 4 bits | 10 R420 | 0 -/
  sdClean : Nat
  /-- CRC errors in this whole second | 32 bits | 10 R420 | 0 -/
  crcSec : Nat
  /-- LACE[p].STATUS REPORTED_STATE; none is UNKNOWN | 3 bits | 10 R382 | DESIGN CHOICE UNKNOWN (log 10) -/
  reported : Option Oper
  /-- REPORTED_STATE as held at the start of EVALUATE (R429) | 3 bits | 10 R429 | UNKNOWN -/
  reportedHeld : Option Oper
  /-- tick (count) of the last STATE cell from the peer | model's own | 01 R43 | none -/
  reportTick : Option Nat
  /-- LACE[p].STATUS peer address | 5 bits | 10 R382 | 0 (R758) -/
  peerAddr : Nat
  /-- LACE[p].STATUS peer port | 1 bit | 10 R382 | 0 (R758) -/
  peerPort : Nat
  /-- the port was UP at the last evaluation | 1 bit | 10 R411 | 0 -/
  wasUp : Bool
  /-- the port was UP while its peer was not at the last evaluation | 1 bit | 10 R412 | 0 -/
  wasPeerBad : Bool
  /-- LACE[p].DELAY d_in, 2^-16 ns | 48 bits signed | 10 R382 | 0 (R758) -/
  dIn : Int
  /-- LACE[p].DELAY last RTT, 2^-16 ns | 48 bits signed | 10 R382 | 0 (R758) -/
  lastRtt : Int
  /-- LACE[p].DELAY last o, 2^-16 ns | 48 bits signed | 10 R382 | 0 (R758) -/
  lastO : Int
  /-- the peer's bench time as the latest valid TIME cell gave it, 2^-16 ns, and channel P's clock at its arrival | INTERNAL | 10 R408 | none -/
  peerAt : Option (Nat × Int)
  /-- RTT values of the estimate, newest first | INTERNAL | 10 R407 | none -/
  rtts : List Int
  /-- consecutive outliers | 5 bits | 10 R407 | 0 -/
  outlierRun : Nat
  /-- SEQ and departure of the last 4 TIME cells sent, newest first | INTERNAL | 10 R405 | none -/
  sentTimes : List (Nat × Nat)
  /-- SEQ and arrival of the last TIME cell received | INTERNAL | 10 R393 | none -/
  lastTime : Option (Nat × Nat)
  /-- tick (count) of its arrival | model's own | 10 R393 | 0 -/
  lastTimeTick : Nat
  /-- SEC_VALID of the peer's TIME cells | 1 bit | 10 R410 | 0 -/
  peerSec : Bool
  /-- round(o) and how many TIME cells in a row gave it | INTERNAL | 10 R410 | 0 -/
  secN : Int
  secCnt : Nat
  /-- ORIGIN and ORIGIN_HOPS of the accepted QL cells | 5 + 5 bits | 10 R404 | 0 -/
  origin : Nat
  originHops : Nat
  /-- EV_LACE_OPTION_MISMATCH is held off until this tick (count) | model's own | 10 R404 | 0 -/
  optHold : Nat
  /-- EV_LACE_WIRING is held off until this tick (count) | model's own | 10 R413 | 0 -/
  wiringHold : Nat
  /-- the nine CNT_* counters in the order of R776, saturating | 9 × 32 bits | 10 R419 | 0 (R758) -/
  cnts : Vector Nat 9
  /-- SEQ of the port's LINK cells | 16 bits | 10 R389 | 0 (R389) -/
  linkSeq : Nat
  /-- transmit queue of cells other than SAFE | 32 cells | 10 R403 | empty -/
  txq : List TxCell
  /-- transmit queue of SAFE cells | 8 cells | 10 R403 | empty -/
  safeq : List TxCell
  /-- arrival order counter of the queues (model's own) | — | 10 R402 | 0 -/
  order : Nat
  /-- the cell in the present slot | 32 octets | 10 R402 | IDLE -/
  slot : Cell
  /-- receive queue for local processing | 16 cells | 02 R76 | empty -/
  rxq : List RxCell
  /-- EV_LACE_RX_OVF has been raised in this tick | 1 bit | 10 R419 | 0 -/
  rxOvf : Bool
  deriving DecidableEq, Repr, Inhabited

/-- One entry of LACE.TOPO (R383). -/
structure TopoEntry where
  /-- LACE.TOPO seen | 1 bit | 10 R383 | 0 (R758) -/
  seen : Bool
  /-- LACE.TOPO port | 2 bits | 10 R383 | 0 (R758) -/
  port : Nat
  /-- LACE.TOPO hops | 5 bits | 10 R383 | 0 (R758) -/
  hops : Nat
  /-- tick (count) in which it arrived; the age shown is counted from it | 16 bits | 10 R383 | 0 -/
  tick : Nat
  /-- LACE.TOPO content, octets 7 to 27 | 21 octets | 10 R383 | 0 (R758) -/
  content : List Byte
  deriving DecidableEq, Repr, Inhabited

/-- The role of this hub in a distributed commit (R383). -/
inductive DcRole where
  | none | originator | participant
  deriving DecidableEq, Repr, Inhabited

/-- LACE.DC_STATUS state (R383). -/
inductive DcState where
  | idle | proposed | prepared | agreed | applied | notApplied | aborted | noDecision
  deriving DecidableEq, Repr, Inhabited

/-- What an originator holds of one participant (R383, R398). -/
structure DcAck where
  /-- last KIND; 0 none -/
  kind : Nat
  cause : Nat
  txnErr : Nat
  deriving DecidableEq, Repr, Inhabited

/-- An ACK that waits for its DISPATCH: what it says, the exchange and the originator it answers, its SRC, and the tick it waits for (R415,
R417, R427). -/
structure DueAck where
  ack : DcAck
  id : Nat
  dst : Nat
  own : Nat
  tick : Nat
  deriving DecidableEq, Repr, Inhabited

/-- The device-wide Lace unit (R383). -/
structure LaceDev where
  /-- LACE.TIME_STATUS.SEC_VALID | 1 bit (AON, DEV_STATUS) | 10 R405, 18 R716 | 0 (R405, power-on) -/
  secValid : Bool
  /-- SEQ of the cells this hub originates, per network | 2 × 16 bits | 10 R389 | 0 (R389) -/
  netSeq : Vector Nat 2
  /-- LACE.TOPO of networks A and B | 2 × 32 × 13 words | 10 R383 | 0 (R758) -/
  topoA : Vector TopoEntry 32
  topoB : Vector TopoEntry 32
  /-- LACE.DC_STATUS role | 2 bits | 10 R383 | NONE (R758) -/
  role : DcRole
  /-- LACE.DC_STATUS state | 3 bits | 10 R383 | IDLE (R758) -/
  dc : DcState
  /-- LACE.DC_STATUS.DC_ID | 16 bits | 10 R383 | 0 (R758) -/
  dcId : Nat
  /-- LACE.DC_STATUS target tick | 64 bits | 10 R383 | 0 (R758) -/
  dcTarget : Nat
  /-- MASK of the proposal | 32 bits | 10 R397 | 0 -/
  dcMask : Nat
  /-- networks of the proposal, 1 A, 2 B, 3 both | 2 bits | 10 R414 | 0 -/
  dcNet : Nat
  /-- originator of the proposal, at a participant | 5 bits | 10 R415 | 0 -/
  dcSrc : Nat
  /-- LACE.DC_STATUS.ACK[a] | 32 words | 10 R383 | 0 (R758) -/
  acks : Vector DcAck 32
  /-- at the originator: the decision, 0 none, 2 GO, 3 ABORT, and its cause | 2 + 2 bits | 10 R416 | 0 -/
  decision : Nat
  abortCause : Nat
  /-- at the originator: PROPOSE is to be sent in the next DISPATCH | 1 bit | 10 R414 | 0 -/
  proposeDue : Bool
  /-- at the originator: EV_LACE_DC_APPLIED has been raised for this exchange | 1 bit | 10 R417 | 0 -/
  dcDone : Bool
  /-- at a participant: the ACKs to send in DISPATCH | — | 10 R415, R417 | none -/
  ackDue : List DueAck
  /-- tick at which the split check is made | 64 bits or none | 10 R417 | none -/
  splitAt : Option Nat
  /-- last PROPOSE processed of each originator (SRC, DC_ID) | 32 × (5 + 16 bits) | 10 R415 | none -/
  proposed : List (Nat × Nat)
  /-- STATE cell: last DC_ID and DC_RESULT | 16 + 3 bits | 10 R396 | 0 (R389: from CORE ON) -/
  lastDcId : Nat
  lastResult : Nat
  /-- R30 holds on network A, B until this tick (count) | model's own | 01 R30, 10 R413 | none -/
  mismatchA : Option Nat
  mismatchB : Option Nat
  /-- DC_STATUS tick counters of QL sending: ticks since the last QL cell, cells still due after a change, last code sent | 3 + 2 + 4 bits | 10 R404 | 0, 0, 0xF -/
  qlAge : Nat
  qlBurst : Nat
  qlLast : Nat
  /-- ticks since the last STATE cell, and the state it reported | 4 bits + 4 octets | 10 R396 | 0 -/
  stateAge : Nat
  stateLast : List Nat
  /-- EV_LACE_TICK_MISMATCH is held off on network A, B until this tick (count) | model's own | 10 R413 | 0, 0 -/
  tickHold : Vector Nat 2
  /-- seconds to be taken off at the next whole second, and the bench second in which that was decided | 48 bits signed or none | 10 R410 | none -/
  adoptSec : Option (Int × Nat)
  deriving DecidableEq, Repr, Inhabited

/-! ## The safety supervisor (chapters 11 and 12) -/

/-- The states of an STO group, with the codes of R740 in order. -/
inductive SafeState where
  | init | startupPending | safeOff | ready | enabled | stopping | degraded | lockout
  deriving DecidableEq, Repr, Inhabited

/-- The states of a safety input (R444, R780). -/
inductive InState where
  | opened | closed | fault | notJudged
  deriving DecidableEq, Repr, Inhabited

/-- One safety input as one channel judges it (R444 to R448). Channel times are counts of 100 ps on the channel's own clock. -/
structure ChanInput where
  /-- filtered level of SIiA, of SIiB | 2 bits | 11 R445 | DESIGN CHOICE 0, inactive (log 11) -/
  lvlA : Bool
  lvlB : Bool
  /-- channel time of the filtered change of each line | model's own | 11 R447 | 0 -/
  tA : Nat
  tB : Nat
  /-- SAFE.IN_STATE of input i | 2 bits | 11 R444 | OPEN (R780) -/
  st : InState
  /-- one line has changed and the other has not followed since | model's own | 11 R447 | none -/
  waitSince : Option Nat
  /-- in FAULT: both lines have been seen inactive; of an ACK input: a discrepancy has spoilt the press | 1 bit | 11 R447, R448 | 0 -/
  bothOff : Bool
  /-- ACK: both lines active since | model's own | 11 R448 | none -/
  ackSince : Option Nat
  /-- ACK: time of the first release of the two lines after a press | model's own | 11 R448 | none -/
  ackRelease : Option Nat
  /-- ACK: a valid acknowledgement waits for the next evaluation | 1 bit | 11 R448 | 0 -/
  ack : Bool
  /-- the last test pulse failed on SIiA, on SIiB | 2 bits | 11 R446 | 0 -/
  tpFailA : Bool
  tpFailB : Bool
  /-- a test-pulse fault stands on SIiA, on SIiB | 2 bits | 11 R446, R456 | 0 -/
  tpFaultA : Bool
  tpFaultB : Bool
  deriving DecidableEq, Repr, Inhabited

/-- The stop function a group runs (R483, R486). -/
inductive StopFn where
  | sto | ss1r | ss1t
  deriving DecidableEq, Repr, Inhabited

/-- The EDM window running in one channel (R494): of kind ON or OFF, with its start in channel time. -/
structure EdmWindow where
  kindOn : Bool
  start : Nat
  deriving DecidableEq, Repr, Inhabited

/-- One STO group as one channel holds it (R436, R455). -/
structure ChanGroup where
  /-- SAFE_GRP[n].STATE_P, STATE_H | 3 bits each | 11 R436 | INIT (R123) -/
  st : SafeState
  /-- causes latched on the group, bit c for cause code c (R456, R510) | 32 bits | 11 R456 | 0 -/
  latched : Nat
  /-- an acknowledgement is taken (R455 row 3) | 1 bit | 11 R455 | 0 -/
  acked : Bool
  /-- agreement requests: bit 0 SAFE_OFF to READY, bit 1 READY to ENABLED, bit 2 DEGRADED to ENABLED | 3 bits | 11 R442 | 0 -/
  request : Nat
  /-- start-up test record: inputs seen opened, seen closed again (SAFE_GRP[n] 0x06) | 8 + 8 bits | 11 R449 | 0 -/
  opened : Nat
  closed : Nat
  /-- stop function running, its start (channel time) and v0 (rpm) (SAFE_GRP[n] 0x08, 0x09) | — | 12 R483 | STO, 0, 0 -/
  fn : StopFn
  tStart : Nat
  v0 : Int
  /-- speed below V_SS since | model's own | 12 R483 | none -/
  belowSince : Option Nat
  /-- degraded time in units of 100 ps (SAFE_GRP[n].DEG_TIME in ms) | 32 bits of ms | 12 R509 | 0 -/
  degTime : Nat
  /-- channel time at which DEGRADED was last left for ENABLED | model's own | 12 R509 | none -/
  enSince : Option Nat
  /-- filtered EDMn level, 1 RELEASED (SAFE_GRP[n] 0x07) | 1 bit | 12 R492 | DESIGN CHOICE 1 (log 11) -/
  edm : Bool
  /-- running EDM window (SAFE_GRP[n] 0x07) | 2 bits | 12 R494 | none -/
  edmWin : Option EdmWindow
  /-- the group's lines were generated at the last evaluation | 1 bit | 12 R494 | 0 -/
  wasToggling : Bool
  /-- state, EDM level of the other channel differ since | model's own | 11 R443 | none -/
  diffState : Option Nat
  diffEdm : Option Nat
  deriving DecidableEq, Repr, Inhabited

/-- One encoder as one channel decodes it (R479 to R482). Order: ENC_P0, ENC_H0, ENC_P1, ENC_H1 (R781). -/
structure ChanEnc where
  /-- count | 32 bits signed | 12 R479 | DESIGN CHOICE 0 (log 11) -/
  count : Int
  /-- samples (channel time, count), newest first, over the last T_SPD | model's own | 12 R480 | none -/
  samples : List (Nat × Int)
  /-- speed, rpm | 16 bits signed | 12 R480 | 0 -/
  speed : Int
  /-- evaluations in a row with the same count | 7 bits | 12 R481 | 0 -/
  still : Nat
  /-- SAFE_AX STATUS FROZEN | 1 bit | 12 R481, 19 R780 | 0 (R758) -/
  frozen : Bool
  /-- the decoder shows a fault (ENC_FAULT) | 1 bit | 12 R479 | 0 -/
  fault : Bool
  /-- count at the first Z edge since CORE became ON (channel P) or since the AON reset (channel H) | 32 bits or none | 12 R479 | none -/
  zRef : Option Int
  /-- channel time since which the decoder has been free of the fault | model's own | 12 R510 | 0 -/
  cleanSince : Nat
  /-- the other channel's speed of this encoder differs since | model's own | 12 R482 | none -/
  diffSpeed : Option Nat
  deriving DecidableEq, Repr, Inhabited

/-- The cross-check word one channel publishes (R440, R781). -/
structure XWord where
  seq : Nat
  states : Vector SafeState 4
  requests : Vector Nat 4
  lines : Nat
  inStates : Vector InState 8
  discFault : Nat
  tpFault : Nat
  edm : Nat
  srst : Bool
  judge : Nat
  counts : Vector Int 4
  speeds : Vector Int 4
  time : Nat
  sig : Nat
  /-- XCHK_P: TICK_PERIOD; XCHK_H: the kill latch -/
  extra : Nat
  gens : Nat
  /-- permit values and telegram causes channel P carries for channel H (R499): per receiver permit, LOST A, LOST B, TEL_DIFF -/
  tel : Nat
  /-- bench time of the samples (model's own) -/
  at_ : Nat
  deriving DecidableEq, Repr, Inhabited

/-- One channel of the safety supervisor (R433). -/
structure SafeChan where
  /-- the channel's own clock, 100 ps since its start: 32 per CORE_CLK cycle in channel P, a calibrated 8,000 RC clocks per cycle in
  channel H (R439) | model's own | 11 R433 | 0 -/
  clk : Nat
  /-- the eight inputs as the channel judges them | — | 11 R444 | — -/
  ins : Vector ChanInput 8
  /-- the four groups as the channel holds them | — | 11 R436 | — -/
  grps : Vector ChanGroup 4
  /-- the four encoders as the channel decodes them | — | 12 R479 | — -/
  encs : Vector ChanEnc 4
  /-- axis speed difference above V_DIFF since, per axis | model's own | 12 R481 | none -/
  axDiff : Vector (Option Nat) 2
  /-- input state of the other channel differs since | model's own | 11 R443 | none -/
  diffIn : Vector (Option Nat) 8
  /-- active parameter signature as the channel computed it | 32 bits | 11 R452 | 0 -/
  sig : Nat
  /-- channel time of the last evaluation | model's own | 11 R433 | 0 -/
  evalAt : Nat
  /-- bench time at which the channel's present samples were taken | model's own | 12 R482 | 0 -/
  sampleAt : Nat
  /-- discrepancy faults last seen in the other channel's word, bit i for input i | 8 bits | 11 R443 | 0 -/
  seenDisc : Nat
  /-- the other channel's updates do not advance (XCHK_TIMEOUT) | 1 bit | 11 R441, R456 | 0 -/
  xchkBad : Bool
  /-- the channel's self-test has passed | 1 bit | 11 R455 | DESIGN CHOICE 0 until a self-test passes (log 11) -/
  selftestOk : Bool
  /-- filtered level of SRST_N | 1 bit | 12 R495 | DESIGN CHOICE 1 (log 11) -/
  srst : Bool
  /-- pulse judgement: 0 none, 1 valid, 2 invalid, 3 stuck | 2 bits | 12 R496, 19 R781 | 0 -/
  judge : Nat
  /-- sequence number last seen of the other channel, and when | 16 bits | 11 R441 | 0 -/
  seenSeq : Nat
  seenAt : Nat
  /-- the first cross-check exchange is complete | 1 bit | 11 R455 | 0 -/
  exchanged : Bool
  /-- the word the channel last wrote: SAFE.XCHK_P or SAFE.XCHK_H | 24 words | 11 R440 | 0 (R758) -/
  word : XWord
  deriving DecidableEq, Repr, Inhabited

/-- A valid copy of a telegram that waits for its counterpart (R504). -/
structure WaitCopy where
  /-- 0 network A, 1 network B -/
  net : Nat
  seq : Nat
  octets : List Byte
  /-- tick (count) in which it was processed -/
  tick : Nat
  deriving DecidableEq, Repr, Inhabited

/-- One path of a telegram receiver (R506). -/
structure TelPath where
  /-- SAFE_RX path LOST | 1 bit | 12 R506 | DESIGN CHOICE 0, OK (log 11) -/
  lost : Bool
  /-- a copy has been accepted on the path | 1 bit | 12 R502 | 0 -/
  ever : Bool
  /-- SAFE_RX last SEQ | 32 bits | 12 R502 | 0 (R758) -/
  lastSeq : Nat
  /-- tick (count) of the last valid copy, or of the start of the watchdog | model's own | 12 R506 | 0 -/
  lastTick : Nat
  /-- consecutive valid copies that formed a matched pair while LOST | 4 bits | 12 R506 | 0 -/
  run : Nat
  deriving DecidableEq, Repr, Inhabited

/-- One telegram receiver (R502 to R508). -/
structure TelRx where
  pathA : TelPath
  pathB : TelPath
  /-- SAFE_RX permit | 1 bit | 12 R505 | 0 (R505) -/
  permit : Bool
  /-- SAFE_RX TEL_DIFF present | 1 bit | 12 R508 | 0 (R758) -/
  diff : Bool
  /-- copies waiting for a counterpart | — | 12 R504 | none -/
  waiting : List WaitCopy
  /-- sequence of the newest copy that carried a 0 (R518) | 32 bits or none | 12 R518 | none -/
  zeroSeq : Option Nat
  deriving DecidableEq, Repr, Inhabited

/-- One telegram transmitter (R501). -/
structure TelTx where
  /-- SEQ of the next telegram | 32 bits | 12 R501 | 1 (R501) -/
  seq : Nat
  /-- PERMIT last sent | 16 bits | 12 R501 | 0 -/
  lastPermit : Nat
  /-- ticks since the last telegram | 7 bits | 12 R501 | 0 -/
  age : Nat
  /-- a change of PERMIT is to be sent in the next tick | 1 bit | 12 R501 | 0 -/
  changed : Bool
  deriving DecidableEq, Repr, Inhabited

/-- The safety supervisor: both channels and what they share. -/
structure Safety where
  /-- channel P | — | 11 R433 | — -/
  p : SafeChan
  /-- channel H | — | 11 R433 | — -/
  h : SafeChan
  /-- SAFE_PAR, the active image, words that are not 0 | 256 words | 11 R450, 19 R778 | LAYOUT 0x0001 only: no record (log 13) -/
  par : List (Nat × Word)
  /-- SAFE_PARSTG, the staged image | 256 words | 11 R450, 19 R778 | LAYOUT 0x0001 only -/
  stg : List (Nat × Word)
  /-- a confirmed image waiting for a lockout clear (SAFE_STATUS.PARAM_PENDING) | 256 words or none | 11 R453 | none -/
  confirmed : Option (List (Nat × Word))
  /-- a valid parameter record is loaded | 1 bit | 03 R130, 11 R456 | 0 (log 13) -/
  hasPar : Bool
  /-- SAFE_STATUS.KILL_LATCH | 1 bit | 11 R437, 18 R740 | 0 -/
  kill : Bool
  /-- clock causes present: CLOCK_XO, CLOCK_CORE, CLOCK_H | 3 bits | 11 R438, R456 | 0 -/
  clockXo : Bool
  clockCore : Bool
  clockH : Bool
  /-- CORE has been ON since CORE_EN was last set (R438, R169) | 1 bit | 11 R438 | 0 -/
  coreSeen : Bool
  /-- SAFE_CAUSE: GROUP, STATE, CAUSE of the most recent entry | 10 bits | 18 R741 | 0 (R741) -/
  causeGrp : Nat
  causeState : Nat
  causeCode : Nat
  /-- the self-tests of a lockout clear run (R457) | 1 bit | 11 R457 | 0 -/
  clearing : Bool
  /-- groups whose causes had gone at the rising edge of the pulse (R469, R470) | 4 bits | 11 R457 | 0 -/
  clearOk : Nat
  /-- channel H's calibration factor: its RC oscillator's frequency, Hz | INTERNAL | 11 R439 | 32,000,000 (R439) -/
  calib : Nat
  /-- channel H's clock at the release of the last reset, from which SRST_N must be seen high for 100 ms (R153, R495), 0.1 ns | model's own | 12 R495 | 0 -/
  srstFrom : Nat
  /-- SRST_STUCK has been raised in this hold (R496) | 1 bit | 12 R496 | 0 -/
  srstStuck : Bool
  /-- channel H's clock at the end of the mask of the last test pulse on TPA, on TPB | model's own | 11 R446 | none -/
  tpAt : Vector (Option Nat) 2
  /-- levels read back on STO0A, STO0B, … STO3B in a fault | 8 bits | 12 R488 | 0 -/
  stoFault : Nat
  /-- SAFE cells handed to channel P's reserved slot, oldest first, each with its network | INTERNAL | 02 R71 | none -/
  inbox : List (Nat × Cell)
  /-- SAFE.TEL_REJ_CNT, STICK | 32 bits | 12 R502, 19 R780 | 0 (R758) -/
  telRej : Nat
  /-- tick (count) in which EV_SAFE_TEL_REJECT was last raised | model's own | 12 R502 | none -/
  telRejTick : Option Nat
  /-- the four transmitters | — | 12 R501 | — -/
  tx : Vector TelTx 4
  /-- the eight receivers | — | 12 R502 | — -/
  rx : Vector TelRx 8
  /-- bench time (2^-40 ns) at which a group last came to READY with none near energy before it | model's own | 15 R650 | none -/
  nearFrom : Option Nat
  /-- levels of QSTOP0, QSTOP1 | 2 bits | 12 R491 | 0 (low, R491) -/
  qstop : Vector Bool 2
  /-- QSTOP levels evaluated by channel P, due in DISPATCH | 2 bits | 12 R491 | 0 -/
  qstopNext : Vector Bool 2
  deriving DecidableEq, Repr, Inhabited

/-! ## Host access, transactions and long operations (chapter 13) -/

/-- What one host master has of its own (R526, R539). -/
structure HostPort where
  /-- WIN_ADDR_L and WIN_ADDR_H as one window address | 24 bits | 13 R535, 18 R723 | 0 (R723) -/
  winAddr : Nat
  /-- WIN_CTRL.VIEW, 1 STAGED | 1 bit | 13 R535, 18 R725 | 0 (R725) -/
  staged : Bool
  /-- TXN_ERR.CODE | 8 bits | 18 R729 | 0 (R729) -/
  errCode : Nat
  /-- TXN_ERR.INDEX | 8 bits | 18 R729 | 0 (R729) -/
  errIndex : Nat
  /-- OP_ARG0 | 16 bits | 18 R731 | 0 (R731) -/
  arg0 : Word
  /-- OP_ARG1 | 16 bits | 18 R731 | 0 (R731) -/
  arg1 : Word
  /-- OP_STATUS and OP_RESULT: ticket of the last accepted operation; none: none yet | 8 bits or none | 18 R732 | none (R732) -/
  lastTicket : Option Nat
  /-- OP_STATUS.STATE of that operation, 0 to 6 | 3 bits | 18 R732 | 0 (R732) -/
  lastState : Nat
  /-- OP_STATUS.ABORT_IGNORED | 1 bit | 18 R732 | 0 (R732) -/
  lastIgnored : Bool
  /-- OP_RESULT: RESULT in 15:8, CAUSE in 7:0 | 16 bits | 18 R733 | 0 (R733) -/
  lastResult : Nat
  /-- STALE flag in MASTER_STATUS | 1 bit | 13 R540, 18 R745 | 0 (R745) -/
  stale : Bool
  /-- base address of the ROL group latched; none: none | 24 bits or none | 13 R539 | none -/
  latched : Option Nat
  /-- holding registers of the ROL groups: word address and word, sorted, words of 0 not listed | INTERNAL type 0x0B | 13 R539 | 0x0000 (R540) -/
  rolHold : List (Nat × Word)
  /-- holding registers of the multiword writes: word address and word, sorted, words of 0 not listed | INTERNAL type 0x0B | 13 R541 | 0x0000 (R748) -/
  wrHold : List (Nat × Word)
  /-- words delivered to this master by its last access, as on HB_D or MP_MISO | 16 bits each | 13 R528, R531 | none -/
  readData : List Word
  deriving DecidableEq, Repr, Inhabited

/-- The latest write or command of a master, as a read of the same arbitration cycle needs it (R544, R570). -/
structure Wrote where
  /-- bench time (2^-40 ns) -/
  at_ : Nat
  by_ : Master
  /-- the address written, and the target it names (R542) -/
  addr : Nat
  target : Nat
  /-- what the word read as before it, in the active and in the staged view -/
  act : Word
  staged : Word
  deriving DecidableEq, Repr, Inhabited

/-- One conflict record of HOST.CONFLICT (R543). -/
structure Conflict where
  target : Nat
  winner : Master
  /-- 1 HB, 2 MP, 3 JTAG (R746) -/
  loser : Nat
  winVal : Word
  loseVal : Word
  tick : Nat
  deriving DecidableEq, Repr, Inhabited

/-- One command echo (R602, R761). -/
structure Echo where
  /-- address of the echoed word -/
  addr : Nat
  /-- command code or value -/
  value : Nat
  args : List Nat
  master : Master
  result : Nat
  /-- low 32 bits of the tick of acceptance -/
  tick : Nat
  seq : Nat
  deriving DecidableEq, Repr, Inhabited

/-- TXN_STATUS.STATE (R545, R727). -/
inductive TxnState where
  | idle | opened | pending | armed | proposed | prepared | agreed
  deriving DecidableEq, Repr, Inhabited

/-- How a pending commit's boundary was named (R547, R567). -/
inductive CommitKind where
  | next | atTick | atTime | dist
  deriving DecidableEq, Repr, Inhabited

/-- The transaction (R545). -/
structure Txn where
  /-- TXN_STATUS.STATE | 3 bits | 13 R545, 18 R727 | IDLE (R727) -/
  st : TxnState
  /-- TXN_STATUS.OWNER | 2 bits | 18 R727 | NONE (R727) -/
  owner : Option Master
  /-- TXN_STATUS.RESULT, 0x0 to 0x8 | 4 bits | 18 R727 | NONE (R727) -/
  result : Nat
  /-- TXN_STATUS.ABORT_IGNORED | 1 bit | 18 R727 | 0 (R727) -/
  abortIgnored : Bool
  /-- TXN.COMMIT_TICK | 64 bits | 13 R545, 19 R766 | 0 (R758) -/
  commitTick : Nat
  /-- kind of the pending commit | — | 13 R567 | next -/
  kind : CommitKind
  /-- the staged copy has been validated and waits for the flip | 1 bit | 13 R548 | 0 -/
  validated : Bool
  /-- tick (count) in whose DISPATCH a flip took place that comes into force at the next boundary | model's own | 13 R548 | none -/
  flipTick : Option Nat
  /-- the words flipped then | model's own | 13 R548, R549 | none -/
  flipWords : List Nat
  /-- the counters whose SRC or GATE that flip changed | model's own | 14 R601 | none -/
  flipCnts : List Nat
  /-- the sources that the flip set from OUT_OF_SERVICE to IN_SERVICE | model's own | 05 R192 | none -/
  flipReturns : List Nat
  /-- bench time (2^-40 ns) of the last flip and the owner whose commit it was | model's own | 13 R564 | none -/
  flipBy : Option (Nat × Master)
  /-- addresses of the words written in the transaction | — | 13 R548, R549 | none -/
  written : List Nat
  /-- staged copies of the words written in the open transaction, sorted by address | R111 | 13 R548 | none -/
  staged : List (Nat × Word)
  /-- TXN_AT_H:TXN_AT_L in effect | 32 bits | 18 R728 | 0 (R728) -/
  at_ : Nat
  /-- TXN.AT_TIME: nanoseconds and seconds | 80 bits | 19 R766 | 0 (R758) -/
  atNs : Nat
  atSec : Nat
  /-- TXN.CFG.TIMEOUT, s | 16 bits | 13 R555, 19 R766 | 10 (R555) -/
  timeout : Nat
  /-- DC_ID with which ARM_DC or COMMIT_DIST was accepted | 16 bits | 13 R553 | 0 -/
  armId : Nat
  /-- channel P's time (0.1 ns) at which TXN_TIMEOUT last began to run afresh, its suspensions taken out | model's own | 13 R555 | none -/
  touchAt : Option Nat
  /-- while TXN_TIMEOUT is suspended: how much of it had run, 0.1 ns | model's own | 13 R555 | none -/
  spent : Option Nat
  /-- TXN.DC_ID | 16 bits | 19 R766 | 0 (R758) -/
  dcId : Nat
  /-- TXN.DC_MASK | 32 bits | 19 R766 | 0 (R758) -/
  dcMask : Nat
  /-- TXN.DC_NET | 2 bits | 19 R766 | 0 (R758) -/
  dcNet : Nat
  /-- TXN.ERR_LIST: code, index and address of up to eight failures | 8 × 3 words | 13 R551, 19 R766 | none -/
  errList : List (Nat × Nat × Nat)
  deriving DecidableEq, Repr, Inhabited

/-- OP_STATUS.STATE of a long operation (R560, R732). -/
inductive OpState where
  | none | queued | held | running | done | aborted | abortedPower
  deriving DecidableEq, Repr, Inhabited

/-- One long operation (R557, R767). -/
structure LongOp where
  ticket : Nat
  /-- the issuing master; none: the device itself (automatic model save, SHUTDOWN) -/
  issuer : Option Master
  code : Nat
  arg0 : Word
  arg1 : Word
  st : OpState
  /-- OP_RESULT.RESULT and CAUSE once it is finished -/
  result : Nat
  cause : Nat
  /-- tick of completion, low 32 bits -/
  tick : Nat
  /-- ABORT_IGNORED (R569) -/
  abortIgnored : Bool
  /-- an ABORT waits for the next step boundary (R561) -/
  aborting : Bool
  /-- bench time (2^-40 ns) at which it finished, for R569 -/
  doneAt : Nat
  /-- what it took over when it started: the record data it writes, or SAFE_CONFIRM's copy of the staged image (R779) -/
  data : List Word
  /-- sequence number of its command echo, where skipped triples are counted (R785) -/
  echoSeq : Nat
  deriving DecidableEq, Repr, Inhabited

/-! ## Events, counters, fault log and snapshot (chapter 14) -/

/-- One fault-log record before it is laid out (R593); SEQ is given when it is programmed. -/
structure LogRec where
  sec : Nat
  ns : Nat
  age : Nat
  event : Nat
  origin : Nat
  rpt : Nat
  unit : Nat
  cause : Nat
  deriving DecidableEq, Repr, Inhabited

/-- The event logic (R574). -/
structure Events where
  /-- raises since the last SAMPLE | 256 bits | 14 R574 | 0 -/
  raised : BitVec 256
  /-- occurrences latched in the last SAMPLE | 256 bits | 14 R574 | 0 -/
  latched : BitVec 256
  /-- bench time (2^-40 ns) of the EVALUATE that last took them into the sticky bits | model's own | 14 R608 | none -/
  setAt : Option Nat
  /-- EVT_RAW, EVENTS.RAW | 256 bits | 14 R575, 18 R736 | 0 (R736) -/
  raw : BitVec 256
  /-- EVT_STATUS, EVENTS.STICKY | 256 bits | 14 R574, 18 R736 | 0 (R736) -/
  sticky : BitVec 256
  /-- EVT_MASK, EVENTS.MASK (AON) | 256 bits | 14 R577, 18 R736 | all 1 (R736) -/
  mask : BitVec 256
  /-- EVENTS.LAST_TICK[e], listed where not 0 | 256 × 32 bits | 14 R574 | 0 (R578) -/
  lastTick : List (Nat × Nat)
  /-- EVT_GRP_SEL.GROUP | 3 bits | 18 R735 | 0 (R735) -/
  grpSel : Nat
  /-- IRQ_ROUTE (AON) | 16 bits | 14 R577, 18 R737 | 0 (R737) -/
  route : Word
  /-- IRQ0_N, IRQ1_N asserted | 2 pins | 14 R581 | 0, released (R581) -/
  irq0 : Bool
  irq1 : Bool
  deriving DecidableEq, Repr, Inhabited

/-- One counter (R597). -/
structure Counter where
  /-- CNT[c].VALUE | 48 bits | 14 R597 | 0 (R758) -/
  value : Nat
  /-- CNT[c].STAT.WRAPS, saturating | 8 bits | 14 R597 | 0 (R758) -/
  wraps : Nat
  /-- CNT[c].STAT.SAT | 1 bit | 14 R597 | 0 (R758) -/
  sat : Bool
  deriving DecidableEq, Repr, Inhabited

/-- What one counter was offered in a CORE_CLK cycle (R611, R612). -/
structure CntCycle where
  /-- bench time (2^-40 ns) of the cycle; none: nothing offered yet | model's own | 14 R611 | none -/
  at_ : Option Nat
  /-- the counter before the counts of that cycle | model's own | 14 R611 | 0 -/
  base : Counter
  /-- counts of its source in that cycle, whatever its gate | model's own | 14 R612 | 0 -/
  offered : Nat
  /-- they have made it wrap or saturate | 1 bit | 14 R600 | 0 -/
  over_ : Bool
  deriving DecidableEq, Repr, Inhabited

/-- The fault log (R592 to R596). -/
structure FaultLog where
  /-- LOG.BUF, oldest first, at most 16 entries | 16 × 32 octets | 14 R595, 03 R137 | empty (kept by resets) -/
  buf : List LogRec
  /-- SEQ of the next record | 32 bits | 14 R593 | 0 -/
  nextSeq : Nat
  /-- slot that the next record is programmed into | 9 bits | 14 R595 | 0 -/
  slot : Nat
  /-- LOG.LOST_CNT, STICK | 16 bits | 14 R594, 19 R786 | 0 (R758) -/
  lost : Nat
  /-- XO age at which each event number was last logged, plus 1 (0: never) | 256 × 32 bits, listed | 14 R594 | none -/
  lastAge : List (Nat × Nat)
  /-- REPEAT counts owed, per event number, listed | 256 × 16 bits | 14 R594 | none -/
  repeats : List (Nat × Nat)
  /-- records written in the running 24 h: XO age and how many, newest first | — | 14 R594 | none -/
  written : List (Nat × Nat)
  deriving DecidableEq, Repr, Inhabited

/-- The snapshot (R604 to R607). -/
structure Snapshot where
  /-- SNAP_CTRL.HOLD | 1 bit | 18 R738 | 0 (R738) -/
  hold : Bool
  /-- SNAP_CTRL.TRIG_EN | 1 bit | 18 R738 | 0 (R738) -/
  trigEn : Bool
  /-- SNAP.TRIG_EVT | 8 bits | 19 R788 | 0 (R758) -/
  trigEvt : Nat
  /-- requests waiting for the next EVALUATE: REQ, eyelet, and the tick (count) from which they are due | 2 bits | 14 R604 | 0 -/
  reqDue : Bool
  eyeDue : Bool
  reqNext : Bool
  /-- SNAP_STATUS.STATE VALID | 1 bit | 18 R739 | 0 (R739) -/
  valid : Bool
  /-- SNAP_STATUS SRC_REQ, SRC_EYE, SRC_TRIG | 3 bits | 18 R739 | 0 (R739) -/
  srcReq : Bool
  srcEye : Bool
  srcTrig : Bool
  /-- SNAP_STATUS.OVERRUN | 1 bit | 18 R739 | 0 (R739) -/
  overrun : Bool
  /-- SNAP_STATUS.MISSED, saturating | 8 bits | 18 R739 | 0 (R739) -/
  missed : Nat
  /-- SNAP_STATUS.EXPORTING | 1 bit | 18 R739 | 0 (R739) -/
  exporting : Bool
  /-- RELEASE has come since the last mark: the next mark replaces a held image | 1 bit | 14 R606 | 0 -/
  released : Bool
  /-- SNAP.MARK_TIME bench time, 2^-16 ns | 96 bits | 19 R788 | 0 (R758) -/
  markTime : Nat
  /-- SNAP.MARK_TIME tick | 64 bits | 19 R788 | 0 (R758) -/
  markTick : Nat
  /-- SNAP.IMAGE, words that are not 0, by offset | 0x860 words | 19 R789 | 0 (R789) -/
  image : List (Nat × Word)
  /-- SNAP.EXPORT, words that are not 0, by offset | 0x868 words | 19 R790 | 0 (R790) -/
  exp : List (Nat × Word)
  deriving DecidableEq, Repr, Inhabited

/-! ## NVM and OTP (chapters 03, 14, 15, 19) -/

/-- The NVM and its engine (R138, R783). -/
structure Nvm where
  /-- NVM octets, sorted by address, octets of 0xFF not listed | 64 KiB | 19 R783 | kept (DESIGN CHOICE erased, log 14) -/
  mem : List Host.Cell
  /-- NVM.BUSY: sector of a running erase or program | 1 + 5 bits | 19 R786 | 0 (R758) -/
  busy : Option Nat
  deriving DecidableEq, Repr, Inhabited

/-- The OTP (R628). -/
structure Otp where
  /-- KEY, octet 0 first; never readable | 256 bits | 15 R628 | DESIGN CHOICE blank (log 15) -/
  key : List Byte
  /-- KEY_SET | 1 fuse | 15 R628 | DESIGN CHOICE 0 (log 15) -/
  keySet : Bool
  /-- KEY_CHECK | 32 bits | 15 R628 | DESIGN CHOICE 0 (log 15) -/
  keyCheck : Nat
  /-- DBG_POLICY fuses burned: NOSESS_MAX pair in bits 1:0, SESS_MAX pair in bits 3:2 | 4 fuses | 15 R628 | DESIGN CHOICE 0 (log 15) -/
  policy : Nat
  /-- PROFILE_LOCK[p] fuses burned | 4 × 16 fuses | 15 R628 | DESIGN CHOICE 0 (log 15) -/
  lock : Vector Nat 4
  deriving DecidableEq, Repr, Inhabited

/-- The service session, the exchange buffer and the debug level (R619 to R636). -/
structure Security where
  /-- SEC_STATUS.LC: FIELD | 1 bit | 15 R619 | from OTP at BOOT: UNPROVISIONED -/
  field : Bool
  /-- SEC.SESSION.MASTER; none: no session | 2 bits | 15 R620 | none (R742) -/
  session : Option Master
  /-- SEC.SESSION.END_CAUSE | 4 bits | 15 R622, 19 R787 | 0 (R758) -/
  endCause : Nat
  /-- SEC.SESSION opening time, 2^-16 ns | 96 bits | 15 R622 | 0 (R758) -/
  openTime : Nat
  /-- the session master's last access, in 100 ps of CORE_CLK time (the count of channel P's clock) | model's own | 15 R622 | 0 -/
  lastAccess : Nat
  /-- master of the outstanding challenge | 2 bits | 15 R626, 18 R742 | none (R742) -/
  challenge : Option Master
  /-- the challenge drawn, 16 octets | 128 bits | 15 R626 | none -/
  chalOctets : List Byte
  /-- end of its 60 s, in 100 ps of CORE_CLK time (as lastAccess) | model's own | 15 R626 | 0 -/
  chalEnd : Nat
  /-- SEC.BUF | 16 words | 15 R624 | 0 (R744) -/
  buf : Vector Word 16
  /-- SEC.BUF before an operation last cleared it, with the bench time (2^-40 ns) of that | model's own | 15 R624, 18 R754 | none -/
  bufWas : Option (Nat × Vector Word 16)
  /-- SEC_CTRL.PTR | 4 bits | 18 R743 | 0 (R743) -/
  ptr : Nat
  /-- SEC_CTRL.LEVEL | 2 bits | 18 R743 | 0 (R743) -/
  level : Nat
  /-- SEC.FAIL_CNT (AON) | 8 bits | 15 R627 | 0 (power-on, R627) -/
  failCnt : Nat
  /-- end of the running delay, in channel H's time (100 ps); none: no delay. SEC.DELAY_REM shows what is left in s (AON) | 12 bits of s
  | 15 R627 | none (power-on, R627) -/
  delay : Option Nat
  /-- debug level D0 to D2 | 2 bits | 15 R632 | D0 (R634) -/
  dbg : Nat
  /-- channel P is halted by DBG_CTRL (R635) | 1 bit | 15 R635 | 0 -/
  haltP : Bool
  deriving DecidableEq, Repr, Inhabited

/-- The instructions of the TAP (R638). -/
inductive TapInstr where
  | extest | samplePreload | idcode | mapAccess | dbgCtrl | bypass
  deriving DecidableEq, Repr, Inhabited

/-- The IEEE 1149.1 TAP (R637, R638). -/
structure Tap where
  /-- active instruction | 5 bits | 15 R638 | IDCODE (R638) -/
  instr : TapInstr
  /-- boundary cells of the output pins, as a number | scan register | 15 R639 | DESIGN CHOICE 0 (log 16) -/
  cells : Nat
  /-- result of the last MAP_ACCESS: done flag, address, data | 42 bits | 15 R637 | 0 -/
  mapDone : Bool
  mapAddr : Nat
  mapData : Word
  /-- the last write of an INTERNAL word: bench time (2^-40 ns), address and value | model's own | 15 R637 | none -/
  wrote : Option (Nat × Nat × Word)
  deriving DecidableEq, Repr, Inhabited

/-! ## The whole device -/

/-- A fault of the block: the NX2408 has no step that stops it, so this model has none (a closed, empty set of reasons). -/
inductive Fault where
  deriving DecidableEq, Repr

/-- Why a command has no meaning here. -/
inductive Refusal where
  /-- Raised by the dispatcher for a command whose meaning is not written; safe, since no next state is claimed. -/
  | notModelled (mnemonic : String)
  deriving DecidableEq, Repr

/-- The OPER_STATEs of the units of R38, as derived in the last EVALUATE (R40), and which units disagreed then (R42). -/
structure OperTable where
  /-- SRC[s].OPER_STATE | 12 × 2 bits | 05 R182, R191 | OFF (R757) -/
  srcs : Vector Oper 12
  /-- DPLL OPER_STATE (LOOP_STATUS) | 4 × 2 bits | 06 R226, 19 R769 | OFF (R757) -/
  dplls : Vector Oper 4
  /-- APLL OPER_STATE (STATUS) | 2 × 2 bits | 08 R325, 19 R772 | OFF (R757) -/
  aplls : Vector Oper 2
  /-- OUT OPER_STATE (STATUS) | 24 × 2 bits | 09 R356, 19 R773 | OFF (R757) -/
  outs : Vector Oper 24
  /-- LACE[p] port OPER_STATE (STATUS) | 4 × 2 bits | 10 R411, 19 R776 | OFF (R757) -/
  ports : Vector Oper 4
  /-- EYE OPER_STATE (STATUS) | 32 × 2 bits | 02 R93, 19 R775 | OFF (R757) -/
  eyes : Vector Oper 32
  /-- TIO OPER_STATE (STATUS) | 16 × 2 bits | 02 R84, 19 R775 | OFF (R757) -/
  tios : Vector Oper 16
  /-- units that disagreed in the last EVALUATE, bit n for unit n | 12, 4, 2, 24, 4, 32, 16 bits | 01 R42 | 0 -/
  srcDis : Nat
  dpllDis : Nat
  apllDis : Nat
  outDis : Nat
  portDis : Nat
  eyeDis : Nat
  tioDis : Nat
  deriving DecidableEq, Repr, Inhabited

/-- Configuration: the active copies of the RWS words that differ from their reset values, sorted by address (R111),
and the plain RW words of the state map that no unit above holds. -/
structure CfgStore where
  /-- active copy of every RWS word: those that differ from the reset value, sorted by address | 16 bits each | 03 R111, 19 R759 | every word at its reset value (R123) -/
  active : List (Nat × Word)
  /-- the active copy before the last selector flip, and the bench time (2^-40 ns) of that flip | model's own | 19 R795 | none, none -/
  before : List (Nat × Word)
  beforeAt : Option Nat
  /-- INTERNAL words written at D2, sorted by address | 16 bits each | 19 R791 | none -/
  intern : List (Nat × Word)
  deriving DecidableEq, Repr, Inhabited

/-- What a reset in the same cycle takes back of a write of PWR_CTRL or DEV_CMD, beside what every reset clears: the mode unit with MODE_HIST,
PWR_PEND, the SOFT bit of RESET_CAUSE and the fault log (R146). -/
structure Undo where
  /-- bench time of the write, 2^-40 ns -/
  bench : Nat
  mode : ModeUnit
  pwrPend : Nat
  soft : Bool
  log : FaultLog
  deriving DecidableEq, Repr, Inhabited

/-- The state of one NX2408 hub. -/
structure State where
  time : TimeUnit
  eyes : Vector Eyelet 32
  wins : Vector Window 8
  /-- GATE.STATE | 8 bits | 02 R95, 19 R775 | CLOSED (R95) -/
  gates : Vector Bool 8
  tios : Vector TioPin 16
  pwr : PowerUnit
  mode : ModeUnit
  srcs : Vector Source 12
  dplls : Vector Dpll 4
  hos : Vector Holdover 4
  model : Model
  aplls : Vector Apll 2
  spll : Spll
  outs : Vector Output 24
  fods : Vector Fod 8
  /-- LOCK pin | 1 pin | 06 R234 | 0 (R716) -/
  lockPin : Bool
  /-- bench time of the last step of bench time (R364 JUMP), 2^-16 ns | 96 bits or none | 09 R364 | none -/
  lastJump : Option Nat
  ports : Vector LacePort 4
  lace : LaceDev
  safe : Safety
  hb : HostPort
  mp : HostPort
  /-- MASTER_STATUS.MASTER_PRIO is MP | 1 bit | 13 R544, 18 R745 | STRAP[3] (R123) -/
  prioMp : Bool
  /-- HOST.CONFLICT, newest first, at most 8 | 8 × 8 words | 13 R543 | none -/
  conflicts : List Conflict
  /-- the latest write of a master | model's own | 13 R544 | none -/
  wrote : Option Wrote
  /-- CONFLICT_LOG.COUNT | 8 bits | 18 R746 | 0 (R746) -/
  conflictCnt : Nat
  /-- HOST.ECHO_LOG and the echo groups, newest first, at most 32 in the log and the newest per word | R602 | 14 R602 | none -/
  echoes : List Echo
  /-- echo sequence number | 16 bits | 14 R602, 19 R761 | 0 (R758) -/
  echoSeq : Nat
  txn : Txn
  /-- HOST.OPQ, oldest first, at most 4 | 4 × 8 words | 13 R557 | empty -/
  opq : List LongOp
  /-- HOST.OPH, newest first, at most 16 | 16 × 8 words | 13 R557 | none -/
  oph : List LongOp
  /-- next ticket | 8 bits | 13 R557 | DESIGN CHOICE 0 (log 17) -/
  ticket : Nat
  evt : Events
  cnts : Vector Counter 16
  /-- the last cycle in which each counter was offered a count | — | 14 R611 | — -/
  cntCyc : Vector CntCycle 16
  log : FaultLog
  snap : Snapshot
  nvm : Nvm
  otp : Otp
  sec : Security
  tap : Tap
  cfg : CfgStore
  opers : OperTable
  /-- what the first write of PWR_CTRL or DEV_CMD at this bench time found, for a reset of the same cycle (R146) | model's own | 03 R146 | none -/
  undo : Option Undo
  /-- the model's own count of free values drawn (random challenges) | model's own | 15 R626 | DESIGN CHOICE 0 (log 18) -/
  draws : Nat
  /-- the commands that wait, first in, first out (the model's own) | — | — | empty -/
  pending : List Instr
  deriving DecidableEq, Repr, Inhabited

/-! ## The state a power-on reset leaves (R122, R123, R708) -/

/-- The reset image of the safety parameters: no record, so only LAYOUT is not 0 (R778). -/
def parBlank : List (Nat × Word) := [(0, 0x0001)]

/-- An output as reset leaves it: OUT_OF_SERVICE, with the reset settings of R335 in force. -/
def Output.atReset : Output :=
  { (default : Output) with cur := { sel := 0, idx := 0, div := 40, high := 0, coarse := 0, fine := 0, presc := 0 } }

/-- A sensor set of the Last model that holds nothing (R285). -/
def SensorSet.blank : SensorSet := { (default : SensorSet) with tref := none }

/-- A DPLL as reset leaves it: FREERUN, nothing selected, its next acquisition the first (R262). -/
def Dpll.atReset : Dpll := { (default : Dpll) with outQl := 15, firstAcq := true }

/-- One STO group of one channel as a power-on reset leaves it (R123). -/
def ChanGroup.atReset : ChanGroup := { (default : ChanGroup) with edm := true }

/-- One channel of the safety supervisor as a power-on reset leaves it. -/
def SafeChan.atReset : SafeChan := { (default : SafeChan) with grps := Vector.replicate 4 ChanGroup.atReset, srst := true }

/-- The IDLE cell a transmitter sends when nothing waits (R387, R388). -/
def idleCell : Cell :=
  { typ := 0, ver := 1, scope := .link, txPort := 0, net := 0, src := 0, dst := 0x3F, hops := 0, seq := 0,
    payload := List.replicate 21 0 }

/-- The NX2408 in the power-on reset (R122, R123): MODE is RESET, POR holds, every field at the value R708 and R758 give it. -/
def State.reset : State :=
  { time := { (default : TimeUnit) with inc := 0x033333333333, period := 250, phase := .guard, rrRef := 7, rrLace := 3 }
    eyes := Vector.replicate 32 default
    wins := Vector.replicate 8 default
    gates := Vector.replicate 8 false
    tios := Vector.replicate 16 default
    pwr := { (default : PowerUnit) with resetHeld := 1, resetCause := 1, resetClass := 2 }
    mode := default
    srcs := Vector.replicate 12 default
    dplls := Vector.replicate 4 Dpll.atReset
    hos := Vector.replicate 4 default
    model := { (default : Model) with ts := SensorSet.blank, die := SensorSet.blank }
    aplls := Vector.replicate 2 default
    spll := { (default : Spll) with freqInUse := 25000000 }
    outs := Vector.replicate 24 Output.atReset
    fods := Vector.replicate 8 default
    lockPin := false
    lastJump := none
    ports := Vector.replicate 4 { (default : LacePort) with slot := idleCell }
    lace := { (default : LaceDev) with qlLast := 15 }
    safe := { (default : Safety) with
      p := SafeChan.atReset, h := SafeChan.atReset, par := parBlank, stg := parBlank, calib := 32000000,
      tx := Vector.replicate 4 { (default : TelTx) with seq := 1 } }
    hb := default
    mp := default
    prioMp := false
    conflicts := []
    conflictCnt := 0
    wrote := none
    echoes := []
    echoSeq := 0
    txn := { (default : Txn) with timeout := 10 }
    opq := []
    oph := []
    ticket := 0
    evt := { (default : Events) with mask := BitVec.allOnes 256 }
    cnts := Vector.replicate 16 default
    cntCyc := Vector.replicate 16 default
    log := default
    snap := default
    nvm := default
    otp := { (default : Otp) with key := List.replicate 32 0 }
    sec := default
    tap := { (default : Tap) with instr := .idcode }
    cfg := default
    opers := default
    undo := none
    draws := 0
    pending := [] }

end Sys2Proof.Machine
end

