-- ==== Sys2Proof/Machine/Ops.lean ====
section
/-!
DEFINITION. Sys2Proof/Machine/Ops.lean: the named operations that the meanings share: indexed banks, sparse stores of words and
octets, check codes, rounding, bench time, and the counting of hardware edges.
-/
namespace Sys2Proof.Machine

/-! ## Banks of like things -/

/-- Entry `i` of a bank; the default value outside it. -/
def vat {α : Type} {n : Nat} [Inhabited α] (v : Vector α n) (i : Nat) : α := v.toArray.toList.getD i default

/-- The bank with entry `i` changed by `f`; unchanged where `i` is outside it. -/
def vupd {α : Type} {n : Nat} (v : Vector α n) (i : Nat) (f : α → α) : Vector α n :=
  ⟨(v.toArray.toList.modify i f).toArray, by simp⟩

/-- The bank with every entry changed by `f`, which also sees the entry's number. -/
def vmap {α β : Type} {n : Nat} (f : Nat → α → β) (v : Vector α n) : Vector β n :=
  ⟨(v.toArray.toList.mapIdx f).toArray, by simp⟩

/-- The bank of `n` entries whose entry `i` is `f i`. -/
def vmk {α : Type} (n : Nat) (f : Nat → α) : Vector α n := ⟨((List.range n).map f).toArray, by simp⟩

/-- A step made for each number below `n` in rising order. -/
def forN {σ : Type} (n : Nat) (f : Nat → σ → σ) (s : σ) : σ := (List.range n).foldl (fun t i => f i t) s

/-- The first `room` entries of a list; all of them where there is no bound. -/
def takeRoom {α : Type} (room : Option Nat) (l : List α) : List α :=
  match room with
  | some r => l.take r
  | none => l

/-! ## Sparse stores: sorted lists of key and value, with no entry equal to what an unlisted key reads as -/

/-- The value at a key, or `d` where the key is not listed. -/
def sget {α : Type} (d : α) : List (Nat × α) → Nat → α
  | [], _ => d
  | (k, v) :: xs, a => if k = a then v else sget d xs a

/-- The store with `v` at key `a`: storing the default removes the entry, so that equal stores are equal lists. -/
def sput {α : Type} [DecidableEq α] (d v : α) (a : Nat) : List (Nat × α) → List (Nat × α)
  | [] => if v = d then [] else [(a, v)]
  | (k, w) :: xs =>
    if a < k then (if v = d then (k, w) :: xs else (a, v) :: (k, w) :: xs)
    else if k = a then (if v = d then xs else (a, v) :: xs)
    else (k, w) :: sput d v a xs

/-- The store with `v` at key `a`, listed whatever `v` is (a store of words written). -/
def lput {α : Type} (v : α) (a : Nat) : List (Nat × α) → List (Nat × α)
  | [] => [(a, v)]
  | (k, w) :: xs => if a < k then (a, v) :: (k, w) :: xs else if k = a then (a, v) :: xs else (k, w) :: lput v a xs

/-- The canonical form of a store: keys strictly rising from `lo`, no entry equal to the default. -/
def swfFrom {α : Type} [DecidableEq α] (d : Nat → α) : Nat → List (Nat × α) → Bool
  | _, [] => true
  | lo, (k, v) :: xs => decide (lo ≤ k) && decide (v ≠ d k) && swfFrom d (k + 1) xs

/-- The store whose default value depends on the key (the configuration store, R111, R758). -/
def sgetD {α : Type} (d : Nat → α) (xs : List (Nat × α)) (a : Nat) : α := sget (d a) xs a

/-! ## Check codes -/

/-- One bit step of a reflected CRC. -/
def crcRefStep (poly r : Nat) : Nat := if r % 2 = 1 then (r >>> 1) ^^^ poly else r >>> 1

/-- A reflected CRC over octets, from a start value. -/
def crcRef (poly : Nat) : List Byte → Nat → Nat
  | [], r => r
  | b :: bs, r => crcRef poly bs ((List.range 8).foldl (fun x _ => crcRefStep poly x) (r ^^^ b.toNat))

/-- CRC-32C as R390 states it: polynomial 0x1EDC_6F41 reflected, start and final inversion all ones. -/
def crc32c (bs : List Byte) : Nat := crcRef 0x82F63B78 bs 0xFFFFFFFF ^^^ 0xFFFFFFFF

/-- One bit step of an unreflected CRC of width `w`. -/
def crcMsbStep (w poly r : Nat) : Nat :=
  if r.testBit (w - 1) then ((r <<< 1) % 2 ^ w) ^^^ poly else (r <<< 1) % 2 ^ w

/-- An unreflected CRC over octets, from a start value. -/
def crcMsb (w poly : Nat) : List Byte → Nat → Nat
  | [], r => r
  | b :: bs, r => crcMsb w poly bs ((List.range 8).foldl (fun x _ => crcMsbStep w poly x) (r ^^^ (b.toNat <<< (w - 8))))

/-- The octets of a word, bits 7:0 first (R783). -/
def octetsOf (w : Word) : List Byte := [w.setWidth 8, (w >>> 8).setWidth 8]

/-- The octets of a list of words, in the order of R783. -/
def octetsOfWords (ws : List Word) : List Byte := ws.flatMap octetsOf

/-- The `k` octets of a number, least significant first. -/
def octetsLE (k n : Nat) : List Byte := (List.range k).map fun i => BitVec.ofNat 8 (n >>> (8 * i))

/-- The `k` octets of a number, most significant first. -/
def octetsBE (k n : Nat) : List Byte := (octetsLE k n).reverse

/-- The number that octets spell, least significant first. -/
def ofOctetsLE : List Byte → Nat
  | [] => 0
  | b :: bs => b.toNat + 256 * ofOctetsLE bs

/-- The number that octets spell, most significant first. -/
def ofOctetsBE (bs : List Byte) : Nat := ofOctetsLE bs.reverse

/-! ## Rounding and roots -/

/-- Nearest whole number to num/den, halves away from zero (den > 0). -/
def roundHalf (num : Int) (den : Nat) : Int :=
  if 0 ≤ num then (2 * num + den) / (2 * den) else -((2 * (-num) + den) / (2 * den))

/-- A quotient whose rounding the spec does not state: exact where it divides, else the free choice between the two
neighbours (DESIGN CHOICE, log 1). -/
def quotFree (tag : Nat) (num : Int) (den : Nat) : Int :=
  let q := num.fdiv den
  if num.fmod den = 0 then q else if Config.roundUp tag num den then q + 1 else q

/-- A rational as a whole number, with the free rounding of log 1. -/
def ratFree (tag : Nat) (x : Rat) : Int := quotFree tag x.num x.den

/-- Nearest whole number to a rational, halves away from zero. -/
def ratNear (x : Rat) : Int := roundHalf x.num x.den

/-- The IEEE 754 binary64 pattern of a number (R785), with the free rounding of log 1; beyond the format's range the pattern is a free
value (log 12). -/
def binary64 (x : Rat) : Nat :=
  let a := x.num.natAbs
  if a = 0 then 0 else
  let e0 : Int := (Nat.log2 a : Int) - (Nat.log2 x.den : Int)
  let e1 : Int := if x.den * 2 ^ e0.toNat ≤ a * 2 ^ (-e0).toNat then e0 else e0 - 1
  let e := max e1 (-1022)
  let q := quotFree 61 ((a * 2 ^ (52 - e).toNat : Nat) : Int) (x.den * 2 ^ (e - 52).toNat)
  let n := ((e + 1022) * 2 ^ 52 + q).toNat
  if n < 2047 * 2 ^ 52 then (if x.num < 0 then 2 ^ 63 + n else n) else wrapI 64 (Config.unstated 61 x.num x.den)

/-- The number that a binary64 pattern stands for (R785); for the patterns of no finite number a free value (log 12). -/
def ofBinary64 (n : Nat) : Rat :=
  let e : Nat := n / 2 ^ 52 % 2048
  let m : Nat := n % 2 ^ 52 + (if e = 0 then 0 else 2 ^ 52)
  let e1 : Nat := max e 1
  if e = 2047 then (Config.unstated 63 n 0 : Rat) else
  let v : Rat := if 1075 ≤ e1 then (m : Rat) * 2 ^ (e1 - 1075) else (m : Rat) / 2 ^ (1075 - e1)
  if n / 2 ^ 63 % 2 = 1 then -v else v

/-- The floor of a square root, by bisection over `fuel` bits. -/
def isqrtAux (n : Nat) : Nat → Nat → Nat
  | 0, r => r
  | k + 1, r => let t := r + 2 ^ k; isqrtAux n k (if t * t ≤ n then t else r)

/-- The floor of a square root of a number below 2^400. -/
def isqrt (n : Nat) : Nat := isqrtAux n 200 0

/-! ## Bench time -/

/-- Units of bench time per 2^-16 ns: bench time counts 2^-40 ns (R56). -/
def u16 : Nat := 2 ^ 24

/-- One nanosecond, and one second, in 2^-16 ns. -/
def ns16 : Nat := 2 ^ 16
def sec16 : Nat := 1000000000 * ns16
def ms16 : Nat := 1000000 * ns16

/-- One second of bench time in its own unit, and the range of bench time: 48 bits of seconds (R56). -/
def secB : Nat := 1000000000 * 2 ^ 40
def benchMod : Nat := secB * 2 ^ 48

/-- Length of a tick in the unit of bench time: TICK_PERIOD × 125 ns (R63). -/
def tickLenB (period : Nat) : Nat := period * 125 * 2 ^ 40

/-- Bench time in 2^-16 ns. -/
def State.now (s : State) : Nat := s.time.bench / u16

/-- Bench seconds. -/
def State.benchSec (s : State) : Nat := s.time.bench / secB

/-- Nanoseconds of the second. -/
def State.benchNs (s : State) : Nat := s.time.bench % secB / 2 ^ 40

/-- Length of the tick in force, in 2^-16 ns. -/
def State.tick16 (s : State) : Nat := tickLenB s.time.period / u16

/-- The tick number, floor(time / tick) (R66). -/
def State.tickNum (s : State) : Nat := s.time.bench / tickLenB s.time.period

/-- The tick number of the tick whose phases run: that of its internal tick edge (R67, R68); before the first tick edge, that of the
present. -/
def State.curTick (s : State) : Nat :=
  if s.time.running then s.time.tickEdge / tickLenB s.time.period else s.tickNum

/-- A time value of 2^-16 ns as its six words: fraction, nanoseconds, seconds (R757). -/
def timeWords (t : Nat) : List Word :=
  wordsLE 1 (t % ns16) ++ wordsLE 2 (t % sec16 / ns16) ++ wordsLE 3 (t / sec16)

/-- Six words of a time value as a count of 2^-16 ns. -/
def ofTimeWords (frac ns sec : Nat) : Nat := sec * sec16 + ns * ns16 + frac

/-- Whether CORE is ON: CORE_CLK is valid (R116). -/
def State.coreOn (s : State) : Bool := s.pwr.core == .on

/-- CORE has cycles that no budgeted job uses: those of EVALUATE and DISPATCH (R72). -/
def spareCycles (s : State) : Bool := s.coreOn && s.time.running && (s.time.phase == .evaluate || s.time.phase == .dispatch)

/-- The domains SYN, OUTL and OUTH are ON. -/
def State.synOn (s : State) : Bool := s.pwr.syn == .on
def State.outlOn (s : State) : Bool := s.pwr.outl == .on
def State.outhOn (s : State) : Bool := s.pwr.outh == .on

/-- Whether a reset holds the device, or has been asserted and waits to be applied (R122, R144, R147). -/
def State.inReset (s : State) : Bool := s.pwr.resetHeld != 0 || s.pwr.resetWaits

/-- Whether the host is served: not in RESET, not in BOOT (R125, R162, R529). -/
def State.served (s : State) : Bool := !s.inReset && !s.pwr.booting

/-- Whether writes and commands of the host act: while it is served and SHUTDOWN, which serves only reads, has not been entered (R142, R161). -/
def State.writable (s : State) : Bool := s.served && s.pwr.shut != .ended

/-- Host commands of CORE words reach the device only while it serves the host and CORE is ON (R17, R125, R162). -/
def State.servedCore (s : State) : Bool := s.served && s.coreOn

/-! ## Accesses of one cycle -/

/-- The value of a host word at the start of the cycle of a write at bench time `b`, where an earlier write may be of the same cycle
(R219, R258; log 64). -/
def cycleStart {α : Type} (b : Nat) (last : Option (Nat × α)) (v : α) : α :=
  match last with
  | some (c, w) => if c = b then w else v
  | none => v

/-! ## Updating one part of the state -/

abbrev State.onTime (s : State) (f : TimeUnit → TimeUnit) : State := { s with time := f s.time }
abbrev State.onPwr (s : State) (f : PowerUnit → PowerUnit) : State := { s with pwr := f s.pwr }
abbrev State.onMode (s : State) (f : ModeUnit → ModeUnit) : State := { s with mode := f s.mode }
abbrev State.onEye (s : State) (n : Nat) (f : Eyelet → Eyelet) : State := { s with eyes := vupd s.eyes n f }
abbrev State.onWin (s : State) (n : Nat) (f : Window → Window) : State := { s with wins := vupd s.wins n f }
abbrev State.onTio (s : State) (n : Nat) (f : TioPin → TioPin) : State := { s with tios := vupd s.tios n f }
abbrev State.onSrc (s : State) (n : Nat) (f : Source → Source) : State := { s with srcs := vupd s.srcs n f }
abbrev State.onDpll (s : State) (n : Nat) (f : Dpll → Dpll) : State := { s with dplls := vupd s.dplls n f }
abbrev State.onHo (s : State) (n : Nat) (f : Holdover → Holdover) : State := { s with hos := vupd s.hos n f }
abbrev State.onModel (s : State) (f : Model → Model) : State := { s with model := f s.model }
abbrev State.onApll (s : State) (n : Nat) (f : Apll → Apll) : State := { s with aplls := vupd s.aplls n f }
abbrev State.onSpll (s : State) (f : Spll → Spll) : State := { s with spll := f s.spll }
abbrev State.onOut (s : State) (n : Nat) (f : Output → Output) : State := { s with outs := vupd s.outs n f }
abbrev State.onFod (s : State) (n : Nat) (f : Fod → Fod) : State := { s with fods := vupd s.fods n f }
abbrev State.onPort (s : State) (n : Nat) (f : LacePort → LacePort) : State := { s with ports := vupd s.ports n f }
abbrev State.onLace (s : State) (f : LaceDev → LaceDev) : State := { s with lace := f s.lace }
abbrev State.onSafe (s : State) (f : Safety → Safety) : State := { s with safe := f s.safe }
abbrev State.onTxn (s : State) (f : Txn → Txn) : State := { s with txn := f s.txn }
abbrev State.onEvt (s : State) (f : Events → Events) : State := { s with evt := f s.evt }
abbrev State.onCnt (s : State) (n : Nat) (f : Counter → Counter) : State := { s with cnts := vupd s.cnts n f }
abbrev State.onLog (s : State) (f : FaultLog → FaultLog) : State := { s with log := f s.log }
abbrev State.onSnap (s : State) (f : Snapshot → Snapshot) : State := { s with snap := f s.snap }
abbrev State.onNvm (s : State) (f : Nvm → Nvm) : State := { s with nvm := f s.nvm }
abbrev State.onSec (s : State) (f : Security → Security) : State := { s with sec := f s.sec }
abbrev State.onTap (s : State) (f : Tap → Tap) : State := { s with tap := f s.tap }

/-- One host port. -/
def State.host (s : State) : Master → HostPort
  | .hb => s.hb
  | .mp => s.mp

/-- The state with one host port changed; the other port is not affected (R526). -/
def State.onHost (s : State) (m : Master) (f : HostPort → HostPort) : State :=
  match m with
  | .hb => { s with hb := f s.hb }
  | .mp => { s with mp := f s.mp }

end Sys2Proof.Machine
end

