-- ==== Sys2Proof/Machine/Operands.lean ====
section
/-!
DEFINITION. Sys2Proof/Machine/Operands.lean: the configuration words (access RWS) of the state map: where each field lies, its
reset value and the values it may take (R755 to R788, with the ranges of the functional chapters), and the reading of a field from
a view of the configuration. A view is any assignment of a word to each address: the active copy, or the copy that a commit would
give.
-/
namespace Sys2Proof.Machine

/-- A view of the configuration: the word at each address. -/
abbrev View := Nat → Nat

/-- One configuration field: first word's offset in its block, words spanned, lowest bit, width, reset value, and which values it
may take (R16). -/
structure Fld where
  off : Nat
  words : Nat
  lo : Nat
  width : Nat
  reset : Nat := 0
  ok : Nat → Bool := fun _ => true

/-- Values from `a` to `b`. -/
def rng (a b n : Nat) : Bool := decide (a ≤ n) && decide (n ≤ b)

/-- Signed values of width `w` from `a` to `b`. -/
def srng (w : Nat) (a b : Int) (n : Nat) : Bool := decide (a ≤ signedN w n) && decide (signedN w n ≤ b)

/-- The value of the `k` words from address `a` on. -/
def wordsAt (c : View) (a : Nat) : Nat → Nat
  | 0 => 0
  | k + 1 => c a + 65536 * wordsAt c (a + 1) k

/-- The value of a field of the block at `base`. -/
def Fld.val (f : Fld) (c : View) (base : Nat) : Nat := (wordsAt c (base + f.off) f.words >>> f.lo) % 2 ^ f.width

/-- The value of a field as a truth value, and as a signed number. -/
def Fld.on (f : Fld) (c : View) (base : Nat) : Bool := f.val c base != 0
def Fld.int (f : Fld) (c : View) (base : Nat) : Int := signedN f.width (f.val c base)

/-! ## Block bases (R755) -/
def refBase (n : Nat) : Nat := 0x010000 + n * 0x100
def dpllBase (n : Nat) : Nat := 0x020000 + n * 0x400
def hoBase (n : Nat) : Nat := 0x030000 + n * 0x40
def modelBase : Nat := 0x030100
def apllBase (n : Nat) : Nat := 0x040000 + n * 0x100
def spllBase : Nat := 0x040200
def outBase (n : Nat) : Nat := 0x050000 + n * 0x80
def fodBase (k : Nat) : Nat := 0x050C00 + k * 0x20
def bankBase (b : Nat) : Nat := 0x050E00 + b * 0x10
def eyeBase (n : Nat) : Nat := 0x060000 + n * 0x40
def winBase (w : Nat) : Nat := 0x060800 + w * 0x40
def tioBase (n : Nat) : Nat := 0x060A00 + n * 0x40
def laceBase (p : Nat) : Nat := 0x070000 + p * 0x100
def laceDevBase : Nat := 0x070400
def cntBase (c : Nat) : Nat := 0x090400 + c * 0x20
def logSelBase (g : Nat) : Nat := 0x0AA210 + 2 * g

/-- The block that holds the words of source `s` (R181). -/
def srcBase (s : Nat) : Nat := if s < 8 then refBase s else laceBase (s - 8)

/-! ## Fields -/

/-- ADMIN_STATE, at offset 0 of every block that has one (R757). -/
def fAdmin : Fld := { off := 0, words := 1, lo := 0, width := 1 }

-- DEVICE, TIME and TICK (R764)
def fSetSec : Fld := { off := 0x10C, words := 3, lo := 0, width := 48 }
def fSetEn : Fld := { off := 0x10F, words := 1, lo := 0, width := 1 }
def fPeriod : Fld := { off := 0x110, words := 1, lo := 0, width := 13, reset := 250, ok := rng 80 8000 }
def fQlOption : Fld := { off := 0x16B, words := 1, lo := 0, width := 1 }
def fAutoStart : Fld := { off := 0x16C, words := 1, lo := 0, width := 1 }

-- REF (R182, R768)
def fInMode : Fld := { off := 1, words := 1, lo := 0, width := 2, ok := rng 0 2 }
def fInTerm : Fld := { off := 1, words := 1, lo := 4, width := 1 }
def fInBias : Fld := { off := 1, words := 1, lo := 5, width := 1 }
def fInEdge : Fld := { off := 1, words := 1, lo := 6, width := 1 }
def fNomFreq : Fld := { off := 2, words := 3, lo := 0, width := 48 }
def fPrediv : Fld := { off := 5, words := 2, lo := 0, width := 24, ok := rng 1 16777215 }
def fDecode : Fld := { off := 7, words := 1, lo := 0, width := 1 }
-- words shared by REF and LACE sources
def fReject : Fld := { off := 8, words := 1, lo := 0, width := 16, reset := 100, ok := rng 1 65535 }
def fAccept : Fld := { off := 9, words := 1, lo := 0, width := 16, reset := 50, ok := rng 1 65535 }
def fGate : Fld := { off := 0xA, words := 1, lo := 0, width := 3, reset := 2, ok := rng 0 6 }
def fBaseSel : Fld := { off := 0xA, words := 1, lo := 8, width := 1 }
def fActWin : Fld := { off := 0xB, words := 1, lo := 0, width := 8, reset := 16, ok := rng 10 128 }
def fHitThr : Fld := { off := 0xC, words := 1, lo := 0, width := 16, reset := 250, ok := rng 1 65535 }
def fHitAction : Fld := { off := 0xD, words := 1, lo := 0, width := 1 }
def fHoldoff : Fld := { off := 0xE, words := 1, lo := 0, width := 16, reset := 1000, ok := rng 10 65535 }
def fQlSrc : Fld := { off := 0xF, words := 1, lo := 0, width := 1 }
def fQlForce : Fld := { off := 0xF, words := 1, lo := 1, width := 1 }
def fQlTimeout : Fld := { off := 0x10, words := 1, lo := 0, width := 16, reset := 1000, ok := rng 10 10000 }

-- DPLL (R222, R769)
def fBw : Fld := { off := 1, words := 1, lo := 0, width := 5, reset := 9, ok := rng 0 20 }
def fDamp : Fld := { off := 1, words := 1, lo := 5, width := 3, reset := 3, ok := rng 0 4 }
def fNStages : Fld := { off := 1, words := 1, lo := 8, width := 3, ok := rng 0 4 }
def fRelock : Fld := { off := 1, words := 1, lo := 11, width := 1 }
def fFirstStep : Fld := { off := 1, words := 1, lo := 12, width := 1, reset := 1 }
def fHitBo : Fld := { off := 1, words := 1, lo := 13, width := 1 }
def fAcqTimeout : Fld := { off := 2, words := 1, lo := 0, width := 16, reset := 60, ok := rng 1 3600 }
def fStageBw (k : Nat) : Fld := { off := 4 + 2 * k, words := 1, lo := 0, width := 5, ok := rng 0 20 }
def fStageDamp (k : Nat) : Fld := { off := 4 + 2 * k, words := 1, lo := 5, width := 3, ok := rng 0 4 }
def fStageDwell (k : Nat) : Fld := { off := 5 + 2 * k, words := 1, lo := 0, width := 16, ok := rng 1 65535 }
def fLockWin : Fld := { off := 0xC, words := 2, lo := 0, width := 32, reset := 2000, ok := rng 10 1000000 }
def fUnlockWin : Fld := { off := 0xE, words := 2, lo := 0, width := 32, reset := 10000, ok := rng 10 1000000 }
def fLockCnt : Fld := { off := 0x10, words := 1, lo := 0, width := 16, reset := 64, ok := rng 1 65535 }
def fUnlockCnt : Fld := { off := 0x11, words := 1, lo := 0, width := 16, reset := 8, ok := rng 1 65535 }
def fFbSel : Fld := { off := 0x12, words := 1, lo := 0, width := 2, ok := rng 0 2 }
def fFbNom : Fld := { off := 0x13, words := 3, lo := 0, width := 48 }
def fFbPrediv : Fld := { off := 0x16, words := 2, lo := 0, width := 24, ok := rng 1 16777215 }
def fTicknum : Fld := { off := 0x18, words := 1, lo := 0, width := 2, reset := 1, ok := rng 0 2 }
def fSlew : Fld := { off := 0x19, words := 2, lo := 0, width := 32, reset := 1000, ok := rng 1 1000000 }
def fAccel : Fld := { off := 0x1B, words := 2, lo := 0, width := 32, reset := 1000, ok := rng 1 10000000 }
def fHostEn : Fld := { off := 0x1D, words := 1, lo := 0, width := 1 }
def fWdog : Fld := { off := 0x1E, words := 1, lo := 0, width := 16, reset := 1000, ok := rng 1 60000 }
def fSelMode : Fld := { off := 0x28, words := 1, lo := 14, width := 2, ok := rng 0 2 }
def fRevertive : Fld := { off := 0x28, words := 1, lo := 13, width := 1 }
def fQlEn : Fld := { off := 0x28, words := 1, lo := 12, width := 1 }
def fQlMin : Fld := { off := 0x28, words := 1, lo := 8, width := 4 }
def fForcedSrc : Fld := { off := 0x28, words := 1, lo := 0, width := 4, ok := rng 0 13 }
def fWtr : Fld := { off := 0x29, words := 1, lo := 0, width := 16, reset := 300, ok := rng 0 720 }
def fQlHoldover : Fld := { off := 0x2A, words := 1, lo := 8, width := 4, reset := 15 }
def fQlFreerun : Fld := { off := 0x2A, words := 1, lo := 4, width := 4, reset := 15 }
def fQlHostsrc : Fld := { off := 0x2A, words := 1, lo := 0, width := 4, reset := 15 }
def fPrio (s : Nat) : Fld := { off := 0x30 + s, words := 1, lo := 0, width := 4 }

-- HO and MODEL (R263, R264, R771)
def fHistLen : Fld := { off := 0, words := 2, lo := 0, width := 32, reset := 3600, ok := rng 1 86400 }
def fHistGuard : Fld := { off := 2, words := 1, lo := 0, width := 10, reset := 1, ok := rng 0 600 }
def fModelEn : Fld := { off := 2, words := 1, lo := 15, width := 1, reset := 1 }
def fHistMin : Fld := { off := 3, words := 2, lo := 0, width := 32, reset := 10, ok := rng 1 86400 }
def fHoRamp : Fld := { off := 5, words := 1, lo := 0, width := 16, reset := 1000 }
def fLearnEn : Fld := { off := 0, words := 1, lo := 0, width := 1, reset := 1 }
def fLearnSrc : Fld := { off := 0, words := 1, lo := 1, width := 1 }
def fAgePower : Fld := { off := 0, words := 1, lo := 2, width := 1 }
def fLearnQlMin : Fld := { off := 0, words := 1, lo := 4, width := 4, reset := 4 }
def fLearnSettle : Fld := { off := 1, words := 1, lo := 0, width := 16, reset := 600, ok := rng 0 3600 }
def fLearnTc : Fld := { off := 2, words := 1, lo := 0, width := 16, reset := 7, ok := rng 1 30 }
def fAgeTau : Fld := { off := 3, words := 1, lo := 0, width := 16, reset := 100, ok := rng 1 10000 }
def fResMax : Fld := { off := 4, words := 1, lo := 0, width := 16, reset := 200, ok := rng 1 65535 }
def fTsEn : Fld := { off := 8, words := 1, lo := 15, width := 1 }
/-- NF: 1.008 is 4128.768 steps of 2^-12; DEDUCED (log 30) as the nearest code, and its range as the codes within it. -/
def fTsNf : Fld := { off := 8, words := 1, lo := 0, width := 13, reset := 4129, ok := rng 3687 4505 }
def fTsOffset : Fld := { off := 9, words := 1, lo := 0, width := 16, ok := srng 16 (-1000) 1000 }

-- APLL and SPLL (R298, R303, R772)
def fNInt : Fld := { off := 1, words := 1, lo := 0, width := 7, reset := 40, ok := rng 31 116 }
def fRefdiv : Fld := { off := 1, words := 1, lo := 8, width := 5, reset := 10, ok := rng 8 25 }
def fApllMode : Fld := { off := 1, words := 1, lo := 15, width := 1 }
def fNum : Fld := { off := 2, words := 2, lo := 0, width := 32 }
def fDen : Fld := { off := 4, words := 2, lo := 0, width := 32, ok := rng 1 4294967295 }
def fPresc (b : Nat) : Fld := { off := 8 + b, words := 1, lo := 0, width := 3, ok := fun n => n != 1 && n != 7 }
def fSscEn : Fld := { off := 0xC, words := 1, lo := 15, width := 1 }
def fSscType : Fld := { off := 0xC, words := 1, lo := 14, width := 1 }
def fSscDev : Fld := { off := 0xC, words := 1, lo := 0, width := 8, ok := rng 5 200 }
def fSscRate : Fld := { off := 0xD, words := 1, lo := 0, width := 7, ok := rng 30 120 }
def fXoMode : Fld := { off := 0, words := 1, lo := 0, width := 2, ok := rng 0 2 }
def fCload : Fld := { off := 0, words := 1, lo := 8, width := 7, reset := 16, ok := rng 0 64 }
def fXoFreq : Fld := { off := 1, words := 2, lo := 0, width := 32, reset := 25000000 }

-- OUT, FOD and BANK (R335, R336, R773, R774)
def fSel : Fld := { off := 1, words := 1, lo := 13, width := 3, ok := rng 0 4 }
def fIdx : Fld := { off := 1, words := 1, lo := 0, width := 3 }
def fDiv : Fld := { off := 2, words := 2, lo := 0, width := 24, reset := 40, ok := rng 1 16777215 }
def fHigh : Fld := { off := 4, words := 2, lo := 0, width := 25 }
def fCoarse : Fld := { off := 6, words := 1, lo := 0, width := 8 }
def fFine : Fld := { off := 7, words := 1, lo := 0, width := 9 }
def fFormat : Fld := { off := 8, words := 1, lo := 14, width := 2 }
def fCmlAmp : Fld := { off := 8, words := 1, lo := 8, width := 4, ok := rng 0 12 }
def fCmosMode : Fld := { off := 8, words := 1, lo := 4, width := 2, ok := rng 0 2 }
def fOffFormat : Fld := { off := 8, words := 1, lo := 0, width := 1 }
def fSquelch : Fld := { off := 9, words := 1, lo := 0, width := 1 }
def fWmEn : Fld := { off := 0xA, words := 1, lo := 0, width := 1 }
def fSenseEn : Fld := { off := 0xB, words := 1, lo := 0, width := 1, reset := 1 }
def fFodApll : Fld := { off := 0, words := 1, lo := 0, width := 1 }
def fFodDpll : Fld := { off := 0, words := 1, lo := 1, width := 1 }
def fFodFreq : Fld := { off := 1, words := 3, lo := 0, width := 48, ok := rng 65536000000 49152000000000 }
def fVddoLevel : Fld := { off := 0, words := 1, lo := 0, width := 2, reset := 2, ok := rng 0 2 }

-- EYE, WIN and TIO (R85, R96, R79, R775); NS words of a time value lie below one second (R56)
def fAction : Fld := { off := 1, words := 1, lo := 0, width := 4, ok := rng 0 8 }
def fTarget : Fld := { off := 2, words := 1, lo := 0, width := 4 }
def fTimeFrac (o : Nat) : Fld := { off := o, words := 1, lo := 0, width := 16 }
def fTimeNs (o : Nat) : Fld := { off := o + 1, words := 2, lo := 0, width := 32, ok := rng 0 999999999 }
def fTimeSec (o : Nat) : Fld := { off := o + 3, words := 3, lo := 0, width := 48 }
def fIntervalFrac (o : Nat) : Fld := { off := o, words := 1, lo := 0, width := 16 }
def fIntervalNs (o : Nat) : Fld := { off := o + 1, words := 2, lo := 0, width := 32 }
def fWidth : Fld := { off := 9, words := 2, lo := 0, width := 32, ok := rng 4 1000000000 }
def fEyeCount : Fld := { off := 0xE, words := 1, lo := 0, width := 16 }
def fEyeLate : Fld := { off := 0xF, words := 1, lo := 0, width := 1 }
def fEyeNet : Fld := { off := 0x10, words := 1, lo := 0, width := 2 }
def fEyeSource : Fld := { off := 0x11, words := 1, lo := 0, width := 1 }
def fEyeTag : Fld := { off := 0x12, words := 1, lo := 0, width := 8 }
def fWinCount : Fld := { off := 0x10, words := 1, lo := 0, width := 16 }
def fWinLate : Fld := { off := 0x11, words := 1, lo := 0, width := 1 }
def fTioMode : Fld := { off := 1, words := 1, lo := 0, width := 3, ok := rng 0 5 }
def fGateSel : Fld := { off := 2, words := 1, lo := 0, width := 3 }
def fTsOff : Fld := { off := 3, words := 2, lo := 0, width := 32, ok := srng 32 (-65536000) 65536000 }

-- LACE (R382, R383, R776, R777)
def fTxAmp : Fld := { off := 0x40, words := 1, lo := 14, width := 2, reset := 1, ok := rng 0 2 }
def fTxEmph : Fld := { off := 0x40, words := 1, lo := 12, width := 2, ok := rng 0 2 }
def fRxEq : Fld := { off := 0x40, words := 1, lo := 8, width := 3, reset := 2 }
def fTxInv : Fld := { off := 0x40, words := 1, lo := 1, width := 1 }
def fRxInv : Fld := { off := 0x40, words := 1, lo := 0, width := 1 }
def fAsym : Fld := { off := 0x41, words := 2, lo := 0, width := 32, ok := srng 32 (-65536000) 65536000 }
def fNAvg : Fld := { off := 0x43, words := 1, lo := 0, width := 9, reset := 16, ok := rng 1 256 }
def fRttTol : Fld := { off := 0x44, words := 2, lo := 0, width := 32, reset := 2000, ok := rng 100 100000 }
def fSdThr : Fld := { off := 0x46, words := 1, lo := 0, width := 16, reset := 16, ok := rng 1 65535 }
def fLaceAddr : Fld := { off := 0, words := 1, lo := 0, width := 5 }
def fDcGuard : Fld := { off := 1, words := 1, lo := 0, width := 8, reset := 8, ok := rng 4 255 }

-- CNT and LOG (R597, R598, R592, R782, R786)
/-- The listed source codes of a counter (R598). -/
def cntSrcOk (n : Nat) : Bool :=
  rng 0 0x102 n || rng 0x110 0x11F n || rng 0x120 0x12B n || rng 0x130 0x147 n || rng 0x150 0x157 n || rng 0x160 0x163 n
def fCntSrc : Fld := { off := 0, words := 1, lo := 0, width := 9, ok := cntSrcOk }
def fCntGate : Fld := { off := 1, words := 1, lo := 0, width := 4, reset := 0xF, ok := fun n => decide (n < 8) || n == 15 }
def fCntOvf : Fld := { off := 1, words := 1, lo := 8, width := 1 }
def fLogSel : Fld := { off := 0, words := 2, lo := 0, width := 32 }

/-! ## Blocks -/

/-- The kinds of block that hold configuration words. -/
inductive Blk where
  | dev | ref | dpll | ho | model | apll | spll | out | fod | bank | eye | win | tio | lace | laceDev | cnt | logSel
  deriving DecidableEq, Repr

/-- Base of block 0, distance of blocks, number of blocks. -/
def Blk.base : Blk → Nat
  | .dev => 0 | .ref => refBase 0 | .dpll => dpllBase 0 | .ho => hoBase 0 | .model => modelBase | .apll => apllBase 0
  | .spll => spllBase | .out => outBase 0 | .fod => fodBase 0 | .bank => bankBase 0 | .eye => eyeBase 0 | .win => winBase 0
  | .tio => tioBase 0 | .lace => laceBase 0 | .laceDev => laceDevBase | .cnt => cntBase 0 | .logSel => logSelBase 0
def Blk.stride : Blk → Nat
  | .dev => 0x200 | .ref => 0x100 | .dpll => 0x400 | .ho => 0x40 | .model => 0x100 | .apll => 0x100 | .spll => 0x100
  | .out => 0x80 | .fod => 0x20 | .bank => 0x10 | .eye => 0x40 | .win => 0x40 | .tio => 0x40 | .lace => 0x100
  | .laceDev => 0x100 | .cnt => 0x20 | .logSel => 2
def Blk.count : Blk → Nat
  | .dev => 1 | .ref => 8 | .dpll => 4 | .ho => 4 | .model => 1 | .apll => 2 | .spll => 1 | .out => 24 | .fod => 8 | .bank => 4
  | .eye => 32 | .win => 8 | .tio => 16 | .lace => 4 | .laceDev => 1 | .cnt => 16 | .logSel => 8

/-- Fields shared by the two kinds of source (R768). -/
def srcFlds : List Fld :=
  [fReject, fAccept, fGate, fBaseSel, fActWin, fHitThr, fHitAction, fHoldoff, fQlSrc, fQlForce, fQlTimeout]

/-- The configuration fields of each kind of block. -/
def Blk.flds : Blk → List Fld
  | .dev => [fSetSec, fSetEn, fPeriod, fQlOption, fAutoStart]
  | .ref => [fAdmin, fInMode, fInTerm, fInBias, fInEdge, fNomFreq, fPrediv, fDecode] ++ srcFlds
  | .dpll => [fAdmin, fBw, fDamp, fNStages, fRelock, fFirstStep, fHitBo, fAcqTimeout] ++
      (List.range 4).flatMap (fun k => [fStageBw k, fStageDamp k, fStageDwell k]) ++
      [fLockWin, fUnlockWin, fLockCnt, fUnlockCnt, fFbSel, fFbNom, fFbPrediv, fTicknum, fSlew, fAccel, fHostEn, fWdog,
       fSelMode, fRevertive, fQlEn, fQlMin, fForcedSrc, fWtr, fQlHoldover, fQlFreerun, fQlHostsrc] ++
      (List.range 14).map fPrio
  | .ho => [fHistLen, fHistGuard, fModelEn, fHistMin, fHoRamp]
  | .model => [fLearnEn, fLearnSrc, fAgePower, fLearnQlMin, fLearnSettle, fLearnTc, fAgeTau, fResMax, fTsEn, fTsNf, fTsOffset]
  | .apll => [fAdmin, fNInt, fRefdiv, fApllMode, fNum, fDen, fPresc 0, fPresc 1, fPresc 2, fPresc 3, fSscEn, fSscType, fSscDev,
      fSscRate]
  | .spll => [fXoMode, fCload, fXoFreq]
  | .out => [fAdmin, fSel, fIdx, fDiv, fHigh, fCoarse, fFine, fFormat, fCmlAmp, fCmosMode, fOffFormat, fSquelch, fWmEn, fSenseEn]
  | .fod => [fFodApll, fFodDpll, fFodFreq]
  | .bank => [fVddoLevel]
  | .eye => [fAdmin, fAction, fTarget, fTimeFrac 3, fTimeNs 3, fTimeSec 3, fWidth, fIntervalFrac 0xB, fIntervalNs 0xB, fEyeCount,
      fEyeLate, fEyeNet, fEyeSource, fEyeTag]
  | .win => [fAdmin, fTimeFrac 1, fTimeNs 1, fTimeSec 1, fTimeFrac 7, fTimeNs 7, fTimeSec 7, fIntervalFrac 0xD, fIntervalNs 0xD,
      fWinCount, fWinLate]
  | .tio => [fAdmin, fTioMode, fGateSel, fTsOff]
  | .lace => fAdmin :: srcFlds ++ [fTxAmp, fTxEmph, fRxEq, fTxInv, fRxInv, fAsym, fNAvg, fRttTol, fSdThr]
  | .laceDev => [fLaceAddr, fDcGuard]
  | .cnt => [fCntSrc, fCntGate, fCntOvf]
  | .logSel => [fLogSel]

def allBlks : List Blk :=
  [.dev, .ref, .dpll, .ho, .model, .apll, .spll, .out, .fod, .bank, .eye, .win, .tio, .lace, .laceDev, .cnt, .logSel]

/-- The reset selection of the fault log, per event group (R592): every PWR and SAFE event, every event marked F, and the four
kinds it names beside them. -/
def logSelReset : Nat → Nat
  | 0 => 0x00007FFF
  | 3 => 0x0000000C
  | 4 => 0x00000102
  | 6 => 0xFFFFFFFF
  | 7 => 0x05580000
  | _ => 0

/-- The reset value of a field in block `n` of its kind: as the field states, but for MODEL_EN, which resets to 1 for n = 0 and 1
only (R263), and LOG.SEL. -/
def Blk.resetOf (b : Blk) (n : Nat) (f : Fld) : Nat :=
  if b = .ho ∧ f.lo = 15 ∧ 2 ≤ n then 0 else if b = .logSel then logSelReset n else f.reset

/-- Whether a field exists in block `n`: WM_TIME exists in DPLL[0] only (R769). -/
def Blk.has (b : Blk) (n : Nat) (f : Fld) : Bool := !(b == .dpll && n != 0 && f.off == 0x18)

/-- The block, its number and the offset in it of an address. -/
def locate (a : Nat) : Option (Blk × Nat × Nat) :=
  (allBlks.find? fun b => decide (b.base ≤ a) && decide (a < b.base + b.stride * b.count)).map
    fun b => (b, (a - b.base) / b.stride, (a - b.base) % b.stride)

/-- Part of a multiword field value that lies in word `w` of the field's block. -/
def Fld.part (f : Fld) (w v : Nat) : Nat :=
  if f.off ≤ w ∧ w < f.off + f.words then ((v <<< f.lo) >>> (16 * (w - f.off))) % 65536 else 0

/-- The implemented bits of the configuration word at an address; 0 where the address is no configuration word. -/
def cfgMask (a : Nat) : Nat :=
  match locate a with
  | none => 0
  | some (b, n, o) => (b.flds.filter (b.has n)).foldl (fun m f => m ||| f.part o (2 ^ f.width - 1)) 0

/-- The reset value of a configuration word (R123, R758). -/
def resetWord (a : Nat) : Nat :=
  match locate a with
  | none => 0
  | some (b, n, o) => (b.flds.filter (b.has n)).foldl (fun m f => m ||| f.part o (b.resetOf n f)) 0

/-- Whether an address holds a configuration word (access RWS, R759). -/
def isRws (a : Nat) : Bool := cfgMask a != 0

/-- The reset value of a configuration word, as a word. -/
def resetWordW (a : Nat) : Word := Word.ofN (resetWord a)

/-- The active copy of the configuration (R111). -/
def State.act (s : State) : View := fun a => (sgetD resetWordW s.cfg.active a).toNat

/-- The active copy as it was before the last selector flip (R795). -/
def State.beforeFlip (s : State) : View := fun a => (sgetD resetWordW s.cfg.before a).toNat

/-- The copy that a commit would give: the staged copy of every word written, the active copy of every other (R548). -/
def State.stagedView (s : State) : View := fun a => (sget (sgetD resetWordW s.cfg.active a) s.txn.staged a).toNat

/-- The time value or interval of a block's words, in 2^-16 ns. -/
def timeVal (c : View) (base o : Nat) : Nat :=
  ofTimeWords ((fTimeFrac o).val c base) ((fTimeNs o).val c base) ((fTimeSec o).val c base)
def intervalVal (c : View) (base o : Nat) : Nat := (fIntervalNs o).val c base * ns16 + (fIntervalFrac o).val c base

/-- ADMIN_STATE IN_SERVICE of the block at `base` (R39). -/
def inService (c : View) (base : Nat) : Bool := fAdmin.on c base

/-- Nominal input frequency and divider of a source, as a rate in 2^-16 Hz and a divider: for a Lace source the recovered 125 MHz
word clock (R182), divided by 125 for the phase detector (R408). -/
def srcNom (c : View) (s : Nat) : Nat := if s < 8 then fNomFreq.val c (refBase s) else 125000000 * 65536
def srcPrediv (c : View) (s : Nat) : Nat := if s < 8 then fPrediv.val c (refBase s) else 125

/-! ## Bandwidth and damping of a DPLL (R229) -/

/-- Bandwidth of a code in mHz (R229 table). -/
def bwMilli (code : Nat) : Nat :=
  if code = 20 then 4000000 else
  let m := match code % 3 with | 0 => 1 | 1 => 2 | _ => 5
  m * 10 ^ (code / 3)

/-- Damping factor of a code, in thousandths (R229 table). -/
def zetaMilli (code : Nat) : Nat :=
  match code with | 0 => 500 | 1 => 707 | 2 => 1000 | 3 => 2000 | _ => 5000

/-- The natural frequency of a type-2 loop with PI filter whose closed-loop phase transfer has its −3 dB point at BW, in rad/s:
2π·BW / √(1 + 2ζ² + √((1 + 2ζ²)² + 1)), held between two rationals next to it (DEDUCED, log 2). -/
def loopOmega (bw damp : Nat) : Rat :=
  let f := bwMilli bw
  let z := zetaMilli damp
  let a := 1000000 + 2 * z * z
  let g := isqrt ((a + isqrt (a * a + 10 ^ 12)) * 10 ^ 12)      -- 10^9 times the root, rounded down twice
  let lo : Rat := (2 * 3141592653 * f : Nat) / ((1000 * (g + 1000001) : Nat) : Rat)
  let hi : Rat := (2 * 3141592654 * f : Nat) / ((1000 * g : Nat) : Rat)
  max lo (min hi (Config.loopOmega f z))

/-- Coefficients of the loop filter (R229; DEDUCED, log 2): proportional 2ζω and integral ω² per second, in 2^-48 per 2^-16 ns. -/
def loopKp (bw damp : Nat) : Rat := 2 * (zetaMilli damp : Rat) / 1000 * loopOmega bw damp * 2 ^ 32 / 10 ^ 9
def loopKi (bw damp period : Nat) : Rat :=
  loopOmega bw damp * loopOmega bw damp * (period : Rat) / 8000000 * 2 ^ 32 / 10 ^ 9

/-! ## APLL frequencies -/

/-- Nominal VCO frequency of APLL `n` in Hz (R304). -/
def vcoNom (c : View) (n : Nat) : Rat :=
  let b := apllBase n
  let frac : Rat := if fApllMode.on c b then (fNum.val c b : Rat) / (fDen.val c b : Rat) else 0
  2500000000 / (fRefdiv.val c b : Rat) * ((fNInt.val c b : Rat) + frac)

/-- Whether a frequency is a whole number of hertz (and not 0). -/
def wholeHz (f : Rat) : Bool := f.den == 1 && f != 0

/-- An APLL spreads (R321). -/
def spreads (c : View) (n : Nat) : Bool := fSscEn.on c (apllBase n)

/-- An APLL that is aligned to nothing: its VCO frequency is not a whole number of hertz, or it spreads (R312, R322). -/
def unalignable (c : View) (n : Nat) : Bool := !wholeHz (vcoNom c n) || spreads c n

end Sys2Proof.Machine
end

