-- ==== Sys2Proof/Machine/Report.lean ====
section
/-!
DEFINITION. Sys2Proof/Machine/Report.lean: what every family reports through: raising an event (R574, R118, R458), the fault log's
buffer (R592 to R595), the counters (R599, R600), the command echoes (R602, R603), and the passing of CORE_CLK cycles (R58).
-/
namespace Sys2Proof.Machine

/-! ## The fault log -/

/-- Records logged in the last 24 h of XO age (R594). -/
def FaultLog.recent (l : FaultLog) (age : Nat) : Nat :=
  l.written.foldl (fun n p => if age < p.1 + 86400 then n + p.2 else n) 0

/-- Accounts for `k` records logged at an XO age, keeping what 24 h still need. -/
def FaultLog.account (l : FaultLog) (age k : Nat) : FaultLog :=
  { l with written := (age, k) :: l.written.filter fun p => decide (age < p.1 + 86400) }

/-- A record enters the buffer, or is lost at a full buffer (R137) or beyond 8,192 records in 24 h (R594). The loss is counted and
raises EV_HOST_LOG_LOST, which is itself not logged. -/
def logPush (s : State) (r : LogRec) : State :=
  if s.log.buf.length < 16 ∧ s.log.recent r.age < 8192 then
    s.onLog fun l => ({ l with buf := l.buf ++ [r] }).account r.age 1
  else
    let s := s.onLog fun l => { l with lost := stick 16 l.lost }
    if s.coreOn then s.onEvt fun e => { e with raised := e.raised ||| BitVec.twoPow 256 evLogLost } else s

/-- Logs a raise of an event that LOG.SEL selects: once per second of XO age, further raises only counted (R594, R614). -/
def logRaise (s : State) (e origin unit cause : Nat) : State :=
  if bitOf (fLogSel.val s.act (logSelBase (e / 32))) (e % 32) then
    let age := s.model.xoAge
    if sget 0 s.log.lastAge e = age + 1 then
      s.onLog fun l => { l with repeats := sput 0 (min 65535 (sget 0 l.repeats e + 1)) e l.repeats }
    else
      let r : LogRec := { sec := s.benchSec, ns := s.benchNs, age := age, event := e, origin := origin,
                          rpt := sget 0 s.log.repeats e, unit := unit, cause := cause }
      let s := logPush s r
      s.onLog fun l => { l with lastAge := sput 0 (age + 1) e l.lastAge, repeats := sput 0 0 e l.repeats }
  else s

/-- Raises event `e` of unit `unit` with a cause: latched by the next SAMPLE while CORE is ON (R574); while CORE is off a PWR event
is held in PWR_PEND (R118), a SAFE event is held (R458), and no other event exists (R710). -/
def raiseAt (s : State) (e unit cause : Nat) : State :=
  if s.coreOn then logRaise (s.onEvt fun v => { v with raised := v.raised ||| BitVec.twoPow 256 e }) e 0 unit cause
  else if e / 32 = 0 then logRaise (s.onPwr fun p => { p with pwrPend := p.pwrPend ||| 2 ^ (e % 32) }) e 1 unit cause
  else if e / 32 = 6 then logRaise (s.onPwr fun p => { p with safePend := p.safePend ||| 2 ^ (e % 32) }) e 2 unit cause
  else s

/-- Raises an event that has no unit and no cause. -/
def raise (s : State) (e : Nat) : State := raiseAt s e 0 0

/-- Raises an event if a condition holds. -/
def raiseIf (c : Bool) (s : State) (e unit cause : Nat) : State := if c then raiseAt s e unit cause else s

/-! ## Counters -/

/-- `n` counts into a counter, and whether it wrapped or saturated (R600). -/
def Counter.add (wrap : Bool) (n : Nat) (c : Counter) : Counter × Bool :=
  if c.sat then (c, false)
  else if c.value + n < 2 ^ 48 then ({ c with value := c.value + n }, false)
  else if wrap then ({ c with value := (c.value + n) % 2 ^ 48, wraps := stick 8 c.wraps }, true)
  else ({ c with value := 2 ^ 48 - 1, sat := true }, true)

/-- The counter's GATE lets a count pass (R599). -/
def gateOpen (s : State) (c : Nat) : Bool :=
  let g := fCntGate.val s.act (cntBase c)
  g == 15 || vat s.gates g

/-- Counter `c` holds what the counts of this cycle, made through its gate as it is now, make of what it held before them; EV_HOST_CNT_OVF is
raised where it wraps or saturates (R611, R612). -/
def recount (c : Nat) (s : State) : State :=
  let y := vat s.cntCyc c
  let r := y.base.add (fCntOvf.on s.act (cntBase c)) (if gateOpen s c then y.offered else 0)
  raiseIf (r.2 && !y.over_) ({ s.onCnt c fun _ => r.1 with cntCyc := vupd s.cntCyc c fun x => { x with over_ := x.over_ || r.2 } })
    evCntOvf c 0

/-- `n` counts of its source are offered to counter `c` in this CORE_CLK cycle. -/
def countInto (c n : Nat) (s : State) : State :=
  let y := vat s.cntCyc c
  let b := some s.time.bench
  let y : CntCycle := if y.at_ = b then { y with offered := y.offered + n }
    else { at_ := b, base := vat s.cnts c, offered := n, over_ := false }
  recount c { s with cntCyc := vupd s.cntCyc c fun _ => y }

/-- `n` counts of source code `code` into every counter that selects it (R598, R599). -/
def countSrc (code n : Nat) (s : State) : State :=
  if n = 0 ∨ s.coreOn = false then s else
  forN 16 (fun c t => if fCntSrc.val t.act (cntBase c) = code then countInto c n t else t) s

/-- Gate `g` has changed: a source edge of the same CORE_CLK edge is counted if the gate is open after it (R612). -/
def recountGate (g : Nat) (s : State) : State :=
  forN 16 (fun c t =>
    if fCntGate.val t.act (cntBase c) = g ∧ (vat t.cntCyc c).at_ = some t.time.bench then recount c t else t) s

/-! ## Echoes -/

/-- Result codes of an echo beside those of R551 (R762). -/
def resAccepted : Nat := 0x00
def resWrongMode : Nat := 0x70
def resNotService : Nat := 0x71
def resNotFound : Nat := 0x72
def resQueueFull : Nat := 0x73
def resNotHolder : Nat := 0x74
def resSafetyActive : Nat := 0x75
def resSelftest : Nat := 0x76
def resDebugDenied : Nat := 0x77
def resNotRunning : Nat := 0x78

/-- The low 32 bits of the tick of acceptance; 0xFFFFFFFF while CORE is off (R603). -/
def State.echoTick (s : State) : Nat := if s.coreOn then s.tickNum % 2 ^ 32 else 0xFFFFFFFF

/-- Of a list of echoes, newest first, those whose word has no newer echo in it or among `seen`. -/
def newestOnly : List Nat → List Echo → List Echo
  | _, [] => []
  | seen, e :: es => if e.addr ∈ seen then newestOnly seen es else e :: newestOnly (e.addr :: seen) es

/-- Keeps the last 32 echoes (HOST.ECHO_LOG) and, beyond them, the newest echo of each word (R602). -/
def trimEchoes (es : List Echo) : List Echo := es.take 32 ++ newestOnly ((es.take 32).map (·.addr)) (es.drop 32)

/-- The echo of a command: the word's address, code or value, arguments, master and result (R602, R761). -/
def echo (s : State) (m : Master) (addr value : Nat) (args : List Nat) (result : Nat) : State :=
  let e : Echo := { addr := addr, value := value, args := args, master := m, result := result, tick := s.echoTick, seq := s.echoSeq }
  { s with echoes := trimEchoes (e :: s.echoes), echoSeq := (s.echoSeq + 1) % 65536 }

/-! ## Accesses -/

/-- An access by a host master restarts the idle time of its own session (R622). -/
def access (s : State) (m : Master) : State :=
  if s.sec.session = some m then s.onSec fun x => { x with lastAccess := s.safe.p.clk } else s

/-! ## The passing of CORE_CLK cycles -/

/-- The increment of a CORE_CLK cycle for a frequency word of 2^-48: the nominal one of R58 scaled by 1 + w (R305, R308). -/
def incOf (w : Int) : Nat := (quotFree 20 (0x033333333333 * (2 ^ 48 + w)) (2 ^ 48)).toNat

/-- `n` CORE_CLK cycles: bench time advances by `n` increments (R58), the other timescales by theirs (R308), channel P's clock by 3.2 ns
each (R433), and counters of CORE_CLK cycles count (R598), the last of them in the cycle that is reached. -/
def runCycles (n : Nat) (s : State) : State :=
  let s := (countSrc 0x100 (n - 1) s).onTime fun t => { t with bench := (t.bench + n * t.inc) % benchMod }
  let s := s.onSafe fun f => { f with p := { f.p with clk := f.p.clk + 32 * n } }
  countSrc 0x100 (min n 1) { s with dplls := vmap (fun k d =>
    if k = 0 then d else { d with timescale := (d.timescale + n * incOf d.applied) % benchMod }) s.dplls }

end Sys2Proof.Machine
end

