-- ==== Sys2Proof/Machine/Flags.lean ====
section
/-!
DEFINITION. Sys2Proof/Machine/Flags.lean: what other units read of a unit without naming its parts: the combined safety states
(R436), the device mode (R157), SUPPLY_LOW, the clock behaviour of a mode (R161), FAULT_N and the raw conditions (R575, R582).
-/
namespace Sys2Proof.Machine

/-! ## Safety parameters and combined states -/

/-- A word of a safety parameter image (R778). -/
def parW (img : List (Nat × Word)) (off : Nat) : Nat := (sget 0 img off).toNat

/-- A word of the active image. -/
def State.par (s : State) (off : Nat) : Nat := parW s.safe.par off

/-- GRP[n].ARCH: 0 UNUSED, 1 DUAL, 2 SINGLE_HDC (R435, R778). -/
def State.grpArch (s : State) (n : Nat) : Nat := bitsOf (s.par (0x10 + 0x10 * n)) 1 0

/-- A group takes part unless it is UNUSED; without a valid parameter record every group does, since BOOT puts every group into LOCKOUT
(R130). -/
def State.grpUsed (s : State) (n : Nat) : Bool := s.grpArch n != 0 || !s.safe.hasPar

/-- The rank of a safety state in the order in which the combined state is chosen (R436). -/
def SafeState.rank : SafeState → Nat
  | .lockout => 0 | .init => 1 | .startupPending => 2 | .safeOff => 3 | .ready => 4 | .stopping => 5 | .degraded => 6 | .enabled => 7

/-- The code of a safety state (R740). -/
def SafeState.code : SafeState → Nat
  | .init => 0 | .startupPending => 1 | .safeOff => 2 | .ready => 3 | .enabled => 4 | .stopping => 5 | .degraded => 6 | .lockout => 7

/-- The first of two states in the order of R436. -/
def SafeState.combine (a b : SafeState) : SafeState := if a.rank ≤ b.rank then a else b

/-- STATE_P and STATE_H of a group. -/
def State.stP (s : State) (n : Nat) : SafeState := (vat s.safe.p.grps n).st
def State.stH (s : State) (n : Nat) : SafeState := (vat s.safe.h.grps n).st

/-- The combined state of a group: INIT for an UNUSED one, channel H's for a SINGLE_HDC one (R435, R436, R437). -/
def State.grpState (s : State) (n : Nat) : SafeState :=
  if !s.grpUsed n then .init
  else if s.grpArch n = 2 then s.stH n
  else (s.stP n).combine (s.stH n)

/-- ENABLED, STOPPING and DEGRADED: the states with energy (R716 SAFE_ENERGY). -/
def SafeState.energy : SafeState → Bool
  | .enabled => true | .stopping => true | .degraded => true | _ => false

/-- Some group has energy: the condition that R48, R129, R142 and R163 test. -/
def State.safeEnergy (s : State) : Bool := (List.range 4).any fun n => (s.grpState n).energy

/-- Some group other than UNUSED is in LOCKOUT (R582, R716). -/
def State.lockout (s : State) : Bool := (List.range 4).any fun n => s.grpUsed n && s.grpState n == .lockout

/-! ## The device mode -/

/-- Mode codes (R156). -/
def Mode.code : Mode → Nat
  | .reset => 0 | .boot => 1 | .setup => 2 | .standby => 3 | .freerun => 4 | .acquire => 5 | .locked => 6 | .holdover => 7
  | .bypass => 8 | .maintenance => 9 | .supplyLow => 10 | .shutdown => 11

/-- OPMODE codes (R714), and the codes of MAINT_BASE and STANDBY_RET (R764). -/
def OpMode.code : OpMode → Nat
  | .setup => 0 | .run => 1 | .bypass => 2 | .maintenance => 3
def OpMode.baseCode : OpMode → Nat
  | .setup => 0 | .bypass => 1 | .run => 2 | .maintenance => 0

/-- The loop state of a DPLL as a mode. -/
def LoopState.mode : LoopState → Mode
  | .freerun => .freerun | .acquire => .acquire | .locked => .locked | .holdover => .holdover

/-- resolve_mode of R157; with `skip` the supply line is skipped, which gives the underlying mode. -/
def resolveMode (s : State) (skip : Bool) : Mode :=
  if s.inReset then .reset
  else if s.pwr.booting then .boot
  else if s.pwr.shut = .ended then .shutdown
  else if s.pwr.supplyLow && !skip then .supplyLow
  else if s.mode.standby then .standby
  else if s.mode.opmode = .setup || !s.coreOn then .setup
  else if s.mode.opmode = .maintenance then .maintenance
  else if s.mode.opmode = .bypass then .bypass
  else (vat s.dplls 0).loop.mode

/-- The underlying mode (R157). -/
def State.underlying (s : State) : Mode := resolveMode s true

/-- The running modes (R161). -/
def Mode.running : Mode → Bool
  | .freerun => true | .acquire => true | .locked => true | .holdover => true | _ => false

/-- Changes DEV_MODE if the resolution gives another mode: PREV_MODE, MODE_HIST with its cause, and EV_PWR_MODE_CHANGE (R158). -/
def refreshMode (s : State) (cause : Nat) : State :=
  let m := resolveMode s false
  if m = s.mode.mode then s else
  raiseAt (s.onMode fun u => { u with
    mode := m, prev := u.mode,
    hist := ({ newMode := m, oldMode := u.mode, cause := cause, time := s.now } :: u.hist).take 16 }) evModeChange 0 cause

/-- MODE_HIST causes (R765). -/
def mcReset : Nat := 1
def mcBootEnd : Nat := 2
def mcDevCmd : Nat := 3
def mcPwrCtrl : Nat := 4
def mcSupply : Nat := 5
def mcLoop : Nat := 6
def mcCoreFault : Nat := 7
def mcShutdown : Nat := 8

/-- The operation whose clock behaviour is in force: OPMODE, or the base under MAINTENANCE (R161); SETUP while CORE is not ON. -/
def State.clockMode (s : State) : OpMode :=
  if !s.coreOn || s.pwr.booting || s.inReset then .setup
  else if s.mode.opmode = .maintenance then s.mode.maintBase else s.mode.opmode

/-- The loops run (R161, R117): a running mode, or MAINTENANCE with base RUN. -/
def State.loopsRun (s : State) : Bool := s.clockMode == .run

/-- The APLLs are to run (R117, R161): the loops run, or BYPASS. -/
def State.apllsRun (s : State) : Bool := s.clockMode == .run || s.clockMode == .bypass

/-- A unit is under self-test: the running SELFTEST's mask names it (R161, R558; log 39). -/
def State.underTest (s : State) (kind n : Nat) : Bool :=
  match s.opq.find? fun o => o.st == .running && o.code == 6 with
  | some o => Config.underTest o.arg0 kind n
  | none => false

/-- A self-test runs (R163). -/
def State.selftesting (s : State) : Bool := s.opq.any fun o => o.st == .running && o.code == 6

/-! ## Alarms, squelch and the other conditions that events show as levels (R575) -/

/-- Whether the raw condition of the L event `e` holds for at least one unit (R584 to R591). -/
def rawCond (s : State) (e : Nat) : Bool :=
  if e = evDomainFault then s.pwr.core == .fault || s.pwr.syn == .fault || s.pwr.outl == .fault || s.pwr.outh == .fault
  else if e = evSupplyWarn then s.pwr.supplyLow
  else if e = evSynInvalid then s.pwr.bor18
  else if e = evVddoLow then s.pwr.vddoBor.toList.any id
  else if e = evTsReady then s.tios.toList.any fun t => !t.fifo.isEmpty
  else if e = evTimeMismatch then s.opers.eyeDis != 0 || s.opers.tioDis != 0
  else if e = evFreqAlarm then s.srcs.toList.any (·.freqAlarm)
  else if e = evActAlarm then s.srcs.toList.any (·.actAlarm)
  else if e = evRefMismatch then s.opers.srcDis != 0
  else if e = evHoEnter then s.dplls.toList.any fun d => d.loop == .holdover
  else if e = evFbLost then s.dplls.toList.any fun d => d.fb == .lost
  else if e = evFbFrozen then s.dplls.toList.any fun d => d.fb == .frozen
  else if e = evDpllMismatch then s.opers.dpllDis != 0
  else if e = evTsenseFrozen then s.model.tsState == .frozen
  else if e = evTsenseFault then s.model.tsState == .fault
  else if e = evBandFail then (List.range 2).any fun n => (vat s.aplls n).st == .fault && inService s.act (apllBase n)
  else if e = evSteerLimit then s.dplls.toList.any (·.steerLimit)
  else if e = evSynMismatch then s.opers.apllDis != 0 || s.opers.outDis != 0
  else if e = evOutSense then s.outs.toList.any fun o => o.sense != .ok && o.sense != .notChecked
  else if e = evSquelch then s.outs.toList.any (·.squelched)
  else if e = evVddoLevel then s.pwr.vddoOvr.toList.any id
  else if e = evPeerMismatch then s.ports.toList.any (·.wasPeerBad)
  else if e = evLaceMismatch then s.opers.portDis != 0
  else if e = evTickMismatch then s.lace.mismatchA.isSome || s.lace.mismatchB.isSome
  else if e = evAddrConflict then s.ports.toList.any (·.conflictUntil.isSome)
  else if e = evWiring then s.ports.toList.any (·.wiringUntil.isSome)
  else if e = evSignalDegrade then s.ports.toList.any (·.sd)
  else if e = ev 6 2 then s.lockout
  else if e = ev 6 9 then s.safe.clockXo || s.safe.clockCore || s.safe.clockH
  else if e = ev 6 10 then s.safe.p.xchkBad || s.safe.h.xchkBad || (List.range 4).any fun n =>
    bitOf ((vat s.safe.p.grps n).latched ||| (vat s.safe.h.grps n).latched) 0x0D
  else if e = ev 6 28 then s.safe.rx.toList.any fun r => r.pathA.lost && r.pathB.lost
  else false

/-- The L events. -/
def evLevel : List Nat :=
  [evDomainFault, evSupplyWarn, evSynInvalid, evVddoLow, evTsReady, evTimeMismatch, evFreqAlarm, evActAlarm, evRefMismatch, evHoEnter,
   evFbLost, evFbFrozen, evDpllMismatch, evTsenseFrozen, evTsenseFault, evBandFail, evSteerLimit, evSynMismatch, evOutSense,
   evSquelch, evVddoLevel, evPeerMismatch, evLaceMismatch, evTickMismatch, evAddrConflict, evWiring, evSignalDegrade,
   ev 6 2, ev 6 9, ev 6 10, ev 6 28]

/-! ## FAULT_N (R582, R133) -/

/-- The F events whose sticky bit is set, which are pending in PWR_PEND, and whose raw condition holds. -/
def faultSticky (s : State) : List Nat := if s.coreOn then evF.filter fun e => s.evt.sticky.getLsbD e else []
def faultPending (s : State) : List Nat := evF.filter fun e => decide (e < 32) && bitOf s.pwr.pwrPend e
def faultRaw (s : State) : List Nat := evF.filter fun e => evLevel.contains e && rawCond s e

/-- FAULT_N asserted: in RESET and BOOT, and after BOOT while a condition of R582 holds. -/
def faultN (s : State) : Bool :=
  s.inReset || s.pwr.booting || s.lockout || !(faultSticky s).isEmpty || !(faultPending s).isEmpty || !(faultRaw s).isEmpty

end Sys2Proof.Machine
end

