-- ==== Sys2Proof/Machine/Idle.lean ====
section
/-!
DEFINITION. Sys2Proof/Machine/Idle.lean: the passing of time: the clock cycles that advance bench time (R58, R59) and what passes when no
command waits.
-/
namespace Sys2Proof.Machine

/-- Increment of bench time per XO cycle while CORE is off: the XO period of the active configuration, scaled by the ratio of the frozen
TIME.INC to nominal (R59). -/
def State.xoInc (s : State) : Nat :=
  (quotFree 21 (10 ^ 9 * 2 ^ 40 * s.time.inc) (fXoFreq.val s.act spllBase * 0x033333333333)).toNat

/-- `n` cycles of the clock that advances bench time: CORE_CLK while CORE is ON, the XO otherwise (R58, R59). -/
def clockCycles (n : Nat) (s : State) : State :=
  if s.coreOn then runCycles n s else s.onTime fun t => { t with bench := (t.bench + n * s.xoInc) % benchMod }

/-- Cycles until bench time has advanced by `span`. -/
def cyclesFor (s : State) (span : Nat) : Nat :=
  let inc := if s.coreOn then s.time.inc else s.xoInc
  (span + (inc - 1)) / inc

/-- With no command waiting, one cycle of the clock passes (DESIGN CHOICE, log 26). -/
def idleCycle (s : State) : State := clockCycles 1 s

end Sys2Proof.Machine
end

