-- ==== Sys2Proof/Machine/Eyelets.lean ====
section
/-!
DEFINITION. Sys2Proof/Machine/Eyelets.lean: scheduled actions and timestamps: eyelets, gates, windows and TIO pins (R79 to R109).
-/
namespace Sys2Proof.Machine

/-! ## Configuration of an eyelet and of a window -/

def eyeTime (c : View) (n : Nat) : Nat := timeVal c (eyeBase n) 3
def eyeInterval (c : View) (n : Nat) : Nat := intervalVal c (eyeBase n) 0xB
def winStart (c : View) (w : Nat) : Nat := timeVal c (winBase w) 1
def winStop (c : View) (w : Nat) : Nat := timeVal c (winBase w) 7
def winInterval (c : View) (w : Nat) : Nat := intervalVal c (winBase w) 0xD

/-- One step of 25 ps: a difference below it is below 1638.4 units of 2^-16 ns (R97). -/
def below25ps (d : Nat) : Bool := decide (10 * d < 16384)

/-- Length of a series: COUNT repeats after the first firing; none: unlimited (R85). -/
def seriesLen (count : Nat) : Option Nat := if count = 0xFFFF then none else some (count + 1)

/-- How many firings of a series from `base` in steps of `iv` lie at or before `limit`. -/
def dueBy (base iv : Nat) (len : Option Nat) (limit : Nat) : Nat :=
  if limit < base then 0 else
  match len with
  | some l => if iv = 0 then l else min l ((limit - base) / iv + 1)
  | none => if iv = 0 then 0 else (limit - base) / iv + 1

/-- The series has no further firing from `k` on. -/
def seriesOver (len : Option Nat) (k : Nat) : Bool :=
  match len with
  | some l => decide (l ≤ k)
  | none => false

/-! ## TIO pins and gates -/

def tioMode (s : State) (pin : Nat) : Nat := fTioMode.val s.act (tioBase pin)

/-- OPER_STATE of a TIO pin, and of an eyelet, which cannot act on a pin that is not UP in OUT mode (R40, R41, R84). -/
def tioOper (s : State) (p : Nat) : Oper :=
  if !s.coreOn || !inService s.act (tioBase p) then .off
  else if s.underTest 7 p then .starting
  else if (tioMode s p == 4 || tioMode s p == 5) && (vat s.tios p).readbackBad then .down
  else .up
def eyeOper (s : State) (n : Nat) : Oper :=
  let act := fAction.val s.act (eyeBase n)
  let pin := fTarget.val s.act (eyeBase n)
  if !s.coreOn || !inService s.act (eyeBase n) then .off
  else if s.underTest 6 n then .starting
  else if rng 1 4 act && !(tioMode s pin == 4 && tioOper s pin == .up) then .down
  else .up

/-- A pin that is in service and UP acts in mode `m` (R41, R79). A pin that is UP is in service. -/
def tioActs (s : State) (pin m : Nat) : Bool := tioOper s pin == .up && tioMode s pin == m

/-- Drives a TIO pin in OUT mode and takes the readback 20 ns later (R84). -/
def driveTio (s : State) (pin : Nat) (lvl readOk : Bool) : State :=
  if tioActs s pin 4 then s.onTio pin fun t => { t with level := lvl, readbackBad := !readOk } else s

/-- The pins in GATE_OUT mode on gate `g` follow it (R79, R95). -/
def followGate (s : State) (g : Nat) (lvl readOk : Bool) : State :=
  forN 16 (fun p t => if tioActs t p 5 ∧ fGateSel.val t.act (tioBase p) = g then
    t.onTio p fun x => { x with level := lvl, readbackBad := !readOk } else t) s

/-- An edge on a gate: it moves the gate, or is a no-op that raises EV_TIME_GATE_ORDER (R99). -/
def gateEdge (s : State) (g : Nat) (opening readOk : Bool) : State :=
  if vat s.gates g = opening then raiseAt s evGateOrder g 0
  else followGate (recountGate g { s with gates := vupd s.gates g fun _ => opening }) g opening readOk

/-! ## Eyelets -/

/-- The action of an eyelet at its fire time (R86). -/
def eyeAct (s : State) (n : Nat) (e : EyeEdge) (readOk : Bool) : State :=
  match e.action with
  | 1 => driveTio s e.target true readOk
  | 2 => driveTio (s.onTio e.target fun t => { t with pulseEnd := none }) e.target false readOk
  | 3 => driveTio s e.target (!(vat s.tios e.target).level) readOk
  | 4 => if tioActs s e.target 4 then
           driveTio (s.onTio e.target fun t => { t with pulseEnd := some (e.time + e.width * ns16) }) e.target true readOk
         else s
  | 5 => gateEdge s e.target true readOk
  | 6 => gateEdge s e.target false readOk
  | 7 => raiseAt s evEyeFired n 0
  | 8 => { s with snap := { s.snap with eyeDue := true } }
  | _ => s

/-- Status of an eyelet from its edges and its series. -/
def eyeStatus (x : Eyelet) (ended : Bool) : EyeState :=
  if x.edges.any (fun e => e.stage == .live) then .live
  else if !x.edges.isEmpty || !ended then .pending else .done

/-- The live edge of eyelet `n` that fires next: the earliest of them, in order of loading. -/
def eyeNext (s : State) (n : Nat) : Option EyeEdge := (vat s.eyes n).edges.find? fun e => e.stage == .live

/-- The next live edge of eyelet `n` fires (R86, R91). An eyelet that is not UP is not used: its edge passes without an action and is
not counted (R41; log 52). -/
def eyeFire (s : State) (n : Nat) (readOk : Bool) : State :=
  let x := vat s.eyes n
  match eyeNext s n with
  | none => s
  | some e =>
    let len := seriesLen (fEyeCount.val s.act (eyeBase n))
    let rest := x.edges.erase e
    let ended := seriesOver len x.nextK && rest.isEmpty
    let used := eyeOper s n == .up
    let x' := if used then
        { x with edges := rest, fireCount := min 65535 (x.fireCount + 1), lastFire := e.time, lateFired := x.lateFired || e.late }
      else { x with edges := rest }
    let s := s.onEye n fun _ => { x' with st := eyeStatus x' ended, active := !ended }
    raiseIf ended (if used then eyeAct s n e readOk else s) evEyeDone n 0

/-- The program of eyelet `n` becomes active in the present tick, replacing every edge of the old one (R88, R92, R102); that of an eyelet
out of service does not (R41). -/
def eyeActivate (s : State) (n : Nat) : State :=
  if !inService s.act (eyeBase n) then s.onEye n fun x => { x with armed := false } else
  s.onEye n fun x => { x with st := .pending, armed := false, active := true, actTick := s.time.tickSeq, nextK := 0, sentK := 0, edges := [],
                              abortIgnored := false, lateFired := false }

/-- Handover: the shadow set of an eyelet becomes live in one step; edges that FIRE_ASAP moved fire at this instant (R89, R90). -/
def eyeHandover (s : State) (n : Nat) : State :=
  let now := s.now
  s.onEye n fun x =>
    let es := x.edges.map fun e => if e.stage = .shadow then { e with stage := .live, time := if e.late then now else e.time } else e
    { x with edges := es, st := if es.any (fun e => e.stage == .live) then .live else x.st }

/-- The edge of firing `k` as it is loaded: at its own time, or late under FIRE_ASAP. -/
def eyeEdge (c : View) (n k time : Nat) (late : Bool) : EyeEdge :=
  { k := k, time := time, stage := .shadow, late := late, action := fAction.val c (eyeBase n), target := fTarget.val c (eyeBase n),
    width := fWidth.val c (eyeBase n) }

/-- Loads the pending edges of eyelet `n` that are due by `limit`, judging each against the handover `hand` that would make it live
(R89 to R91); at most `room` of them where the job is cut short (R77). -/
def eyeLoad (s : State) (n hand limit : Nat) (room : Option Nat) : State :=
  let x := vat s.eyes n
  let c := s.act
  if !x.active || x.armed || eyeOper s n != .up then s else
  let iv := eyeInterval c n
  let len := seriesLen (fEyeCount.val c (eyeBase n))
  let due := dueBy x.baseTime iv len limit
  let lateEnd := dueBy x.baseTime iv len hand
  let ks := takeRoom room ((List.range due).drop x.nextK)
  let lates := ks.filter fun k => decide (k < lateEnd)
  let asap := fEyeLate.on c (eyeBase n)
  let new := (if asap then lates.map fun k => eyeEdge c n k hand true else []) ++
             (ks.filter fun k => decide (lateEnd ≤ k)).map fun k => eyeEdge c n k (x.baseTime + k * iv) false
  let dropped := !asap && !lates.isEmpty
  let x' := { x with edges := x.edges ++ new, nextK := x.nextK + ks.length }
  let ended := seriesOver len x'.nextK && x'.edges.isEmpty
  let endDone := ended && dropped && decide (1 < len.getD 2)
  let st' := if endDone then .done
             else if dropped && x'.edges.all (fun e => e.stage != .live) then .dropped else x.st
  let s := s.onEye n fun _ => { x' with st := st', active := x.active && !ended }
  raiseIf endDone (raiseIf dropped s evEyeLate n 0) evEyeDone n 0

/-- Judges the loaded edges of eyelet `n` again after bench time has jumped (R103): the late ones follow the policy as at loading. -/
def eyeRejudge (s : State) (n hand : Nat) : State :=
  let x := vat s.eyes n
  let bad := x.edges.any fun e => decide (e.time ≤ hand)
  if !bad then s else
  if fEyeLate.on s.act (eyeBase n) then s.onEye n fun x => { x with edges := x.edges.map fun e =>
    if e.time ≤ hand then { e with stage := .shadow, late := true, time := hand } else e }
  else
    let len := seriesLen (fEyeCount.val s.act (eyeBase n))
    let keep := x.edges.filter fun e => decide (hand < e.time)
    let ended := seriesOver len x.nextK && keep.isEmpty
    let endDone := ended && decide (1 < len.getD 2)
    let s := s.onEye n fun x => { x with edges := keep, st := if endDone then .done else .dropped, active := x.active && !ended }
    raiseIf endDone (raiseAt s evEyeLate n 0) evEyeDone n 0

/-! ## Windows -/

/-- Status of a window after an edge. -/
def winAfter (x : Window) (ended : Bool) (openGate : Bool) : WinState :=
  if openGate then .opened else if ended && x.edges.isEmpty then .done else .pending

/-- The live edge of window `w` that fires next: the first in order of loading. -/
def winNext (s : State) (w : Nat) : Option WinEdge := (vat s.wins w).edges.find? fun e => e.stage == .live

/-- The next live edge of window `w` fires (R98, R99). -/
def winFire (s : State) (w : Nat) (readOk : Bool) : State :=
  let x := vat s.wins w
  match winNext s w with
  | none => s
  | some e =>
    let len := seriesLen (fWinCount.val s.act (winBase w))
    let rest := x.edges.erase e
    let ended := e.isStop && seriesOver len x.nextK && rest.isEmpty
    let x' := { x with edges := rest, instances := if e.isStop then x.instances else min 65535 (x.instances + 1) }
    gateEdge (s.onWin w fun _ => { x' with st := winAfter x' ended (!e.isStop), active := x.active && !ended }) w (!e.isStop) readOk

/-- The program of window `w` becomes active in the present tick. -/
def winActivate (s : State) (w : Nat) : State :=
  s.onWin w fun x => { x with st := .pending, armed := false, active := true, actTick := s.time.tickSeq, nextK := 0, nextStop := false,
                              edges := [] }

def winHandover (s : State) (w : Nat) : State :=
  s.onWin w fun x => { x with edges := x.edges.map fun e => if e.stage = .shadow then { e with stage := .live } else e }

/-- Loads the next edges of window `w` that are due by `limit` (R97, R98): at most `fuel` edges. An instance that is empty under R97 is
empty also where its START is late under DROP: no edge of it is left to be dropped as late (DESIGN CHOICE, log 9; R97 and R98 both
speak of it). -/
def winLoad (w hand limit : Nat) : Nat → State → State
  | 0, s => s
  | fuel + 1, s =>
    let x := vat s.wins w
    let c := s.act
    let iv := winInterval c w
    let len := seriesLen (fWinCount.val c (winBase w))
    let start := winStart c w + x.nextK * iv
    let stop := winStop c w + x.nextK * iv
    let asap := fWinLate.on c (winBase w)
    if !x.active || x.armed || !inService c (winBase w) || (seriesOver len x.nextK && !x.nextStop) then s else
    let endOf (y : Window) : Window :=
      { y with nextK := y.nextK + 1, nextStop := false, active := !(seriesOver len (y.nextK + 1) && y.edges.isEmpty) }
    let empty (t : State) : State :=
      let st' (y : Window) : WinState := if seriesOver len (y.nextK + 1) && y.edges.isEmpty then .done else y.st
      raiseAt (t.onWin w fun y => { (endOf y) with instances := min 65535 (y.instances + 1), st := st' y }) evWinEmpty w 0
    let dropped (y : Window) : Window :=
      { (endOf y) with st := if seriesOver len (y.nextK + 1) && y.edges.isEmpty && decide (1 < len.getD 2) then .done else .dropped }
    if x.nextStop then
      if limit < stop then s
      else if hand < stop then
        winLoad w hand limit fuel (s.onWin w fun y =>
          { y with edges := y.edges ++ [WinEdge.mk y.nextK true stop .shadow], nextK := y.nextK + 1,
                   nextStop := false })
      else if asap then
        winLoad w hand limit fuel (s.onWin w fun y =>
          { y with edges := y.edges ++ [WinEdge.mk y.nextK true hand .shadow], nextK := y.nextK + 1,
                   nextStop := false })
      else winLoad w hand limit fuel (raiseAt (s.onWin w dropped) evEyeLate w 0)
    else if limit < start then s
    else if below25ps (stop - start) then winLoad w hand limit fuel (empty s)
    else if hand < start then
      winLoad w hand limit fuel (s.onWin w fun y =>
        { y with edges := y.edges ++ [WinEdge.mk y.nextK false start .shadow], nextStop := true })
    else if !asap then winLoad w hand limit fuel (raiseAt (s.onWin w dropped) evEyeLate w 0)
    else if stop ≤ hand then winLoad w hand limit fuel (empty s)
    else winLoad w hand limit fuel (s.onWin w fun y =>
        { y with edges := y.edges ++ [WinEdge.mk y.nextK false hand .shadow], nextStop := true })

/-- Instances of window `w` that a load may meet: every one from the next on that is due, two edges each. -/
def winFuel (s : State) (w limit : Nat) : Nat :=
  2 * (dueBy (winStart s.act w) (winInterval s.act w) (seriesLen (fWinCount.val s.act (winBase w))) limit - (vat s.wins w).nextK) + 2

/-- Window `w` passes on to its next instance where instance `k` ends before its STOP is loaded. -/
def winSkip (k : Nat) (x : Window) : Window := if x.nextStop && x.nextK == k then { x with nextK := k + 1, nextStop := false } else x

/-- The instance `k` of window `w`, whose START is loaded and now late, is judged as at loading (R98, R103): under DROP the whole instance
is dropped; under FIRE_ASAP it opens at the handover, or is empty where its STOP is late too (R97). -/
def winJudgeStart (s : State) (w hand k : Nat) : State :=
  let c := s.act
  let len := seriesLen (fWinCount.val c (winBase w))
  let gone (x : Window) : Window := winSkip k { x with edges := x.edges.filter fun e => e.k != k }
  let spent (x : Window) : Bool := seriesOver len x.nextK && x.edges.isEmpty
  if !fWinLate.on c (winBase w) then
    raiseAt (s.onWin w fun x =>
      let y := gone x
      { y with st := if spent y && decide (1 < len.getD 2) then .done else .dropped, active := y.active && !spent y }) evEyeLate w 0
  else if winStop c w + k * winInterval c w ≤ hand then
    raiseAt (s.onWin w fun x =>
      let y := gone x
      { y with instances := min 65535 (y.instances + 1), st := if spent y then .done else y.st, active := y.active && !spent y })
      evWinEmpty w 0
  else s.onWin w fun x => { x with edges := x.edges.map fun e =>
    if e.k = k ∧ e.isStop = false then { e with stage := .shadow, time := hand } else e }

/-- A loaded STOP of window `w` that is late, its START having fired: dropped, or moved to the handover (R98, R103). -/
def winJudgeStops (s : State) (w hand : Nat) : State :=
  let late (e : WinEdge) : Bool := e.isStop && decide (e.time ≤ hand)
  if !((vat s.wins w).edges.any late) then s
  else if fWinLate.on s.act (winBase w) then
    s.onWin w fun x => { x with edges := x.edges.map fun e => if late e then { e with stage := .shadow, time := hand } else e }
  else
    let len := seriesLen (fWinCount.val s.act (winBase w))
    raiseAt (s.onWin w fun x =>
      let keep := x.edges.filter fun e => !late e
      let ended := seriesOver len x.nextK && !x.nextStop && keep.isEmpty
      { x with edges := keep, st := if ended && decide (1 < len.getD 2) then .done else .dropped, active := x.active && !ended })
      evEyeLate w 0

/-- Judges the loaded edges of window `w` again after bench time has jumped (R103): each instance with a late START, then the late
STOPs. -/
def winRejudge (s : State) (w hand : Nat) : State :=
  let starts := (vat s.wins w).edges.filter fun e => !e.isStop && decide (e.time ≤ hand)
  winJudgeStops (starts.foldl (fun t e => winJudgeStart t w hand e.k) s) w hand

/-! ## The jobs of DISPATCH -/

/-- Eyelet handover, first in DISPATCH (R89). -/
def handoverAll (s : State) : State := forN 8 (fun w t => winHandover t w) (forN 32 (fun n t => eyeHandover t n) s)

/-- Length of the tick that begins at a boundary (bench time, 2^-40 ns), where the tick before it has length `len`: a committed TICK_PERIOD
takes effect at the whole second (R64). -/
def tickLenAt (s : State) (b len : Nat) : Nat := if b % secB = 0 then tickLenB (fPeriod.val s.act 0) else len

/-- The first CORE_CLK edge at or after `b`, counted from the present one. -/
def edgeAtOrAfter (s : State) (b : Nat) : Nat :=
  s.time.bench + (b - s.time.bench + (s.time.inc - 1)) / s.time.inc * s.time.inc

/-- Start of DISPATCH in a tick whose boundary is `b` and whose length is `len`, in bench time (R67, R68). -/
def dispatchAt (s : State) (b len : Nat) : Nat := edgeAtOrAfter s b + len * 70 / 100 / s.time.inc * s.time.inc

/-- The starts of DISPATCH of the next tick and of the one after it, in 2^-16 ns: the handover that makes an edge live that is loaded now,
and the limit up to which edges are loaded (R89, R90). -/
def nextHandovers (s : State) : Nat × Nat :=
  let len := tickLenB s.time.period
  let b1 := (s.time.tickEdge / len + 1) * len
  let l1 := tickLenAt s b1 len
  let b2 := b1 + l1
  (dispatchAt s b1 l1 / u16, dispatchAt s b2 (tickLenAt s b2 l1) / u16)

/-- Loaded edges of all eyelets and windows. -/
def edgesLoaded (s : State) : Nat :=
  s.wins.toList.foldl (fun k x => k + x.edges.length) (s.eyes.toList.foldl (fun k x => k + x.edges.length) 0)

/-- Eyelet and window edge loading in DISPATCH (R89), eyelets before windows in ascending order. After a jump of bench time, every loaded
edge is judged again first (R103). A job that GUARD stops has loaded `room` edges (R77). -/
def loadAll (s : State) (room : Option Nat) : State :=
  let (hand, limit) := nextHandovers s
  let s := if s.time.rejudge then forN 8 (fun w t => winRejudge t w hand) (forN 32 (fun n t => eyeRejudge t n hand) s) else s
  let s := s.onTime fun t => { t with rejudge := false }
  let before := edgesLoaded s
  let left (t : State) : Option Nat := room.map fun r => r - (edgesLoaded t - before)
  let fuel (t : State) (w : Nat) : Nat := match left t with | some r => min r (winFuel t w limit) | none => winFuel t w limit
  forN 8 (fun w t => winLoad w hand limit (fuel t w) t) (forN 32 (fun n t => eyeLoad t n hand limit (left t)) s)

/-- Programs that were armed become active at the tick boundary (R88). -/
def activateArmed (s : State) : State :=
  forN 8 (fun w t => if (vat t.wins w).armed then winActivate t w else t)
    (forN 32 (fun n t => if (vat t.eyes n).armed then eyeActivate t n else t) s)

/-- A window as the loss of CORE leaves it (R109): its next instance is the first whose START has not fired. -/
def winCoreOff (len : Option Nat) (x : Window) : Window :=
  let starts := (x.edges.filter fun e => !e.isStop).map (·.k)
  let k := starts.foldl min (if x.nextStop then x.nextK + 1 else x.nextK)
  let on := x.active && !seriesOver len k
  { x with nextK := k, nextStop := false, edges := [], armed := false, active := on, st := if on then .pending else .idle, instances := 0 }

/-- What the loss of CORE does here: edges are discarded, gates close, TIO outputs stop driving, FIFOs are cleared; programs still active
are judged again from their next instance after CORE returns (R83, R95, R109). -/
def eyesCoreOff (s : State) : State :=
  { s with
    eyes := vmap (fun _ x => { x with nextK := (x.edges.map (·.k)).foldl min x.nextK, edges := [], armed := false, st := if x.active then .pending else .idle,
                                      abortIgnored := false, lateFired := false, fireCount := 0, lastFire := 0 }) s.eyes
    wins := vmap (fun w x => winCoreOff (seriesLen (fWinCount.val s.act (winBase w))) x) s.wins
    gates := Vector.replicate 8 false
    tios := Vector.replicate 16 default }

/-! ## Commands -/

/-- EYE[n].CMD = ARM: QUICK_TIME becomes the active fire time, in force from the next tick boundary (R88); the echo is written. -/
def armEye (s : State) (m : Master) (n : Nat) : State :=
  if !s.servedCore then s else
  let q := (vat s.eyes n).quickTime
  let words := timeWords q
  let put (st : List (Nat × Word)) : List (Nat × Word) :=
    (List.range 6).foldl (fun l i => sput (resetWordW (eyeBase n + 3 + i)) (words.getD i 0) (eyeBase n + 3 + i) l) st
  let s := { s with cfg := { s.cfg with active := put s.cfg.active } }
  echo (s.onEye n fun x => { x with baseTime := q, armed := true }) m (eyeBase n + 0x19) 1 [] resAccepted

/-- One CORE_CLK cycle in 2^-16 ns, rounded up. -/
def State.cycle16 (s : State) : Nat := s.time.inc / u16 + 1

/-- A firing falls in the present CORE_CLK cycle: a live edge is due, or the last firing lies less than a cycle back (R101). -/
def firingNow (s : State) (n : Nat) : Bool :=
  let x := vat s.eyes n
  x.edges.any (fun e => e.stage == .live && decide (e.time ≤ s.now)) ||
  (decide (0 < x.fireCount) && decide (x.lastFire ≤ s.now) && decide (s.now < x.lastFire + s.cycle16))

/-- EYE[n].CMD = CANCEL (R92, R101). -/
def cancelEye (s : State) (m : Master) (n : Nat) : State :=
  if !s.servedCore then s else
  let s := if firingNow s n then s.onEye n fun x => { x with abortIgnored := true }
    else s.onEye n fun x => { x with st := .idle, edges := [], armed := false, active := false }
  echo s m (eyeBase n + 0x19) 2 [] resAccepted

/-- ARM. -/
def execArm (m : Master) (n : Fin 32) (s : State) : Host.Outcome State Fault Refusal := .next (armEye (access s m) m n)

/-- CANCEL. -/
def execCancel (m : Master) (n : Fin 32) (s : State) : Host.Outcome State Fault Refusal := .next (cancelEye (access s m) m n)

/-- What an edge acts on: a gate (true), a TIO pin (false), or nothing that is shared. -/
def edgeTarget (action target : Nat) : Option (Bool × Nat) :=
  if action = 5 ∨ action = 6 then some (true, target) else if rng 1 4 action then some (false, target) else none

/-- The next live edge of unit `u` (window u below 8, else eyelet u − 8): what it acts on, and its place in the order of R99: the 25 ps step
of its fire time, windows before eyelets, each in ascending number. -/
def unitEdge (s : State) (u : Nat) : Option (Option (Bool × Nat) × Nat) :=
  if u < 8 then (winNext s u).map fun e => (some (true, u), e.time * 10 / 16384 * 64 + u)
  else (eyeNext s (u - 8)).map fun e => (edgeTarget e.action e.target, e.time * 10 / 16384 * 64 + u)

/-- The unit whose next live edge is the first in order of those that act on target `g`. -/
def firstOn (s : State) (g : Bool × Nat) : Option Nat :=
  ((List.range 40).foldl (fun b u =>
    match unitEdge s u with
    | some (some h, r) => if h = g then (match b with | some (q, _) => if r < q then some (r, u) else b | none => some (r, u)) else b
    | _ => b) (none : Option (Nat × Nat))).map (·.2)

/-- The next live edge of unit `u` fires. -/
def fireUnit (s : State) (u : Nat) (readOk : Bool) : State := if u < 8 then winFire s u readOk else eyeFire s (u - 8) readOk

/-- The edges on target `g` fire in the order of R99, up to that of unit `u`. -/
def fireUpTo (g : Bool × Nat) (u : Nat) (readOk : Bool) : Nat → State → State
  | 0, s => fireUnit s u readOk
  | fuel + 1, s =>
    match firstOn s g with
    | some v => if v = u then fireUnit s u readOk else fireUpTo g u readOk fuel (fireUnit s v readOk)
    | none => fireUnit s u readOk

/-- The time up to a fire time passes (log 27). -/
def passTo (s : State) (t : Nat) : State := runCycles (cyclesFor s (t * u16 - s.time.bench)) s

/-- A time lies in the present tick: not after its end (log 27). -/
def inTick (s : State) (t : Nat) : Bool :=
  let len := tickLenB s.time.period
  decide (t * u16 ≤ max s.time.bench ((s.time.tickEdge / len + 1) * len))

/-- The live edge of unit `u` reaches its fire time `t`: time passes up to it, and what R99 puts before it on the same gate or pin fires
first. -/
def unitFire (s : State) (u t : Nat) (readOk : Bool) : State :=
  if !s.coreOn || !inTick s t then s else
  let s := passTo s t
  match unitEdge s u with
  | some (some g, _) => fireUpTo g u readOk (edgesLoaded s) s
  | _ => fireUnit s u readOk

/-- EYELET_FIRE: the sender says that the live edge reaches its fire time in this tick (log 27), and whether the driven pins read back
right. -/
def eyeletFire (s : State) (n : Nat) (readOk : Bool) : State :=
  match eyeNext s n with
  | some e => unitFire s (n + 8) e.time readOk
  | none => s

def execEyeletFire (n : Fin 32) (readOk : Bool) (s : State) : Host.Outcome State Fault Refusal := .next (eyeletFire s n readOk)

/-- WINDOW_EDGE_FIRE, as EYELET_FIRE. -/
def windowFire (s : State) (w : Nat) (readOk : Bool) : State :=
  match winNext s w with
  | some e => unitFire s w e.time readOk
  | none => s

def execWindowEdgeFire (w : Fin 8) (readOk : Bool) (s : State) : Host.Outcome State Fault Refusal := .next (windowFire s w readOk)

/-- TIO_PULSE_END: a running pulse ends with the pin low (R86), and the driven edge is read back (R84). The driver of a pulse that has
begun ends it whether or not the pin is still UP (R92). -/
def pulseEnd (s : State) (pin : Nat) (readOk : Bool) : State :=
  match (vat s.tios pin).pulseEnd with
  | none => s
  | some t =>
    if !s.coreOn || !inTick s t then s else
    let s := passTo s t
    if inService s.act (tioBase pin) && tioMode s pin == 4 then
      s.onTio pin fun x => { x with pulseEnd := none, level := false, readbackBad := if x.level then !readOk else x.readbackBad }
    else s.onTio pin fun x => { x with pulseEnd := none }

def execTioPulseEnd (pin : Fin 16) (readOk : Bool) (s : State) : Host.Outcome State Fault Refusal := .next (pulseEnd s pin readOk)

/-- Whether a pin in this mode timestamps an edge of this polarity (R79). -/
def tioWants (mode : Nat) (rising : Bool) : Bool :=
  match mode with
  | 1 => rising
  | 2 => !rising
  | 3 => true
  | _ => false

/-- Less than 8 ns have passed since a time (R82). -/
def within8ns (last : Option Nat) (now : Nat) : Bool :=
  match last with
  | some t => decide (now < t + 8 * ns16)
  | none => false

/-- The time, in 2^-16 ns, at which an edge crosses the threshold: `sub` steps of 20 ps after the present CORE_CLK edge (R67, R80). -/
def crossTime (s : State) (sub : Nat) : Nat := s.now + (quotFree 80 (sub * 131072) 100).toNat

/-- The timestamp of an edge that crossed at `at_`: that time plus the signed TS_OFFSET (R80). -/
def stampTime (s : State) (pin at_ : Nat) : Nat := ((at_ : Int) + fTsOff.int s.act (tioBase pin)).toNat

/-- Stores a timestamp, or loses it to a full FIFO (R81). -/
def storeStamp (s : State) (pin : Nat) (rising : Bool) (at_ : Nat) : State :=
  let t := vat s.tios pin
  if 16 ≤ t.fifo.length then
    raiseAt (s.onTio pin fun x => { x with missNext := true, lastEdge := some at_ }) evTsOvf pin 0
  else
    let e : Stamp := { time := stampTime s pin at_, rising := rising, missed := t.missNext }
    raiseIf t.fifo.isEmpty (s.onTio pin fun x => { x with fifo := x.fifo ++ [e], missNext := false, lastEdge := some at_ }) evTsReady pin 0

/-- An edge at the pad of a TIO pin: counted if rising (R598), timestamped as the mode says (R80 to R82). -/
def tioEdge (s : State) (pin : Nat) (rising : Bool) (sub : Nat) : State :=
  if !s.coreOn then s else
  let t := vat s.tios pin
  let at_ := crossTime s sub
  let s := if rising && !within8ns t.lastCount at_ then
      countSrc (0x110 + pin) 1 (s.onTio pin fun x => { x with lastCount := some at_ }) else s
  if tioOper s pin == .up && tioWants (tioMode s pin) rising then
    if within8ns t.lastEdge at_ then s.onTio pin fun x => { x with missNext := true } else storeStamp s pin rising at_
  else s

/-- TIO_EDGE. -/
def execTioEdge (pin : Fin 16) (rising : Bool) (sub : Fin 160) (s : State) : Host.Outcome State Fault Refusal :=
  .next (tioEdge s pin rising sub)

/-- TICK.HWM_CLR: clears the high-water marks (R73). -/
def hwmClr (s : State) (m : Master) : State :=
  if s.servedCore then echo (s.onTime fun t => { t with jobHwm := Vector.replicate 21 0 }) m 0x112 1 [] resAccepted else s

def execHwmClr (m : Master) (s : State) : Host.Outcome State Fault Refusal := .next (hwmClr (access s m) m)

end Sys2Proof.Machine
end

