-- ==== Sys2Proof/Machine/Sources.lean ====
section
/-!
DEFINITION. Sys2Proof/Machine/Sources.lean: the monitored sources: monitors, qualification, quality levels, the watermark decoder, and
reference selection (R181 to R221).
-/
namespace Sys2Proof.Machine

/-! ## Quality levels (R195, R196) -/

/-- Rank of a QL code under option I (0) or II (1); none: an invalid code. -/
def qlRank? (option code : Nat) : Option Nat :=
  if option = 0 then
    match code with
    | 0x2 => some 1 | 0x4 => some 2 | 0x8 => some 3 | 0xB => some 4 | 0xF => some 14 | _ => none
  else
    match code with
    | 0x1 => some 1 | 0x0 => some 2 | 0x7 => some 3 | 0x4 => some 4 | 0xD => some 5 | 0xA => some 6 | 0xC => some 7 | 0xE => some 8
    | 0xF => some 14 | _ => none

def State.qlOption (s : State) : Nat := fQlOption.val s.act 0

/-- A code as it is used: an invalid one as DNU or DUS (R196). -/
def normQl (option code : Nat) : Nat := if (qlRank? option code).isSome then code else 0xF

/-- Rank of an effective QL; none is FAILED (R195). -/
def qlRank (option : Nat) (q : Option Nat) : Nat :=
  match q with
  | none => 15
  | some c => (qlRank? option c).getD 14

/-! ## Monitors -/

/-- The boundary of the present tick, in 2^-16 ns. -/
def State.tickStart (s : State) : Nat := s.time.tickEdge / tickLenB s.time.period * s.tick16

/-- Length of a gate in ms (R186). -/
def gateMs (code : Nat) : Nat :=
  match code with
  | 0 => 1 | 1 => 10 | 2 => 100 | 3 => 1000 | 4 => 4000 | 5 => 16000 | _ => 64000

/-- Fractional offset of a gate in units of 0.001 ppm: (span − N·T_pd) / (N·T_pd) with T_pd = PREDIV / NOM_FREQ (R186). A source with
no nominal period has no stated result (log 31). -/
def gateOffset (nom prediv edges span : Nat) : Rat :=
  let n := edges - 1
  let ideal : Nat := n * prediv * (2 ^ 32 * 1000000000)      -- N·T_pd · NOM_FREQ in 2^-16 ns · 2^-16 Hz
  if nom = 0 ∨ ideal = 0 then (Config.unstated 1 (edges : Int) (span : Int) : Rat)
  else ((span * nom : Int) - ideal : Int) * (1000000000 : Int) / (ideal : Rat)

/-- The magnitude of an offset exceeds a threshold in 0.1 ppm. -/
def offBeyond (off : Rat) (thr : Nat) : Bool := decide ((thr * 100 : Rat) < off) || decide (off < -(thr * 100 : Rat))

/-- A port is UP, and it carries time and safety: its peer reports UP too (R44, R55, R412, R429). -/
def portIsUp (s : State) (p : Nat) : Bool := vat s.opers.ports p == .up
def carries (s : State) (p : Nat) : Bool := portIsUp s p && (vat s.ports p).reportedHeld == some .up

/-- The monitors of source `n` see edges: its stage is not OFF (R183), its Lace port carries time (R408). -/
def seesEdges (s : State) (n : Nat) : Bool := if n < 8 then fInMode.val s.act (refBase n) != 0 else carries s (n - 8)

/-- A gate of source `n` completes with its count of edges and the time between the first and the last (R186, R188). Gates that began before
the monitors started, or before a change of GATE, give nothing (R193, R194). -/
def gateComplete (s : State) (n edges span : Nat) : State :=
  let gate := gateMs (fGate.val s.act (srcBase n)) * ms16
  let began := s.now / gate * gate - gate
  if !s.coreOn || decide (began < (vat s.srcs n).gateFrom) then s else
  if edges < 2 || !seesEdges s n then s.onSrc n fun x => { x with freqValid := false } else
  let c := s.act
  let b := srcBase n
  let off := gateOffset (srcNom c n) (srcPrediv c n) edges span
  let within := !offBeyond off (fAccept.val c b)
  let reject := offBeyond off (fReject.val c b)
  let was := (vat s.srcs n).freqAlarm
  let s := s.onSrc n fun x => { x with
    freqOffset := clampI 32 (ratFree 1 off), freqValid := true,
    freqAlarm := if reject then true else if within then false else x.freqAlarm,
    alarmSince := x.alarmSince || reject,
    gateBad := x.gateBad || !within,
    gateClean := x.gateClean || (within && x.qual == .holdOff && decide (x.holdStart ≤ began)) }
  raiseIf (reject && !was) s evFreqAlarm n 0

/-- The activity window max(ACT_WIN × T_nom / 8, 16 ns) of source `n` has passed in `since` (100 ps) without an edge (R189). Without a
nominal frequency the window has no stated length: a free choice (log 31). -/
def actPassed (s : State) (n since : Nat) : Bool :=
  let nom := srcNom s.act n
  decide (160 ≤ since) &&
    (if nom = 0 then Config.bandChoice 189 since
     else decide (fActWin.val s.act (srcBase n) * (2 ^ 16 * 10 ^ 10) ≤ since * 8 * nom))

/-- The ACT alarm of source `n` is raised: no edge has arrived in its window (R189). `edges` of the running accumulation came before. -/
def actAlarm (s : State) (n edges : Nat) : State :=
  let x := vat s.srcs n
  if !s.coreOn || x.actAlarm || !actPassed s n (s.safe.p.clk - x.lastEdge) then s else
  raiseAt (s.onSrc n fun x => { x with actAlarm := true, alarmSince := true, hitEdges := 0, hitSkip := edges }) evActAlarm n 0

/-- The ACT alarm clears at the next edge (R189). -/
def actClear (s : State) (n : Nat) : State :=
  if !s.coreOn || !seesEdges s n then s else s.onSrc n fun x => { x with actAlarm := false, lastEdge := s.safe.p.clk }

/-- A phase-detector edge `gap` after the last of the 64 preceding ones, which took `span`, deviates by more than HIT_THR from where their
mean period puts it (R190). -/
def isHit (s : State) (n span gap : Nat) : Bool :=
  decide (63 * (fHitThr.val s.act (srcBase n) * ns16) < ((63 * gap : Int) - span).natAbs)

/-- The phase-hit detector of source `n`, once it is active, finds a hit (R190). -/
def hitFound (s : State) (n span gap : Nat) : Bool :=
  s.coreOn && seesEdges s n && decide (64 ≤ (vat s.srcs n).hitEdges) && isHit s n span gap

/-- A hit of source `n` is recorded; `edges` of the running accumulation came before it (R190). -/
def phaseHit (s : State) (n edges : Nat) : State :=
  let dq := fHitAction.val s.act (srcBase n) = 0
  raiseAt (s.onSrc n fun x => { x with
    hitClean := 0, hitSkip := edges, hitAlarm := x.hitAlarm || dq, alarmSince := x.alarmSince || dq }) evPhaseHit n 0

/-- Phase-detector edges of source `n` that SAMPLE latches: they count (R598), those after the last alarm or hit make the hit detector active
and clear its alarm (R190); an input edge `age` before the boundary clears the ACT alarm where it came within the window (R189). -/
def srcEdges (s : State) (n edges : Nat) (age : Option Nat) : State :=
  let s := countSrc (0x120 + n) edges s
  let clk := s.safe.p.clk
  let x := vat s.srcs n
  let last := match age with
    | some a => max x.lastEdge (clk - a)
    | none => if edges = 0 then x.lastEdge else clk
  let act := x.actAlarm && actPassed s n (clk - last)
  s.onSrc n fun x =>
    let new := edges - x.hitSkip
    let clean := min 64 (x.hitClean + new)
    { x with lastEdge := last, actAlarm := act, hitSkip := 0, hitEdges := min 64 (x.hitEdges + new), hitClean := clean,
             hitAlarm := x.hitAlarm && decide (clean < 64) }

/-! ## Qualification (R191 to R193) -/

/-- Source `n` becomes DISQUALIFIED: its WTR timers stop (R204). -/
def disqualify (s : State) (n : Nat) : State :=
  let was := (vat s.srcs n).qual
  let s := s.onSrc n fun x => { x with qual := .disqualified, wasQualified := x.wasQualified || was == .qualified, returnHold := false }
  let s := { s with dplls := vmap (fun _ d => { d with wtrStart := vupd d.wtrStart n fun _ => none }) s.dplls }
  raiseIf (was != .disqualified) s evRefDisqualified n 0

/-- Source `n` enters HOLD_OFF at the boundary of the present tick. -/
def enterHoldOff (s : State) (n : Nat) (ret : Bool) : State :=
  s.onSrc n fun x => { x with qual := .holdOff, holdStart := s.tickStart, gateClean := false, gateBad := false, returnHold := ret }

/-- Source `n` becomes QUALIFIED; each DPLL starts its WTR timer where R204 says so. -/
def qualify (s : State) (n : Nat) : State :=
  let x := vat s.srcs n
  let start := x.wasQualified && !x.returnHold
  let s := s.onSrc n fun y => { y with qual := .qualified, wasQualified := true, returnHold := false }
  let s := if start then { s with dplls := vmap (fun _ d => { d with wtrStart := vupd d.wtrStart n fun _ => some s.tickStart }) s.dplls }
    else s
  raiseAt s evRefQualified n 0

/-- The port of a Lace source is UP; true for a reference (R191, R220). -/
def portUp (s : State) (n : Nat) : Bool := if n < 8 then true else vat s.opers.ports (n - 8) == .up

/-- HOLDOFF has elapsed, measured to the boundary of the present tick (R192). -/
def holdElapsed (s : State) (n : Nat) : Bool :=
  decide ((vat s.srcs n).holdStart + fHoldoff.val s.act (srcBase n) * ms16 ≤ s.tickStart)

/-- The evaluation of source `n` in EVALUATE (R192, R212, R214). -/
def evalSource (s : State) (n : Nat) : State :=
  let x := vat s.srcs n
  let alarm := x.actAlarm || x.freqAlarm || x.hitAlarm
  let s' := s.onSrc n fun y => { y with alarmSince := false, gateBad := false }
  if !portUp s n then disqualify s' n
  else match x.qual with
  | .disqualified => if alarm then s' else enterHoldOff s' n false
  | .holdOff =>
    if alarm || x.alarmSince || x.gateBad then disqualify s' n
    else if holdElapsed s n && x.gateClean then qualify s' n else s'
  | .qualified => if alarm || x.alarmSince then disqualify s' n else s'

/-- The activity check of every tick: an ACT alarm is acted on at once (R75, R192); `room` sources of it where GUARD stops it. -/
def activityCheck (s : State) (room : Option Nat) : State :=
  (takeRoom room (List.range 12)).foldl (fun t n => if (vat t.srcs n).actAlarm then disqualify t n else t) s

/-- REF and Lace sources evaluated per tick: all, 4 and 2, or 2 and 1 (R74). -/
def rrLimits (period : Nat) : Nat × Nat := if period = 80 then (2, 1) else if period = 100 then (4, 2) else (8, 4)

/-- The next `k` of the sources in `l` after `last`, in ascending order round (R75). -/
def rrPick (l : List Nat) (last k : Nat) : List Nat :=
  ((l.filter fun i => decide (last < i)) ++ l.filter fun i => decide (i ≤ last)).take k

/-- The sources evaluated in this tick (R75), references then Lace sources. -/
def rrRefs (s : State) : List Nat :=
  rrPick ((List.range 8).filter fun n => fInMode.val s.act (refBase n) != 0) s.time.rrRef (rrLimits s.time.period).1
def rrLaces (s : State) : List Nat := (rrPick (List.range 4) s.time.rrLace (rrLimits s.time.period).2)

/-- A wait-to-restore timer that has run out ends (R204). -/
def wtrExpire (s : State) (d n : Nat) : State :=
  match vat (vat s.dplls d).wtrStart n with
  | none => s
  | some t =>
    if t + fWtr.val s.act (dpllBase d) * sec16 ≤ s.now then
      raiseAt (s.onDpll d fun x => { x with wtrStart := vupd x.wtrStart n fun _ => none }) evWtrDone n d
    else s

/-- The effective QL of source `n` and its origin (R197). -/
def effectiveQl (s : State) (n : Nat) : Option Nat × QlOrigin :=
  let x := vat s.srcs n
  let b := srcBase n
  if x.qual ≠ .qualified then (none, .failed)
  else if fQlForce.on s.act b then (some (normQl s.qlOption x.qlHostLatched), .force)
  else if fQlSrc.on s.act b then
    match x.accQl with
    | some q => if x.qlExpired then (none, .failed) else (some q, .inband)
    | none => (none, .failed)
  else (some (normQl s.qlOption x.qlHostLatched), .host)

/-- QL_TIMEOUT of source `n` has run out since the last reception of the accepted code (R198). -/
def qlTimeout (s : State) (n : Nat) : State :=
  let x := vat s.srcs n
  if x.accQl.isSome && !x.qlExpired && decide (x.inbandAt + fQlTimeout.val s.act (srcBase n) * ms16 ≤ s.now) then
    raiseAt (s.onSrc n fun y => { y with qlExpired := true }) evQlTimeout n 0
  else s

/-- The QL update of source `n` (R197). -/
def qlUpdate (s : State) (n : Nat) : State :=
  let s := qlTimeout s n
  let r := effectiveQl s n
  let was := (vat s.srcs n).effQl
  raiseIf (r.1 != was) (s.onSrc n fun x => { x with effQl := r.1, qlOrigin := r.2 }) evQlChange n 0

/-- A valid in-band reception of a QL code (R198, R196). LAST_INBAND follows every valid reception; the in-band age of QL_STATUS runs from the
last reception of the accepted code, as its timeout does (DESIGN CHOICE, log 73: R182 names no reception). -/
def inbandQl (s : State) (n code : Nat) : State :=
  let bad := (qlRank? s.qlOption code).isNone
  let q := normQl s.qlOption code
  let now := s.now
  let s := s.onSrc n fun x =>
    let x := { x with lastInband := code }
    if x.accQl = some q then { x with inbandAt := now, qlExpired := false, candCnt := 0 }
    else
      let cnt := if x.candQl = q then x.candCnt + 1 else 1
      if 3 ≤ cnt then { x with accQl := some q, candQl := q, candCnt := 0, inbandAt := now, qlExpired := false }
      else { x with candQl := q, candCnt := cnt }
  raiseIf bad s evQlInvalid n 0

/-- OPER_STATE of source `n` (R191). -/
def srcOper (s : State) (n : Nat) : Oper :=
  if !s.coreOn then .off
  else if s.underTest 1 n then .starting
  else if !portUp s n then (if vat s.opers.ports (n - 8) == .off then .off else .down)
  else if !inService s.act (srcBase n) && (vat s.srcs n).actAlarm then .off
  else match (vat s.srcs n).qual with
    | .qualified => .up
    | .holdOff => .starting
    | .disqualified => .down

/-- The disagreement of R42. -/
def disagrees (admin : Bool) (o : Oper) : Bool := if admin then o == .down else o == .up

/-- The mask of disagreeing units, and the raise of the unit's event for each that did not disagree before (R42). -/
def noteMismatch (s : State) (e : Nat) (count : Nat) (dis : Nat → Bool) (was : Nat) : Nat × State :=
  ((List.range count).foldl (fun m n => if dis n then m + 2 ^ n else m) 0,
   forN count (fun n t => raiseIf (dis n && !bitOf was n) t e n 0) s)

/-- Derives the OPER_STATEs of the sources (R40) and their disagreements; for a Lace source the port is the unit (R209). -/
def deriveSrcOpers (s : State) : State :=
  let s := { s with opers := { s.opers with srcs := vmk 12 (srcOper s) } }
  let o := s.opers.srcs
  let c := s.act
  let r := noteMismatch s evRefMismatch 8 (fun n => disagrees (inService c (refBase n)) (vat o n)) s.opers.srcDis
  { r.2 with opers := { r.2.opers with srcDis := r.1 } }

/-- Source monitor evaluation of a tick: round-robin, WTR, QL, OPER_STATE (R74, R75, R192, R197, R204). The QL of every source is decided in
every tick, not only of those the round-robin reaches (DESIGN CHOICE, log 73: R70 lists QL under the evaluation per source, R197 and R199
under EVALUATE). A job that GUARD stops has evaluated `room` sources. -/
def evalSources (s : State) (room : Option Nat) : State :=
  let refs := takeRoom room (rrRefs s)
  let laces := takeRoom (room.map fun r => r - refs.length) (rrLaces s)
  let s := refs.foldl evalSource s
  let s := laces.foldl (fun t p => evalSource t (8 + p)) s
  let s := s.onTime fun t => { t with rrRef := refs.getLastD t.rrRef, rrLace := laces.getLastD t.rrLace }
  deriveSrcOpers (if room.isSome then s else
    forN 12 (fun n t => qlUpdate t n) (forN 12 (fun n t => forN 4 (fun d u => wtrExpire u d n) t) s))

/-! ## Selection (R205) -/

/-- Source 12 is usable by DPLL `d` (R244). -/
def hostUsable (s : State) (d : Nat) : Bool :=
  let x := vat s.dplls d
  fHostEn.on s.act (dpllBase d) &&
    match x.hostWrite with
    | some t => decide (s.now < t + fWdog.val s.act (dpllBase d) * ms16)
    | none => false

/-- usable(s) of R205. -/
def usable (s : State) (d n : Nat) : Bool :=
  if n ≤ 7 then inService s.act (refBase n) && vat s.opers.srcs n == .up
  else if n ≤ 11 then inService s.act (laceBase (n - 8)) && vat s.opers.ports (n - 8) == .up && (vat s.srcs n).qual == .qualified
  else if n = 12 then hostUsable s d
  else true

/-- ql(s) for DPLL `d`: R197, and R200 for sources 12 and 13. -/
def srcQl (s : State) (d n : Nat) : Option Nat :=
  if n < 12 then (vat s.srcs n).effQl
  else if n = 12 then some (fQlHostsrc.val s.act (dpllBase d)) else some (fQlFreerun.val s.act (dpllBase d))

def prio (s : State) (d n : Nat) : Nat := (fPrio n).val s.act (dpllBase d)

/-- candidate(d, s) of R205. -/
def candidate (s : State) (d n : Nat) : Bool :=
  let b := dpllBase d
  let q := qlRank s.qlOption (srcQl s d n)
  if prio s d n = 0 ∨ usable s d n = false then false
  else if n ≤ 11 ∧ (vat (vat s.dplls d).wtrStart n).isSome then false
  else if fQlEn.on s.act b then
    decide (q < 14) && (fQlMin.val s.act b == 15 || decide (q ≤ qlRank s.qlOption (some (fQlMin.val s.act b))))
  else true

/-- better(d, s, b) of R205. -/
def better (s : State) (d n b : Nat) : Bool :=
  let qn := qlRank s.qlOption (srcQl s d n)
  let qb := qlRank s.qlOption (srcQl s d b)
  if fQlEn.on s.act (dpllBase d) && qn != qb then decide (qn < qb)
  else if prio s d n ≠ prio s d b then decide (prio s d n < prio s d b)
  else decide (n < b)

/-- The best candidate of DPLL `d`. -/
def bestSrc (s : State) (d : Nat) : Option Nat :=
  (List.range 14).foldl (fun b n =>
    if candidate s d n then
      match b with
      | none => some n
      | some x => if better s d n x then some n else b
    else b) none

/-- select(d) of R205. -/
def selectSrc (s : State) (d : Nat) : Option Nat :=
  let c := s.act
  let b := dpllBase d
  let mode := fSelMode.val c b
  if mode = 2 then none
  else if mode = 1 then (let f := fForcedSrc.val c b; if usable s d f then some f else none)
  else
    match bestSrc s d, (vat s.dplls d).sel with
    | some best, some cur =>
      if !fRevertive.on c b && candidate s d cur &&
          (!fQlEn.on c b || qlRank s.qlOption (srcQl s d cur) == qlRank s.qlOption (srcQl s d best)) then some cur else some best
    | b, _ => b

/-! ## The watermark decoder (R201, R367) -/

/-- CRC-8 of R365 over all 48 bits of a payload: 0 for a correct one. -/
def wmCrc (payload : Nat) : Nat := crcMsb 8 0x07 (octetsBE 6 payload) 0xFF

/-- A payload counts as good: its cycles had the right shape, its CRC holds and its FORMAT is 0x1 (R367). -/
def wmGood (payload : Nat) (shapeOk : Bool) : Bool := shapeOk && wmCrc payload == 0 && bitsOf payload 47 44 == 1

/-- DPLL0 compares the tick number of a payload of its selected source (R241): a difference is reported at most once a second, and
under ADOPT one that stays the same in three payloads is to be adopted. -/
def tickNumCheck (s : State) (n payload : Nat) : State :=
  let d := vat s.dplls 0
  let mode := fTicknum.val s.act (dpllBase 0)
  if d.sel ≠ some n ∨ d.loop ≠ .locked ∨ mode = 0 then s else
  let diff := (bitsOf payload 39 16 + 2 ^ 24 - s.tickNum % 2 ^ 24) % 2 ^ 24
  if diff = 0 then s.onDpll 0 fun x => { x with tickDiff := 0, tickDiffCnt := 0 } else
  let again := d.mismatchSec != some s.benchSec
  let cnt := if d.tickDiff = diff then d.tickDiffCnt + 1 else 1
  raiseIf again (s.onDpll 0 fun x => { x with
    tickDiff := diff, tickDiffCnt := cnt, adoptDue := x.adoptDue || (mode == 2 && decide (3 ≤ cnt)), mismatchSec := some s.benchSec })
    evTicknumMismatch n 0

/-- Where the rising edge of a mark cycle, `age` ago, lies against the nearest tick boundary, in 2^-16 ns of bench time (R241). -/
def markPhase (s : State) (age : Nat) : Int :=
  let r := (s.now + s.tick16 - age % s.tick16) % s.tick16
  if s.tick16 < 2 * r then (r : Int) - s.tick16 else r

/-- The decoder of reference `n` loses SYNC. -/
def wmLose (s : State) (n : Nat) : State :=
  let was := (vat s.srcs n).wmSync
  raiseIf was (s.onSrc n fun y => { y with wmSync := false, wmRun := 0 }) evWmSync n 0

/-- A payload is received on reference `n` with its decoder on (R201). In SYNC, a mark that did not come where it was expected is missing
there, and SYNC is lost before the payload is judged. -/
def wmReceived (s : State) (n payload : Nat) (shapeOk onTime : Bool) (age : Nat) : State :=
  if !s.coreOn || !fDecode.on s.act (refBase n) || fInMode.val s.act (refBase n) == 0 then s else
  let s := if onTime then s else wmLose s n
  let x := vat s.srcs n
  if wmGood payload shapeOk then
    let run := if onTime then x.wmRun + 1 else 1
    if x.wmSync then
      tickNumCheck (inbandQl (s.onSrc n fun y => { y with wmRun := 0, wmPayload := payload, wmMark := markPhase s age }) n
        (bitsOf payload 43 40)) n payload
    else
      let s := s.onSrc n fun y => { y with wmPayload := payload, wmRun := if 2 ≤ run then 0 else run, wmSync := decide (2 ≤ run),
                                           wmMark := markPhase s age,
                                           lastInband := bitsOf payload 43 40 }
      raiseIf (decide (2 ≤ run)) s evWmSync n 1
  else
    let bad := x.wmRun + 1
    let lost := x.wmSync && decide (3 ≤ bad)
    let s := s.onSrc n fun y => { y with wmCrcCnt := stick 16 y.wmCrcCnt, wmSync := y.wmSync && !lost,
                                         wmRun := if y.wmSync && !lost then bad else 0 }
    raiseIf lost (raiseAt s evWmCrc n 0) evWmSync n 0

/-- A mark cycle is missing where one is expected: SYNC is lost (R201). A decoder that a commit has turned off keeps the SYNC it had, and
nothing changes it while it is off (DESIGN CHOICE, log 73: the spec says nothing of it). -/
def wmMissing (s : State) (n : Nat) : State :=
  if !s.coreOn || !fDecode.on s.act (refBase n) then s else wmLose s n

/-! ## Commands -/

def execFreqGateComplete (n : Fin 12) (edges span : Nat) (s : State) : Host.Outcome State Fault Refusal :=
  .next (gateComplete s n edges span)

def execActAlarm (n : Fin 12) (edges : Nat) (s : State) : Host.Outcome State Fault Refusal := .next (actAlarm s n edges)

def execActAlarmClear (n : Fin 12) (s : State) : Host.Outcome State Fault Refusal := .next (actClear s n)

/-- HOLDOFF_ELAPSED: the hold-off of a source ends in this tick, and the time up to its end passes (log 27); the source qualifies at its
next evaluation (R192, `evalSource`). -/
def holdoffElapsed (s : State) (n : Nat) : State :=
  let x := vat s.srcs n
  let t := x.holdStart + fHoldoff.val s.act (srcBase n) * ms16
  if s.coreOn && x.qual == .holdOff && inTick s t then passTo s t else s

def execHoldoffElapsed (n : Fin 12) (s : State) : Host.Outcome State Fault Refusal := .next (holdoffElapsed s n)

/-- WTR_DONE: a wait-to-restore timer has run out (R204). Before the tick's EVALUATE the timer waits for it, since a disqualification of that
tick discards it (R213). -/
def execWtrDone (d : Fin 4) (n : Fin 12) (s : State) : Host.Outcome State Fault Refusal :=
  .next (if s.coreOn && s.time.phase != .sample then wtrExpire s d n else s)

/-- QL_TIMEOUT: the in-band code of a source has gone without a reception for QL_TIMEOUT (R198). -/
def execQlTimeout (n : Fin 12) (s : State) : Host.Outcome State Fault Refusal := .next (if s.coreOn then qlTimeout s n else s)

def execWmPayloadReceived (n : Fin 8) (payload : BitVec 48) (shapeOk onTime : Bool) (age : Nat) (s : State) :
    Host.Outcome State Fault Refusal := .next (wmReceived s n payload.toNat shapeOk onTime age)

def execWmMarkMissing (n : Fin 8) (s : State) : Host.Outcome State Fault Refusal := .next (wmMissing s n)

end Sys2Proof.Machine
end

