-- ==== Sys2Proof/Machine/Holdover.lean ====
section
/-!
DEFINITION. Sys2Proof/Machine/Holdover.lean: the history of the frequency word, the holdover frequency, the temperature sensors and
the learning of the Last model (R263 to R297).
-/
namespace Sys2Proof.Machine

/-! ## History (R266, R267) -/

/-- Bench second of the boundary of the present tick. -/
def State.tickSec (s : State) : Nat := s.tickStart / sec16

/-- The mean of bins weighted by their counts, and the whole count: mean word, temperatures, centre time (s), XO age (s). A bin that
covers a minute has its centre 30 s after its start, one of a second 1/2 s after it. -/
structure HistMean where
  count : Nat
  mean : Rat
  tTs : Rat
  tDie : Rat
  tc : Rat
  uc : Rat

/-- The weighted mean of bins, each with the length in seconds that it covers. -/
def histMean (bs : List (HistBin × Nat)) : HistMean :=
  let n : Nat := bs.foldl (fun a b => a + b.1.count) 0
  let avg (f : HistBin × Nat → Rat) : Rat := if n = 0 then 0 else bs.foldl (fun a b => a + f b * (b.1.count : Rat)) 0 / (n : Rat)
  { count := n, mean := avg (·.1.mean), tTs := avg (·.1.tTs), tDie := avg (·.1.tDie),
    tc := avg (fun b => b.1.at_ + (b.2 : Rat) / 2), uc := avg (·.1.age) }

/-- A minute whose last second has left the last 600 s before the second `sec`: only its minute bin is kept (R266). The seconds of a minute
that straddles that instant are still kept one by one (log 55). -/
def minuteOld (sec at_ : Nat) : Bool := decide (at_ / 60 * 60 + 60 + 600 ≤ sec)

/-- The history in the second `sec`, newest first, no valid second twice: the seconds kept, then the older minutes. -/
def allBins (h : Holdover) (sec : Nat) : List (HistBin × Nat) :=
  ((h.secBins.filter fun x => !minuteOld sec x.at_).map fun x => (x, 1)) ++
    (h.minBins.filter fun x => minuteOld sec x.at_).map fun x => (x, 60)

/-- The bins that lie wholly between the bench seconds `a` and `b` (R267): for intervals above 600 s the minute bins between whole
minutes; else all of the history. -/
def binsIn (h : Holdover) (sec : Nat) (histLen a b : Int) : List (HistBin × Nat) :=
  let inside (lo hi : Int) (x : HistBin × Nat) : Bool := decide (lo ≤ x.1.at_) && decide ((x.1.at_ + x.2 : Int) ≤ hi)
  if 600 < histLen then (h.minBins.map fun x => (x, 60)).filter (inside (a / 60 * 60) (b / 60 * 60))
  else (allBins h sec).filter (inside a b)

/-- Of bins, newest first, the most recent `n` valid seconds; the last bin taken counts for what is still missing. -/
def takeSeconds : Nat → List (HistBin × Nat) → List (HistBin × Nat)
  | _, [] => []
  | n, b :: bs => if n = 0 then [] else
      if n ≤ b.1.count then [({ b.1 with count := n }, b.2)] else b :: takeSeconds (n - b.1.count) bs

/-- The history that an entry in the second `sec` freezes: its basis and the means (R267). -/
def freezeHistory (s : State) (d sec : Nat) : HoBasis × HistMean :=
  let c := s.act
  let h := vat s.hos d
  let b := hoBase d
  let e : Int := sec
  let stop := e - fHistGuard.val c b
  let len : Int := fHistLen.val c b
  let min := fHistMin.val c b
  let iv := histMean (binsIn h sec len (stop - len) stop)
  if min ≤ iv.count then (.interval, iv) else
  let all := (allBins h sec).filter fun (x : HistBin × Nat) => decide ((x.1.at_ + x.2 : Int) ≤ stop) && decide (e - 86400 ≤ (x.1.at_ : Int))
  let rec' := histMean (takeSeconds min all)
  if min ≤ rec'.count then (.recent, rec') else (.none, iv)

/-! ## The holdover frequency (R269 to R271) -/

/-- 10^-15 of frequency in units of 2^-48. -/
def fem48 : Rat := (2 ^ 48 : Rat) / 10 ^ 15

/-- The sensor set in use is the TSENSE set (R276). -/
def useTs (s : State) : Bool := s.model.tsState == .ok

/-- The sensor set that DPLL `d` in HOLDOVER computes its target with (R276). -/
def hoSet (s : State) (d : Nat) : SensorSet := if (vat s.hos d).useTs then s.model.ts else s.model.die

/-- The model terms applied to DPLL `d`: TEMP1, TEMP2, AGE (R270). -/
def hoTerms (s : State) (d : Nat) : Bool × Bool × Bool :=
  let set := hoSet s d
  let on := fModelEn.on s.act (hoBase d) && decide (d < 2)
  (on && set.temp1, on && set.temp1 && set.temp2, on && set.ageV)

/-- The entry coefficients of a sensor set for a frozen temperature: c1, c2 and a (R269); K2 counts as 0 while TEMP2_VALID is clear
(R281). -/
def entryCoefs (set : SensorSet) (t0 : Rat) : Rat × Rat × Rat :=
  let k2 := if set.temp2 then set.k2 else 0
  (set.k1 + 2 * k2 * ((t0 - (set.tref.getD 0 : Int)) / 100), k2, set.a)

/-- The target word: F_HIST − Δf, in 2^-48 (R269, R270, R297). -/
def hoTarget (s : State) (d : Nat) : Int :=
  let f := (vat s.hos d).frozen
  let ts := (vat s.hos d).useTs
  let set := hoSet s d
  let (temp1, temp2, age) := hoTerms s d
  let t0 := if ts then f.t0Ts else f.t0Die
  let now : Rat := if ts then (s.model.tempTs : Rat) else (s.model.tempDie : Rat)
  let dT := (now - t0) / 100
  let c1 := if ts then f.c1Ts else f.c1Die
  let c2 := if ts then f.c2Ts else f.c2Die
  let a := if ts then f.aTs else f.aDie
  let c1 := if temp2 then c1 else c1 - 2 * c2 * ((t0 - (set.tref.getD 0 : Int)) / 100)
  let c2 := if temp2 then c2 else 0
  let dTemp := if temp1 then c1 * dT + c2 * dT * dT else 0
  let dAge := if age then (if f.tau = 0 then 0 else a * Config.ln1p (((s.model.xoAge : Rat) - f.uc) / f.tau)) else 0
  ratFree 21 (f.fHist - (dTemp + dAge) * fem48)

/-- HO[n].STATUS's code of the sensor set in use: NONE where no model term is applied (DEDUCED, log 47). -/
def sensorCode (ts : Bool) (terms : Bool × Bool × Bool) : Nat := if !(terms.1 || terms.2.1 || terms.2.2) then 2 else if ts then 0 else 1

/-- The target of DPLL `d` is recomputed, with the terms, the sensor set and MODEL_EN that it rests on (R271, R272). -/
def retarget (s : State) (d : Nat) : State :=
  let t := hoTarget s d
  let terms := hoTerms s d
  let en := fModelEn.on s.act (hoBase d)
  s.onHo d fun h => { h with target := t, terms := terms, sensor := sensorCode h.useTs terms, modelEn := en }

/-- The sensor set in use is looked at anew, at entry and after each whole second (R276). -/
def takeSet (s : State) (d : Nat) : State := s.onHo d fun h => { h with useTs := useTs s }

/-- Freezes a history for DPLL `d` as it enters HOLDOVER: the frozen values of R267 and R269; the applied word starts at the present
word (R271). -/
def freezeEntry (s : State) (d : Nat) (basis : HoBasis) (m : HistMean) : State :=
  let cT := entryCoefs s.model.ts m.tTs
  let cD := entryCoefs s.model.die m.tDie
  let f : Frozen :=
    { fHist := m.mean, t0Ts := m.tTs, t0Die := m.tDie, tc := m.tc * (sec16 : Rat), uc := m.uc, c1Ts := cT.1, c2Ts := cT.2.1,
      aTs := cT.2.2, c1Die := cD.1, c2Die := cD.2.1, aDie := cD.2.2,
      tau := (fAgeTau.val s.act modelBase : Rat) * 3600 + m.uc, useTs := useTs s }
  let w := (vat s.dplls d).word
  let s := s.onHo d fun h => { h with inHo := true, basis := basis, entryAge := s.model.xoAge, frozen := f, appliedWord := w }
  retarget (takeSet s d) d

/-- The largest move of the applied word in one tick, HO_RAMP × Δt, in 2^-48; none: the target is taken at once (R271). -/
def hoRampStep (s : State) (d : Nat) : Option Rat :=
  let r := fHoRamp.val s.act (hoBase d)
  if r = 0 then none else some ((r : Rat) * s.time.period / 8000000 * (2 ^ 48 / 10 ^ 12))

/-- The applied word of DPLL `d` moves toward its target for one tick, and is the frequency word (R271). -/
def hoTick (s : State) (d : Nat) : State :=
  let h := vat s.hos d
  let t : Rat := h.target
  let w := match hoRampStep s d with
    | none => t
    | some m => if t - h.appliedWord < -m then h.appliedWord - m else if m < t - h.appliedWord then h.appliedWord + m else t
  (s.onHo d fun h => { h with appliedWord := w }).onDpll d fun x => { x with word := ratFree 22 w }

/-! ## Learning (R277 to R281) -/

/-- The covariance of a set: the stored entries, and for those not stored the initial ones. -/
def SensorSet.covAt (x : SensorSet) (i : Nat) : Rat := x.cov.getD i (Config.modelCov0 i)

/-- Index in the upper triangle, in row order, of entry (i, j) of a symmetric 4 × 4 matrix. -/
def triIdx (i j : Nat) : Nat :=
  let a := min i j
  let b := max i j
  a * 4 + b - a * (a + 1) / 2

/-- Resets the covariance of b0 alone (R279). -/
def SensorSet.resetB0 (x : SensorSet) : SensorSet :=
  { x with cov := (List.range 10).map fun i => if i < 4 then Config.modelCov0 i else x.covAt i }

/-- Both sets lose the covariance of b0 (R279). -/
def resetB0 (s : State) : State := s.onModel fun m => { m with ts := m.ts.resetB0, die := m.die.resetB0 }

/-- learn_minute of R278 for one set: y in 10^-15, temperature in 0.01 K, u in hours. -/
def SensorSet.learn (x : SensorSet) (y t u : Rat) (ageTau tcDays age : Nat) : SensorSet :=
  let tref : Int := x.tref.getD (10 * ratNear (t / 10))
  let dx := (t - (tref : Rat)) / 100
  let phi : List Rat := [1, dx, dx * dx, Config.ln1p (u / ageTau)]
  let ph (i : Nat) : Rat := phi.getD i 0
  let p (i j : Nat) : Rat := x.covAt (triIdx i j)
  let lam := Config.expNeg (60 / ((tcDays : Rat) * 86400))
  let pPhi (i : Nat) : Rat := (List.range 4).foldl (fun a j => a + p i j * ph j) 0
  let den := lam + (List.range 4).foldl (fun a i => a + ph i * pPhi i) 0
  let k (i : Nat) : Rat := pPhi i / den
  let th : List Rat := [x.b0, x.k1, x.k2, x.a]
  let err := y - (List.range 4).foldl (fun a i => a + ph i * th.getD i 0) 0
  let cov := (List.range 4).flatMap fun i => ((List.range 4).drop i).map fun j => (p i j - k i * pPhi j) / lam
  { x with
    tref := some tref, b0 := x.b0 + k 0 * err, k1 := x.k1 + k 1 * err, k2 := x.k2 + k 2 * err, a := x.a + k 3 * err, cov := cov,
    mins := LearnMin.mk age t ((err / 1000) * (err / 1000)) :: x.mins, minutes := min (2 ^ 32 - 1) (x.minutes + 1),
    firstAge := some (x.firstAge.getD age) }

/-- The span and the residual of a set at XO age `age` (R281): over the learning minutes of the last LEARN_TC and of the last 24 h. The span
that a restored set came with counts until LEARN_TC has passed since (log 69); without a minute in 24 h the residual stays. -/
def SensorSet.measure (x : SensorSet) (tcDays age : Nat) : SensorSet :=
  let mins := x.mins.filter fun m => decide (age < m.age + max 86400 (tcDays * 86400))
  let inTc := (mins.filter fun m => decide (age < m.age + tcDays * 86400)).map (·.temp)
  let day := mins.filter fun m => decide (age < m.age + 86400)
  let was := match x.restored with | some (w, a) => if age < a + tcDays * 86400 then w else 0 | none => 0
  let sp := (ratFree 23 (inTc.foldl max (inTc.headD 0) - inTc.foldl min (inTc.headD 0))).toNat
  { x with
    mins := mins, span := max was sp,
    residual := if day.isEmpty then x.residual else Config.sqrt (day.foldl (fun a m => a + m.err2) 0 / (day.length : Rat)) }

/-- The flags of a set after a learning minute (R281): TEMP1, TEMP2 and the conditions of AGE. -/
def SensorSet.judge (x : SensorSet) (resMax age : Nat) : SensorSet :=
  let t1 := decide (200 ≤ x.span) && decide (1440 ≤ x.minutes) && decide (x.residual ≤ resMax)
  { x with temp1 := t1, temp2 := t1 && decide (800 ≤ x.span),
           ageV := decide (72 * 3600 ≤ age - x.firstAge.getD age) && decide (x.residual ≤ resMax) }

/-- The AGE term is valid in both sets or in neither (R270): it holds where it holds in every set that has learned (DEDUCED, log 33). -/
def joinAge (ts die : SensorSet) : Bool :=
  (ts.minutes == 0 || ts.ageV) && (die.minutes == 0 || die.ageV) && !(ts.minutes == 0 && die.minutes == 0)

/-- The mean of a list. -/
def meanOf (l : List Rat) : Rat := if l.isEmpty then 0 else l.foldl (· + ·) 0 / (l.length : Rat)

/-- The validity flags of both sets. -/
def Model.flags (m : Model) : List Bool := [m.ts.temp1, m.ts.temp2, m.ts.ageV, m.die.temp1, m.die.temp2, m.die.ageV]

/-- A change of a validity flag since `was` is reported (R281, R288). -/
def flagEvent (was : Model) (s : State) : State := raiseIf (s.model.flags != was.flags) s evModelValid 0 0

/-- The waiting learning minute is processed: both sets are fitted and judged, and a changed flag is reported (R278, R281). A set
learns from a minute that holds at least 30 seconds with readings of it; it is judged after every minute. -/
def learnMinute (s : State) : State :=
  let c := s.act
  let secs := s.model.minDue
  if secs.length < 30 then s else
  let tau := fAgeTau.val c modelBase
  let days := fLearnTc.val c modelBase
  let age := s.model.xoAge
  let y (l : List LearnSec) : Rat := meanOf (l.map (·.y)) / fem48
  let u (l : List LearnSec) : Rat := meanOf (l.map fun x => (x.age : Rat)) / 3600
  let withTs := secs.filter (·.tTs.isSome)
  let m := s.model
  let resMax := fResMax.val c modelBase
  let ts := if 30 ≤ withTs.length then m.ts.learn (y withTs) (meanOf (withTs.map fun x => x.tTs.getD 0)) (u withTs) tau days age else m.ts
  let ts := (ts.measure days age).judge resMax age
  let die := ((m.die.learn (y secs) (meanOf (secs.map (·.tDie))) (u secs) tau days age).measure days age).judge resMax age
  let ag := joinAge ts die
  flagEvent m (s.onModel fun m => { m with ts := { ts with ageV := ag }, die := { die with ageV := ag }, minDue := [], learnedSince := true })

/-- The DPLL named by LEARN_SRC. -/
def learnDpll (s : State) : Nat := fLearnSrc.val s.act modelBase

/-- The first of two failing conditions in the order of R277; 0: none. -/
def firstFail (a b : Nat) : Nat := if a = 0 then b else if b = 0 then a else min a b

/-- The first condition of R277 that this tick fails, 1 to 4 in list order; 0: none. -/
def learnWhy (s : State) : Nat :=
  let c := s.act
  let x := vat s.dplls (learnDpll s)
  if !(fLearnEn.on c modelBase && s.loopsRun) then 1
  else if !(match x.lockedSince with
      | some a => x.loop == .locked && x.stage == 7 && decide (a + fLearnSettle.val c modelBase ≤ s.model.xoAge)
      | none => false) then 2
  else if !(match x.sel with
      | some n => decide (n < 12) &&
          decide (qlRank s.qlOption (vat s.srcs n).effQl ≤ qlRank s.qlOption (some (fLearnQlMin.val c modelBase)))
      | none => false) then 3
  else if s.model.disturbed then 4 else 0

/-- What this tick shows of the present second (R277): LEARNING holds while no tick of it has failed a condition; a second in which LEARN_SRC
changes has no DPLL that was LOCKED throughout. -/
def learnTick (s : State) : State :=
  let d := learnDpll s
  let was := if s.model.learnOf.isNone then 0 else s.model.whyNot
  let moved := s.model.learnOf.isSome && s.model.learnOf != some d
  let why := firstFail was (firstFail (if moved then 2 else 0) (learnWhy s))
  s.onModel fun m => { m with learning := why == 0, whyNot := why, learnOf := some d }

/-- The second just ended is judged for learning with the bin value it gave (R277). -/
def learnSecond (s : State) (valid : Bool) (binVal : Rat) : State :=
  let m := s.model
  if firstFail (firstFail m.whyNot (if valid then 0 else 2)) (if m.disturbed then 4 else 0) ≠ 0 then s else
  let rec' : LearnSec := { y := -binVal, tTs := if useTs s then some (s.model.tempTs : Rat) else none,
                           tDie := (s.model.tempDie : Rat), age := s.model.xoAge }
  s.onModel fun m => { m with secs := rec' :: m.secs }

/-- At the end of a minute the learning seconds of it form a learning minute if there are 30; one not yet processed is discarded
(R278, R280). -/
def learnMinuteEnd (s : State) : State :=
  s.onModel fun m => { m with minDue := if 30 ≤ m.secs.length then m.secs else [], secs := [] }

/-! ## Bins -/

/-- The minute bin of the minute that starts at second `m0`, from the second bins (R266); none below 30 valid seconds. -/
def minuteBin (h : Holdover) (m0 : Nat) : Option HistBin :=
  let xs := h.secBins.filter fun x => decide (m0 ≤ x.at_) && decide (x.at_ < m0 + 60)
  if xs.length < 30 then none else
  let m := histMean (xs.map fun x => (x, 1))
  some { at_ := m0, mean := m.mean, tTs := m.tTs, tDie := m.tDie, age := m.uc, count := xs.length }

/-- Closes the bin of DPLL `d` for the second just ended and starts that of second `sec` (R266, R268). -/
def closeBin (s : State) (d sec : Nat) : State :=
  let h := vat s.hos d
  let was := h.accSec
  let valid := h.accValid && decide (0 < h.accTicks)
  let mean : Rat := if h.accTicks = 0 then 0 else (h.accSum : Rat) / h.accTicks
  let b : HistBin := { at_ := was, mean := mean, tTs := s.model.tempTs, tDie := s.model.tempDie, age := s.model.xoAge, count := 1 }
  let s := if s.model.learnOf = some d then learnSecond s valid mean else s
  s.onHo d fun h =>
    let secs := if valid then b :: h.secBins else h.secBins
    let h := { h with secBins := secs, accSum := 0, accTicks := 0, accValid := true, accSrc := none, accSec := sec }
    let h := if was / 60 ≠ sec / 60 then
        match minuteBin h (was / 60 * 60) with
        | some m => { h with minBins := m :: h.minBins }
        | none => h
      else h
    { h with secBins := (h.secBins.filter fun x => !minuteOld sec x.at_).take 660,
             minBins := (h.minBins.filter fun x => decide (sec < x.at_ + 86400 + 60)).take 1440 }

/-- In the first EVALUATE of a second, each DPLL closes its bin and, in HOLDOVER, recomputes its target (R266, R271); at the end of a
minute the learning minute forms. A changed MODEL_EN recomputes it in any EVALUATE (R272). -/
def historyTick (s : State) : State :=
  let sec := s.tickSec
  let was := (vat s.hos 0).accSec
  let s := if sec = was then s else
    let s := forN 4 (fun d t => closeBin t d sec) s
    let s := s.onModel fun m => { m with learnOf := none, disturbed := false }
    let s := if sec / 60 ≠ was / 60 then learnMinuteEnd s else s
    forN 4 (fun d t => if (vat t.hos d).inHo then retarget (takeSet t d) d else t) s
  forN 4 (fun d t =>
    let h := vat t.hos d
    if h.inHo && h.modelEn != fModelEn.on t.act (hoBase d) then retarget t d else t) s

/-- The word of the present tick enters the bin that is being gathered (R266). -/
def gatherBin (s : State) (d : Nat) : State :=
  let x := vat s.dplls d
  let good := x.loop == .locked && x.stage == 7
  s.onHo d fun h => { h with
    accSum := h.accSum + x.word, accTicks := h.accTicks + 1,
    accValid := h.accValid && good && (h.accTicks == 0 || h.accSrc == x.sel), accSrc := x.sel }

/-! ## Temperature sensing (R273 to R276) -/

/-- The TSENSE state becomes `t`, with its event on entry (R275). -/
def setTs (s : State) (t : TsState) : State :=
  if s.model.tsState = t then s else
  let s := s.onModel fun m => { m with tsState := t, readings := if t = .fault || t = .disabled then [] else m.readings }
  match t with
  | .fault => raise s evTsenseFault
  | .frozen => raise s evTsenseFrozen
  | .ok => raise s evTsenseOk
  | .disabled => s

/-- TSENSE_CFG.EN as the active configuration has it decides between DISABLED and the judged states (R275). -/
def tsEnable (s : State) : State :=
  let en := fTsEn.on s.act modelBase
  if !en then setTs s .disabled else if s.model.tsState = .disabled then setTs s .ok else s

/-- The diode's temperature in 0.01 degrees Celsius from the reading `raw` that an ideality factor of 1 gives: the absolute temperature is
divided by NF, then OFFSET is added (R274; PRESUMED, log 70). -/
def tsReading (c : View) (raw : Int) : Int := quotFree 125 ((raw + 27315) * 4096) (fTsNf.val c modelBase) - 27315 + fTsOffset.int c modelBase

/-- One measurement, every 100 ms (R274): the diode reading as an ideality factor of 1 gives it, and the die reading, both in 0.01 degrees
Celsius; an excitation that does not settle or a reading out of range is a FAULT at once (R275). -/
def tsMeasure (s : State) (ts die : Int) (settled : Bool) : State :=
  if !s.coreOn then s else
  let s := tsEnable s
  let en := s.model.tsState != .disabled
  let t := tsReading s.act ts
  let bad := en && (!settled || decide (t < -6000) || decide (16000 < t))
  let s := s.onModel fun m => { m with samples := (t, die) :: m.samples, tsBad := m.tsBad || bad }
  if bad then setTs s .fault else s

/-- The mean of readings, to a whole 0.01 K with the free rounding of log 1. -/
def meanReading (l : List Int) : Int := if l.isEmpty then 0 else quotFree 24 (l.foldl (· + ·) 0) l.length

/-- The mean of die readings, to its resolution of 0.05 K. -/
def meanDie (l : List Int) : Int := if l.isEmpty then 0 else 5 * quotFree 126 (l.foldl (· + ·) 0) (5 * l.length)

/-- Largest less smallest of a list of readings. -/
def spread (l : List Int) : Int := l.foldl max (l.headD 0) - l.foldl min (l.headD 0)

/-- The 1 s judgement: the readings of the second are averaged and shown, and the state is judged over the last 10 min (R274, R275). -/
def tsJudge (s : State) : State :=
  if !s.coreOn then s else
  let s := tsEnable s
  let m := s.model
  let t := meanReading (m.samples.map (·.1))
  let die := meanDie (m.samples.map (·.2))
  let s := if m.samples.isEmpty then s else
    s.onModel fun m => { m with tempTs := t, tempDie := die, readings := if m.tsBad then [] else ((t, die) :: m.readings).take 600 }
  let s := s.onModel fun m => { m with samples := [], tsBad := false }
  let rs := s.model.readings
  let first := rs.getLastD (0, 0)
  let last := rs.headD (0, 0)
  let full := decide (600 ≤ rs.length)
  let still := rs.all fun r => decide ((r.1 - first.1).natAbs ≤ 1)
  let dt := last.1 - first.1
  let dd := last.2 - first.2
  if s.model.tsState = .disabled || !full then s
  else if still && decide (100 < spread (rs.map (·.2))) then setTs s .frozen
  else if s.model.tsState != .ok && ((decide (10 ≤ dt) && decide (0 < dd)) || (decide (dt ≤ -10) && decide (dd < 0))) then setTs s .ok
  else s

/-! ## Commands -/

/-- TSENSE_MEASURE. -/
def execTsenseMeasure (ts die : Int) (settled : Bool) (s : State) : Host.Outcome State Fault Refusal := .next (tsMeasure s ts die settled)

/-- TSENSE_JUDGE. -/
def execTsenseJudge (s : State) : Host.Outcome State Fault Refusal := .next (tsJudge s)

/-- LEARNING_MINUTE: the waiting learning minute is processed in unused CORE cycles (R280), which are those of EVALUATE and DISPATCH (R72). -/
def execLearningMinute (s : State) : Host.Outcome State Fault Refusal := .next (if spareCycles s then learnMinute s else s)

end Sys2Proof.Machine
end

