-- ==== Sys2Proof/Machine/Dpll.lean ====
section
/-!
DEFINITION. Sys2Proof/Machine/Dpll.lean: the four digital PLLs: loop states, loop filter, lock, switching, realignment, external
feedback, the host-steered source and the phase mover (R222 to R262), and the steps of bench time that they make (R239, R241).
-/
namespace Sys2Proof.Machine

/-! ## Steps of bench time (R103, R239, R241, R317, R567) -/

/-- First tick whose boundary lies at or after the bench time of TXN.AT_TIME (R547). -/
def atTimeTick (s : State) : Nat :=
  (s.txn.atSec * secB + s.txn.atNs * 2 ^ 40 + (tickLenB s.time.period - 1)) / tickLenB s.time.period

/-- What every jump of bench time brings: EV_TIME_JUMP, loaded edges to be judged again (R103), and the boundary of a commit at a
time computed anew (R567). -/
def noteJump (s : State) : State :=
  let s := s.onTime fun t => { t with rejudge := true, secSeen := t.bench / secB }
  let s := if s.txn.st = .pending ∧ s.txn.kind = .atTime then s.onTxn fun t => { t with commitTick := atTimeTick s } else s
  raise { s with lastJump := some s.now } evJump

/-- A sum in the range of bench time. -/
def wrapBench (b : Nat) (delta : Int) : Nat := ((b + delta) % (benchMod : Int)).toNat

/-- The instants on TS[0] that are still to come move with a step of bench time (DESIGN CHOICE, log 9; of a seconds set they stay on the grid of
every whole-hertz period, R317). -/
def moveInstants (s : State) (delta : Int) : State :=
  let mv (t : Nat) : Nat := ((t : Int) + delta / (u16 : Int)).toNat
  let own (n : Nat) : Bool := fSel.val s.act (outBase n) != 1 && fSel.val s.act (outBase n) != 2
  { s with
    aplls := vupd s.aplls 0 fun a => { a with readyAt := mv a.readyAt }
    outs := vmap (fun n o => { o with
      epochAt := if o.cur.sel = 0 then o.epochAt.map mv else o.epochAt, startAt := if own n then o.startAt.map mv else o.startAt }) s.outs }

/-- Moves bench time by `delta` of 2^-40 ns. The internal tick edge of the running tick moves with it, so that the phases of this tick keep
their lengths (DESIGN CHOICE, log 9: R67 and R68 do not speak of a step within a tick). -/
def stepBench (s : State) (delta : Int) : State :=
  noteJump (moveInstants (s.onTime fun t => { t with bench := wrapBench t.bench delta, tickEdge := wrapBench t.tickEdge delta }) delta)

/-- The timescale of DPLL `d` in 2^-40 ns (R308), its increment per cycle, and its time in 2^-16 ns. -/
def tsRaw (s : State) (d : Nat) : Nat := if d = 0 then s.time.bench else (vat s.dplls d).timescale
def tsInc (s : State) (d : Nat) : Nat := if d = 0 then s.time.inc else incOf (vat s.dplls d).applied
def tsNow (s : State) (d : Nat) : Nat := tsRaw s d / u16

/-- Cycles until timescale `d` reads `t` or later; none if it does. -/
def tsCycles (s : State) (d t : Nat) : Nat := (t * u16 - tsRaw s d + (tsInc s d - 1)) / tsInc s d

/-- Time passes until timescale `d` reads `t` (log 27). -/
def passTs (s : State) (d t : Nat) : State := runCycles (tsCycles s d t) s

/-- Timescale `d` reads `t` before the present tick ends (log 27). -/
def tsInTick (s : State) (d t : Nat) : Bool :=
  let len := tickLenB s.time.period
  decide (tsCycles s d t ≤ cyclesFor s ((s.time.tickEdge / len + 1) * len - s.time.bench))

/-- The instant of timescale `d` 16 CORE_CLK cycles from now (R315, R348). -/
def inCycles16 (s : State) (d : Nat) : Nat := (tsRaw s d + 16 * tsInc s d) / u16

/-- An APLL whose alignment has ended runs ALIGNING again after a step of its timescale (R317); one that is aligned to nothing passes it
at once (R312). -/
def realignApll (s : State) (n : Nat) : State :=
  let pass := unalignable s.act n
  s.onApll n fun a =>
    if a.st = .waitEpoch ∨ a.st = .run then
      { a with st := if pass then .waitEpoch else .aligning, aligned := false, readyAt := inCycles16 s n } else a

/-- Moves the timescale of DPLL `d` by `delta` of 2^-16 ns (R239). -/
def stepTimescale (s : State) (d : Nat) (delta : Int) : State :=
  let s := if d = 0 then stepBench s (delta * u16)
           else s.onDpll d fun x => { x with timescale := wrapBench x.timescale (delta * u16) }
  if d < 2 then realignApll s d else s

/-! ## Which loops act -/

/-- DPLL `d` steers: the loops are closed and it is in service (R161, R223). -/
def dpllRuns (s : State) (d : Nat) : Bool := s.loopsRun && inService s.act (dpllBase d)

/-- The DPLL that an output is sourced from in the active configuration (R305, R347). -/
def outDpll (c : View) (n : Nat) : Option Nat :=
  match fSel.val c (outBase n) with
  | 0 => some 0
  | 1 => some 1
  | 2 => some (2 + fFodDpll.val c (fodBase (fIdx.val c (outBase n))))
  | _ => none

/-- Some output sourced from DPLL `d` is UP (R239). -/
def someOutUp (s : State) (d : Nat) : Bool :=
  (List.range 24).any fun n => outDpll s.act n == some d && vat s.opers.outs n == .up

/-! ## The phase mover (R246 to R249) -/

/-- Units of POSITION per 2^-16 ns, and of VELOCITY per 2^-16 ns/s: the ticks of 125 ns in a second, squared and plain. -/
def pUnit : Int := 8000000 * 8000000
def vUnit : Int := 8000000

/-- a of R247 in 2^-16 ns/s², a·Δt in units of VELOCITY, a·Δt² in units of POSITION. -/
def moverA (s : State) (d : Nat) : Int := fAccel.val s.act (dpllBase d) * 65536
def moverAdt (s : State) (d : Nat) : Int := moverA s d * s.time.period
def moverAdt2 (s : State) (d : Nat) : Int := moverA s d * s.time.period * s.time.period

/-- P in 2^-16 ns, exactly. -/
def Dpll.pos (x : Dpll) : Rat := (x.pmP : Rat) / pUnit

/-- Square root with the free rounding of log 1. -/
def rootFree (tag n : Nat) : Int :=
  let r := isqrt n
  if r * r = n then r else if Config.roundUp tag n 1 then r + 1 else r

/-- The mover of DPLL `d` arrives at target `t` + `tf` in this step (R247). -/
def pmArrives (s : State) (d : Nat) (t tf : Int) : Bool :=
  let x := vat s.dplls d
  let dist := t * pUnit + tf - x.pmP
  decide ((dist.natAbs : Int) ≤ moverAdt2 s d) && decide ((x.pmV.natAbs : Int) ≤ moverAdt s d)

/-- A HALT of the very cycle in which the mover arrives at the target it had before: the arrival wins (R254). -/
def pmHaltLoses (s : State) (d : Nat) : State :=
  match (vat s.dplls d).pmHalt with
  | some (b, t, tf) =>
    if b = s.time.bench && pmArrives s d t tf then s.onDpll d fun y => { y with pmT := t, pmTfrac := tf, pmAbort := true } else s
  | none => s

/-- One step of the mover (R247), with the arrival (R238, R254). -/
def pmStep (s : State) (d : Nat) : State :=
  if !dpllRuns s d then s.onDpll d fun y => { y with pmState := .frozen, pmV := 0 } else
  let s := pmHaltLoses s d
  let x := vat s.dplls d
  let dist := x.pmT * pUnit + x.pmTfrac - x.pmP
  let adt := moverAdt s d
  if pmArrives s d x.pmT x.pmTfrac then
    let moved := x.pmState == .moving || dist != 0
    let s := s.onDpll d fun y => { y with
      pmP := y.pmT * pUnit + y.pmTfrac, pmV := 0, pmState := .idle, realigning := false,
      pmArriveAt := if moved then some s.time.bench else y.pmArriveAt }
    raiseIf x.realigning (raiseIf moved s evPmDone d 0) evRealignDone d 0
  else
    let slew := fSlew.val s.act (dpllBase d) * 65536 * vUnit
    let brake := rootFree 25 (2 * (moverA s d).toNat * dist.natAbs)
    let want := dist.sign * min slew brake
    let v := x.pmV + max (-adt) (min adt (want - x.pmV))
    s.onDpll d fun y => { y with pmV := v, pmP := y.pmP + v * s.time.period, pmState := .moving }

/-- STATE of the mover as it reads: FROZEN while the DPLL does not steer; once it steers, what its next step finds (R248). -/
def pmShown (s : State) (d : Nat) : PmState :=
  let x := vat s.dplls d
  if !dpllRuns s d then .frozen
  else if x.pmState != .frozen then x.pmState
  else if x.pmT * pUnit + x.pmTfrac = x.pmP then .idle else .moving

/-- The mover's velocity as a frequency word of 2^-48: v ns/s is v × 10^-9 (R247). -/
def moverWord (x : Dpll) : Rat := (x.pmV : Rat) / vUnit / 65536 / 10 ^ 9 * 2 ^ 48

/-- BO moves into the mover in one step: P := P + BO, BO := 0 (R238, R256). -/
def realign (s : State) (d : Nat) : State :=
  s.onDpll d fun x => { x with pmP := x.pmP + x.bo * pUnit, bo := 0, realigning := true, realignDue := false }

/-! ## The loop filter (R227 to R229, R235, R239) -/

/-- BW and DAMP codes in force: those of the stage, or of the tracking loop (R231). -/
def loopCodes (s : State) (d : Nat) : Nat × Nat :=
  let c := s.act
  let b := dpllBase d
  let k := (vat s.dplls d).stage
  if k < 4 then ((fStageBw k).val c b, (fStageDamp k).val c b) else (fBw.val c b, fDamp.val c b)

/-- The phase-detector period T_pd = PREDIV / NOM_FREQ of source `n`, in 2^-16 ns (R186, R408); 0 where it has none. -/
def srcPd (c : View) (n : Nat) : Rat :=
  if srcNom c n = 0 then 0 else ((srcPrediv c n * (2 ^ 32 * 10 ^ 9) : Nat) : Rat) / (srcNom c n : Rat)

/-- The feedback phase-detector period FB_PREDIV / FB_NOM_FREQ of DPLL `d`, in 2^-16 ns; 0 where it has none. -/
def fbPd (c : View) (d : Nat) : Rat :=
  let b := dpllBase d
  if fFbNom.val c b = 0 then 0 else ((fFbPrediv.val c b * (2 ^ 32 * 10 ^ 9) : Nat) : Rat) / (fFbNom.val c b : Rat)

/-- A time modulo a period, as the distance from the nearest multiple; without a period the distance has no stated value (log 31). -/
def centred (x period : Rat) : Rat :=
  if period ≤ 0 then (Config.unstated 40 x.num x.den : Rat) else
  let r := x - period * (x / period).floor
  if period < 2 * r then r - period else r

/-- The timescale of DPLL `d` in 2^-16 ns (R308). -/
def ts16 (s : State) (d : Nat) : Nat := if d = 0 then s.now else (vat s.dplls d).timescale / u16

/-- CORE_CLK time in 2^-16 ns, from channel P's clock of 100 ps. -/
def coreTime (s : State) : Rat := (s.safe.p.clk : Rat) * 32768 / 5

/-- The error `e`, known modulo `t`, moved by the multiple of `t` that brings it nearest to `aim`. -/
def toward (e aim t : Rat) : Rat := e + t * (ratNear ((aim - e) / t) : Rat)

/-- φ_fb − φ_ref at an edge of source `n`, `age` ago, with internal feedback: the DPLL's timescale modulo T_pd (R240, R308). For DPLL0 and a
reference whose decoder is in SYNC, the mark cycle tells which multiple of T_pd is meant (R241); for a Lace source the peer's bench time
does, and the error is taken modulo 1 s (R408, R409). -/
def innerPhase (s : State) (d n age : Nat) : Rat :=
  let t := srcPd s.act n
  let e := centred ((ts16 s d : Rat) - age) t
  let x := vat s.srcs n
  if d = 0 ∧ n < 8 ∧ x.wmSync = true ∧ 0 < t then toward e x.wmMark t
  else if n < 8 then e
  else match (vat s.ports (n - 8)).peerAt with
    | some (clk, peer) => toward e (centred ((ts16 s d : Rat) - (peer : Rat) - (coreTime s - (clk : Rat) * 32768 / 5)) sec16) t
    | none => e

/-- The same with external feedback: the time from the last divided feedback edge to the edge of the source, modulo T_pd (R242); none where
no feedback edge has come yet. `fbs`: times of the divided feedback edges, oldest first. -/
def outerPhase (s : State) (n age : Nat) (fbs : List Rat) : Option Rat :=
  let ref := coreTime s - age
  match (fbs.filter fun t => decide (t ≤ ref)).getLast? with
  | some t => some (centred (ref - t) (srcPd s.act n))
  | none => none

/-- The feedback divider of DPLL `d` takes the edges of its pin (R242): every FB_PREDIV-th is a divided edge, and feedback periods with edges
are counted, anew after a gap of two periods (R243). Gives the times of the divided edges, after the last one of earlier ticks. -/
def fbLatch (s : State) (d : Nat) (fb : Vector (List Nat) 2) : List Rat × State :=
  let sel := fFbSel.val s.act (dpllBase d)
  if sel = 0 then ([], s) else
  let x := vat s.dplls d
  let pre := max 1 (fFbPrediv.val s.act (dpllBase d))
  let ages := vat fb (sel - 1)
  let now := coreTime s
  let new := ((List.range ages.length).filter fun i => (x.fbDiv + i + 1) % pre == 0).map fun i => now - (ages.getD i 0 : Nat)
  let gap (a : Option Rat) (t : Rat) : Bool := match a with | some b => decide (0 < fbPd s.act d) && decide (2 * fbPd s.act d < t - b) | none => true
  let run := new.foldl (fun (k, a) t => (if gap a t then 1 else min 64 (k + 1), some t)) (x.fbGood, x.fbLast)
  let broken := new.foldl (fun (k, a) t => (k || gap a t, some t)) (false, x.fbLast)
  (x.fbLast.toList ++ new, s.onDpll d fun y => { y with
    fbDiv := (y.fbDiv + ages.length) % pre, fbGood := run.1, fbLast := run.2, fbVaried := y.fbVaried && !broken.1 })

/-- What the readings of a tick leave of the watch on frozen feedback (R243): how often the last one has repeated, with the movement that
the words command meanwhile. -/
def fbReadings (s : State) (x : Dpll) (rs : List Int) : Dpll :=
  let move : Rat := (x.applied : Rat) * s.tick16 / 2 ^ 48
  rs.foldl (fun y r =>
    if y.fbReading = some r then { y with fbSame := min 64 (y.fbSame + 1) }
    else { y with fbReading := some r, fbSame := 1, fbMove := 0, fbVaried := y.fbVaried || y.fbReading.isSome })
    { x with fbMove := x.fbMove + move }

/-- One cycle of the lock detector (R233): `e` its phase error in 2^-16 ns (none: no edge of the feedback), `gap` that a cycle without an
edge came before it. -/
def lockCycle (c : View) (d : Nat) (x : Dpll) (e : Option Rat) (gap : Bool) : Dpll :=
  let b := dpllBase d
  match e with
  | none => { x with lockRun := 0 }
  | some e =>
    let ps := (if e < 0 then -e else e) * 1000 / 65536
    let lock := if (fLockWin.val c b : Rat) < ps then 0 else min 65535 ((if gap then 0 else x.lockRun) + 1)
    let unlock := if ps ≤ (fUnlockWin.val c b : Rat) then 0 else min 65535 (x.unlockRun + 1)
    { x with
      lockRun := lock, unlockRun := unlock, lockMet := x.lockMet || decide (fLockCnt.val c b ≤ lock),
      unlockMet := x.unlockMet || decide (fUnlockCnt.val c b ≤ unlock) }

/-- SAMPLE of DPLL `d` with the edges of its source (R228): each pair's φ_fb − φ_ref is formed and accumulated, and the lock detector runs.
Errors of the source before a switch are not kept beyond that switch's own EVALUATE (R235); an accumulation that waits for a deferred filter
is added to (R77). -/
def tdcLatch (s : State) (d : Nat) (edges : List Nat) (fb : Vector (List Nat) 2) : State :=
  let (fbs, s) := fbLatch s d fb
  let c := s.act
  let x := { vat s.dplls d with lockMet := false, unlockMet := false }
  let old := match x.boPending with | some k => decide (s.time.tickSeq ≤ k + 1) | none => false
  match x.sel with
  | none => s.onDpll d fun _ => { x with pdLast := none }
  | some n =>
    if old then s.onDpll d fun _ => { x with tdcSum := 0, tdcCount := 0, tdcFirst := 0, pdLast := none } else
    let inner := fFbSel.val c (dpllBase d) = 0
    let phases := edges.map fun a => (a, if inner then some (innerPhase s d n a) else outerPhase s n a fbs)
    let rs := phases.filterMap fun p => p.2.map (ratFree 127)
    let first := if x.tdcCount = 0 then rs.headD x.tdcFirst else x.tdcFirst
    let bo : Rat := if x.boPending.isSome then (first : Rat) - x.pos else x.bo
    let y := phases.foldl (fun (y : Dpll) p =>
      let t := ts16 s d - p.1
      let gap := match y.pdLast with | some l => decide (3 * srcPd c n < 2 * ((t : Rat) - l)) | none => false
      { lockCycle c d y (p.2.map fun e => e - bo - y.pos) gap with pdLast := some t }) x
    let y := if inner then y else fbReadings s y rs
    s.onDpll d fun _ => { y with tdcSum := y.tdcSum + rs.foldl (· + ·) 0, tdcCount := y.tdcCount + rs.length, tdcFirst := first }

/-- The lock detector starts its runs anew (R235, R252). -/
def lockRestart (x : Dpll) : Dpll := { x with lockRun := 0, unlockRun := 0, lockMet := false, unlockMet := false, pdLast := none }

/-- The accumulation is used up or discarded. -/
def tdcClear (s : State) (d : Nat) : State := s.onDpll d fun x => { x with tdcSum := 0, tdcCount := 0, tdcFirst := 0 }

/-- The filter's use of an accumulation with the build-out offset `bo` (R228, R229): a positive error is feedback ahead of the source,
and lowers the word. -/
def filterUpdate (s : State) (d : Nat) (bo : Int) : State :=
  let x := vat s.dplls d
  let mean : Rat := (x.tdcSum : Rat) / (x.tdcCount : Rat) - bo - x.pos
  let k := loopCodes s d
  let integ := x.integ - loopKi k.1 k.2 s.time.period * mean
  s.onDpll d fun y => { y with
    meanErr := ratFree 26 mean, integ := integ, word := ratFree 27 (integ - loopKp k.1 k.2 * mean) }

/-- The first accumulation after BO was asked for: BO is set so that e is zero (R235, R237, R238), or cleared as a step (R239). -/
def buildOut (s : State) (d : Nat) : State :=
  let x := vat s.dplls d
  let c := s.act
  let bo := ratFree 28 ((x.tdcFirst : Rat) - x.pos)
  let stepIt := x.firstStep && fFirstStep.on c (dpllBase d) && !fRelock.on c (dpllBase d) && !someOutUp s d
  let s := filterUpdate (s.onDpll d fun y => { y with boPending := none, firstStep := false }) d bo
  if stepIt then stepTimescale (s.onDpll d fun y => { y with bo := 0, realignDue := false }) d (-bo)
  else
    let s := s.onDpll d fun y => { y with bo := bo }
    if x.realignDue then realign s d else s

/-- The loop filter job for DPLL `d`; `disq` says that this EVALUATE finds its source DISQUALIFIED, and the accumulation is discarded
(R227); so it is in the tick of a feedback fault (R243). A tick without an edge gives no update (R228). Fewer stages than those passed
lead to the tracking loop, where lock is to be declared anew (R257). So does an N_STAGES equal to the index of the stage in progress,
which is then no stage of the configuration; no EV_DPLL_STAGE is raised, since no dwell has ended (DESIGN CHOICE, log 73). -/
def loopFilter (s : State) (disq : Nat → Bool) (d : Nat) : State :=
  let s := s.onDpll d fun x =>
    if x.stage < 4 ∧ fNStages.val s.act (dpllBase d) ≤ x.stage then { x with stage := 7, lockSince := none } else x
  let x := vat s.dplls d
  let closed := dpllRuns s d && (x.loop == .acquire || x.loop == .locked) && x.fb == .ok
  match x.sel with
  | some n =>
    if !closed || decide (12 ≤ n) || disq n then tdcClear s d
    else if x.tdcCount = 0 then s
    else tdcClear (if x.boPending.isSome then buildOut s d else filterUpdate s d x.bo) d
  | none => tdcClear s d

/-! ## Loop states (R224, R225) -/

/-- DPLL `d` changes its loop state with a cause (R770); for DPLL0 DEV_MODE follows (R157). -/
def setLoop (s : State) (d : Nat) (l : LoopState) (cause : Nat) : State :=
  let was := (vat s.dplls d).loop
  if was = l then s else
  let s := s.onDpll d fun x => { x with loop := l, loopCause := cause }
  let s := raiseIf (was == .holdover) s evHoExit d cause
  let s := raiseIf (l == .holdover) s evHoEnter d cause
  let s := if was = .holdover then s.onHo d fun h => { h with inHo := false, sensor := 2, terms := (false, false, false) } else s
  let s := s.onDpll d fun x => { x with lockedSince := if l = .locked then some s.model.xoAge else none }
  if d = 0 then refreshMode s mcLoop else s

/-- Loop causes (R770). -/
def lcSelection : Nat := 1
def lcLock : Nat := 2
def lcUnlock : Nat := 3
def lcFeedback : Nat := 4
def lcMode : Nat := 5
def lcAdmin : Nat := 6
def lcSwitch : Nat := 7

/-- DPLL `d` goes to FREERUN: its word is nominal, nothing of an acquisition is left. -/
def toFreerun (s : State) (d cause : Nat) : State :=
  let s := s.onDpll d fun x => { x with
    word := 0, integ := 0, meanErr := 0, boPending := none, firstStep := false, realignDue := false, stage := 7, lockSince := none,
    acqTimedOut := false, bo := 0, lostTick := if cause = lcSelection then some s.time.tickSeq else x.lostTick }
  tdcClear ((setLoop s d .freerun cause).onDpll d lockRestart) d

/-- DPLL `d` enters HOLDOVER, or FREERUN where no history is valid (R225, R267). -/
def toHoldover (s : State) (d cause : Nat) : State :=
  let (basis, m) := freezeHistory s d s.tickSec
  match basis with
  | .none => toFreerun (raiseAt (s.onHo d fun h => { h with basis := .none }) evHoNoHistory d cause) d cause
  | b =>
    let s := raiseIf (b == .recent) s evHoRecent d cause
    let s := freezeEntry s d b m
    let s := s.onDpll d fun x => { x with
      boPending := none, firstStep := false, realignDue := false, stage := 7, lockSince := none,
      lostTick := if cause = lcSelection then some s.time.tickSeq else x.lostTick }
    tdcClear ((setLoop s d .holdover cause).onDpll d lockRestart) d

/-- The integrator that an acquisition of source `n` starts with, in 2^-48 (R231, R272): the measured offset of the source with the
sign of a word, else the applied holdover word, else nominal. -/
def presetInteg (s : State) (d n : Nat) : Rat :=
  let x := vat s.srcs n
  if n < 12 ∧ x.freqValid = true ∧ fBaseSel.on s.act (srcBase n) = false then -(x.freqOffset : Rat) / 10 ^ 9 * 2 ^ 48
  else if (vat s.dplls d).loop = .holdover then (vat s.hos d).appliedWord else 0

/-- DPLL `d` enters ACQUIRE on a monitored source `n` from FREERUN or HOLDOVER (R231, R238, R239). -/
def acquire (s : State) (d n : Nat) : State :=
  let integ := presetInteg s d n
  let stage := if 1 ≤ fNStages.val s.act (dpllBase d) then 0 else 7
  let now := s.now
  let seq := s.time.tickSeq
  let s := s.onDpll d fun x => { x with
    integ := integ, word := ratFree 29 integ, stage := stage, lockSince := none, bo := 0, boPending := some seq,
    firstStep := x.firstAcq, firstAcq := false, realignDue := false, acqStart := now, acqTimedOut := false, switchTick := some seq }
  tdcClear ((setLoop s d .acquire lcSelection).onDpll d lockRestart) d

/-- Source 12 makes the loop LOCKED or ACQUIRE as HOST_LOCK says (R245). -/
def hostLoop (s : State) (d : Nat) : State :=
  let x := vat s.dplls d
  let want : LoopState := if x.hostLock then .locked else .acquire
  if x.loop = want then s else
  let s := raiseIf (want == .locked) s evLock d lcLock
  let s := raiseIf (want == .acquire && x.loop == .locked) s evUnlock d lcUnlock
  let s := if want = .acquire then s.onDpll d fun y => { y with acqStart := s.now, acqTimedOut := false } else s
  setLoop s d want (if want = .locked then lcLock else if x.loop = .locked then lcUnlock else lcSelection)

/-- The word moves from one HOST_FREQ value to the next at the ACCEL limit (R245). -/
def hostWord (s : State) (d : Nat) : State :=
  let x := vat s.dplls d
  let target := ratFree 30 ((x.hostFreqLatched : Rat) * fem48)
  let lim := ratFree 31 ((moverAdt s d : Rat) / vUnit / 65536 / 10 ^ 9 * 2 ^ 48)
  s.onDpll d fun y => { y with word := y.word + max (-lim) (min lim (target - y.word)) }

/-- The detector would declare lock in this EVALUATE (R233, R251): it has been met, unlock has not, and no lock is held. -/
def lockDue (x : Dpll) : Bool := x.lockMet && !x.unlockMet && x.loop == .acquire && x.lockSince.isNone

/-- A hitless switch from the source in use to source `n` (R235, R245): it enters the tracking loop directly (R232), but in the EVALUATE in
which lock would be declared it stays in its stage (R252). -/
def switchTo (s : State) (d n : Nat) : State :=
  let x := vat s.dplls d
  let seq := s.time.tickSeq
  let relock := !fRelock.on s.act (dpllBase d)
  let from12 := x.sel == some 12
  let s := s.onDpll d fun y => { y with
    integ := if from12 then (y.word : Rat) else y.integ,
    word := if n = 12 then ratFree 32 y.integ else y.word,
    bo := if n = 12 then 0 else y.bo,
    boPending := if n < 12 then some seq else none,
    realignDue := decide (n < 12) && relock, firstStep := false,
    stage := if lockDue x && decide (n < 12) then y.stage else 7, lockSince := none, switchTick := some seq, loopCause := lcSwitch }
  let s := if d = learnDpll s then s.onModel fun m => { m with disturbed := true } else s
  tdcClear ((raiseAt s evSwitch d n).onDpll d lockRestart) d

/-- What DPLL `d` does with its selection result `r` (R206, R225, R235, R243, R245). -/
def actOnSelection (s : State) (d : Nat) (old r : Option Nat) : State :=
  let c := s.act
  let x := vat s.dplls d
  if !inService c (dpllBase d) then toFreerun s d lcAdmin
  else if !s.loopsRun then toFreerun s d lcMode
  else if x.fb ≠ .ok ∨ x.fbFaultTick.isSome then
    let s := s.onDpll d fun y => { y with fbFaultTick := none }
    if x.loop = .acquire ∨ x.loop = .locked then toHoldover s d lcFeedback else s
  else match r with
  | none => if x.loop = .acquire ∨ x.loop = .locked then toHoldover s d lcSelection else s
  | some 13 => if x.loop = .freerun then s else toFreerun s d lcSelection
  | some n =>
    if n = 12 then
      let s := if (x.loop = .acquire ∨ x.loop = .locked) ∧ old ≠ some 12 then switchTo s d 12
               else if x.loop = .holdover then
                 s.onDpll d fun y => { y with word := ratFree 33 (vat s.hos d).appliedWord, bo := 0, firstAcq := false, stage := 7 }
               else s.onDpll d fun y => { y with bo := 0, firstAcq := false, stage := if x.loop = .freerun then 7 else y.stage }
      hostWord (hostLoop s d) d
    else if x.loop = .freerun ∨ x.loop = .holdover then acquire s d n
    else if old ≠ some n then switchTo s d n
    else s

/-! ## Selection as a job -/

/-- Why the selected source changed (R770); DEDUCED (log 35), since the spec gives the codes and not their conditions. -/
def selCauseOf (s : State) (d : Nat) (old r : Option Nat) : Nat :=
  let c := s.act
  let b := dpllBase d
  let qual (n : Nat) : Bool :=
    if n < 12 then (vat s.srcs n).qual == .qualified else n != 12 || hostUsable s d || !fHostEn.on c b
  if fSelMode.val c b = 2 then 7
  else if fSelMode.val c b = 1 then 6
  else match old, r with
  | some o, some n =>
    if !qual o then 2
    else if !usable s d o || prio s d o == 0 then 4
    else if fQlEn.on c b && qlRank s.qlOption (srcQl s d o) != qlRank s.qlOption (srcQl s d n) then 3
    else if s.evt.raised.getLsbD evWtrDone then 5
    else if s.evt.raised.getLsbD evRefQualified then 1 else 4
  | some o, none => if !qual o then 2 else if candidate s d o then 4 else if usable s d o && prio s d o != 0 then 3 else 4
  | none, _ => if s.evt.raised.getLsbD evWtrDone then 5 else if s.evt.raised.getLsbD evRefQualified then 1 else 4

/-- The outgoing QL of DPLL `d` (R200, R207). -/
def outgoingQl (s : State) (d : Nat) : Nat :=
  let c := s.act
  let b := dpllBase d
  let x := vat s.dplls d
  if !s.loopsRun then fQlFreerun.val c b
  else match x.loop, x.sel with
  | .locked, some n => (srcQl s d n).getD 15
  | .holdover, _ => fQlHoldover.val c b
  | _, _ => fQlFreerun.val c b

/-- OPER_STATE of DPLL `d` (R226). -/
def dpllOper (s : State) (d : Nat) : Oper :=
  let x := vat s.dplls d
  if !s.coreOn || !inService s.act (dpllBase d) then .off
  else if !s.loopsRun || s.underTest 2 d then .starting
  else match x.loop with
  | .locked => .up
  | .freerun => if x.sel = some 13 then .up else .down
  | .holdover => if fSelMode.val s.act (dpllBase d) = 2 then .up else .down
  | .acquire => if x.acqTimedOut then .down else .starting

def deriveDpllOpers (s : State) : State :=
  let s := { s with opers := { s.opers with dplls := vmk 4 (dpllOper s) } }
  let o := s.opers.dplls
  let c := s.act
  let r := noteMismatch s evDpllMismatch 4 (fun n => disagrees (inService c (dpllBase n)) (vat o n)) s.opers.dpllDis
  { r.2 with opers := { r.2.opers with dpllDis := r.1 } }

/-- Selection of DPLL `d` and what follows from it (R205, R206). -/
def selectAndAct (s : State) (d : Nat) : State :=
  let old := (vat s.dplls d).sel
  let r := selectSrc s d
  let cause := selCauseOf s d old r
  let s := if old = r then s else
    let s := s.onDpll d fun x => { x with sel := r, selCause := cause }
    let s := if d = learnDpll s then resetB0 s else s
    raiseIf r.isNone (raiseAt s evSelChange d cause) evNoSource d cause
  let s := actOnSelection s d old r
  let s := if (vat s.dplls d).loop = .holdover then hoTick s d else s
  gatherBin (s.onDpll d fun x => { x with outQl := outgoingQl s d }) d

/-! ## Timers of a DPLL -/

/-- ACQ_TIMEOUT has run out in this ACQUIRE (R226). -/
def acqTimeout (s : State) (d : Nat) : State :=
  let x := vat s.dplls d
  if x.loop = .acquire ∧ x.acqTimedOut = false ∧ x.acqStart + fAcqTimeout.val s.act (dpllBase d) * sec16 < s.now then
    raiseAt (s.onDpll d fun y => { y with acqTimedOut := true }) evAcqTimeout d 0
  else s

/-- Lock has held in the present stage for its DWELL: the next stage, or the tracking loop (R231). -/
def fastLock (s : State) (d : Nat) : State :=
  let x := vat s.dplls d
  if x.loop = .acquire ∧ x.stage < 4 then
    match x.lockSince with
    | some t =>
      if t + (fStageDwell x.stage).val s.act (dpllBase d) * ms16 ≤ s.now then
        let nx := if x.stage + 1 < fNStages.val s.act (dpllBase d) then x.stage + 1 else 7
        raiseAt (s.onDpll d fun y => { y with stage := nx, lockSince := if nx < 4 then some s.now else none }) evStage d nx
      else s
    | none => s
  else s

/-- The host-source watchdog has run out (R244). -/
def hostWdog (s : State) (d : Nat) : State :=
  match (vat s.dplls d).hostWrite with
  | some t =>
    if t + fWdog.val s.act (dpllBase d) * ms16 ≤ s.now then
      raiseAt (s.onDpll d fun y => { y with hostWrite := none }) evHostWdog d 0
    else s
  | none => s

/-! ## The jobs -/

/-- The loop filter job (R70), for `room` DPLLs where GUARD stops it: the history of the second just ended is closed first, timers that have run out take effect. -/
def loopJob (s : State) (room : Option Nat) : State :=
  let s := historyTick s
  let after := evalSources s none
  let disq (n : Nat) : Bool := (vat after.srcs n).qual == .disqualified
  (takeRoom room (List.range 4)).foldl (fun t d => loopFilter (acqTimeout (fastLock (hostWdog t d) d) d) disq d) s

def moverJob (s : State) (room : Option Nat) : State := (takeRoom room (List.range 4)).foldl pmStep s

def selectJob (s : State) (room : Option Nat) : State :=
  deriveDpllOpers (learnTick ((takeRoom room (List.range 4)).foldl selectAndAct s))

/-- The loops open on a mode change: every loop in FREERUN at its nominal word, the movers frozen (R161, R248, R259). -/
def openLoops (s : State) : State :=
  forN 4 (fun d t => (toFreerun t d lcMode).onDpll d fun x => { x with pmState := .frozen, pmV := 0, applied := 0, firstAcq := true }) s

/-- The loops start: the next acquisition of each is its first (R239). -/
def startLoops (s : State) : State := { s with dplls := vmap (fun _ x => { x with firstAcq := true }) s.dplls }

/-- What the loss of CORE does to the loops, the history and the sources of them (R221, R262, R268); the host's words are kept. -/
def dpllsCoreOff (s : State) : State :=
  { s with
    dplls := vmap (fun _ x => { Dpll.atReset with
      hostFreq := x.hostFreq, hostLock := x.hostLock, hostFreqLatched := x.hostFreqLatched }) s.dplls
    hos := Vector.replicate 4 default
    model := { s.model with tempTs := 0, tempDie := 0, tsState := .disabled, readings := [], samples := [], tsBad := false, learning := false,
                            whyNot := 0, learnOf := none, disturbed := false, secs := [], minDue := [] } }

/-! ## Commands -/

/-- Whether the lock detector of DPLL `d` can declare: its loop is closed on a monitored source. -/
def canDeclare (s : State) (d : Nat) : Bool :=
  let x := vat s.dplls d
  dpllRuns s d && (x.loop == .acquire || x.loop == .locked) && x.fb == .ok &&
    (match x.sel with | some n => decide (n < 12) | none => false)

/-- DPLL_LOCK (R233, R238, R251, R252): in EVALUATE lock is declared where the detector latched in this tick's SAMPLE has met it and not met
unlock, unless the source was switched in this tick. A realignment waits for a BO that is yet to be rebuilt. -/
def declareLock (s : State) (d : Nat) : State :=
  let x := vat s.dplls d
  let seq := s.time.tickSeq
  if !canDeclare s d || s.time.phase != .evaluate || !lockDue x || x.unlockTick == some seq || x.switchTick == some seq then s else
  let s := raiseAt (s.onDpll d fun y => { y with lockSince := if y.stage < 4 then some s.now else none }) evLock d lcLock
  let s := if x.stage < 4 then s else setLoop s d .locked lcLock
  if fRelock.on s.act (dpllBase d) then s
  else if x.boPending.isSome then s.onDpll d fun y => { y with realignDue := true }
  else realign s d

/-- DPLL_UNLOCK (R225, R231, R232, R233): where the detector has met unlock; from LOCKED the loop acquires again in the tracking loop; in a
stage the dwell starts anew. -/
def declareUnlock (s : State) (d : Nat) : State :=
  let x := vat s.dplls d
  if !canDeclare s d || s.time.phase != .evaluate || !x.unlockMet || !(x.loop == .locked || x.lockSince.isSome) then s else
  let s := raiseAt (s.onDpll d fun y => { y with lockSince := none, unlockTick := some s.time.tickSeq }) evUnlock d lcUnlock
  if x.loop = .locked then
    setLoop (s.onDpll d fun y => { y with stage := 7, acqStart := s.now, acqTimedOut := false }) d .acquire lcUnlock
  else s

def execDpllLock (d : Fin 4) (s : State) : Host.Outcome State Fault Refusal := .next (declareLock s d)

def execDpllUnlock (d : Fin 4) (s : State) : Host.Outcome State Fault Refusal := .next (declareUnlock s d)

def execFastLockStage (d : Fin 4) (s : State) : Host.Outcome State Fault Refusal := .next (if dpllRuns s d then fastLock s d else s)

def execAcqTimeout (d : Fin 4) (s : State) : Host.Outcome State Fault Refusal := .next (if dpllRuns s d then acqTimeout s d else s)

/-- External feedback of a loop that is closed, or that has lost its source in this very tick (R253), is lost or frozen (R243): the state and
its event now; the entry into HOLDOVER in the next EVALUATE. -/
def feedbackFault (s : State) (d : Nat) (f : FbState) (e : Nat) : State :=
  let x := vat s.dplls d
  let closed := x.loop == .acquire || x.loop == .locked
  let lost := !closed && x.lostTick == some s.time.tickSeq
  if dpllRuns s d && fFbSel.val s.act (dpllBase d) != 0 && (closed || lost) && x.fb == .ok && x.sel != some 12 then
    raiseAt (s.onDpll d fun y => { y with
      fb := f, fbFaultTick := if closed then some s.time.tickSeq else y.fbFaultTick, fbGood := 0, fbVaried := false,
      loopCause := if lost then lcFeedback else y.loopCause }) e d 0
  else s

/-- No feedback edge of DPLL `d` for `k` of its feedback periods (R243); without a nominal frequency that time has no stated length (log
31). -/
def fbSilent (s : State) (d k : Nat) : Bool :=
  let since := coreTime s - (vat s.dplls d).fbLast.getD 0
  if fbPd s.act d = 0 then Config.bandChoice 243 since.num.natAbs else decide (k * fbPd s.act d ≤ since)

/-- The last 64 readings are identical while the words command at least 4 ps (R243). -/
def fbStuck (s : State) (d : Nat) : Bool :=
  let x := vat s.dplls d
  decide (64 ≤ x.fbSame) && (decide ((262144 : Rat) / 1000 ≤ x.fbMove) || decide (x.fbMove ≤ -(262144 : Rat) / 1000))

def execFbLost (d : Fin 4) (s : State) : Host.Outcome State Fault Refusal :=
  .next (if fbSilent s d 4 then feedbackFault s d .lost evFbLost else s)

def execFbFrozen (d : Fin 4) (s : State) : Host.Outcome State Fault Refusal :=
  .next (if fbStuck s d then feedbackFault s d .frozen evFbFrozen else s)

/-- FB_OK (R243): after 64 feedback periods with edges and with readings that differ. -/
def feedbackOk (s : State) (d : Nat) : State :=
  let x := vat s.dplls d
  if s.coreOn && x.fb != .ok && decide (64 ≤ x.fbGood) && x.fbVaried then raiseAt (s.onDpll d fun y => { y with fb := .ok }) evFbOk d 0
  else s

def execFbOk (d : Fin 4) (s : State) : Host.Outcome State Fault Refusal := .next (feedbackOk s d)

/-- The largest magnitude of HOST_FREQ: 500 ppm in 10^-15 (R222). -/
def hostFreqMax : Int := 500000000000

/-- A write of HOST_FREQ, which takes effect with its most significant word and counts for the watchdog (R244, R16). -/
def hostFreqWrite (s : State) (d : Nat) (v : Nat) : State :=
  if !s.servedCore then s else
  let z := signedN 48 v
  if hostFreqMax < z.natAbs then raiseAt s evBadValue d 0
  else s.onDpll d fun x => { x with
    hostFreq := z, hostWrite := some s.now, hostFreqWas := some (s.time.bench, cycleStart s.time.bench x.hostFreqWas x.hostFreq) }

def execHostWdog (d : Fin 4) (s : State) : Host.Outcome State Fault Refusal := .next (if s.coreOn then hostWdog s d else s)

/-- One millisecond in 2^-16 ns: the largest |T| (R246). -/
def pmMax : Int := 1000000 * 65536

/-- The echo of PM_CMD: its four words in their order, the code last (R761). -/
def pmEcho (s : State) (m : Master) (d v code result : Nat) : State :=
  echo s m (dpllBase d + 0x24) (v % 65536) [v / 65536 % 65536, v / 2 ^ 32 % 65536, code] result

/-- PM_CMD STEP: adds to T, or is discarded with EV_HOST_BAD_VALUE (R246, R16). -/
def pmStepCmd (s : State) (m : Master) (d v : Nat) : State :=
  if !s.servedCore then s else
  let x := vat s.dplls d
  let z := signedN 48 v
  let t := x.pmT * pUnit + x.pmTfrac + z * pUnit
  if pmMax * pUnit < t.natAbs then pmEcho (raiseAt s evBadValue d 0) m d v 1 0x09
  else
    let s := s.onDpll d fun y => { y with
      pmT := y.pmT + z, pmAbort := false, pmHalt := none, pmState := if y.pmState = .frozen then .frozen else .moving }
    pmEcho s m d v 1 resAccepted

/-- PM_CMD HALT: T becomes the position of rest at ACCEL (R246); in the cycle of an arrival the arrival wins (R254). -/
def pmHaltCmd (s : State) (m : Master) (d v : Nat) : State :=
  if !s.servedCore then s else
  let x := vat s.dplls d
  let arrived := x.pmArriveAt == some s.time.bench && x.pmState == .idle
  let rest := x.pmP + x.pmV.sign * quotFree 34 (x.pmV * x.pmV) (2 * (moverA s d).toNat)
  let was := cycleStart s.time.bench x.pmHalt (x.pmT, x.pmTfrac)
  let s := s.onDpll d fun y =>
    if arrived then { y with pmAbort := true }
    else { y with pmT := rest.fdiv pUnit, pmTfrac := rest.fmod pUnit, pmAbort := false, pmHalt := some (s.time.bench, was) }
  pmEcho s m d v 2 resAccepted

def execStep (m : Master) (d : Fin 4) (v : BitVec 48) (s : State) : Host.Outcome State Fault Refusal := .next (pmStepCmd (access s m) m d v.toNat)

def execHalt (m : Master) (d : Fin 4) (s : State) : Host.Outcome State Fault Refusal := .next (pmHaltCmd (access s m) m d 0)

/-- A committed seconds set becomes due at the tick boundary that ends this tick, or at the one just passed (R61, R260). -/
def secondsDue (s : State) : Bool :=
  let len := tickLenB s.time.period
  fSetEn.on s.act 0 && (decide ((s.time.tickEdge / len + 1) * len % secB = 0) || decide (s.time.bench % secB < s.time.inc))

/-- TICKNUM_ADOPT (R241, R317): at the tick boundary bench time moves by the difference in whole ticks. -/
def adoptTicknum (s : State) : State :=
  let x := vat s.dplls 0
  if !(s.coreOn && x.adoptDue && fTicknum.val s.act (dpllBase 0) == 2) then s
  else if secondsDue s then s.onDpll 0 fun y => { y with adoptDue := false, tickDiff := 0, tickDiffCnt := 0 } else
  let delta := signedN 24 x.tickDiff * (tickLenB s.time.period : Int)
  let s := s.onDpll 0 fun y => { y with adoptDue := false, tickDiff := 0, tickDiffCnt := 0 }
  let was := (vat s.aplls 0).aligned
  raiseIf was ((stepBench s delta).onApll 0 fun a => { a with aligned := false }) evAlignLost 0 0

def execTicknumAdopt (s : State) : Host.Outcome State Fault Refusal := .next (adoptTicknum s)

/-- A phase hit on the selected source with HIT_ACTION FLAG and HIT_BO set: BO is set anew at the first edge after it, once (R237,
R261). -/
def hitBuildOut (s : State) (n : Nat) : State :=
  if fHitAction.val s.act (srcBase n) = 0 then s else
  forN 4 (fun d t =>
    let x := vat t.dplls d
    if x.sel = some n ∧ fHitBo.on t.act (dpllBase d) = true ∧ canDeclare t d = true ∧ x.boPending = none then
      let t := t.onDpll d fun y => { y with boPending := some t.time.tickSeq }
      tdcClear (if d = learnDpll t then t.onModel fun m => { m with disturbed := true } else t) d
    else t) s

/-- PHASE_HIT: the monitor's record (R190) and what the loops do with it (R237). -/
def execPhaseHit (n : Fin 12) (span gap edges : Nat) (s : State) : Host.Outcome State Fault Refusal :=
  .next (if hitFound s n span gap then hitBuildOut (phaseHit s n edges) n else s)

end Sys2Proof.Machine
end

