-- ==== Sys2Proof/Machine/Outputs.lean ====
section
/-!
DEFINITION. Sys2Proof/Machine/Outputs.lean: the outputs and the fractional dividers: frequencies, starting, stopping, switching,
squelch, sense-back, OPER_STATE and the watermark (R335 to R380).
-/
namespace Sys2Proof.Machine

/-! ## Frequencies (R304, R342) -/

/-- Bank of an output, and whether its domain is ON (R110). -/
def bankOf (n : Nat) : Nat := n / 6
def outDomOn (s : State) (n : Nat) : Bool := if n < 12 then s.outlOn else s.outhOn

/-- The double-buffered settings of output `n` in a configuration (R318). -/
def cfgSet (c : View) (n : Nat) : OutSet :=
  let b := outBase n
  let sel := fSel.val c b
  { sel := sel, idx := fIdx.val c b, div := fDiv.val c b, high := fHigh.val c b, coarse := fCoarse.val c b, fine := fFine.val c b,
    presc := if sel < 2 then (fPresc (bankOf n)).val c (apllBase sel) else 0 }

/-- Nominal frequency in Hz for a group of settings, with the FOD frequencies (2^-16 Hz) given (R342). -/
def setFreq (c : View) (fodFreq : Nat → Nat) (x : OutSet) : Rat :=
  let inFreq : Rat :=
    match x.sel with
    | 0 | 1 => if x.presc = 0 then 0 else vcoNom c x.sel / (x.presc : Rat)
    | 2 => (fodFreq x.idx : Rat) / 65536
    | 3 => (fXoFreq.val c spllBase : Rat)
    | 4 => (fNomFreq.val c (refBase x.idx) : Rat) / 65536
    | _ => 0
  if x.div = 0 then 0 else inFreq / (x.div : Rat)

/-- FOD frequencies of a configuration. -/
def cfgFod (c : View) (k : Nat) : Nat := fFodFreq.val c (fodBase k)

/-- Nominal frequency of output `n` in a configuration, in Hz (FREQ_NOM, R342). -/
def outFreq (c : View) (n : Nat) : Rat := setFreq c (cfgFod c) (cfgSet c n)

/-- Greatest common divisor of the whole-hertz frequencies of a list; 0 if there is none. -/
def gcdFreq (fs : List Rat) : Nat := (fs.filter wholeHz).foldl (fun g f => Nat.gcd g f.num.natAbs) 0

/-- The first instant strictly after `t` that, counted from a whole second, is a whole multiple of every whole-hertz period (R318); the next
instant at all where no frequency is whole. -/
def epochInstant (t : Nat) (fs : List Rat) : Nat :=
  let g := gcdFreq fs
  if g = 0 then t + 1 else
  let sec := t / sec16 * sec16
  let k := (t - sec) * g / sec16 + 1
  (sec : Int) + quotFree 40 (k * sec16) g |>.toNat

/-- The first whole multiple of the period of `f` Hz, counted from a whole second, strictly after `t` (R349); at once for no frequency. -/
def ownInstant (t : Nat) (f : Rat) : Nat :=
  if f = 0 then t else
  let sec := t / sec16 * sec16
  let k := (((t - sec : Nat) : Rat) * f / sec16).floor.toNat + 1
  sec + (ratFree 45 ((k : Rat) * sec16 / f)).toNat

/-- The settings of output `n` in force: those at its pads while it runs, else those of the active configuration. -/
def setNow (s : State) (n : Nat) : OutSet := if (vat s.outs n).run = .running then (vat s.outs n).cur else cfgSet s.act n

/-- Nominal frequency in force at the pads of output `n`, in Hz: with the FOD frequencies in force while it runs. -/
def freqNow (s : State) (n : Nat) : Rat :=
  if (vat s.outs n).run = .running then setFreq s.act (fun k => (vat s.fods k).curFreq) (vat s.outs n).cur else outFreq s.act n

/-- The DPLL of a FOD in force: that of the start of a running one. -/
def fodDpllNow (s : State) (k : Nat) : Nat := 2 + (if (vat s.fods k).run then (vat s.fods k).curDpll else fFodDpll.val s.act (fodBase k))

/-- The timescale on which settings run (R308, R348): that of the APLL, of the FOD's DPLL, or bench time. -/
def outTs (s : State) (x : OutSet) : Nat := match x.sel with | 0 => 0 | 1 => 1 | 2 => fodDpllNow s x.idx | _ => 0

/-- The DPLL that sources output `n` with the settings in force (R364). -/
def outDpllNow (s : State) (n : Nat) : Option Nat := if (setNow s n).sel < 3 then some (outTs s (setNow s n)) else none

/-! ## Whether a source delivers (R325, R353) -/

/-- OPER_STATE of APLL `n` (R325). -/
def apllOper (s : State) (n : Nat) : Oper :=
  let a := vat s.aplls n
  if !s.synOn || !inService s.act (apllBase n) then .off
  else if s.underTest 3 n then .starting
  else if s.pwr.bor18 || a.st == .fault then .down
  else if !s.apllsRun || a.st != .run then .starting
  else .up

/-- The APLL of a source selection: that of an APLL source, of a FOD, or none. -/
def srcApll (c : View) (sel idx : Nat) : Option Nat :=
  match sel with
  | 0 => some 0
  | 1 => some 1
  | 2 => some (fFodApll.val c (fodBase idx))
  | _ => none

/-- OPER_STATE of a source of outputs (R356). -/
def sourceOper (s : State) (sel idx : Nat) : Oper :=
  match srcApll s.act sel idx with
  | some a => apllOper s a
  | none => if sel = 3 then (if s.pwr.xoValid then .up else .down) else vat s.opers.srcs idx

/-- The source cannot deliver a steered clock: its outputs are squelched (R353). -/
def cannotDeliver (s : State) (sel idx : Nat) : Bool :=
  if sel = 2 then
    let a := fFodApll.val s.act (fodBase idx)
    let st := (vat s.aplls a).st
    let o := apllOper s a
    !(vat s.fods idx).run || o == .down || o == .off || s.underTest 3 a || !s.apllsRun || !(st == .waitEpoch || st == .run)
  else sourceOper s sel idx != .up

/-- The bank of output `n` can drive (R121, R338). -/
def bankOk (s : State) (n : Nat) : Bool := !vat s.pwr.vddoBor (bankOf n) && !vat s.pwr.vddoOvr (bankOf n)

/-- Output `n` is in service, its domain is ON and its bank drives. -/
def outDrives (s : State) (n : Nat) : Bool := inService s.act (outBase n) && outDomOn s n && bankOk s n

/-! ## The watermark's payload (R363 to R366) -/

/-- Conditions 3 and 4 of R314 for DPLL `d`: it is LOCKED and realigned to a source whose phase-detector rate is a whole number of
hertz. -/
def phaseKept (s : State) (d : Nat) : Bool :=
  let x := vat s.dplls d
  let c := s.act
  x.loop == .locked && !fRelock.on c (dpllBase d) && !x.realigning && !x.realignDue && x.boPending.isNone && x.bo == 0 &&
    (match x.sel with
     | some n => decide (n < 12) && srcPrediv c n != 0 && wholeHz ((srcNom c n : Rat) / 65536 / (srcPrediv c n : Rat))
     | none => false)

/-- The deterministic-phase conditions of R314, or of R348 for a FOD output. -/
def deterministic (s : State) (n : Nat) : Bool :=
  let c := s.act
  let x := setNow s n
  match outDpllNow s n, srcApll c x.sel x.idx with
  | some d, some a =>
    let ap := vat s.aplls a
    ap.st == .run && !spreads c a && wholeHz (freqNow s n) && phaseKept s d &&
      (if x.sel = 2 then wholeHz (((vat s.fods x.idx).curFreq : Rat) / 65536) else ap.aligned)
  | _, _ => false

/-- Bench time was stepped within the last second of bench time (R364). -/
def jumpedLately (s : State) : Bool :=
  match s.lastJump with
  | some t => decide (s.now < t + sec16)
  | none => false

/-- A commit is scheduled for a boundary later than that of tick `t` (R364). -/
def commitPending (s : State) (t : Nat) : Bool :=
  (s.txn.st == .pending || s.txn.st == .agreed) && decide (t < s.txn.commitTick)

/-- FLAGS of output `n` for the payload of tick `t` (R364). -/
def wmFlags (s : State) (n t : Nat) : Nat :=
  let c := s.act
  let x := setNow s n
  let d := (outDpllNow s n).getD 0
  let y := vat s.dplls d
  let locked := y.loop == .locked && (y.realigning || y.realignDue || y.pmState == .moving)
  b2n (y.loop == .holdover) * 128 + b2n (y.loop == .acquire || locked) * 64 + b2n (commitPending s t) * 32 +
  b2n (y.loop == .freerun || !s.loopsRun) * 16 + b2n (deterministic s n) * 8 +
  b2n (match srcApll c x.sel x.idx with | some a => spreads c a | none => false) * 4 + b2n (jumpedLately s) * 2

/-- The payload of output `n` for tick number `t` (R363, R365). -/
def wmPayload (s : State) (n t : Nat) : Nat :=
  let head := 1 * 2 ^ 44 + (vat s.dplls ((outDpllNow s n).getD 0)).outQl * 2 ^ 40 + t % 2 ^ 24 * 2 ^ 16 + wmFlags s n t * 2 ^ 8
  head + crcMsb 8 0x07 (octetsBE 5 (head / 256)) 0xFF

/-- DISPATCH composes the next payload of every watermarked output (R364). -/
def wmCompose (s : State) : State :=
  { s with outs := vmap (fun n o =>
      if inService s.act (outBase n) && fWmEn.on s.act (outBase n) then { o with wmNext := wmPayload s n (s.tickNum + 1) }
      else o) s.outs }

/-- At a tick boundary the mark of every running watermarked output is sent (R361, R366). -/
def wmBoundary (s : State) : State :=
  forN 24 (fun n t =>
    let o := vat t.outs n
    let on := inService t.act (outBase n) && fWmEn.on t.act (outBase n) && o.run == .running
    raiseIf (on && !o.wmActive) (t.onOut n fun x => { x with
      wmActive := on, wmSending := if on then some x.wmNext else none }) evWmStart n 0) s

/-- Cycle 768, which carries bit 0, has not begun yet (R361). -/
def wmUnsent (s : State) (n : Nat) : Bool :=
  decide ((((s.now : Int) - (s.tickStart : Int) : Int) : Rat) * freqNow s n < 768 * (sec16 : Rat))

/-- A start, stop, squelch, substitution or epoch of output `n`: the tick is not checked (R357), and a payload under way is abandoned
(R366). -/
def disturbOut (s : State) (n : Nat) : State :=
  let o := vat s.outs n
  let cut := o.wmSending.isSome && wmUnsent s n
  raiseIf cut (s.onOut n fun x => { x with disturbed := true, wmSending := none }) evWmAbandon n 0

/-! ## Starting, stopping, squelching -/

/-- Output `n` stops and takes its OFF_FORMAT state (R341). -/
def stopOut (s : State) (n : Nat) (r : OutRun) : State :=
  if (vat s.outs n).run = r then s else
  (disturbOut s n).onOut n fun o => { o with
    run := r, wmActive := o.wmActive && r == .running, subFrom := if r = .substituting then s.now else o.subFrom }

/-- What a squelched output does: it is stopped, or with XO_SUB carries the XO while that is valid (R354, R355). -/
def squelchRun (s : State) (n : Nat) : OutRun :=
  let c := s.act
  if fSquelch.on c (outBase n) && s.pwr.xoValid && decide (fSel.val c (outBase n) < 3) then .substituting else .squelchedStop

/-- Output `n` is squelched: it stops, or carries the XO (R353 to R355). -/
def squelchOut (s : State) (n : Nat) : State :=
  let s := stopOut s n (squelchRun s n)
  raiseAt (s.onOut n fun o => { o with squelched := true, changePending := false, startAt := none }) evSquelch n 0

/-- Output `n` starts with the settings of the active configuration (R349, R354, R351 step 3, R375). -/
def startOut (s : State) (n : Nat) : State :=
  let o := vat s.outs n
  let x := cfgSet s.act n
  let s := stopOut s n .running
  let s := s.onOut n fun y => { y with
    cur := x, fineNow := x.fine, changePending := false, switching := false, squelched := false, startAt := none }
  raiseIf o.switching (raiseIf o.squelched s evUnsquelch n 0) evSrcSwitch n 0

/-- Output `n` may start: it drives, it does not run, and its configured source delivers. -/
def mayStart (s : State) (n : Nat) : Bool :=
  let x := cfgSet s.act n
  outDrives s n && (vat s.outs n).run != .running && !s.underTest 4 n && !cannotDeliver s x.sel x.idx

/-- Output `n` waits for its start from the instant `t` of its new source's timescale on: on a source that delivers, at its own first
instant after that (R349, R351), or from `t` on for XO and REF sources; else at the source's start epoch. -/
def waitFrom (s : State) (n t : Nat) : State :=
  let x := cfgSet s.act n
  let at_ := if cannotDeliver s x.sel x.idx then none else if 3 ≤ x.sel then some t else some (ownInstant t (outFreq s.act n))
  s.onOut n fun o => { o with startAt := at_ }

/-- Output `n` waits for its start from now on (R349, R380). -/
def waitNow (s : State) (n : Nat) : State := waitFrom (stopOut s n .waiting) n (tsNow s (outTs s (cfgSet s.act n)))

/-- OUT0 under the bypass of STRAP[2]: it carries the XO while its bank can drive (R132, R338). -/
def bypassOut0 (s : State) : State :=
  s.onOut 0 fun o => if bankOk s 0 then { o with run := .running, cur := { o.cur with sel := 3, idx := 0, div := 1 } }
    else { o with run := .off }

/-- What the conditions on output `n` make of it now: nothing driven (in BOOT too, R161), squelched, waiting for its start, or out of service. -/
def settleOut (s : State) (n : Nat) : State :=
  let o := vat s.outs n
  let bypass := n = 0 && s.pwr.bypOut0
  if bypass then bypassOut0 s
  else if !outDomOn s n || s.pwr.booting then
    { s with outs := vupd s.outs n fun x => { x with
        run := .off, changePending := false, switching := false, squelched := false, wmActive := false, wmSending := none } }
  else if !inService s.act (outBase n) then
    if o.run = .running ∧ bankOk s n = true ∧ cannotDeliver s o.cur.sel o.cur.idx = false then s       -- it stops at its epoch (R350)
    else (stopOut s n .off).onOut n fun x => { x with squelched := false, changePending := false, switching := false }
  else if !bankOk s n then (stopOut s n .off).onOut n fun x => { x with squelched := false, changePending := false }
  else
    let x := setNow s n
    if cannotDeliver s x.sel x.idx || s.underTest 4 n then
      (if o.squelched then (if o.run = .off || o.run = .waiting then s else stopOut s n (squelchRun s n)) else squelchOut s n)
    else if o.run = .off then waitNow s n else s

/-- Outputs that select FOD `k` in service. -/
def fodUsed (c : View) (k : Nat) : Bool :=
  (List.range 8).any fun n => inService c (outBase n) && fSel.val c (outBase n) == 2 && fIdx.val c (outBase n) == k

/-- An output still runs on FOD `k` (R350, R351). -/
def fodCarries (s : State) (k : Nat) : Bool :=
  (List.range 8).any fun n => (vat s.outs n).run == .running && (vat s.outs n).cur.sel == 2 && (vat s.outs n).cur.idx == k

/-- FOD `k` can run: an in-service output selects it, its APLL has reached WAIT_EPOCH, and OUTL is ON (R347, R348). -/
def fodCanRun (s : State) (k : Nat) : Bool :=
  let a := fFodApll.val s.act (fodBase k)
  let st := (vat s.aplls a).st
  fodUsed s.act k && (st == .waitEpoch || st == .run) && s.apllsRun && s.synOn && !s.pwr.bor18 && s.outlOn

/-- A FOD that nothing selects and no output runs on is powered down (R347); one that comes to be able to run may start 16 CORE_CLK cycles
after its APLL reached WAIT_EPOCH (R348), beside an APLL in RUN from now on. -/
def fodsSettle (s : State) : State :=
  { s with fods := vmap (fun k f =>
      let d := 2 + fFodDpll.val s.act (fodBase k)
      let now := if (vat s.aplls (fFodApll.val s.act (fodBase k))).st = .run then tsNow s d else inCycles16 s d
      let f := if fodUsed s.act k || fodCarries s k then f else { f with run := false, aligned := false }
      { f with readyAt := if f.run || !fodCanRun s k then none else some (f.readyAt.getD now) }) s.fods }

/-- Every output and FOD is brought in line with its source, domain and bank (R121, R338, R347, R353). -/
def settleOuts (s : State) : State := fodsSettle (forN 24 (fun n t => settleOut t n) s)

/-! ## Epochs (R318, R348 to R352) -/

/-- Half-cycles of the divider input in the high phase of the divided clock: HIGH, or DIV for 50 % (R343). -/
def highHalves (x : OutSet) : Nat := if x.high = 0 ∨ x.div = 1 then x.div else x.high

/-- A COARSE reduction that would leave a low phase shorter than 4 half-cycles of the coarse-delay clock (R352). -/
def cycleSkip (old new : OutSet) : Bool :=
  let unit := if old.sel < 2 then old.presc else 1
  let low : Int := unit * (2 * old.div - highHalves old : Int)
  decide (new.coarse < old.coarse) && decide (low + new.coarse - old.coarse < 4)

/-- What the epoch does to output `n` with a change pending: it stops (R350), stops on its old source (R351) and may start on the new one 4 ns
later, or takes its new settings (R318, R345, R352). OUT0's bypass ends so too, with the XO as the old source (R132). -/
def epochOut (s : State) (n : Nat) : State :=
  let o := vat s.outs n
  let x := cfgSet s.act n
  if !o.changePending then s
  else
    let s := (s.onPwr fun p => { p with bypOut0 := p.bypOut0 && n != 0 }).onOut n fun y => { y with
      changePending := false, epochAt := none, ownReload := false }
    if !inService s.act (outBase n) then (stopOut s n .off).onOut n fun y => { y with switching := false }
    else if x.sel ≠ o.cur.sel ∨ x.idx ≠ o.cur.idx then
      let s := (stopOut s n .gap).onOut n fun y => { y with switching := true }
      waitFrom s n (tsNow s (outTs s x) + 4 * ns16 - (if x.sel < 3 then 1 else 0))
    else
      let skip := cycleSkip o.cur x
      raiseIf skip ((disturbOut s n).onOut n fun y => { y with
        cur := x, slewFrom := s.safe.p.clk, skips := if skip then stick 8 y.skips else y.skips }) evCycleSkip n 0

/-- The fine delay slews towards its setting by at most 40 ps, 32 steps, per output period that has passed since the epoch or the last slew (R345,
R374); the shown delay follows at each tick boundary. -/
def fineSlew (s : State) : State :=
  let t : Rat := s.safe.p.clk
  { s with outs := vmap (fun n o =>
      let hz := freqNow s n
      let k := ((t - o.slewFrom) * hz / 10 ^ 10).floor.toNat
      let f := o.cur.fine
      if o.run = .running ∧ o.fineNow ≠ f ∧ hz ≠ 0 then
        { o with slewFrom := o.slewFrom + (k : Rat) * 10 ^ 10 / hz
                 fineNow := if o.fineNow < f then min f (o.fineNow + 32 * k) else max f (o.fineNow - 32 * k) }
      else o) s.outs }

/-! ## The reaction to a commit -/

/-- A FOD whose APLL or DPLL changed stops until its new start epoch (R348). -/
def fodCommit (s : State) : State :=
  { s with fods := vmap (fun k f =>
      let c := s.act
      let moved := f.run && fodUsed c k && (f.curApll != fFodApll.val c (fodBase k) || f.curDpll != fFodDpll.val c (fodBase k))
      if moved then { f with run := false, aligned := false } else f) s.fods }

/-- A FOD whose frequency changes at the pending epoch. -/
def fodChanging (s : State) (k : Nat) : Bool :=
  let f := vat s.fods k
  f.run && fodUsed s.act k && f.curFreq != cfgFod s.act k

/-- After a commit, output `n` waits for an epoch with its change or that of its FOD's frequency, moves to its new source, or stops (R318, R348 to
R351, R380). -/
def outCommit (s : State) (n : Nat) : State :=
  let o := vat s.outs n
  let c := s.act
  let x := cfgSet c n
  let moved := x.sel ≠ o.cur.sel ∨ x.idx ≠ o.cur.idx
  let pend := fun (t : State) => t.onOut n fun y => { y with changePending := true }
  if o.run = .running then
    if !inService c (outBase n) then
      if cannotDeliver s o.cur.sel o.cur.idx then s else pend s
    else if x = o.cur ∧ (o.cur.sel = 2 ∧ fodChanging s o.cur.idx = true) = false then s
    else if moved ∧ cannotDeliver s o.cur.sel o.cur.idx = true then
      (waitNow s n).onOut n fun y => { y with switching := true }
    else pend s
  else if inService c (outBase n) && (o.run == .squelchedStop || o.run == .substituting) && decide moved then
    (if cannotDeliver s x.sel x.idx then s else waitNow s n).onOut n fun y => { y with switching := true }
  else s

/-- The old and new frequencies of output `n` that count for an epoch (R318, R348, R351): the old one alone where it leaves its source. -/
def epochFreqs (s : State) (n : Nat) : List Rat :=
  let o := vat s.outs n
  let c := s.act
  let x := cfgSet c n
  let old := setFreq c (fun k => (vat s.fods k).curFreq) o.cur
  if !inService c (outBase n) || x.sel != o.cur.sel || x.idx != o.cur.idx then [old] else [old, setFreq c (cfgFod c) x]

/-- Output `n` has an epoch before it, of a setting of its own or of the frequency of the FOD it runs on (R318, R324, R348). -/
def outEpochPends (s : State) (n : Nat) : Bool := (vat s.outs n).changePending

/-- The one epoch, on timescale `d`, of this commit's changes of outputs whose present source satisfies a test and of the FODs `ks`: an output with
a frequency that is not whole does not count for it (R318). -/
def epochAsk (s : State) (d : Nat) (p : OutSet → Bool) (ks : List Nat) : State :=
  let isNew (n : Nat) : Bool := (vat s.outs n).changePending && (vat s.outs n).epochAt.isNone && !(vat s.outs n).ownReload && p (vat s.outs n).cur
  let whole (n : Nat) : Bool := (epochFreqs s n).all wholeHz
  let fs := ((List.range 24).filter fun n => isNew n && whole n).flatMap (epochFreqs s)
  let gs := ks.flatMap fun k => [((vat s.fods k).curFreq : Rat) / 65536, (cfgFod s.act k : Rat) / 65536]
  let at_ := epochInstant (tsNow s d) (fs ++ gs)
  let tick := s.tickNum
  { s with
    outs := vmap (fun n o => if isNew n then { o with epochAt := some at_, epochFor := tick, ownReload := !whole n } else o) s.outs
    fods := vmap (fun k f => if ks.contains k then { f with epochAt := some at_ } else f) s.fods }

/-- The epochs that the changes of a commit ask for: one per APLL in RUN, one per FOD timescale (R318, R320, R348). -/
def epochsAsk (s : State) : State :=
  let s := forN 2 (fun a t => if (vat t.aplls a).st = .run then epochAsk t a (fun x => x.sel == a) [] else t) s
  forN 2 (fun i t =>
    let ks := (List.range 8).filter fun k => fodChanging t k && (vat t.fods k).epochAt.isNone && (vat t.fods k).curDpll == i
    epochAsk t (2 + i) (fun x => x.sel == 2 && (vat t.fods x.idx).curDpll == i) ks) s

/-- The outputs at the boundary at which a commit comes into force. -/
def outsCommit (s : State) : State := settleOuts (epochsAsk (settleOuts (forN 24 (fun n t => outCommit t n) (fodCommit s))))

/-! ## Sense-back (R357, R358) -/

/-- SAMPLE latches the count and level of every output and counts its edges (R357, R598). -/
def senseLatch (s : State) (v : Vector SenseSample 24) : State :=
  let s := { s with outs := vmap (fun n o =>
    let x := vat (v.map some) n
    { o with senseCnt := (x.map (·.count)).getD 0, padLevel := (x.map (·.level)).getD false }) s.outs }
  forN 24 (fun n t => countSrc (0x130 + n) (vat t.outs n).senseCnt t) s

/-- Expected edges of a tick: FREQ_NOM × tick (R357). -/
def expectedEdges (s : State) (n : Nat) : Rat := outFreq s.act n * (s.time.period : Rat) / 8000000

/-- The result of the tick just ended for output `n` (R357). -/
def senseResult (s : State) (n : Nat) : Sense :=
  let o := vat s.outs n
  let c := s.act
  if !fSenseEn.on c (outBase n) || o.disturbed || o.run == .substituting || !outDomOn s n then .notChecked
  else if o.run = .running then
    let e := expectedEdges s n
    let dev : Rat := match srcApll c o.cur.sel o.cur.idx with
      | some a => if spreads c a then (fSscDev.val c (apllBase a) : Rat) / 10000 else 0
      | none => 0
    let off := (o.senseCnt : Rat) - e
    let tol := 8 + e * (1 / 1000 + dev)
    if decide (off ≤ tol) && decide (-tol ≤ off) then .ok
    else if o.senseCnt = 0 then (if o.padLevel then .stuckHigh else .stuckLow)
    else .freqErr
  else if 0 < o.senseCnt then .activeOff
  else if fOffFormat.on c (outBase n) && o.padLevel then .notChecked else .ok

/-- The state after a tick's result (R358), and whether a failing result was entered or left. -/
def senseStep (o : Output) (r : Sense) : Output × Bool × Bool :=
  match r with
  | .notChecked => (o, false, false)
  | .ok =>
    let run := min 16 (o.senseOkRun + 1)
    let back := o.sense != .ok && decide (16 ≤ run)
    ({ o with senseOkRun := run, senseRun := 0, senseCand := .ok, sense := if back then .ok else o.sense }, false, back)
  | f =>
    let run := if o.senseCand = f then min 2 (o.senseRun + 1) else 1
    let fail := decide (2 ≤ run) && o.sense != f
    ({ o with senseOkRun := 0, senseCand := f, senseRun := run, sense := if 2 ≤ run then f else o.sense }, fail, false)

/-- The sense-back judgement of output `n` in EVALUATE (R357, R358). -/
def senseJudge (s : State) (n : Nat) : State :=
  let r := senseStep (vat s.outs n) (senseResult s n)
  let e := (ratFree 42 (expectedEdges s n)).toNat
  raiseIf r.2.2 (raiseIf r.2.1 (s.onOut n fun _ => { r.1 with senseExp := e, disturbed := false }) evOutSense n 0) evOutSenseOk n 0

/-! ## OPER_STATE (R356) -/

/-- A failing sense-back state. -/
def Sense.fails (x : Sense) : Bool := x != .ok && x != .notChecked

def outOper (s : State) (n : Nat) : Oper :=
  let o := vat s.outs n
  let x := setNow s n
  let src := sourceOper s x.sel x.idx
  if !s.coreOn || !outDomOn s n then .off
  else if !inService s.act (outBase n) then (if o.sense = .activeOff then .up else .off)
  else if s.underTest 4 n then .starting
  else if !bankOk s n || o.sense.fails then .down
  else if src == .starting then .starting
  else if src == .down || src == .off then .down
  else if o.run = .running then .up else .starting

/-- Derives the OPER_STATEs of APLLs and outputs and their disagreements (R40, R42). -/
def deriveSynOpers (s : State) : State :=
  let s := { s with opers := { s.opers with aplls := vmk 2 (apllOper s), outs := vmk 24 (outOper s) } }
  let c := s.act
  let a := s.opers.aplls
  let o := s.opers.outs
  let r := noteMismatch s evSynMismatch 2 (fun n => disagrees (inService c (apllBase n)) (vat a n)) s.opers.apllDis
  let q := noteMismatch r.2 evSynMismatch 24 (fun n => disagrees (inService c (outBase n)) (vat o n)) s.opers.outDis
  { q.2 with opers := { q.2.opers with apllDis := r.1, outDis := q.1 } }

/-- The outputs' part of EVALUATE: squelch conditions, sense-back, OPER_STATE. -/
def outputsJob (s : State) : State := deriveSynOpers (forN 24 (fun n t => senseJudge t n) (settleOuts s))

/-! ## Loss of a domain -/

/-- The outputs of domains that are not ON, and the FODs without OUTL, hold nothing (R331, R335). -/
def outsDomainOff (s : State) : State :=
  let s := { s with outs := vmap (fun n o =>
      if outDomOn s n then o else { Output.atReset with cur := o.cur }) s.outs }
  if s.outlOn then s else
  { s with fods := vmap (fun _ f => { f with run := false, aligned := false, ratio := 0, epochAt := none, readyAt := none }) s.fods }

/-- The bypass of OUT0 follows STRAP[2] in RESET and BOOT; where the strap goes low, OUT0 is low (R132). -/
def out0Bypass (s : State) (on : Bool) : State :=
  let was := s.pwr.bypOut0
  let s := s.onPwr fun p => { p with bypOut0 := on }
  if on then bypassOut0 s else s.onOut 0 fun o => { o with run := if was then .gap else .off }

/-- BOOT ends with the bypass on: OUT0 changes to its own setting at its first divider epoch, with the XO as its old source (R132, R351). -/
def bypassEnds (s : State) : State := if s.pwr.bypOut0 then s.onOut 0 fun o => { o with changePending := true, epochAt := none } else s

end Sys2Proof.Machine
end

