-- ==== Sys2Proof/Machine/Synth.lean ====
section
/-!
DEFINITION. Sys2Proof/Machine/Synth.lean: the analog PLLs, their band searches and alignment, the start and divider epochs, and the
application of frequency words (R298 to R334).
-/
namespace Sys2Proof.Machine

/-! ## Band searches (R309 to R312) -/

/-- Whether APLL `n` can search now: it is in service, SYN is valid, CORE_CLK is valid, the loops are to run (R309, R333). -/
def searchable (s : State) (n : Nat) : Bool :=
  s.coreOn && s.spll.lock && s.synOn && !s.pwr.bor18 && inService s.act (apllBase n) && s.apllsRun

/-- The FODs on APLL `n` stop until their new start epoch (R348, R353). -/
def fodsStop (s : State) (n : Nat) : State :=
  { s with fods := vmap (fun k f =>
      if fFodApll.val s.act (fodBase k) = n then { f with run := false, aligned := false } else f) s.fods }

/-- m(t) of an APLL that spreads, `t` seconds after a start of its modulation (R321): a triangle of frequency RATE over −DEV to 0, or
−DEV/2 to +DEV/2. -/
def spreadM (c : View) (n : Nat) (t : Rat) : Rat :=
  if !spreads c n then 0 else
  let dev := (fSscDev.val c (apllBase n) : Rat) / 10000
  let x := t * fSscRate.val c (apllBase n) * 1000
  let ph := x - x.floor
  let tri := if ph ≤ 1 / 2 then 2 * ph else 2 - 2 * ph
  dev * tri - (if fSscType.on c (apllBase n) then dev / 2 else dev)

/-- The average VCO frequency of APLL `n` in Hz without steering: with DOWN spread half the deviation below nominal (R321). -/
def vcoAvg (c : View) (n : Nat) : Rat :=
  if spreads c n && !fSscType.on c (apllBase n) then vcoNom c n * (1 - (fSscDev.val c (apllBase n) : Rat) / 20000) else vcoNom c n

/-- The VCO frequency of APLL `n` in Hz with the XO on frequency, `t` seconds after a start of its modulation (R304). -/
def vcoFreq (s : State) (n : Nat) (t : Rat) : Rat :=
  vcoNom s.act n * (1 + ((vat s.aplls n).word : Rat) / 2 ^ 48 + spreadM s.act n t)

/-- A cause of R309 for APLL `n`: the search starts from SEARCH at the average frequency with the present word frozen and the outputs squelched
(R310, R321, R328); in SUPPLY_LOW it is owed, and what runs goes on (R137); otherwise it waits until the APLL can search. -/
def searchStart (s : State) (n : Nat) : State :=
  if !searchable s n then s.onApll n fun a => { a with owed := inService s.act (apllBase n) && s.apllsRun }
  else if s.pwr.supplyLow then s.onApll n fun a => { a with owed := true }
  else
    let w := (vat s.dplls n).applied
    let s := s.onApll n fun a => { a with
      st := .search, secondTry := false, lock := false, aligned := false, owed := false, delayDue := false, frozenWord := w,
      searchAt := s.now, searchFreq := vcoAvg s.act n }
    settleOuts (fodsStop s n)

/-- Every APLL in service runs a band search (R166 rows 6 and 7, R117). -/
def searchAll (s : State) : State := forN 2 (fun n t => searchStart t n) s

/-- Searches that are owed start once nothing holds them (R137, R149, R150). -/
def searchOwed (s : State) : State :=
  forN 2 (fun n t => if (vat t.aplls n).owed && searchable t n && !t.pwr.supplyLow then searchStart t n else t) s

/-- APLL `n` stops: out of service, or a change to SETUP (R166 row 10). -/
def apllStop (s : State) (n : Nat) : State :=
  settleOuts (fodsStop (s.onApll n fun a => { (default : Apll) with
    epochTime := a.epochTime, epochTick := a.epochTick, epochCount := a.epochCount }) n)

/-- Every APLL stops. -/
def apllsStop (s : State) : State := forN 2 (fun n t => apllStop t n) s

/-- The loss of SYN, or VDD18A below brown-out: every APLL stops, and searches again once it can (R117, R134, R150, R331). -/
def apllsLost (s : State) (owed : Bool) : State :=
  forN 2 (fun n t => (apllStop t n).onApll n fun a => { a with owed := owed && inService t.act (apllBase n) && t.apllsRun }) s

/-- Loss of CORE: the SPLL stops; nothing of the APLLs is kept. -/
def synCoreOff (s : State) : State :=
  { s with aplls := Vector.replicate 2 default, spll := { s.spll with lock := false } }

/-- The SEARCH steps of APLL `n` are done: LOCKING closes the loop with the word in force (R310, R330). How long they take is a free value
(log 71); the change is made in DISPATCH. -/
def lockingStart (s : State) (n : Nat) : State :=
  let a := vat s.aplls n
  if a.st = .search ∧ a.delayDue = false ∧ a.owed = false ∧ a.searchAt + Config.searchSpan n a.searchAt ≤ s.now then
    s.onApll n fun x => { x with st := .locking, word := (vat s.dplls n).applied }
  else s

/-- APLL `n` goes on to ALIGNING, or, aligned to nothing, to WAIT_EPOCH (R312); the start epoch comes 16 CORE_CLK cycles later at the earliest
(R315, R348). -/
def alignStart (s : State) (n : Nat) : State :=
  let pass := unalignable s.act n
  settleOuts (s.onApll n fun x => { x with st := if pass then .waitEpoch else .aligning, aligned := false, readyAt := inCycles16 s n })

/-- A band search reaches analog lock (R310): the APLL takes up the word in force (R330) and aligns. In FAULT the lock detector's report is
kept, and nothing else follows (R313; log 56). -/
def bandDone (s : State) (n code vtune : Nat) : State :=
  let a := vat s.aplls n
  if !s.synOn then s
  else if a.st = .fault then (if a.lock then s else raiseAt (s.onApll n fun x => { x with lock := true }) evApllLock n 0)
  else if !(a.st == .search || a.st == .locking) || a.delayDue then s
  else
    let w := (vat s.dplls n).applied
    let s := alignStart (s.onApll n fun x => { x with band := code, vtune := vtune, lock := true, word := w }) n
    raiseAt (raiseAt s evBandDone n 0) evApllLock n 0

/-- A band search fails: it runs once more, then the APLL is in FAULT (R311). -/
def bandFail (s : State) (n : Nat) : State :=
  let a := vat s.aplls n
  if !(a.st == .search || a.st == .locking) || a.delayDue || !s.synOn then s
  else if !a.secondTry then s.onApll n fun x => { x with secondTry := true, st := .search, searchAt := s.now }
  else raiseAt (settleOuts (s.onApll n fun x => { x with st := .fault })) evBandFail n 0

/-- An alignment offset beyond half a VCO period (R312). -/
def slipped (c : View) (n : Nat) (off : Int) : Bool :=
  decide (2 * (off.natAbs : Rat) * vcoNom c n > (sec16 : Rat))

/-- The sync TDC's offset: in ALIGNING it is removed and the APLL is aligned; afterwards one above half a VCO period loses alignment
(R312). -/
def alignDone (s : State) (n : Nat) (off : Int) : State :=
  let a := vat s.aplls n
  if a.st = .aligning then
    raiseAt (settleOuts (s.onApll n fun x => { x with
      aligned := true, alignOff := clampI 48 off, st := .waitEpoch, readyAt := inCycles16 s n })) evAlignDone n 0
  else if (a.st = .run ∨ a.st = .waitEpoch) ∧ a.lock = true then
    let lost := a.aligned && slipped s.act n off
    raiseIf lost (s.onApll n fun x => { x with alignOff := clampI 48 off, aligned := x.aligned && !lost }) evAlignLost n 0
  else s

/-- In RUN an offset above 2 ps is corrected, by at most 0.05 ps in a tick (R312; the step is free, log 71). -/
def alignSlew (s : State) (n : Nat) : State :=
  let a := vat s.aplls n
  if a.st = .run ∧ a.aligned = true ∧ 131 < a.alignOff.natAbs then
    let k : Int := Config.alignStep n s.time.tickSeq % 4
    s.onApll n fun x => { x with alignOff := if x.alignOff < 0 then x.alignOff + k else x.alignOff - k }
  else s

/-- Analog lock is lost: the outputs are squelched, and a search follows 100 µs later (R311, R329). -/
def apllUnlock (s : State) (n : Nat) : State :=
  let a := vat s.aplls n
  if a.st = .run ∨ a.st = .aligning ∨ a.st = .waitEpoch then
    let s := s.onApll n fun x => { x with
      st := .search, lock := false, aligned := false, delayDue := true, frozenWord := x.word }
    raiseAt (settleOuts (fodsStop s n)) evApllUnlock n 0
  else s

/-- The SPLL loses lock: every APLL loses its reference (R326, R333). -/
def spllUnlock (s : State) : State :=
  if !s.spll.lock then s else
  let s := raise (s.onSpll fun p => { p with lock := false }) evSpllUnlock
  forN 2 (fun n t => (apllUnlock t n).onApll n fun a => { a with
    delayDue := false, owed := inService t.act (apllBase n) && t.apllsRun }) s

/-! ## Commands of an APLL (R309, R313) -/

/-- APLL[n].CMD RESEARCH (R309, R328). -/
def researchCmd (s : State) (m : Master) (n : Nat) : State :=
  if !s.servedCore then s else
  let a := vat s.aplls n
  let addr := apllBase n + 0xE
  if !searchable s n then echo s m addr 1 [] resNotRunning
  else if (a.st = .search ∨ a.st = .locking) ∧ a.delayDue = false then echo s m addr 1 [] resAccepted
  else echo (searchStart s n) m addr 1 [] resAccepted

/-! ## Epochs (R315, R318, R348, R349) -/

/-- Starts every output of a list that may start; how many did. -/
def startOuts (s : State) (ns : List Nat) : State × Nat :=
  ns.foldl (fun p n => if mayStart p.1 n then (startOut p.1 n, p.2 + 1) else p) (s, 0)

/-- Outputs whose configured source satisfies a test. -/
def outsOn (c : View) (p : OutSet → Bool) : List Nat := (List.range 24).filter fun n => p (cfgSet c n)

/-- The least of a list of instants. -/
def firstOf (ts : List Nat) : Option Nat := ts.foldl (fun m t => some (match m with | some u => min u t | none => t)) none

/-- Output `n` may start now: the instant that it waits for has come. -/
def startsNow (s : State) (n : Nat) : Bool :=
  mayStart s n && (match (vat s.outs n).startAt with
    | some t => decide (t ≤ tsNow s (outTs s (cfgSet s.act n)))
    | none => true)

/-- Outputs that a change of source moved to the running APLL `n` take effect at its divider epoch, which is kept (R303, R334, R351). -/
def epochKept (s : State) (n : Nat) (ns : List Nat) : State :=
  match ns.find? fun k => (vat s.outs k).switching with
  | some k => s.onApll n fun x => { x with
      epochTime := tsNow s n, epochTick := (vat s.outs k).epochFor, epochCount := (ns.filter fun k => (vat s.outs k).switching).length }
  | none => s

/-- The start epoch of APLL `n` in WAIT_EPOCH (R315): the first instant from 16 CORE_CLK cycles after ALIGNED on that is a whole multiple of the
periods of all outputs that restart. -/
def apllStartAt (s : State) (n : Nat) : Nat :=
  epochInstant ((vat s.aplls n).readyAt - 1) (((outsOn s.act fun x => x.sel == n).filter (outDrives s)).map (outFreq s.act))

/-- The start epoch of APLL `n` (R315), where this tick reaches it: it goes from WAIT_EPOCH to RUN and its outputs start; in RUN, the outputs whose
own instant comes first start (R349, R351). -/
def apllStartEpoch (s : State) (n : Nat) : State :=
  let a := vat s.aplls n
  if !(a.st == .waitEpoch || a.st == .run) || !s.apllsRun || !s.synOn || s.pwr.bor18 then s
  else if a.st = .waitEpoch then
    let t := apllStartAt s n
    if !tsInTick s n t then s else
    let s := (passTs s n t).onApll n fun x => { x with st := .run }
    raiseAt (startOuts s (outsOn s.act fun x => x.sel == n)).1 evEpoch n 0
  else
    let ns := (outsOn s.act fun x => x.sel == n).filter (mayStart s)
    let t := (firstOf (ns.map fun k => ((vat s.outs k).startAt).getD 0)).getD 0
    if !tsInTick s n t then s else
    let s := passTs s n t
    let ns := ns.filter (startsNow s)
    let r := startOuts (epochKept s n ns) ns
    raiseIf (decide (0 < r.2)) r.1 evEpoch n 0

/-- The start epoch of FOD `k` on its timescale (R348): a whole multiple of its period and of those of the outputs that start with it. -/
def fodStartAt (s : State) (k : Nat) : Nat :=
  let c := s.act
  epochInstant (((vat s.fods k).readyAt.getD 0) - 1)
    (((cfgFod c k : Rat) / 65536) :: ((outsOn c fun x => x.sel == 2 && x.idx == k).filter (outDrives s)).map (outFreq c))

/-- FODs on the timescale of DPLL 2 + i that can run and do not. -/
def fodsReady (s : State) (i : Nat) : List Nat :=
  (List.range 8).filter fun k => fFodDpll.val s.act (fodBase k) == i && fodCanRun s k && !(vat s.fods k).run

/-- The next start epoch on the timescale of DPLL 2 + i: of a FOD, or of an output that waits on a running one (R348, R349). -/
def fodsStartAt (s : State) (i : Nat) : Nat :=
  let c := s.act
  let ns := (outsOn c fun x => x.sel == 2 && fFodDpll.val c (fodBase x.idx) == i).filter (mayStart s)
  (firstOf ((fodsReady s i).map (fodStartAt s) ++ ns.map fun k => ((vat s.outs k).startAt).getD 0)).getD 0

/-- The start epoch of the FODs on the timescale of DPLL 2 + i that comes first in this tick, and of the outputs that select them (R348). -/
def fodsStartEpoch (s : State) (i : Nat) : State :=
  let c := s.act
  let t := fodsStartAt s i
  if !tsInTick s (2 + i) t then s else
  let ks := (fodsReady s i).filter fun k => decide (fodStartAt s k ≤ max t (tsNow s (2 + i)))
  let start (k : Nat) (f : Fod) : Fod :=
    if ks.contains k then
      { f with
        run := true, aligned := wholeHz ((cfgFod c k : Rat) / 65536), curApll := fFodApll.val c (fodBase k), curDpll := i,
        curFreq := cfgFod c k, epochAt := none, readyAt := none }
    else f
  let s := passTs s (2 + i) t
  let s := { s with fods := vmap start s.fods }
  let r := startOuts s ((outsOn c fun x => x.sel == 2 && fFodDpll.val c (fodBase x.idx) == i).filter (startsNow s))
  raiseIf (!ks.isEmpty || decide (0 < r.2)) r.1 evEpoch (2 + i) 0

/-- A single output starts: at the first edge of an XO or REF source, or at its own instant on a running timescale (R349, R351). -/
def outStartEpoch (s : State) (n : Nat) : State :=
  let d := outTs s (cfgSet s.act n)
  let t := ((vat s.outs n).startAt).getD 0
  if mayStart s n && tsInTick s d t then startOut (passTs s d t) n else s

/-- START_EPOCH. -/
def startEpoch (s : State) (u : EpochUnit) : State :=
  match u with
  | .apll n => apllStartEpoch s n
  | .fods d => fodsStartEpoch s d
  | .output n => outStartEpoch s n

/-- Outputs on APLL `n`, or on FODs of the timescale of DPLL 2 + i, whose change waits for an epoch. -/
def apllPends (s : State) (n : Nat) : List Nat :=
  (List.range 24).filter fun k => (vat s.outs k).changePending && (vat s.outs k).cur.sel == n && (vat s.outs k).epochAt.isSome
def fodOn (s : State) (i k : Nat) : Bool := (vat s.fods k).run && (vat s.fods k).curDpll == i
def fodPends (s : State) (i : Nat) : List Nat :=
  (List.range 24).filter fun n =>
    (vat s.outs n).changePending && (vat s.outs n).epochAt.isSome && (vat s.outs n).cur.sel == 2 && fodOn s i (vat s.outs n).cur.idx

/-- The outputs of a list at their epoch: one with a frequency that is not whole still waits for its own reload (R318). -/
def epochOuts (s : State) (ns : List Nat) : State :=
  ns.foldl (fun t n => if (vat t.outs n).ownReload then t.onOut n fun o => { o with epochAt := none } else epochOut t n) s

/-- The commit ticks of the outputs of a list whose epoch is at `t`: one epoch each. -/
def epochTicks (s : State) (t : Nat) (ns : List Nat) : List Nat :=
  (ns.filter fun k => (vat s.outs k).epochAt == some t).map fun k => (vat s.outs k).epochFor

/-- The next divider epoch of APLL `n`: its instant and the tick of its commit; of two commits at one instant the earlier one first. -/
def apllEpoch (s : State) (n : Nat) : Option (Nat × Nat) :=
  match firstOf ((apllPends s n).filterMap fun k => (vat s.outs k).epochAt) with
  | some t => (firstOf (epochTicks s t (apllPends s n))).map fun f => (t, f)
  | none => none

/-- A divider epoch of APLL `n` comes in this tick: the APLL is in RUN, and some output on it still waits with a change. -/
def apllEpochDue (s : State) (n : Nat) : Bool :=
  (vat s.aplls n).st == .run && (match apllEpoch s n with | some (t, _) => tsInTick s n t | none => false)

/-- The divider epoch of APLL `n` (R318): the changed settings of one commit's outputs take effect together. One whose outputs have all been
squelched or have lost their domain is no more (R331, R371). -/
def apllDividerEpoch (s : State) (n : Nat) : State :=
  match apllEpoch s n with
  | some (t, f) =>
    if !apllEpochDue s n then s else
    let s := passTs s n t
    let ns := (apllPends s n).filter fun k => (vat s.outs k).epochAt == some t && (vat s.outs k).epochFor == f
    let s := (epochOuts s ns).onApll n fun x => { x with epochTime := t, epochTick := f, epochCount := ns.length }
    raiseAt (settleOuts s) evEpoch n 0
  | none => s

/-- The next epoch on the timescale of DPLL 2 + i, of an output or of a FOD's frequency. -/
def fodsEpoch (s : State) (i : Nat) : Option Nat :=
  firstOf ((fodPends s i).filterMap (fun n => (vat s.outs n).epochAt) ++
    ((List.range 8).filter (fodOn s i)).filterMap fun k => (vat s.fods k).epochAt)

/-- An epoch on that timescale comes in this tick. -/
def fodsEpochDue (s : State) (i : Nat) : Bool := match fodsEpoch s i with | some t => tsInTick s (2 + i) t | none => false

/-- The epoch of the FODs and of the outputs on them on the timescale of DPLL 2 + i (R348). -/
def fodsDividerEpoch (s : State) (i : Nat) : State :=
  match fodsEpoch s i with
  | some t =>
    if !fodsEpochDue s i then s else
    let c := s.act
    let s := passTs s (2 + i) t
    let ns := (fodPends s i).filter fun n => (vat s.outs n).epochAt == some t
    let turn (k : Nat) (f : Fod) : Fod := if fodOn s i k && f.epochAt == some t then
        { f with curFreq := cfgFod c k, aligned := wholeHz ((cfgFod c k : Rat) / 65536), epochAt := none } else f
    let s := { epochOuts s ns with fods := vmap turn s.fods }
    raiseAt (settleOuts s) evEpoch (2 + i) 0
  | none => s

/-- The end of the first full period of an output on an XO or REF source (R350, R351), or the own reload of one whose frequency is not whole
(R318). -/
def outDividerEpoch (s : State) (n : Nat) : State :=
  let o := vat s.outs n
  if o.changePending && o.epochAt.isNone && (decide (3 ≤ o.cur.sel) || o.ownReload) then fodsSettle (settleOut (epochOut s n) n) else s

/-- DIVIDER_EPOCH. -/
def dividerEpoch (s : State) (u : EpochUnit) : State :=
  match u with
  | .apll n => apllDividerEpoch s n
  | .fods d => fodsDividerEpoch s d
  | .output n => outDividerEpoch s n

/-- APLL[n].CMD RESYNC: accepted in RUN and in FAULT with analog lock (R313); an epoch of this very cycle applies first (R332). -/
def resyncCmd (s : State) (m : Master) (n : Nat) : State :=
  if !s.servedCore then s else
  let a := vat s.aplls n
  let addr := apllBase n + 0xE
  if a.st = .run ∨ (a.st = .fault ∧ a.lock = true) then
    let now := match apllEpoch s n with | some (t, _) => decide (t ≤ tsNow s n) | none => false
    echo (alignStart (fodsStop (if now then apllDividerEpoch s n else s) n) n) m addr 2 [] resAccepted
  else echo s m addr 2 [] resNotRunning

/-! ## Frequency words (R305, R306, R347) -/

/-- ±1,000 ppm in 2^-48, as the largest whole word inside it (R306). -/
def steerMax : Int := 281474976710

/-- The word that DPLL `d` applies before the limit: its word and the mover's velocity; nominal while it does not steer (R223, R247,
R248, R305). -/
def rawWord (s : State) (d : Nat) : Int :=
  let x := vat s.dplls d
  if dpllRuns s d then ratFree 43 ((x.word : Rat) + moverWord x) else 0

/-- The present ratio of FOD `k` in 2^-32 (R347): a quarter of the VCO frequency over FREQ, with the APLL's word cancelled. -/
def fodRatio (s : State) (k : Nat) : Nat :=
  let f := vat s.fods k
  let wa : Rat := (vat s.dplls f.curApll).applied
  let wd : Rat := (vat s.dplls (2 + f.curDpll)).applied
  let base := vcoNom s.act f.curApll / 4 / ((f.curFreq : Rat) / 65536)
  (ratFree 44 (base * (1 + wa / 2 ^ 48) / (1 + wd / 2 ^ 48) * 2 ^ 32)).toNat

/-- DISPATCH applies the frequency words: to the time counter, the timescales, the APLLs and the FODs (R58, R305, R306, R308). The
LOCK pin follows (R234). -/
def freqWords (s : State) : State :=
  let s := forN 4 (fun d t =>
    let w := rawWord t d
    let held := decide (steerMax < w) || decide (w < -steerMax)
    let was := (vat t.dplls d).steerLimit
    let v := max (-steerMax) (min steerMax w)
    let t := t.onDpll d fun x => { x with applied := v, steerLimit := held }
    let t := if d < 2 then alignSlew (lockingStart (t.onApll d fun a => { a with word := if a.lock || a.st == .locking then v else a.word }) d) d else t
    raiseIf (held && !was) t evSteerLimit d 0) s
  let s := s.onTime fun t => { t with inc := incOf (vat s.dplls 0).applied }
  let s := { s with fods := vmap (fun k (f : Fod) => if f.run then { f with ratio := fodRatio s k } else f) s.fods }
  { s with lockPin := (vat s.dplls 0).loop == .locked }

/-- At the first tick after CORE becomes ON, TS[1] to TS[3] are set equal to bench time (R308). -/
def timescalesSet (s : State) : State :=
  { s with dplls := vmap (fun k d => if k = 0 then d else { d with timescale := s.time.bench }) s.dplls }

/-! ## The reaction to a commit (R309) -/

/-- Whether a commit wrote a word whose change asks for a band search of APLL `n` (R309, R549). -/
def searchWords (n : Nat) (written : List Nat) : Bool :=
  written.any fun a => decide (apllBase n + 1 ≤ a) && decide (a ≤ apllBase n + 5) || a == apllBase n + 0xC

/-- APLL `n` after a commit that wrote `written`. -/
def apllCommit (written : List Nat) (n : Nat) (s : State) : State :=
  let a := vat s.aplls n
  if !inService s.act (apllBase n) then (if a.st = .off then s else apllStop s n)
  else if searchWords n written || (a.st == .off && apllBase n ∈ written) then
    (if s.apllsRun then searchStart s n else s)
  else s

/-! ## Commands -/

def execResearch (m : Master) (n : Fin 2) (s : State) : Host.Outcome State Fault Refusal := .next (researchCmd (access s m) m n)

def execResync (m : Master) (n : Fin 2) (s : State) : Host.Outcome State Fault Refusal := .next (resyncCmd (access s m) m n)

def execBandDone (n : Fin 2) (code : Fin 128) (vtune : Fin 64) (s : State) : Host.Outcome State Fault Refusal :=
  .next (bandDone s n code vtune)

def execBandFail (n : Fin 2) (s : State) : Host.Outcome State Fault Refusal := .next (bandFail s n)

def execAlignDone (n : Fin 2) (off : Int) (s : State) : Host.Outcome State Fault Refusal := .next (alignDone s n off)

def execStartEpoch (u : EpochUnit) (s : State) : Host.Outcome State Fault Refusal := .next (if s.coreOn then startEpoch s u else s)

def execApllUnlock (n : Fin 2) (s : State) : Host.Outcome State Fault Refusal := .next (apllUnlock s n)

/-- APLL_RESEARCH_DELAY: 100 µs after a loss of lock the search starts, unless SUPPLY_LOW holds (R311). -/
def execApllResearchDelay (n : Fin 2) (s : State) : Host.Outcome State Fault Refusal :=
  .next (if (vat s.aplls n).delayDue then searchStart (s.onApll n fun a => { a with
      delayDue := false, st := if s.pwr.supplyLow then .off else a.st }) n else s)

def execSpllUnlock (s : State) : Host.Outcome State Fault Refusal := .next (spllUnlock s)

def execDividerEpoch (u : EpochUnit) (s : State) : Host.Outcome State Fault Refusal := .next (if s.coreOn then dividerEpoch s u else s)

/-- XO_MODE, XO_FREQ and CLOAD within the ranges of R298 and R299. -/
def xoCfgOk (c : View) : Bool :=
  let mode := fXoMode.val c spllBase
  let f := fXoFreq.val c spllBase
  rng 0 2 mode && rng 0 64 (fCload.val c spllBase) && (if mode = 0 then rng 25000000 54000000 f else rng 10000000 125000000 f)

/-- A window write of word `off` of SPLL.XO_CFG while CORE is not ON (R302): to both copies at once. XO_FREQ takes effect with its
most significant word (R541). A value outside the ranges of R299 is discarded without effect or event. -/
def xoCfgWrite (s : State) (m : Master) (off : Nat) (v : Nat) : State :=
  if off = 1 then s.onHost m fun h => { h with wrHold := sput 0 (Word.ofN v) (spllBase + 1) h.wrHold } else
  let put (a w : Nat) (l : List (Nat × Word)) : List (Nat × Word) := sput (resetWordW a) (Word.ofN (w &&& cfgMask a)) a l
  let act := s.cfg.active
  let act := if off = 0 then put spllBase v act
    else put (spllBase + 2) v (put (spllBase + 1) (sget 0 (s.host m).wrHold (spllBase + 1)).toNat act)
  let t := { s with cfg := { s.cfg with active := act } }
  if !xoCfgOk t.act then s else
  t.onSpll fun p => { p with
    cfgLoaded := true,
    modeInUse := if p.everOn then p.modeInUse else fXoMode.val t.act spllBase,
    freqInUse := if p.everOn then p.freqInUse else fXoFreq.val t.act spllBase }

end Sys2Proof.Machine
end

