-- ==== Sys2Proof/Machine/Lace.lean ====
section
/-!
DEFINITION. Sys2Proof/Machine/Lace.lean: the Lace ports (R382 to R413, R419 to R431): cell lock, reception, forwarding, the transmit
queues, time transfer, seconds, QL, STATE and EYE cells, port states and link errors. The distributed commit is in Txn.lean.
-/
namespace Sys2Proof.Machine

/-! ## Ports and cells -/

/-- Network of port `p` (0 A, 1 B), its number in that network, and the other port of the same network. -/
def portNet (p : Nat) : Nat := p / 2
def portTx (p : Nat) : Nat := p % 2
def otherPort (p : Nat) : Nat := if p % 2 = 0 then p + 1 else p - 1

/-- LACE.CFG.ADDR and DC_GUARD in a configuration (R383). -/
def laceAddr (c : View) : Nat := fLaceAddr.val c laceDevBase
def dcGuard (c : View) : Nat := fDcGuard.val c laceDevBase

/-- Port `p` is in service. -/
def portServes (s : State) (p : Nat) : Bool := inService s.act (laceBase p)

/-- Octets `i` to `i + k − 1` of a cell (payload octets 7 to 27), as one number, least significant octet first (R387). -/
def cellField (c : Cell) (i k : Nat) : Nat := ofOctetsLE ((c.payload.drop (i - 7)).take k)

/-- The timestamp at octet `i` in 2^-16 ns (R391). -/
def cellStamp (c : Cell) (i : Nat) : Nat := ofTimeWords (cellField c i 2) (cellField c (i + 2) 4) (cellField c (i + 6) 6)

/-- The twelve octets of a timestamp (R391). -/
def stampOctets (t : Nat) : List Byte := octetsLE 2 (t % ns16) ++ octetsLE 4 (t % sec16 / ns16) ++ octetsLE 6 (t / sec16)

/-- A payload filled with zeros to its 21 octets. -/
def fill21 (bs : List Byte) : List Byte := (bs ++ List.replicate 21 0).take 21

/-- Code of a scope, and the octets 1 to 27 and the CRC of a cell (R387, R390). -/
def scopeCode : Scope → Nat
  | .link => 0 | .unicast => 1 | .broadcast => 2 | .reserved => 3
def cellOctets (c : Cell) : List Byte :=
  octetsLE 1 (c.typ * 16 + c.ver * 4 + scopeCode c.scope) ++ octetsLE 1 (c.txPort * 64 + c.net * 32 + c.src) ++ octetsLE 1 c.dst ++
  octetsLE 1 c.hops ++ octetsLE 2 c.seq ++ fill21 c.payload
def cellCrc (c : Cell) : Nat := crc32c (cellOctets c)

/-- Cell types (R388). -/
def ctTime : Nat := 1
def ctQl : Nat := 2
def ctSafe : Nat := 3
def ctCommit : Nat := 4
def ctEye : Nat := 5
def ctState : Nat := 6
def ctAck : Nat := 7

/-- The header is valid: a known type, VER 0b01, and the scope the type is sent with (R388). -/
def headerOk (c : Cell) : Bool :=
  c.ver == 1 && match c.typ with
    | 0 => c.scope == .link | 1 => c.scope == .link | 2 => c.scope == .link
    | 3 => c.scope == .unicast || c.scope == .broadcast
    | 4 => c.scope == .broadcast | 5 => c.scope == .broadcast | 6 => c.scope == .broadcast
    | 7 => c.scope == .unicast
    | _ => false

/-! ## Link error counters (R419) -/

def cnCode : Nat := 0
def cnCrc : Nat := 1
def cnLock : Nat := 2
def cnRx : Nat := 3
def cnTx : Nat := 4
def cnDiscard : Nat := 5
def cnOvf : Nat := 6
def cnDrop : Nat := 7
def cnOutlier : Nat := 8

/-- One count into a link error counter of port `p`. -/
def portCount (s : State) (p i : Nat) : State := s.onPort p fun x => { x with cnts := vupd x.cnts i (stick 32) }

/-- Clears every link error counter of port `p`. -/
def clearPortCounts (s : State) (p : Nat) : State := s.onPort p fun x => { x with cnts := Vector.replicate 9 0 }

/-! ## Transmit queues (R400 to R403) -/

/-- Puts a cell into a transmit queue of port `p`; a forwarded cell that finds its queue full is discarded and counted. -/
def enqueueTx (s : State) (p : Nat) (c : Cell) (fwd : Bool) : State :=
  let x := vat s.ports p
  let e : TxCell := { cell := { c with txPort := portTx p }, order := x.order, since := s.now, fwd := fwd }
  if c.typ = ctSafe then
    if fwd && decide (8 ≤ x.safeq.length) then portCount s p cnDrop
    else s.onPort p fun x => { x with safeq := x.safeq ++ [e], order := x.order + 1 }
  else if fwd && decide (32 ≤ x.txq.length) then portCount s p cnDrop
  else s.onPort p fun x => { x with txq := x.txq ++ [e], order := x.order + 1 }

/-- Forwards a cell received on port `p` to the other port of its network (R400). -/
def forwardCell (s : State) (p : Nat) (c : Cell) : State :=
  let q := otherPort p
  if 31 ≤ c.hops then portCount s p cnDiscard
  else if !portServes s q || !portIsUp s q || (c.typ == ctSafe && !carries s q) then portCount s q cnDrop
  else enqueueTx s q { c with hops := c.hops + 1 } true

/-- A LINK cell of this hub on port `p`, with the port's sequence number (R389). -/
def sendLink (s : State) (p typ : Nat) (payload : List Byte) : State :=
  let x := vat s.ports p
  let c : Cell := { typ := typ, ver := 1, scope := .link, txPort := portTx p, net := portNet p, src := laceAddr s.act, dst := 0x3F,
                    hops := 0, seq := x.linkSeq, payload := fill21 payload }
  enqueueTx (s.onPort p fun y => { y with linkSeq := (y.linkSeq + 1) % 65536 }) p c false

/-- A cell that this hub originates on network `x`, sent on those of `ports` that are in service, with the network's sequence number,
which counts it where a port sends it (R389, R401). -/
def sendNet (s : State) (x typ : Nat) (scope : Scope) (src dst : Nat) (payload : List Byte) (ports : List Nat) : State :=
  let c : Cell := { typ := typ, ver := 1, scope := scope, txPort := 0, net := x, src := src, dst := dst, hops := 0,
                    seq := vat s.lace.netSeq x, payload := fill21 payload }
  let on := ports.filter fun p => portServes s p
  if on.isEmpty then s else
  let s := s.onLace fun l => { l with netSeq := vupd l.netSeq x fun n => (n + 1) % 65536 }
  on.foldl (fun t p => enqueueTx t p c false) s

/-- The two ports of a network. -/
def netPorts (x : Nat) : List Nat := [2 * x, 2 * x + 1]

/-- The ports for a UNICAST cell to hub `a` on network `x`: the one on which its STATE cell arrived within 64 ticks, else both (R401). -/
def topo (s : State) (x a : Nat) : TopoEntry := vat (if x = 0 then s.lace.topoA else s.lace.topoB) a
def unicastPorts (s : State) (x a : Nat) : List Nat :=
  let e := topo s x a
  if e.seen ∧ s.time.tickSeq ≤ e.tick + 64 then [e.port] else netPorts x

/-- The networks named by a selection code: 1 A, 2 B, 3 both. -/
def netsOf (code : Nat) : List Nat := (if code % 2 = 1 then [0] else []) ++ (if code / 2 % 2 = 1 then [1] else [])

/-- Class of a cell in the order of R402. -/
def txClass (s : State) (e : TxCell) : Nat :=
  if e.since + s.tick16 < s.now then 2
  else match e.cell.typ with
    | 4 => 3 | 7 => 3 | 1 => 4 | 5 => 5 | 2 => 6 | _ => 7

/-- The waiting cell that goes first: lowest class, then oldest. -/
def txFirst (s : State) (q : List TxCell) : Option TxCell :=
  q.foldl (fun b e => match b with
    | none => some e
    | some x => if txClass s e < txClass s x ∨ (txClass s e = txClass s x ∧ e.order < x.order) then some e else some x) none

/-- FLAGS of a TIME cell that leaves port `p` now (R393). -/
def timeFlags (s : State) (p : Nat) : Nat :=
  let x := vat s.ports p
  let d := vat s.dplls 0
  b2n (x.lastTime.isSome && decide (s.time.tickSeq ≤ x.lastTimeTick + 2)) + 2 * b2n s.lace.secValid + 4 * b2n (d.sel == some (8 + p)) +
  8 * b2n (d.loop == .locked)

/-- The payload of a TIME cell as it departs: TX_TIME, the echo of the last TIME cell received, and its residence (R393). -/
def timePayload (s : State) (p : Nat) : List Byte :=
  let x := vat s.ports p
  let echo : Nat × Nat := x.lastTime.getD (0, s.now)
  stampOctets s.now ++ octetsLE 2 echo.1 ++ octetsLE 6 (s.now - echo.2) ++ octetsLE 1 (timeFlags s p)

/-- What departs in this slot of port `p`: a TIME cell is written at its departure, and its SEQ and departure are kept (R402, R405). -/
def departCell (s : State) (p : Nat) (c : Cell) : State :=
  let s := portCount s p cnTx
  if c.typ = ctTime then
    s.onPort p fun x => { x with slot := { c with payload := timePayload s p }, sentTimes := ((c.seq, s.now) :: x.sentTimes).take 4 }
  else s.onPort p fun x => { x with slot := c }

/-- The cell slot of port `p` (R402). A port that sends nothing drives no transitions (R385). -/
def slotPort (s : State) (p : Nat) : State :=
  if !s.servedCore || !portServes s p then s.onPort p fun x => { x with slot := idleCell } else
  let x := vat s.ports p
  match (if carries s p then x.safeq else []) with
  | e :: _ => departCell (s.onPort p fun y => { y with safeq := y.safeq.drop 1 }) p e.cell
  | [] =>
    match txFirst s x.txq with
    | some e => departCell (s.onPort p fun y => { y with txq := y.txq.erase e }) p e.cell
    | none => s.onPort p fun y => { y with slot := { idleCell with txPort := portTx p, net := portNet p, src := laceAddr s.act } }

/-- A port that went down, or that ceased to carry safety, drops the forwarded cells that it held, counting them (R430); its own SAFE
cells are not sent either. -/
def dropQueued (s : State) (p : Nat) : State :=
  let x := vat s.ports p
  let lostTx := if portIsUp s p then 0 else (x.txq.filter (·.fwd)).length
  let lostSafe := if carries s p then 0 else (x.safeq.filter (·.fwd)).length
  let s := s.onPort p fun y => { y with
    txq := if portIsUp s p then y.txq else y.txq.filter fun e => !e.fwd
    safeq := if carries s p then y.safeq else [] }
  forN (lostTx + lostSafe) (fun _ t => portCount t p cnDrop) s

/-! ## Cell lock (R392) -/

/-- Port `p` gains cell lock. -/
def gainLock (s : State) (p : Nat) : State :=
  if !s.coreOn || (vat s.ports p).cellLock then s else
  raiseAt (s.onPort p fun x => { x with cdrLock := true, cellLock := true, failRun := 0, measures := 0, rtts := [], outlierRun := 0 })
    evCellLock p 0

/-- Port `p` loses cell lock: the estimate is discarded (R407), the count of measurements starts again (R423), and the window of R411
begins. REPORTED_STATE stays as the peer last gave it until 64 ticks without a STATE cell (R43; DESIGN CHOICE, log 73: the placement line of the
chapter on architecture clears it with the lock, its worked example 64 ticks later). -/
def loseLock (s : State) (p : Nat) (cdr : Bool) : State :=
  if !s.coreOn then s else
  let s := if cdr then s.onPort p fun x => { x with cdrLock := false } else s
  if !(vat s.ports p).cellLock then s else
  let now := s.now
  raiseAt (portCount (s.onPort p fun x => { x with
    cellLock := false, failRun := 0, measures := 0, rtts := [], outlierRun := 0, lastTime := none, peerAt := none, secCnt := 0, window := some now }) p cnLock)
    evCellLockLost p 0

/-- A failing cell while cell lock is held: discarded, each of its code errors counted or else its CRC error, counted towards the SD flag, and the fourth in a row loses lock (R392,
R419, R420, R598). -/
def badCell (s : State) (p codeErrs : Nat) : State :=
  if !s.coreOn || !(vat s.ports p).cellLock then s else
  let codeErr := decide (0 < codeErrs)
  let s := if codeErr then forN codeErrs (fun _ t => portCount t p cnCode) s else portCount s p cnCrc
  let s := s.onPort p fun x => { x with failRun := x.failRun + 1, crcSec := if codeErr then x.crcSec else x.crcSec + 1 }
  let s := if codeErr then s else countSrc (0x154 + p) 1 s
  let x := vat s.ports p
  let sd := !codeErr && decide (fSdThr.val s.act (laceBase p) < x.crcSec)
  let s := s.onPort p fun y => { y with sd := y.sd || sd, sdClean := if sd then 0 else y.sdClean }
  let s := raiseIf (sd && !x.sd) s evSignalDegrade p 0
  if 4 ≤ x.failRun then loseLock s p false else s

/-- The end of a whole second for the SD flag of port `p` (R420). -/
def sdSecond (s : State) (p : Nat) : State :=
  let thr := fSdThr.val s.act (laceBase p)
  s.onPort p fun x =>
    let clean := if x.crcSec ≤ thr / 10 then x.sdClean + 1 else 0
    { x with crcSec := 0, sdClean := if 10 ≤ clean then 0 else clean, sd := x.sd && decide (clean < 10) }

/-! ## Reception (R388, R400, R401, R412, R413, R76) -/

/-- A cell whose NET is that of the other network: cause WIRING for 64 ticks, the event once per 64 ticks (R413). -/
def wiringFault (s : State) (p : Nat) : State :=
  let now := s.time.tickSeq
  let again := decide ((vat s.ports p).wiringHold ≤ now)
  raiseIf again ((portCount s p cnDiscard).onPort p fun x =>
    { x with wiringUntil := some (now + 64), wiringHold := if again then now + 64 else x.wiringHold }) evWiring p 0

/-- A cell with this hub's own address as SRC: cause ADDR_CONFLICT for 64 ticks (R401). -/
def addrConflict (s : State) (p : Nat) : State :=
  let now := s.time.tickSeq
  raiseAt ((portCount s p cnDiscard).onPort p fun x => { x with conflictUntil := some (now + 64) }) evAddrConflict p 0

/-- A cell for this hub that arrived at `at_` waits for its processing in EVALUATE; a full queue loses it (R76, R419). A SAFE cell is handed to channel P
(R71, R395). -/
def takeCell (s : State) (p : Nat) (c : Cell) (at_ : Nat) : State :=
  if c.typ = ctSafe then s.onSafe fun f => { f with inbox := f.inbox ++ [(portNet p, c)] }
  else if c.typ = 0 then s
  else if 16 ≤ (vat s.ports p).rxq.length then
    raiseIf (!(vat s.ports p).rxOvf) ((portCount s p cnOvf).onPort p fun x => { x with rxOvf := true }) evRxOvf p 0
  else
    let clk := s.safe.p.clk
    s.onPort p fun x => { x with rxq := x.rxq ++ [{ cell := c, arrival := at_, clk := clk }] }

/-- The bench time at which a TIME cell's K28.5 arrived, `sub` steps of 4 ps after the present CORE_CLK edge (R393). -/
def arriveTime (s : State) (sub : Nat) : Nat := s.now + (quotFree 46 (sub * 262144) 1000).toNat

/-- A cell is received on port `p` at bench time `at_` with a correct CRC. It is handled as its own header says; a SAFE cell on a port that does not carry
safety is discarded, neither taken nor forwarded (R412). -/
def receiveCell (s : State) (p : Nat) (c : Cell) (at_ : Nat) : State :=
  if !s.coreOn || !(vat s.ports p).cellLock then s else
  let s := s.onPort p fun x => { x with failRun := 0 }
  if !portServes s p then s
  else if !headerOk c then portCount s p cnDiscard
  else if c.net ≠ portNet p then wiringFault s p
  else if c.src = laceAddr s.act then addrConflict s p
  else
    let s := if c.typ = 0 then s else countSrc (0x150 + p) 1 (portCount s p cnRx)
    let seq := s.time.tickSeq
    let s := if c.typ = ctTime then s.onPort p fun x => { x with lastTime := some (c.seq, at_), lastTimeTick := seq } else s
    if c.typ = ctSafe ∧ carries s p = false then portCount s p cnDiscard else
    match c.scope with
    | .unicast => if c.dst = laceAddr s.act then takeCell s p c at_ else forwardCell s p c
    | .broadcast => forwardCell (takeCell s p c at_) p c
    | _ => takeCell s p c at_

/-! ## Time transfer (R405 to R407, R410) -/

/-- 100 µs, the largest valid RTT (R406). -/
def rttMax : Int := 100000 * 65536

/-- The delay estimate: the mean of the RTT values kept, with the free rounding of log 1 (R407). -/
def rttMean (l : List Int) : Int := quotFree 40 (l.foldl (· + ·) 0) l.length

/-- A departure from the estimate by more than RTT_TOL, in ps (R407). -/
def isOutlier (s : State) (p : Nat) (rtt : Int) : Bool :=
  let l := (vat s.ports p).rtts
  decide (2 ≤ l.length) &&
    decide ((fRttTol.val s.act (laceBase p) : Int) * 65536 * l.length < 1000 * ((l.foldl (· + ·) 0) - rtt * l.length).natAbs)

/-- d_in of an estimate (R406). -/
def delayIn (s : State) (p : Nat) (rtt : Int) : Int := quotFree 41 (rtt + fAsym.int s.act (laceBase p)) 2

/-- One valid measurement of port `p` (R407). -/
def measureRtt (s : State) (p : Nat) (rtt : Int) : State :=
  let s := s.onPort p fun x => { x with measures := min 255 (x.measures + 1), lastRtt := rtt }
  if isOutlier s p rtt then
    let s := portCount s p cnOutlier
    let run := (vat s.ports p).outlierRun + 1
    if 16 ≤ run then raiseAt (s.onPort p fun x => { x with rtts := [], outlierRun := 0 }) evDelayRestart p 0
    else s.onPort p fun x => { x with outlierRun := run }
  else
    let s := s.onPort p fun x => { x with rtts := (rtt :: x.rtts).take (fNAvg.val s.act (laceBase p)), outlierRun := 0 }
    let d := delayIn s p (rttMean (vat s.ports p).rtts)
    s.onPort p fun x => { x with dIn := d }

/-- What the seconds of port `p` show, for the hub that follows it (R410): three equal results in a row adopt or confirm. -/
def judgeSeconds (s : State) (p : Nat) (o : Int) (secValid : Bool) : State :=
  let d := vat s.dplls 0
  if !(d.loop == .locked && d.sel == some (8 + p) && carries s p && secValid) then
    s.onPort p fun x => { x with peerSec := secValid, secCnt := 0 }
  else
    let n := roundHalf o sec16
    let x := vat s.ports p
    let cnt := if x.secCnt ≠ 0 ∧ x.secN = n then x.secCnt + 1 else 1
    let s := s.onPort p fun y => { y with peerSec := secValid, secN := n, secCnt := if 3 ≤ cnt then 0 else cnt }
    if cnt < 3 then s
    else if n = 0 then s.onLace fun l => { l with secValid := true }
    else
      let sec := s.benchSec
      s.onLace fun l => { l with adoptSec := some (n, sec) }

/-- A TIME cell of port `p` is processed. The offset is computed with the estimate in force when the cell arrived; the first measurement
uses its own. -/
def processTime (s : State) (p : Nat) (r : RxCell) : State :=
  let c := r.cell
  let flags := cellField c 27 1
  let had := !(vat s.ports p).rtts.isEmpty
  let dWas := (vat s.ports p).dIn
  let sent := (vat s.ports p).sentTimes.find? fun e => decide (e.1 = cellField c 19 2)
  let s := match bitOf flags 0, sent with
    | true, some (_, t1) =>
      let rtt : Int := (r.arrival : Int) - t1 - cellField c 21 6
      if 0 < rtt ∧ rtt ≤ rttMax then measureRtt s p rtt else s
    | _, _ => s
  let x := vat s.ports p
  if !had && x.rtts.isEmpty then s.onPort p fun y => { y with peerSec := bitOf flags 1 } else
  let o : Int := (r.arrival : Int) - cellStamp c 7 - (if had then dWas else x.dIn)
  judgeSeconds (s.onPort p fun y => { y with lastO := o, peerAt := some (r.clk, (r.arrival : Int) - o) }) p o (bitOf flags 1)

/-- The seconds that were adopted take effect at a whole second after the decision: they are reduced by N, the nanoseconds stay (R410,
R103). -/
def adoptSeconds (s : State) : State :=
  match s.lace.adoptSec with
  | some (n, sec) =>
    if s.coreOn && decide (sec < s.benchSec) then
      stepBench (s.onLace fun l => { l with adoptSec := none, secValid := true }) (-(n * secB))
    else s
  | none => s

/-! ## QL, STATE and EYE cells -/

/-- A QL cell of port `p` is processed (R404, R196, R198). -/
def processQl (s : State) (p : Nat) (c : Cell) : State :=
  let now := s.time.tickSeq
  let differs := b2n (bitOf (cellField c 7 1) 4) != s.qlOption
  let again := differs && decide ((vat s.ports p).optHold ≤ now)
  let s := raiseIf again (s.onPort p fun x => { x with optHold := if again then now + 64 else x.optHold }) evOptionMismatch p 0
  let code := cellField c 7 1 % 16
  let s := inbandQl s (8 + p) code
  if (vat s.srcs (8 + p)).accQl = some (normQl s.qlOption code) then
    s.onPort p fun x => { x with origin := cellField c 8 1 % 32, originHops := cellField c 9 1 % 32 }
  else s

/-- The OPER_STATE of code 0 to 3 (R396). -/
def operOfCode (n : Nat) : Oper :=
  match n with
  | 0 => .off | 1 => .starting | 2 => .up | _ => .down
def Oper.code : Oper → Nat
  | .off => 0 | .starting => 1 | .up => 2 | .down => 3

/-- A STATE cell with another TICK_PERIOD: the event once per 64 ticks, and R30 holds on the network for 64 ticks (R413). -/
def tickMismatch (s : State) (x p : Nat) : State :=
  let now := s.time.tickSeq
  let again := decide (vat s.lace.tickHold x ≤ now)
  let s := s.onLace fun l => { l with
    mismatchA := if x = 0 then some (now + 64) else l.mismatchA
    mismatchB := if x = 0 then l.mismatchB else some (now + 64)
    tickHold := if again then vupd l.tickHold x fun _ => now + 64 else l.tickHold }
  raiseIf again s evTickMismatch p 0

/-- A STATE cell received on port `p` is processed: the topology entry (R383), the peer's report where HOPS is 0 (R412, R43), and the
check of TICK_PERIOD (R30, R413). -/
def processState (s : State) (p : Nat) (c : Cell) : State :=
  let now := s.time.tickSeq
  let entry : TopoEntry := { seen := true, port := p, hops := c.hops, tick := now, content := c.payload }
  let s := s.onLace fun l =>
    if c.net = 0 then { l with topoA := vupd l.topoA c.src fun _ => entry } else { l with topoB := vupd l.topoB c.src fun _ => entry }
  let facing := bitsOf (cellField c 10 1) (4 * c.net + 2 * c.txPort + 1) (4 * c.net + 2 * c.txPort)
  let s := if c.hops = 0 then s.onPort p fun x => { x with
      reported := some (operOfCode facing), reportTick := some now, peerAddr := c.src, peerPort := c.txPort } else s
  if cellField c 7 2 = s.time.period then s else tickMismatch s c.net p

/-- An EYE cell is processed: each listening eyelet with its tag takes the fire time, unless it took it before or its edge is live; it becomes
active at the next tick boundary (R94). -/
def processEye (s : State) (c : Cell) : State :=
  let fire := cellStamp c 8
  forN 32 (fun n t =>
    let x := vat t.eyes n
    let b := eyeBase n
    if inService t.act b && fEyeSource.on t.act b && fEyeTag.val t.act b == cellField c 7 1 &&
        x.remote != some fire && !(x.edges.any fun e => e.stage == .live) then
      raiseAt (t.onEye n fun y => { y with baseTime := fire, armed := true, remote := some fire }) evEyeRemote n 0
    else t) s

/-! ## Composition in DISPATCH (R27, R93, R393, R394, R396, R404) -/

/-- The QL payload for port `p` (R394, R404). -/
def qlPayload (s : State) (p : Nat) : List Byte :=
  let d := vat s.dplls 0
  let follow := d.sel == some (8 + p)
  let ql := if follow then 0xF else d.outQl
  let (o, h) : Nat × Nat := match d.sel with
    | some n => if d.loop = .locked ∧ 8 ≤ n ∧ n < 12 then ((vat s.ports (n - 8)).origin, min 31 ((vat s.ports (n - 8)).originHops + 1))
                else (laceAddr s.act, 0)
    | none => (laceAddr s.act, 0)
  octetsLE 1 (ql + 16 * s.qlOption) ++ octetsLE 1 o ++ octetsLE 1 h ++ octetsLE 1 (b2n (d.loop == .holdover) + 2 * b2n (d.loop == .freerun))

/-- What the QL cells say that can change: the outgoing code, and the port that is followed. -/
def qlKey (s : State) : Nat :=
  let d := vat s.dplls 0
  d.outQl + 16 * (match d.sel with | some n => (if 8 ≤ n ∧ n < 12 then n - 7 else 0) | none => 0)

/-- QL cells: every 8 ticks, and in each of the 3 ticks after a change, on every UP port (R404). -/
def composeQl (s : State) : State :=
  let key := qlKey s
  let burst := if key = s.lace.qlLast then s.lace.qlBurst else 3
  let due := decide (0 < burst) || decide (7 ≤ s.lace.qlAge)
  let s := s.onLace fun l => { l with qlLast := key, qlBurst := burst - 1, qlAge := if due then 0 else l.qlAge + 1 }
  if due then forN 4 (fun p t => if portServes t p && portIsUp t p then sendLink t p ctQl (qlPayload t p) else t) s else s

/-- LoopState codes (R396). -/
def LoopState.code : LoopState → Nat
  | .freerun => 0 | .acquire => 1 | .locked => 2 | .holdover => 3

/-- Octets 10 and 11 of a STATE cell: the states whose change is reported at once (R396). -/
def stateKey (s : State) : List Nat :=
  [(List.range 4).foldl (fun n p => n + (vat s.opers.ports p).code * 4 ^ p) 0,
   (vat s.opers.dplls 0).code + 4 * (vat s.dplls 0).loop.code + 16 * ((vat s.dplls 0).sel.getD 15)]

/-- The STATE payload (R396). -/
def statePayload (s : State) : List Byte :=
  octetsLE 2 s.time.period ++ octetsLE 1 (s.mode.mode.code + 16 * s.qlOption + 32 * b2n s.lace.secValid) ++
  (stateKey s).flatMap (octetsLE 1) ++ octetsLE 1 (vat s.dplls 0).outQl ++ octetsLE 2 s.lace.lastDcId ++ octetsLE 1 s.lace.lastResult

/-- STATE cells: at least once every 16 ticks, and in the first DISPATCH after a change, on every UP port (R43, R396). -/
def composeState (s : State) : State :=
  let key := stateKey s
  let due := key != s.lace.stateLast || decide (15 ≤ s.lace.stateAge)
  let s := s.onLace fun l => { l with stateLast := key, stateAge := if due then 0 else l.stateAge + 1 }
  if due then forN 2 (fun x t =>
    sendNet t x ctState .broadcast (laceAddr t.act) 0x3F (statePayload t) ((netPorts x).filter fun p => portIsUp t p)) s else s

/-- EYE cells of eyelet `n`: in the DISPATCH of its activation tick, and again for each repeat as it is loaded (R93, R399). -/
def composeEye (s : State) (n : Nat) : State :=
  let c := s.act
  let b := eyeBase n
  let x := vat s.eyes n
  let upto := max 1 x.nextK
  if fEyeNet.val c b = 0 || !inService c b || x.armed || !(x.active || decide (x.sentK < x.nextK)) then s else
  let ks := (List.range upto).drop x.sentK
  let payload (k : Nat) : List Byte :=
    octetsLE 1 (fEyeTag.val c b) ++ stampOctets (x.baseTime + k * eyeInterval c n) ++ octetsLE 1 n ++ octetsLE 2 k
  let s := s.onEye n fun y => { y with sentK := max y.sentK upto }
  ks.foldl (fun t k => (netsOf (fEyeNet.val c b)).foldl (fun u y =>
    sendNet u y ctEye .broadcast (laceAddr u.act) 0x3F (payload k) ((netPorts y).filter fun p => portIsUp u p)) t) s

/-- TIME cells: one per tick on every in-service port whose cell lock is held (R388). -/
def composeTime (s : State) : State :=
  forN 4 (fun p t => if portServes t p && (vat t.ports p).cellLock then sendLink t p ctTime [] else t) s

/-- The link part of Lace cell composition. -/
def composeCells (s : State) : State := forN 32 (fun n t => composeEye t n) (composeState (composeQl (composeTime s)))

/-! ## Port states (R411 to R413, R42 to R44) -/

/-- Cause shown by port `p` (R382). -/
def portCause (s : State) (p : Nat) : Nat :=
  let x := vat s.ports p
  if x.wiringUntil.isSome then 3 else if x.conflictUntil.isSome then 4
  else if x.cellLock then 0 else if x.cdrLock then 2 else 1

/-- OPER_STATE of port `p`: the first matching row of R411. -/
def portOper (s : State) (p : Nat) : Oper :=
  let x := vat s.ports p
  if !s.coreOn then .off
  else if s.underTest 5 p then .starting
  else if !portServes s p then (if x.cellLock then .up else .off)
  else if x.wiringUntil.isSome || x.conflictUntil.isSome then .down
  else if x.cellLock && decide (2 ≤ x.measures) then .up
  else if x.window.isSome then .starting
  else .down

/-- The 1 s window of port `p` has run out (R411). -/
def windowExpire (s : State) (p : Nat) : State :=
  let now := s.now
  s.onPort p fun x => { x with window := x.window.filter fun t => decide (now < t + sec16) }

/-- WIRING and ADDR_CONFLICT end after 64 ticks (R401, R413). -/
def causeExpire (s : State) (p : Nat) : State :=
  let now := s.time.tickSeq
  s.onPort p fun x => { x with wiringUntil := x.wiringUntil.filter fun t => decide (now < t),
                               conflictUntil := x.conflictUntil.filter fun t => decide (now < t) }

/-- No STATE cell from the peer for 64 ticks: its report is UNKNOWN (R43). -/
def reportExpire (s : State) (p : Nat) : State :=
  let now := s.time.tickSeq
  s.onPort p fun x =>
    match x.reportTick with
    | some t => if t + 64 ≤ now then { x with reported := none, reportTick := none } else x
    | none => x

/-- R30 ends on network `x` after 64 ticks without another TICK_PERIOD (R413). -/
def mismatchExpire (s : State) (x : Nat) : State :=
  let now := s.time.tickSeq
  s.onLace fun l =>
    if x = 0 then { l with mismatchA := l.mismatchA.filter fun t => decide (now < t) }
    else { l with mismatchB := l.mismatchB.filter fun t => decide (now < t) }

/-- Derives the port states (R40, R411), their disagreements (R42), and the events of R411 and R412. -/
def derivePortOpers (s : State) : State :=
  let was := s.opers.ports
  let s := { s with opers := { s.opers with ports := vmk 4 (portOper s) } }
  let o := s.opers.ports
  let c := s.act
  let r := noteMismatch s evLaceMismatch 4 (fun p => disagrees (inService c (laceBase p)) (vat o p)) s.opers.portDis
  let s := { r.2 with opers := { r.2.opers with portDis := r.1 } }
  forN 4 (fun p t =>
    let bad := portIsUp t p && !carries t p
    let t := raiseIf (portIsUp t p && vat was p != .up) t evPortUp p 0
    let t := raiseIf (bad && !(vat t.ports p).wasPeerBad) t evPeerMismatch p 0
    dropQueued (t.onPort p fun x => { x with wasUp := portIsUp t p, wasPeerBad := bad }) p) s

/-- The ports at the start of EVALUATE: what has run out ends, the reports are held, the states follow (R411, R412, R429). -/
def portsJob (s : State) : State :=
  let s := forN 4 (fun p t => reportExpire (causeExpire (windowExpire t p) p) p) s
  let s := mismatchExpire (mismatchExpire s 0) 1
  derivePortOpers { s with ports := vmap (fun _ x => { x with reportedHeld := x.reported }) s.ports }

/-- Cells processed per port per tick (R74). -/
def rxLimit (period : Nat) : Nat := if period = 80 then 4 else if period = 100 then 6 else 8

/-- The ports when CORE becomes ON: the windows begin, every sequence counter starts at 0 (R389, R411). -/
def lacesCoreOn (s : State) : State :=
  let now := s.now
  { s with
    ports := vmap (fun _ x => { x with window := some now, linkSeq := 0 }) s.ports
    lace := { s.lace with netSeq := Vector.replicate 2 0 } }

/-- The loss of CORE: the ports, the topology and the distributed commit lose what they hold (R432); the counters (R419) and SEC_VALID
(R405) stay. -/
def lacesCoreOff (s : State) : State :=
  { s with
    ports := vmap (fun _ x => { (default : LacePort) with cnts := x.cnts, slot := idleCell }) s.ports
    lace := { (default : LaceDev) with secValid := s.lace.secValid, qlLast := 15 } }

/-- The ports at the boundary at which a commit comes into force: a port set IN_SERVICE, or one whose PHY_CFG changed, begins its
window (R411); one returned to service measures its delay anew before it is UP, also with its cell lock kept (R50). -/
def lacesCommit (s : State) : State :=
  let now := s.now
  let was (p : Nat) := inService s.beforeFlip (laceBase p)
  let changed (p : Nat) := !was p || s.beforeFlip (laceBase p + 0x40) != s.act (laceBase p + 0x40)
  forN 4 (fun p t =>
    if !portServes t p then t.onPort p fun x => { x with txq := [], safeq := [], rxq := [] }
    else if changed p then t.onPort p fun x => { x with window := some now, measures := if was p then x.measures else 0 }
    else t) s

/-! ## Commands -/

/-- CELL_SLOT: one slot of every transmitter. -/
def execCellSlot (s : State) : Host.Outcome State Fault Refusal := .next (forN 4 (fun p t => slotPort t p) s)

def execCellLock (p : Fin 4) (s : State) : Host.Outcome State Fault Refusal := .next (gainLock s p)

def execCellLockLost (p : Fin 4) (cdr : Bool) (s : State) : Host.Outcome State Fault Refusal := .next (loseLock s p cdr)

/-- A TIME cell arrives: its arrival is kept for the echo, and it waits for its processing (R393, R406, processTime). -/
def execTimeCell (p : Fin 4) (c : Cell) (sub : Fin 800) (s : State) : Host.Outcome State Fault Refusal :=
  .next (receiveCell s p c (arriveTime s sub))

/-- A QL cell arrives (R404, processQl). -/
def execQlCell (p : Fin 4) (c : Cell) (s : State) : Host.Outcome State Fault Refusal := .next (receiveCell s p c s.now)

/-- A STATE cell arrives (R43, processState). -/
def execStateCell (p : Fin 4) (c : Cell) (s : State) : Host.Outcome State Fault Refusal := .next (receiveCell s p c s.now)

/-- An EYE cell arrives (R94, processEye). -/
def execEyeCell (p : Fin 4) (c : Cell) (s : State) : Host.Outcome State Fault Refusal := .next (receiveCell s p c s.now)

/-- SECONDS_ADOPT (R410). -/
def execSecondsAdopt (s : State) : Host.Outcome State Fault Refusal := .next (adoptSeconds s)

/-- PORT_WINDOW_EXPIRE (R411). -/
def execPortWindowExpire (p : Fin 4) (s : State) : Host.Outcome State Fault Refusal :=
  .next (if s.coreOn then derivePortOpers (windowExpire s p) else s)

/-- PEER_REPORT_TIMEOUT (R43). -/
def execPeerReportTimeout (p : Fin 4) (s : State) : Host.Outcome State Fault Refusal :=
  .next (if s.coreOn then reportExpire s p else s)

/-- PORT_CAUSE_EXPIRE (R413). -/
def execPortCauseExpire (p : Fin 4) (s : State) : Host.Outcome State Fault Refusal :=
  .next (if s.coreOn then causeExpire s p else s)

/-- CNT_CLR (R419). -/
def cntClr (s : State) (m : Master) (p : Nat) : State :=
  if s.servedCore then echo (clearPortCounts s p) m (laceBase p + 0x78) 1 [] resAccepted else s

def execCntClr (m : Master) (p : Fin 4) (s : State) : Host.Outcome State Fault Refusal := .next (cntClr (access s m) m p)

/-- CELL_CRC_ERROR (R392). -/
def execCellCrcError (p : Fin 4) (codeErrs : Fin 33) (s : State) : Host.Outcome State Fault Refusal := .next (badCell s p codeErrs)

/-- TICK_MISMATCH_EXPIRE (R413). -/
def execTickMismatchExpire (x : Fin 2) (s : State) : Host.Outcome State Fault Refusal :=
  .next (if s.coreOn then mismatchExpire s x else s)

end Sys2Proof.Machine
end

