-- ==== Sys2Proof/Machine/SafePar.lean ====
section
/-!
DEFINITION. Sys2Proof/Machine/SafePar.lean: the safety parameters: their layout (R778), the signature (R452), the validation of a staged
image (R451, R477, with the ranges of R450 and R476), and the image a session begins with (R779).
-/
namespace Sys2Proof.Machine

/-! ## Layout (R778) -/

/-- A safety parameter image: its words that are not 0, by offset. -/
abbrev ParImage := List (Nat × Word)

/-- Word `o` of GRP[n], IN[i], AX[k], TX[t] and RX[r]. -/
def grpW (m : ParImage) (n o : Nat) : Nat := parW m (0x10 + 0x10 * n + o)
def inW (m : ParImage) (i o : Nat) : Nat := parW m (0x50 + 8 * i + o)
def axW (m : ParImage) (k o : Nat) : Nat := parW m (0x90 + 0x10 * k + o)
def txW (m : ParImage) (t o : Nat) : Nat := parW m (0xB0 + 4 * t + o)
def rxW (m : ParImage) (r o : Nat) : Nat := parW m (0xC0 + 8 * r + o)

def pTp (m : ParImage) : Nat := parW m 1
def pTpPer (m : ParImage) : Nat := parW m 2

/-- GRP[n]. FUNCTION: 0 STO, 1 SS1_R, 2 SS1_T; AXIS: 0 NONE, else axis + 1; TEL_STOP: 0 SS1_R, 1 SS1_T. -/
def pArch (m : ParImage) (n : Nat) : Nat := bitsOf (grpW m n 0) 1 0
def pFunction (m : ParImage) (n : Nat) : Nat := bitsOf (grpW m n 0) 3 2
def pManual (m : ParImage) (n : Nat) : Bool := bitOf (grpW m n 0) 4
def pAckIn (m : ParImage) (n : Nat) : Nat := bitsOf (grpW m n 0) 7 5
def pAxis (m : ParImage) (n : Nat) : Nat := bitsOf (grpW m n 0) 9 8
def pTelStopT (m : ParImage) (n : Nat) : Bool := bitOf (grpW m n 0) 10
def pEdmEn (m : ParImage) (n : Nat) : Bool := bitOf (grpW m n 0) 11
def pAMin (m : ParImage) (n : Nat) : Nat := grpW m n 1 + 65536 * grpW m n 2
def pVTol (m : ParImage) (n : Nat) : Nat := grpW m n 3
def pVSs (m : ParImage) (n : Nat) : Nat := grpW m n 4
def pTSs (m : ParImage) (n : Nat) : Nat := grpW m n 5
def pTMax (m : ParImage) (n : Nat) : Nat := grpW m n 6
def pTSs1t (m : ParImage) (n : Nat) : Nat := grpW m n 7
def pTEdmOff (m : ParImage) (n : Nat) : Nat := grpW m n 8
def pTEdmOn (m : ParImage) (n : Nat) : Nat := grpW m n 9
def pTDeg (m : ParImage) (n : Nat) : Nat := grpW m n 10

/-- IN[i]. TYPE: 0 UNUSED, 1 EQUIVALENT, 2 ANTIVALENT, 3 ACK. -/
def pType (m : ParImage) (i : Nat) : Nat := bitsOf (inW m i 0) 1 0
def pInGroups (m : ParImage) (i : Nat) : Nat := bitsOf (inW m i 0) 7 4
def pInSto (m : ParImage) (i : Nat) : Bool := bitOf (inW m i 0) 8
def pTpEn (m : ParImage) (i : Nat) : Bool := bitOf (inW m i 0) 9
def pStartup (m : ParImage) (i : Nat) : Bool := bitOf (inW m i 0) 10
def pTDisc (m : ParImage) (i : Nat) : Nat := inW m i 1
def pTFilt (m : ParImage) (i : Nat) : Nat := inW m i 2

/-- AX[k], for its encoder ENC_Pk (h false) or ENC_Hk (h true). -/
def pCpr (m : ParImage) (k : Nat) (h : Bool) : Nat :=
  axW m k (if h then 2 else 0) + 65536 * axW m k (if h then 3 else 1)
def pDir (m : ParImage) (k : Nat) (h : Bool) : Bool := bitOf (axW m k 4) (if h then 1 else 0)
def pZEn (m : ParImage) (k : Nat) (h : Bool) : Bool := bitOf (axW m k 4) (if h then 3 else 2)
def pTSpd (m : ParImage) (k : Nat) : Nat := bitsOf (axW m k 4) 12 8
def pVDiff (m : ParImage) (k : Nat) : Nat := axW m k 5
def pTDiff (m : ParImage) (k : Nat) : Nat := axW m k 6

/-- TX[t] and RX[r]. -/
def pTxEn (m : ParImage) (t : Nat) : Bool := bitOf (txW m t 0) 0
def pTxDst (m : ParImage) (t : Nat) : Nat := bitsOf (txW m t 0) 13 8
def pTxConn (m : ParImage) (t : Nat) : Nat := txW m t 1
def pTxPeriod (m : ParImage) (t : Nat) : Nat := txW m t 2
def pRxEn (m : ParImage) (r : Nat) : Bool := bitOf (rxW m r 0) 0
def pRxSto (m : ParImage) (r : Nat) : Bool := bitOf (rxW m r 0) 1
def pRxGroups (m : ParImage) (r : Nat) : Nat := bitsOf (rxW m r 0) 7 4
def pRxSrc (m : ParImage) (r : Nat) : Nat := bitsOf (rxW m r 0) 12 8
def pRxConn (m : ParImage) (r : Nat) : Nat := rxW m r 1
def pRxBit (m : ParImage) (r : Nat) : Nat := bitsOf (rxW m r 2) 3 0
def pWdog (m : ParImage) (r : Nat) : Nat := rxW m r 3
def pWin (m : ParImage) (r : Nat) : Nat := rxW m r 4

/-- The implemented bits of each word of an image (R778). -/
def parMask (o : Nat) : Nat :=
  if o = 0 then 0xFFFF
  else if o = 1 ∨ o = 2 then 0xFFFF
  else if 0x10 ≤ o ∧ o < 0x50 then
    let w := o % 16
    if w = 0 then 0x0FFF else if w ≤ 10 then 0xFFFF else 0
  else if 0x50 ≤ o ∧ o < 0x90 then
    let w := (o - 0x50) % 8
    if w = 0 then 0x07F3 else if w ≤ 2 then 0xFFFF else 0
  else if 0x90 ≤ o ∧ o < 0xB0 then
    let w := o % 16
    if w ≤ 3 then 0xFFFF else if w = 4 then 0x1F0F else if w ≤ 6 then 0xFFFF else 0
  else if 0xB0 ≤ o ∧ o < 0xC0 then
    let w := o % 4
    if w = 0 then 0x3F01 else if w ≤ 2 then 0xFFFF else 0
  else if 0xC0 ≤ o ∧ o < 0x100 then
    let w := o % 8
    if w = 0 then 0x1FF3 else if w = 2 then 0x000F else if w ≤ 4 then 0xFFFF else 0
  else 0

/-- The two-word value whose high word is `v` and whose low word is the one before word `o` of the image lies in a range. -/
def parPairOk (m : ParImage) (o v a b : Nat) : Bool := rng a b (parW m (o - 1) + 65536 * v)

/-- A word that may be written at offset `o` of a staged image: no reserved code, no value outside its range (R16, R450, R476). A value of
two words is judged with its high word, which completes it (log 63). -/
def parWordOk (m : ParImage) (o v : Nat) : Bool :=
  if o = 1 then rng 40 100 v && v % 4 == 0
  else if o = 2 then rng 10 1000 v
  else if 0x10 ≤ o ∧ o < 0x50 then
    match o % 16 with
    | 0 => rng 0 2 (bitsOf v 1 0) && rng 0 2 (bitsOf v 3 2) && rng 0 2 (bitsOf v 9 8)
    | 2 => parPairOk m o v 1 100000
    | 3 => rng 0 1000 v
    | 4 => rng 1 1000 v
    | 5 => rng 1 1000 v
    | 6 => rng 10 60000 v
    | 7 => rng 10 60000 v
    | 8 => rng 10 500 v
    | 9 => rng 10 500 v
    | 10 => rng 1 3600 v
    | _ => true
  else if 0x50 ≤ o ∧ o < 0x90 then
    match o % 8 with
    | 1 => rng 4 500 v
    | 2 => rng 16 96 v && v % 8 == 0
    | _ => true
  else if 0x90 ≤ o ∧ o < 0xB0 then
    match o % 16 with
    | 1 => parPairOk m o v 4 1048576
    | 3 => parPairOk m o v 4 1048576
    | 4 => rng 1 16 (bitsOf v 12 8)
    | 5 => rng 1 1000 v
    | 6 => rng 1 100 v
    | _ => true
  else if 0xB0 ≤ o ∧ o < 0xC0 then
    match o % 4 with
    | 0 => bitsOf v 13 8 == 0x3F || decide (bitsOf v 13 8 < 32)
    | 1 => rng 1 65535 v
    | 2 => rng 1 100 v
    | _ => true
  else if 0xC0 ≤ o then
    match o % 8 with
    | 1 => rng 1 65535 v
    | 2 => rng 0 11 (bitsOf v 3 0)
    | 3 => rng 1 1000 v
    | 4 => rng 0 4 v
    | _ => true
  else true

/-- The image that a session begins with where no valid record exists: zero, but LAYOUT and each T_DEG (R779). -/
def parFresh : ParImage := [(0, 1), (0x1A, 60), (0x2A, 60), (0x3A, 60), (0x4A, 60)]

/-! ## Signature (R452) -/

/-- The safety CRC over octets. -/
def safetyCrc (bs : List Byte) : Nat := crcMsb 32 0x741B8CD7 bs 0xFFFFFFFF

/-- The signature of an image: 256 words from the lowest address, each most significant octet first. -/
def sigOf (m : ParImage) : Nat := safetyCrc ((List.range 256).flatMap fun o => octetsBE 2 (parW m o))

/-! ## Validation (R451, R477) -/

/-- Groups named by an input that can demand, and groups that a telegram can demand on. -/
def inputsOn (m : ParImage) (n : Nat) : List Nat :=
  (List.range 8).filter fun i => (pType m i == 1 || pType m i == 2) && bitOf (pInGroups m i) n
def receiversOn (m : ParImage) (n : Nat) : List Nat := (List.range 8).filter fun r => pRxEn m r && bitOf (pRxGroups m r) n

/-- Every value of the image lies in its range (R450, R476). -/
def parRanges (m : ParImage) : Bool :=
  parW m 0 == 1 && rng 40 100 (pTp m) && pTp m % 4 == 0 && rng 10 1000 (pTpPer m) &&
  ((List.range 4).all fun n =>
    rng 0 2 (pArch m n) && rng 0 2 (pFunction m n) && rng 0 2 (pAxis m n) && rng 1 100000 (pAMin m n) && rng 0 1000 (pVTol m n) &&
    rng 1 1000 (pVSs m n) && rng 1 1000 (pTSs m n) && rng 10 60000 (pTMax m n) && rng 10 60000 (pTSs1t m n) &&
    rng 10 500 (pTEdmOff m n) && rng 10 500 (pTEdmOn m n) && rng 1 3600 (pTDeg m n)) &&
  ((List.range 8).all fun i => rng 4 500 (pTDisc m i) && rng 16 96 (pTFilt m i) && pTFilt m i % 8 == 0) &&
  ((List.range 2).all fun k =>
    rng 4 1048576 (pCpr m k false) && rng 4 1048576 (pCpr m k true) && rng 1 16 (pTSpd m k) && rng 1 1000 (pVDiff m k) &&
    rng 1 100 (pTDiff m k)) &&
  ((List.range 4).all fun t =>
    (pTxDst m t == 0x3F || decide (pTxDst m t < 32)) && rng 1 65535 (pTxConn m t) && rng 1 100 (pTxPeriod m t)) &&
  ((List.range 8).all fun r =>
    rng 1 65535 (pRxConn m r) && rng 0 11 (pRxBit m r) && rng 1 1000 (pWdog m r) && rng 0 4 (pWin m r))

/-- A group is consistent (R451, R477); only the demand that something stops it leaves an UNUSED group out. -/
def parGroupOk (m : ParImage) (n : Nat) : Bool :=
  (!pManual m n || pType m (pAckIn m n) == 3) &&
  (pArch m n == 0 || !(inputsOn m n).isEmpty || !(receiversOn m n).isEmpty) &&
  !(pAxis m n == 0 && (pFunction m n == 1 || !pTelStopT m n)) && decide (pTSs m n ≤ pTMax m n)

/-- A staged image passes validation (R451, R477). -/
def parValid (m : ParImage) : Bool :=
  parRanges m && decide (pTp m * 100 ≤ pTpPer m * 1000) &&
  ((List.range 4).all fun n => parGroupOk m n) &&
  ((List.range 8).all fun i => !(pType m i == 3 && pInGroups m i != 0) && !(pTpEn m i && pType m i != 1)) &&
  ((List.range 8).all fun r => !pRxEn m r || (pRxGroups m r != 0 && decide (pWin m r < pWdog m r) &&
    (List.range r).all fun q => !(pRxEn m q && pRxSrc m q == pRxSrc m r && pRxConn m q == pRxConn m r))) &&
  ((List.range 4).all fun t => !pTxEn m t || (List.range t).all fun q => !(pTxEn m q && pTxConn m q == pTxConn m t))

end Sys2Proof.Machine
end

