-- ==== Sys2Proof/Machine/SafeInputs.lean ====
section
/-!
DEFINITION. Sys2Proof/Machine/SafeInputs.lean: what one channel of the safety supervisor judges from its pins: the safety inputs with
discrepancy, acknowledgement and test pulses (R444 to R448), the start-up test record (R449), and the encoders (R479 to R482).
-/
namespace Sys2Proof.Machine

/-! ## Channels and channel time -/

/-- One channel, the state with one channel changed, and the other channel. -/
def State.chan (s : State) : Chan → SafeChan
  | .p => s.safe.p
  | .h => s.safe.h
def State.onChan (s : State) (c : Chan) (f : SafeChan → SafeChan) : State :=
  match c with
  | .p => s.onSafe fun x => { x with p := f x.p }
  | .h => s.onSafe fun x => { x with h := f x.h }
def otherChan : Chan → Chan
  | .p => .h
  | .h => .p

abbrev State.onChIn (s : State) (c : Chan) (i : Nat) (f : ChanInput → ChanInput) : State :=
  s.onChan c fun x => { x with ins := vupd x.ins i f }
abbrev State.onGrp (s : State) (c : Chan) (n : Nat) (f : ChanGroup → ChanGroup) : State :=
  s.onChan c fun x => { x with grps := vupd x.grps n f }

/-- The active image. -/
abbrev State.image (s : State) : ParImage := s.safe.par

/-- Channel time: 1 µs, 1 ms and 1 s in units of 100 ps. -/
def cUs : Nat := 10000
def cMs : Nat := 10000000
def cS : Nat := 10000000000

/-- Channel P runs: CORE is ON, the tick advances and it is not halted (R434, R635). -/
def State.pRuns (s : State) : Bool := s.coreOn && s.time.running && !s.sec.haltP && !s.inReset && !s.pwr.booting

/-- A channel runs: channel H whenever AON is powered (R434). -/
def State.chanRuns (s : State) : Chan → Bool
  | .p => s.pRuns
  | .h => true

/-- Channel H's clock at the present instant: its last cycle's, and the time since (R169). -/
def clockH (s : State) : Nat := s.safe.h.clk + (s.time.bench - s.safe.h.sampleAt) * 10 / 2 ^ 40

/-- A channel's clock at the present instant. -/
def chanNow (s : State) : Chan → Nat
  | .p => s.safe.p.clk
  | .h => clockH s

/-! ## Test-pulse masks (R446) -/

/-- The mask after the end of a test pulse, in µs; a pulse with its mask in channel time; the period of the pulses. -/
def maskUs : Nat := 16
def pulseSpan (m : ParImage) : Nat := (pTp m + maskUs) * cUs
def pulsePeriod (m : ParImage) : Nat := pTpPer m * cMs

/-- For how much of the last `held` µs an inactive level of a line fed from TPA (TPB where `b`) has reached the filter: none of it within a pulse
and its mask, and only what lies after the last one. -/
def unmasked (s : State) (b : Bool) (held : Nat) : Nat :=
  let now := clockH s
  let per := pulsePeriod s.image
  match vat s.safe.tpAt (b2n b) with
  | none => held
  | some t => if t + per < now + pulseSpan s.image ∧ now < t + per then 0 else min held ((now - t) / cUs)

/-! ## Lines and states of an input (R444, R447, R448) -/

/-- The levels of a channel's lines are active (R444). -/
def actA (_m : ParImage) (_i : Nat) (x : ChanInput) : Bool := x.lvlA
def actB (m : ParImage) (i : Nat) (x : ChanInput) : Bool := if pType m i = 2 then !x.lvlB else x.lvlB

/-- The input is judged open or closed: EQUIVALENT and ANTIVALENT (R444). -/
def demands (m : ParImage) (i : Nat) : Bool := pType m i == 1 || pType m i == 2

/-- The code of an input in SAFE.IN_STATE (R780). -/
def inCode (m : ParImage) (i : Nat) (x : ChanInput) : Nat :=
  if !demands m i then 3 else match x.st with | .opened => 0 | .closed => 1 | .fault => 2 | .notJudged => 3

/-- Two instants of channel time lie within T_DISC of each other. -/
def withinDisc (m : ParImage) (i t u : Nat) : Bool := decide (t ≤ u + pTDisc m i * cMs) && decide (u ≤ t + pTDisc m i * cMs)

/-- A discrepancy fault of input `i` in channel `c` (R447); the event is raised by the channel that is first. -/
def discFault (s : State) (c : Chan) (i : Nat) : State :=
  let first := (vat (s.chan (otherChan c)).ins i).st != .fault
  let m := s.image
  raiseIf first (s.onChIn c i fun x =>
    { x with st := .fault, waitSince := none, bothOff := !actA m i x && !actB m i x }) (ev 6 5) i 0

/-- A filtered change of a judged input at channel time `now` (R447): both lines agree again, or one leads. -/
def judgeInput (s : State) (c : Chan) (i now : Nat) : State :=
  let m := s.image
  let x := vat (s.chan c).ins i
  let a := actA m i x
  let b := actB m i x
  if x.st = .fault then
    if !a && !b then s.onChIn c i fun y => { y with bothOff := true }
    else if a && b && x.bothOff then
      if withinDisc m i x.tA x.tB then
        let first := (vat (s.chan (otherChan c)).ins i).st == .fault
        raiseIf first (s.onChIn c i fun y => { y with st := .closed, bothOff := false, waitSince := none }) (ev 6 6) i 0
      else s.onChIn c i fun y => { y with bothOff := false }
    else s
  else if a != b then s.onChIn c i fun y => { y with st := .opened, waitSince := some (y.waitSince.getD now) }
  else match x.waitSince with
    | some t =>
      if withinDisc m i t now then s.onChIn c i fun y => { y with st := if a then .closed else .opened, waitSince := none }
      else discFault s c i
    | none => s.onChIn c i fun y => { y with st := if a then .closed else .opened }

/-- A press is valid from 100 ms to 3 s (R448). -/
def pressOk (t0 t1 : Nat) : Bool := decide (t0 + 100 * cMs ≤ t1) && decide (t1 ≤ t0 + 3 * cS)

/-- A discrepancy of an ACK input spoils the press until both lines are inactive, and is no fault (R448). -/
def ackDisc (s : State) (c : Chan) (i : Nat) : State :=
  raiseAt (s.onChIn c i fun x => { x with waitSince := none, ackSince := none, ackRelease := none, bothOff := true }) (ev 6 5) i 0

/-- A filtered change of an ACK input at channel time `now` (R448). -/
def judgeAck (s : State) (c : Chan) (i now : Nat) : State :=
  let m := s.image
  let x := vat (s.chan c).ins i
  let late : Bool := match x.waitSince with | some t => !withinDisc m i t now | none => false
  if x.lvlA && x.lvlB then
    if late then ackDisc s c i
    else s.onChIn c i fun y => { y with ackSince := if y.bothOff then none else some now, ackRelease := none, waitSince := none }
  else if x.lvlA || x.lvlB then
    s.onChIn c i fun y => { y with waitSince := if y.bothOff then none else some now,
                                   ackRelease := if y.ackSince.isSome then some now else none }
  else
    let s := if late then ackDisc s c i else s
    let good : Bool := !late && match x.ackSince, x.ackRelease with
      | some t0, some t1 => pressOk t0 t1
      | _, _ => false
    s.onChIn c i fun y => { y with ack := y.ack || good, waitSince := none, ackSince := none, ackRelease := none, bothOff := false }

/-- An input of channel `c` is judged afresh from the present levels, when parameters are taken into use. -/
def freshInput (m : ParImage) (i : Nat) (x : ChanInput) : ChanInput :=
  { (default : ChanInput) with lvlA := x.lvlA, lvlB := x.lvlB, tA := x.tA, tB := x.tB
                               st := if demands m i && actA m i x && actB m i x then .closed else .opened
                               bothOff := !demands m i && (x.lvlA || x.lvlB) }

/-! ## The start-up test record (R449) -/

/-- The inputs whose test group `n` waits for. -/
def testsOf (m : ParImage) (n : Nat) : List Nat := (inputsOn m n).filter fun i => pStartup m i

/-- The record is complete. -/
def recordDone (m : ParImage) (n : Nat) (g : ChanGroup) : Bool := (testsOf m n).all fun i => bitOf g.closed i

/-- The set bit `i` of a mask. -/
def setBit (k i : Nat) : Nat := k ||| 2 ^ i

/-- Channel `c` observes the inputs of group `n` in STARTUP_PENDING; at the entry an input already open counts as opened (R449, R472).
Channel H raises the completion. -/
def observe (s : State) (c : Chan) (n : Nat) (entry : Bool) : State :=
  let m := s.image
  let g := vat (s.chan c).grps n
  if g.st ≠ .startupPending then s else
  let was := recordDone m n g && !entry
  let step (g : ChanGroup) (i : Nat) : ChanGroup :=
    let x := vat (s.chan c).ins i
    let a := actA m i x
    let b := actB m i x
    let seen := (!a && !b && x.st == .opened) || (entry && !(a && b))
    let g := if seen then { g with opened := setBit g.opened i } else g
    if bitOf g.opened i && x.st == .closed then { g with closed := setBit g.closed i } else g
  let g' := (testsOf m n).foldl step g
  raiseIf (c == .h && !was && recordDone m n g') (s.onGrp c n fun _ => g') (ev 6 11) n 0

/-- The inputs of every group are observed. -/
def observeAll (s : State) (c : Chan) : State := forN 4 (fun n t => observe t c n false) s

/-- A line of input `i` has been at a new level for as long as T_FILT asks, as the filter sees it (R445, R446); its instant is the first sample
of the level. -/
def filterHeld (s : State) (i : Nat) (b level : Bool) (held : Nat) : Nat :=
  if pTpEn s.image i && !level then unmasked s b held else held
def filterPasses (s : State) (i : Nat) (b level : Bool) (held : Nat) : Bool := decide (pTFilt s.image i ≤ filterHeld s i b level held)
def changeAt (s : State) (c : Chan) (i : Nat) (b level : Bool) (held : Nat) : Nat := chanNow s c - filterHeld s i b level held * cUs

/-- Line `line` (bit 0: line B; the rest: input) has been at `level` on every sample of channel `c` for `held` µs (R445). -/
def lineChange (s : State) (c : Chan) (line : Nat) (level : Bool) (held : Nat) : State :=
  let i := line / 2
  let b := line % 2 == 1
  if !s.chanRuns c || !filterPasses s i b level held then s else
  let t := changeAt s c i b level held
  let x := vat (s.chan c).ins i
  if (if b then x.lvlB else x.lvlA) == level then s else
  let s := s.onChIn c i fun x => if b then { x with lvlB := level, tB := t } else { x with lvlA := level, tA := t }
  observeAll (if pType s.image i = 0 then s else if pType s.image i = 3 then judgeAck s c i t else judgeInput s c i t) c

/-- What each evaluation does for the inputs first: T_DISC that has passed without a follow, and faults adopted from the other channel
(R443, R447). -/
def inputsJudge (s : State) (c : Chan) : State :=
  let now := (s.chan c).clk
  let o := (s.chan (otherChan c)).word.discFault
  let new := fun i => bitOf o i && !bitOf (s.chan c).seenDisc i
  let s := forN 8 (fun i t =>
    let x := vat (t.chan c).ins i
    let late : Bool := match x.waitSince with | some u => decide (u + pTDisc t.image i * cMs < now) | none => false
    if pType t.image i = 3 then (if late then ackDisc t c i else t)
    else if demands t.image i && x.st != .fault && (late || new i) then discFault t c i else t) s
  s.onChan c fun x => { x with seenDisc := o }

/-! ## Test pulses (R446) -/

/-- One test pulse as channel `c` checked it on the pulsed line of input `i`: two failures in a row are a fault, a pass ends it. -/
def pulseResult (s : State) (c : Chan) (i : Nat) (lineB failed : Bool) : State :=
  let x := vat (s.chan c).ins i
  let before := if lineB then x.tpFailB else x.tpFailA
  let was := if lineB then x.tpFaultB else x.tpFaultA
  let fault := failed && (before || was)
  let s := s.onChIn c i fun y =>
    if lineB then { y with tpFailB := failed, tpFaultB := fault } else { y with tpFailA := failed, tpFaultA := fault }
  let o := vat (s.chan (otherChan c)).ins i
  let other := if lineB then o.tpFaultB else o.tpFaultA
  raiseIf (fault && !was && !other) s (ev 6 8) i 0

/-- The pulse fails on an input as a channel sees it (R446). -/
def pulseFails (x : PulseSight) (i : Nat) : Bool := !(x.dropped.getLsbD i && x.kept.getLsbD i)

/-- A pulse on TPA is due once every T_TP_PER, and the one on TPB half a period after it (R446). -/
def pulseDue (s : State) (line : TpLine) : Bool :=
  let per := pulsePeriod s.image
  match vat s.safe.tpAt (b2n (line == .tpb)), vat s.safe.tpAt 0 with
  | some t, _ => decide (t + per ≤ clockH s)
  | none, some t => decide (t + per / 2 ≤ clockH s)
  | none, none => line == .tpa

/-- The end of the mask of a test pulse on TPA or TPB: it is judged for every input with TP_EN (R446). -/
def testPulse (s : State) (line : TpLine) (p h : PulseSight) : State :=
  if !pulseDue s line then s else
  let b := line == .tpb
  let s := s.onSafe fun f => { f with tpAt := vupd f.tpAt (b2n b) fun _ => some (clockH s) }
  forN 8 (fun i t =>
    if !pTpEn t.image i || pType t.image i == 0 then t else
    let fp := pulseFails p i && t.pRuns
    let fh := pulseFails h i
    let t := raiseIf (fp || fh) t (ev 6 7) i 0
    let t := if t.pRuns then pulseResult t .p i b fp else t
    pulseResult t .h i b fh) s

/-- A test-pulse fault stands on input `i` in channel `c`, its own or adopted (R443, R446). -/
def tpFault (s : State) (c : Chan) (i : Nat) : Bool :=
  let x := vat (s.chan c).ins i
  x.tpFaultA || x.tpFaultB || (s.chanRuns (otherChan c) && bitOf (s.chan (otherChan c)).word.tpFault i)

/-! ## Encoders (R479 to R482); encoder e is of axis e / 2, and ENC_H where e is odd -/

def encH (e : Nat) : Bool := e % 2 == 1
def encCpr (m : ParImage) (e : Nat) : Nat := pCpr m (e / 2) (encH e)

/-- The speed in rpm of a count change over the last T_SPD (R480), with the free rounding of log 1. -/
def encSpeed (m : ParImage) (e now : Nat) (count : Int) (old : List (Nat × Int)) : Int :=
  let w := pTSpd m (e / 2) * cMs
  match old.find? fun p => decide (p.1 + w ≤ now) with
  | some p =>
    if encCpr m e = 0 ∨ pTSpd m (e / 2) = 0 then 0
    else quotFree 60 ((count - p.2) * 60000) (encCpr m e * pTSpd m (e / 2))
  | none => 0

/-- The samples still needed: those of the last T_SPD and one older. -/
def keepSamples (from_ : Nat) : List (Nat × Int) → List (Nat × Int)
  | [] => []
  | p :: ps => if from_ ≤ p.1 then p :: keepSamples from_ ps else [p]

/-- One sample of encoder `e`, whose count in the direction of DIR = 0 is `raw`. -/
def sampleEnc (m : ParImage) (e now : Nat) (raw : Int) (x : ChanEnc) : ChanEnc :=
  let count := signedN 32 (wrapI 32 (if pDir m (e / 2) (encH e) then -raw else raw))
  let sp := encSpeed m e now count x.samples
  { x with count := count, speed := sp, still := if count = x.count then x.still else 0
           samples := (now, count) :: keepSamples (now - pTSpd m (e / 2) * cMs) x.samples }

/-- Axis `k` is watched by a group that is not UNUSED. -/
def axisUsed (m : ParImage) (k : Nat) : Bool := (List.range 4).any fun n => pArch m n != 0 && pAxis m n == k + 1

/-- The axis speed a channel uses: the larger magnitude of its two encoders (R480). -/
def axisSpeed (x : SafeChan) (k : Nat) : Nat := max (vat x.encs (2 * k)).speed.natAbs (vat x.encs (2 * k + 1)).speed.natAbs

/-- A channel's samples of the four encoders: counts, speeds, the FROZEN indication and the speed difference of each axis (R480, R481). -/
def encSamples (s : State) (c : Chan) (raw : Vector Int 4) (bench : Nat) : State :=
  let m := s.image
  let now := (s.chan c).clk
  let before := s.chan c
  let s := s.onChan c fun x => { x with encs := vmap (fun e y => sampleEnc m e now (vat raw e) y) x.encs, sampleAt := bench }
  forN 4 (fun e t =>
    let x := t.chan c
    let other := (vat x.encs (e + 1 - 2 * (e % 2))).speed.natAbs
    let held := (vat x.encs e).count == (vat before.encs e).count && decide (pVDiff m (e / 2) < other)
    let still := if held then min 64 ((vat before.encs e).still + 1) else 0
    let frozen := decide (64 ≤ still)
    raiseIf (frozen && !(vat before.encs e).frozen && axisUsed m (e / 2)) (t.onChan c fun x => { x with
      encs := vupd x.encs e fun y => { y with still := still, frozen := frozen } }) (ev 6 19) (e / 2) 0) s

/-- The two encoder speeds of axis `k` differ by more than V_DIFF in channel `c`. -/
def axisApart (m : ParImage) (x : SafeChan) (k : Nat) : Bool :=
  decide (pVDiff m k < ((vat x.encs (2 * k)).speed - (vat x.encs (2 * k + 1)).speed).natAbs)

/-- ENC_DISAGREE is present on axis `k` in a channel (R481, R510). -/
def encDisagree (m : ParImage) (x : SafeChan) (k : Nat) : Bool :=
  match vat x.axDiff k with
  | some t => decide (t + pTDiff m k * cMs < x.clk)
  | none => false

/-- An evaluation follows the speed difference of each axis (R481). -/
def axesJudge (s : State) (c : Chan) : State :=
  let m := s.image
  forN 2 (fun k t =>
    if !axisUsed m k then t else
    let x := t.chan c
    let apart := axisApart m x k
    let was := match vat x.axDiff k with | some u => decide (u + pTDiff m k * cMs < x.evalAt) | none => false
    let t := t.onChan c fun y => { y with axDiff := vupd y.axDiff k fun d => if apart then some (d.getD y.clk) else none }
    raiseIf (encDisagree m (t.chan c) k && !was) t (ev 6 19) k 0) s

/-- ENC_FAULT of axis `k` in a channel (R479). -/
def encFaulty (x : SafeChan) (k : Nat) : Bool := (vat x.encs (2 * k)).fault || (vat x.encs (2 * k + 1)).fault

/-- The distance of two counts modulo CPR, either way round. -/
def turnGap (cpr : Nat) (a b : Int) : Nat :=
  let d := ((a - b) % (cpr : Int)).toNat
  min d (cpr - d)

/-- A decoder fault of encoder `e`: ENC_FAULT (R479, R481). -/
def encBad (s : State) (c : Chan) (e : Nat) : State :=
  if !axisUsed s.image (e / 2) then s else
  raiseAt (s.onChan c fun x => { x with encs := vupd x.encs e fun y => { y with fault := true, cleanSince := x.clk } }) (ev 6 19) (e / 2) 0

/-- A rising edge of Z at count `raw` with Z_EN set: the first is the reference, any later one must lie within ±2 counts of it modulo CPR. -/
def encZ (s : State) (c : Chan) (e : Nat) (raw : Int) : State :=
  let m := s.image
  if !pZEn m (e / 2) (encH e) then s else
  let count := if pDir m (e / 2) (encH e) then -raw else raw
  match (vat (s.chan c).encs e).zRef with
  | none => s.onChan c fun x => { x with encs := vupd x.encs e fun y => { y with zRef := some count } }
  | some r => if turnGap (encCpr m e) count r ≤ 2 then s else encBad s c e

/-- What the decoder of encoder `e` in channel `c` finds: an illegal transition, or a rising edge of Z (R479). -/
def encFault (s : State) (c : Chan) (e : Nat) (z : Option Int) : State :=
  if !s.chanRuns c then s else
  match z with
  | none => encBad s c e
  | some raw => encZ s c e raw

end Sys2Proof.Machine
end

