-- ==== Sys2Proof/Machine/Telegrams.lean ====
section
/-!
DEFINITION. Sys2Proof/Machine/Telegrams.lean: safety telegrams: format, sending, validity of a copy, pairing, permits, paths and their
watchdogs (R497 to R508, R516, R518, R519, R524).
-/
namespace Sys2Proof.Machine

/-! ## Format (R497, R498) -/

/-- A field of a telegram, least significant octet first. -/
def telField (bs : List Byte) (i k : Nat) : Nat := ofOctetsLE ((bs.drop i).take k)

/-- SCRC covers octets 0 to 16. -/
def telCrcOk (bs : List Byte) : Bool := safetyCrc (bs.take 17) == telField bs 17 4

/-- The 21 octets of a telegram of transmitter `t`. -/
def telOctets (s : State) (t permit : Nat) (single : Bool) : List Byte :=
  let body := octetsLE 2 (pTxConn s.image t) ++ octetsLE 1 (0x20 + laceAddr s.act) ++ octetsLE 1 1 ++ octetsLE 4 (vat s.safe.tx t).seq ++
    octetsLE 4 (s.curTick % 2 ^ 32) ++ octetsLE 2 permit ++ octetsLE 2 (65535 - permit) ++ octetsLE 1 (b2n single)
  body ++ octetsLE 4 (safetyCrc body)

/-! ## Sending (R500, R501) -/

/-- PERMIT of this hub: inputs that both channels judge CLOSED, groups ENABLED or DEGRADED. -/
def permitWord (s : State) : Nat :=
  (List.range 8).foldl (fun k i =>
    if demands s.image i && (vat s.safe.p.ins i).st == .closed && (vat s.safe.h.ins i).st == .closed then k + 2 ^ i else k) 0 +
  (List.range 4).foldl (fun k n => if s.grpState n == .enabled || s.grpState n == .degraded then k + 2 ^ (8 + n) else k) 0

/-- The ports of network `x` on which a telegram to `dst` goes: those that carry safety (R412, R401). -/
def telPorts (s : State) (x dst : Nat) : List Nat :=
  (if dst = 0x3F then netPorts x else unicastPorts s x dst).filter fun p => carries s p

/-- Transmitter `t` sends its telegram on each network that has a port; with neither, it is not sent. -/
def sendTelegram (s : State) (t permit : Nat) : State :=
  let dst := pTxDst s.image t
  let a := telPorts s 0 dst
  let b := telPorts s 1 dst
  if a.isEmpty && b.isEmpty then s else
  let bs := telOctets s t permit (a.isEmpty || b.isEmpty)
  let scope := if dst = 0x3F then Scope.broadcast else Scope.unicast
  let addr := laceAddr s.act
  let s := if a.isEmpty then s else sendNet s 0 ctSafe scope addr dst bs a
  let s := if b.isEmpty then s else sendNet s 1 ctSafe scope addr dst bs b
  s.onSafe fun f => { f with tx := vupd f.tx t fun x => { x with seq := if x.seq = 2 ^ 32 - 1 then 1 else x.seq + 1 } }

/-- The transmitters in a tick: every PERIOD ticks, and in the tick after a change of PERMIT. -/
def telegramsSend (s : State) : State :=
  if !s.pRuns then s else
  let permit := permitWord s
  forN 4 (fun t u =>
    if !pTxEn u.image t then u else
    let x := vat u.safe.tx t
    let due := x.changed || decide (pTxPeriod u.image t ≤ x.age + 1)
    let u := if due then sendTelegram u t permit else u
    u.onSafe fun f => { f with tx := vupd f.tx t fun y =>
      { y with age := if due then 0 else y.age + 1, changed := permit != y.lastPermit, lastPermit := permit } }) s

/-! ## Receiving (R502 to R505) -/

/-- Path `net` of a receiver. -/
def TelRx.path (r : TelRx) (net : Nat) : TelPath := if net = 0 then r.pathA else r.pathB
def TelRx.onPath (r : TelRx) (net : Nat) (f : TelPath → TelPath) : TelRx :=
  if net = 0 then { r with pathA := f r.pathA } else { r with pathB := f r.pathB }

/-- Sequence `a` is ahead of `b` by 1 to 2^31 − 1 modulo 2^32. -/
def seqNewer (a b : Nat) : Bool := let d := (a + 2 ^ 32 - b % 2 ^ 32) % 2 ^ 32; decide (1 ≤ d) && decide (d < 2 ^ 31)

/-- The watchdog of path `net`: halved, rounded up, while the other path is LOST (R506). -/
def pathWdog (m : ParImage) (k : Nat) (r : TelRx) (net : Nat) : Nat :=
  if (r.path (1 - net)).lost then (pWdog m k + 1) / 2 else pWdog m k

/-- A copy on network `net` is valid for receiver `k` (R502). -/
def copyValid (s : State) (k net : Nat) (bs : List Byte) : Bool :=
  let m := s.image
  let r := vat s.safe.rx k
  let p := r.path net
  let age := signedN 32 ((s.curTick + 2 ^ 32 - telField bs 8 4) % 2 ^ 32)
  pRxEn m k && telCrcOk bs && bitsOf (telField bs 2 1) 7 5 == 1 && telField bs 3 1 == 1 && telField bs 0 2 == pRxConn m k &&
  bitsOf (telField bs 2 1) 4 0 == pRxSrc m k && telField bs 14 2 == 65535 - telField bs 12 2 &&
  (p.lost || !p.ever || seqNewer (telField bs 4 4) p.lastSeq) && decide (-2 ≤ age) && decide (age ≤ (pathWdog m k r net : Int))

/-- The permit bit that a copy carries for receiver `k`. -/
def copyBit (m : ParImage) (k : Nat) (bs : List Byte) : Bool := bitOf (telField bs 12 2) (pRxBit m k)

/-- A 1 of sequence `q` may take effect: it is newer than every copy that carried a 0 (R518). -/
def oneCounts (r : TelRx) (q : Nat) : Bool := match r.zeroSeq with | some z => seqNewer q z | none => true

/-- A valid copy is taken on path `net`: its sequence, and a 0 at once (R505). A copy that begins a new sequence ends the memory of the
old one's zeros. -/
def takeCopy (m : ParImage) (k net now : Nat) (bs : List Byte) (r : TelRx) : TelRx :=
  let q := telField bs 4 4
  let p := r.path net
  let fresh := p.lost || !p.ever
  let r := r.onPath net fun p => { p with ever := true, lastSeq := q, lastTick := now }
  let zero : Option Nat := if fresh then none else r.zeroSeq
  if copyBit m k bs then { r with zeroSeq := zero }
  else { r with permit := false, zeroSeq := some (match zero with | some z => if seqNewer q z then q else z | none => q) }

/-- A copy in a matched pair counts towards the recovery of a LOST path; one that is not breaks the run (R506). -/
def pathPaired (paired : Bool) (p : TelPath) : TelPath := if p.lost then { p with run := if paired then p.run + 1 else 0 } else p

/-- A LOST path with 8 consecutive paired copies is OK again. -/
def pathRecover (s : State) (k net : Nat) : State :=
  let p := (vat s.safe.rx k).path net
  if p.lost && decide (8 ≤ p.run) then
    raiseAt (s.onSafe fun f => { f with rx := vupd f.rx k fun r => r.onPath net fun p => { p with lost := false, run := 0 } }) (ev 6 26) k net
  else s

/-- A valid copy meets its counterpart, or waits for it (R504). -/
def pairCopy (s : State) (k net : Nat) (bs : List Byte) : State :=
  let m := s.image
  let q := telField bs 4 4
  let now := s.time.tickSeq
  let r := vat s.safe.rx k
  let put (s : State) (r : TelRx) : State := s.onSafe fun f => { f with rx := vupd f.rx k fun _ => r }
  match r.waiting.find? fun w => w.net != net && w.seq == q with
  | some w =>
    let rest := r.waiting.erase w
    if w.octets.take 17 = bs.take 17 then
      let r := { r with waiting := rest, diff := false, permit := r.permit || (copyBit m k bs && oneCounts r q) }
      let r := (r.onPath 0 (pathPaired true)).onPath 1 (pathPaired true)
      pathRecover (pathRecover (put s r) k 0) k 1
    else
      let r := { r with waiting := rest, diff := true }
      raiseAt (put s ((r.onPath 0 (pathPaired false)).onPath 1 (pathPaired false))) (ev 6 27) k 0
  | none => put s { r with waiting := r.waiting ++ [{ net := net, seq := q, octets := bs, tick := now }] }

/-- A copy that has waited WIN ticks stands alone (R504, R505). -/
def standAlone (s : State) (k : Nat) (w : WaitCopy) : State :=
  let m := s.image
  s.onSafe fun f => { f with rx := vupd f.rx k fun r =>
    let one := copyBit m k w.octets && (r.path (1 - w.net)).lost && oneCounts r w.seq
    { r.onPath w.net (pathPaired false) with waiting := r.waiting.erase w, permit := r.permit || one } }

/-- The copies of receiver `k` whose wait has ended. -/
def windowsEnd (s : State) (k : Nat) : State :=
  let r := vat s.safe.rx k
  (r.waiting.filter fun w => decide (w.tick + pWin s.image k ≤ s.time.tickSeq)).foldl (fun t w => standAlone t k w) s

/-- An invalid copy is counted, with its event at most once a tick (R502). -/
def telReject (s : State) : State :=
  let again := s.safe.telRejTick != some s.time.tickSeq
  let now := s.time.tickSeq
  raiseIf again (s.onSafe fun f => { f with telRej := stick 32 f.telRej, telRejTick := some now }) (ev 6 30) 0 0

/-- One SAFE cell in channel P's slot. -/
def telReceive (s : State) (net : Nat) (c : Cell) : State :=
  let bs := fill21 c.payload
  let hit := (List.range 8).filter fun k => copyValid s k net bs
  if hit.isEmpty then telReject s else
  hit.foldl (fun t k =>
    let now := t.time.tickSeq
    let m := t.image
    pairCopy (t.onSafe fun f => { f with rx := vupd f.rx k (takeCopy m k net now bs) }) k net bs) s

/-! ## Watchdogs (R506) -/

/-- The watchdog of path `net` of receiver `k` is judged. -/
def pathJudge (s : State) (k net : Nat) : State :=
  let m := s.image
  let r := vat s.safe.rx k
  let p := r.path net
  if p.lost || !pRxEn m k || decide (s.time.tickSeq < p.lastTick + pathWdog m k r net) then s else
  let s := raiseAt (s.onSafe fun f => { f with rx := vupd f.rx k fun r => r.onPath net fun p => { p with lost := true, run := 0 } })
    (ev 6 25) k net
  raiseIf (r.path (1 - net)).lost s (ev 6 28) k 0

/-- The telegrams of a tick in channel P's slot: the cells received, the copies that stand alone, then the watchdogs (R506, R519). -/
def telegramsJudge (s : State) : State :=
  let cells := s.safe.inbox
  let s := cells.foldl (fun t e => telReceive t e.1 e.2) (s.onSafe fun f => { f with inbox := [] })
  let s := forN 8 (fun k t => windowsEnd t k) s
  forN 8 (fun k t => pathJudge (pathJudge t k 0) k 1) s

/-- Receivers begin afresh: no sequence, no path state, every permit 0 (R505, R524). The watchdogs run from this tick. -/
def receiversFresh (s : State) : State :=
  let now := s.time.tickSeq
  let p : TelPath := { (default : TelPath) with lastTick := now }
  s.onSafe fun f => { f with rx := Vector.replicate 8 { (default : TelRx) with pathA := p, pathB := p } }

/-! ## What the groups see (R499, R505 to R508) -/

/-- What channel P carries of a receiver in its word: permit, path A LOST, path B LOST, TEL_DIFF. -/
def telBits (r : TelRx) : Nat := b2n r.permit + 2 * b2n r.pathA.lost + 4 * b2n r.pathB.lost + 8 * b2n r.diff
def telWord (s : State) : Nat := (List.range 8).foldl (fun k r => k + telBits (vat s.safe.rx r) * 16 ^ r) 0

/-- A receiver's bits as channel `c` has them: channel H takes those of channel P's word. -/
def telSeen (s : State) (c : Chan) (r : Nat) : Nat :=
  match c with
  | .p => telBits (vat s.safe.rx r)
  | .h => s.safe.p.word.tel / 16 ^ r % 16

end Sys2Proof.Machine
end

