-- ==== Sys2Proof/Machine/Supervisor.lean ====
section
/-!
DEFINITION. Sys2Proof/Machine/Supervisor.lean: the safety supervisor: causes (R456, R510), the state machine of an STO group (R442, R454,
R455, R464 to R475), the stop functions (R483 to R486), the STO lines and EDM (R487 to R494), cross-checks (R440 to R443, R482), the
evaluations of both channels, the reset push-button and the lockout clear (R457, R495, R496).
-/
namespace Sys2Proof.Machine

/-! ## Causes (R456, R510) -/

def caDemand : Nat := 0x01
def caDiscrepancy : Nat := 0x02
def caCoreDown : Nat := 0x03
def caNoParams : Nat := 0x04
def caParMismatch : Nat := 0x05
def caParChange : Nat := 0x06
def caSelftest : Nat := 0x07
def caClockXo : Nat := 0x08
def caClockCore : Nat := 0x09
def caClockH : Nat := 0x0A
def caXchkTimeout : Nat := 0x0B
def caPOverrun : Nat := 0x0C
def caXchkDisagree : Nat := 0x0D
def caTestPulse : Nat := 0x0E
def caKill : Nat := 0x0F
def caDebug : Nat := 0x10
def caSs1Violation : Nat := 0x11
def caSs1Tmax : Nat := 0x12
def caSs1Done : Nat := 0x13
def caSs1tDone : Nat := 0x14
def caEncFault : Nat := 0x15
def caEncDisagree : Nat := 0x16
def caReadback : Nat := 0x17
def caEdm : Nat := 0x18
def caTelDemand : Nat := 0x19
def caTelDiff : Nat := 0x1A
def caTelTimeout : Nat := 0x1B
def caTelPath : Nat := 0x1C
def caDegExpired : Nat := 0x1D

/-- The mask of a list of cause codes. -/
def maskOf (l : List Nat) : Nat := l.foldl setBit 0

/-- The causes marked R31; those whose effect is LOCKOUT; those that are demands; the records of why energy was removed, which last until
the group leaves SAFE_OFF (R456, R510). -/
def maskR31 : Nat := maskOf [caClockXo, caClockCore, caClockH, caXchkTimeout, caPOverrun]
def maskLock : Nat := maskR31 ||| maskOf [caNoParams, caParMismatch, caParChange, caSelftest, caXchkDisagree, caTestPulse, caKill,
  caDebug, caEncFault, caEncDisagree, caReadback, caEdm]
def maskDemand : Nat := maskOf [caDemand, caDiscrepancy, caTelDemand]
def maskRecord : Nat := maskOf [caSs1Violation, caSs1Tmax, caSs1Done, caSs1tDone, caDegExpired]
def maskTelStop : Nat := maskOf [caTelDiff, caTelTimeout]

/-- The causes of a mask that another mask does not hold. -/
def without (k l : Nat) : Nat := k ^^^ (k &&& l)

/-- READY, ENABLED, STOPPING and DEGRADED (R31). -/
def SafeState.active (x : SafeState) : Bool := x == .ready || x.energy

/-- One bit of a cause mask. -/
def caIf (b : Bool) (c : Nat) : Nat := if b then 2 ^ c else 0

/-- The axis of group `n`, if it has one. -/
def axisOf (m : ParImage) (n : Nat) : Option Nat := if pAxis m n = 0 then none else some (pAxis m n - 1)

/-- Every cause present for group `n` as channel `c` finds it. -/
def causesOf (s : State) (c : Chan) (n : Nat) : Nat :=
  let m := s.image
  let x := s.chan c
  let g := vat x.grps n
  let ins := inputsOn m n
  let rxs := receiversOn m n
  let lost := fun r => b2n (bitOf (telSeen s c r) 1) + b2n (bitOf (telSeen s c r) 2)
  let ax := fun (p : Nat → Bool) => match axisOf m n with | some k => p k | none => false
  g.latched |||
  caIf (ins.any fun i => (vat x.ins i).st == .opened) caDemand |||
  caIf (ins.any fun i => (vat x.ins i).st == .fault) caDiscrepancy |||
  caIf (!s.coreOn) caCoreDown |||
  caIf (!s.safe.hasPar && s.served) caNoParams |||
  caIf (s.safe.p.sig != s.safe.h.sig) caParMismatch |||
  caIf s.safe.clockXo caClockXo ||| caIf s.safe.clockCore caClockCore ||| caIf s.safe.clockH caClockH |||
  caIf x.xchkBad caXchkTimeout |||
  caIf (ins.any fun i => tpFault s c i) caTestPulse |||
  caIf (pArch m n == 2 && s.safe.kill) caKill |||
  caIf (s.sec.dbg == 2) caDebug |||
  caIf (ax fun k => encFaulty x k) caEncFault |||
  caIf (ax fun k => encDisagree m x k) caEncDisagree |||
  caIf (rxs.any fun r => !bitOf (telSeen s c r) 0) caTelDemand |||
  caIf (rxs.any fun r => bitOf (telSeen s c r) 3) caTelDiff |||
  caIf (rxs.any fun r => lost r == 2) caTelTimeout |||
  caIf (rxs.any fun r => lost r == 1) caTelPath

/-- The causes of group `n` that either channel finds (SAFE_GRP[n].CAUSE); channel P's count while it runs. -/
def groupCauses (s : State) (n : Nat) : Nat :=
  if !s.grpUsed n then 0 else causesOf s .h n ||| (if s.pRuns then causesOf s .p n else 0)

/-- The lowest code of a mask (R741); 0 for none. -/
def lowestCode (k : Nat) : Nat := ((List.range 32).find? fun c => bitOf k c).getD 0

/-! ## The STO lines and EDM (R47, R435, R487, R492 to R494) -/

/-- The STO lines of group `n` are generated: both channels have energy (DUAL), or channel H with the kill latch clear (SINGLE_HDC); in
reset and while channel P does not run a DUAL group's lines are static. -/
def stoToggles (s : State) (n : Nat) : Bool :=
  if s.inReset || s.pwr.booting then false
  else match pArch s.image n with
    | 1 => (s.stP n).energy && (s.stH n).energy && s.pRuns
    | 2 => (s.stH n).energy && !s.safe.kill
    | _ => false

/-- The EDM of group `n` judged by channel `c`: a window begins where the lines started or became static since the last evaluation, ends
where the expected level is read, and breaches at its end; outside the windows the level is the expected one. -/
def edmJudge (s : State) (c : Chan) (n : Nat) : State :=
  let m := s.image
  let on := stoToggles s n
  let now := (s.chan c).clk
  let g := vat (s.chan c).grps n
  let g := if g.edm then { g with latched := without g.latched (2 ^ caEdm) } else g
  let g := { g with wasToggling := on, edmWin := if g.wasToggling = on then g.edmWin else some { kindOn := on, start := now } }
  if !pEdmEn m n then s.onGrp c n fun _ => { g with edmWin := none } else
  let good := g.edm != on
  let ran : Bool := match g.edmWin with
    | some w => decide (w.start + (if w.kindOn then pTEdmOn m n else pTEdmOff m n) * cMs < now)
    | none => true
  if good then s.onGrp c n fun _ => { g with edmWin := none }
  else if ran then
    let first := !bitOf ((vat s.safe.p.grps n).latched ||| (vat s.safe.h.grps n).latched) caEdm
    raiseIf first (s.onGrp c n fun _ => { g with edmWin := none, latched := setBit g.latched caEdm }) (ev 6 21) n 0
  else s.onGrp c n fun _ => g

/-- The EDM condition of row 3 (R493). -/
def edmReady (m : ParImage) (n : Nat) (g : ChanGroup) : Bool := !pEdmEn m n || (g.edm && g.edmWin.isNone)

/-! ## Moving a group (R436, R455, R456) -/

/-- Agreement requests (R442). -/
def rqReady : Nat := 0
def rqEnabled : Nat := 1
def rqBack : Nat := 2

/-- What a channel forgets or begins as its group enters a state. -/
def enterState (x : SafeChan) (st : SafeState) (g : ChanGroup) : ChanGroup :=
  let out := st == .safeOff || st == .lockout
  { g with
    st := st
    acked := false
    belowSince := none
    latched := if g.st == .safeOff && st != .lockout then without g.latched maskRecord else g.latched
    degTime := if out then 0 else g.degTime
    enSince := if g.st == .degraded && st == .enabled then some x.clk else none
    opened := if st == .startupPending && g.st != .init then 0 else g.opened
    closed := if st == .startupPending && g.st != .init then 0 else g.closed }

/-- The events and SAFE_CAUSE of a change of the combined state of group `n` (R455, R456, R511, R741). -/
def noteCombined (s : State) (n : Nat) (was : SafeState) (why : Nat) : State :=
  let new := s.grpState n
  if new = was || !s.grpUsed n then s else
  let s := raiseAt s (ev 6 0) n new.code
  let s := if new == .safeOff || new == .stopping || new == .lockout then
      s.onSafe fun f => { f with causeGrp := n, causeState := new.code, causeCode := lowestCode why } else s
  let s := raiseIf (new == .lockout) s (ev 6 2) n (lowestCode why)
  let s := raiseIf (new == .stopping) s (ev 6 16) n (lowestCode why)
  let done := was == .stopping && new == .safeOff
  let s := raiseIf (done && (bitOf why caSs1Done || bitOf why caSs1tDone)) s (ev 6 17) n (lowestCode why)
  raiseIf (done && (bitOf why caSs1Violation || bitOf why caSs1Tmax)) s (ev 6 18) n (lowestCode why)

/-- A group is in READY, ENABLED, STOPPING or DEGRADED. -/
def anyActive (s : State) : Bool := (List.range 4).any fun n => (s.grpState n).active

/-- Where no group was near energy and one is now, this cycle is noted (R650). -/
def noteNear (was : Bool) (s : State) : State :=
  if !was && anyActive s then s.onSafe fun f => { f with nearFrom := some s.time.bench } else s

/-- Channel `c` takes group `n` into a state, for the causes `why`. -/
def moveGroup (s : State) (c : Chan) (n : Nat) (st : SafeState) (why : Nat) : State :=
  let was := s.grpState n
  let demand := why &&& maskDemand != 0 && (was == .ready || was == .enabled || was == .degraded) && st.rank < was.rank
  let x := s.chan c
  let near := anyActive s
  let s := noteNear near (s.onGrp c n fun g => { enterState x st g with request := 0 })
  let s := if st = .startupPending then observe s c n true else s
  noteCombined (raiseIf demand s (ev 6 1) n (lowestCode why)) n was why

/-- Channel `c` begins a stop of group `n` (R483, R486). -/
def beginStop (s : State) (c : Chan) (n : Nat) (fn : StopFn) (why : Nat) : State :=
  let x := s.chan c
  let v := match axisOf s.image n with | some k => axisSpeed x k | none => 0
  moveGroup (s.onGrp c n fun g => { g with fn := fn, tStart := x.clk, v0 := v }) c n .stopping why

/-- The stop function of FUNCTION, and of TEL_STOP. -/
def fnOf (m : ParImage) (n : Nat) : StopFn := match pFunction m n with | 1 => .ss1r | 2 => .ss1t | _ => .sto
def telFn (m : ParImage) (n : Nat) : StopFn := if pTelStopT m n then .ss1t else .ss1r

/-- The verdict on a running stop of group `n` in channel `c`: the cause that ends it (R483, R486, R514). -/
def stopVerdict (s : State) (c : Chan) (n : Nat) : Option Nat :=
  let m := s.image
  let x := s.chan c
  let g := vat x.grps n
  let el := x.clk - g.tStart
  match g.fn with
  | .ss1r =>
    let v : Int := match axisOf m n with | some k => axisSpeed x k | none => 0
    if (g.v0 + pVTol m n) * cS - pAMin m n * el < v * cS ∧ (pVSs m n : Int) < v then some caSs1Violation
    else if pTMax m n * cMs ≤ el then some caSs1Tmax
    else match g.belowSince with
      | some t => if v < pVSs m n ∧ t + pTSs m n * cMs ≤ x.clk then some caSs1Done else none
      | none => none
  | _ => if pTSs1t m n * cMs ≤ el then some caSs1tDone else none

/-- An evaluation of a running stop: the time below V_SS is followed, then the stop is judged. -/
def judgeStop (s : State) (c : Chan) (n : Nat) : State :=
  let m := s.image
  let x := s.chan c
  let v := match axisOf m n with | some k => axisSpeed x k | none => 0
  let s := s.onGrp c n fun g => { g with belowSince := if v < pVSs m n then some (g.belowSince.getD x.clk) else none }
  match stopVerdict s c n with
  | some code => moveGroup (s.onGrp c n fun g => { g with latched := setBit g.latched code }) c n .safeOff (2 ^ code)
  | none => s

/-! ## Agreement and following (R442, R466) -/

/-- The other channel runs and has published a word. -/
def otherSpeaks (s : State) (c : Chan) : Bool := s.chanRuns (otherChan c) && (s.chan c).exchanged

/-- The other channel requests the same transition, or has already taken it. -/
def agrees (s : State) (c : Chan) (n rq : Nat) (target : SafeState) : Bool :=
  let w := (s.chan (otherChan c)).word
  otherSpeaks s c && (bitOf (vat w.requests n) rq || vat w.states n == target)

/-- Channel `c` finds the conditions of a step up met: it requests the step, and takes it where the other channel agrees. -/
def stepUp (s : State) (c : Chan) (n rq : Nat) (target : SafeState) : State :=
  if agrees s c n rq target then (moveGroup s c n target 0).onGrp c n fun g => { g with request := 2 ^ rq }
  else s.onGrp c n fun g => { g with request := 2 ^ rq }

/-- The state with less energy that channel `c` follows the other channel into; a channel that is only behind a step up, its word still
requesting it, is not followed. -/
def followInto (s : State) (c : Chan) (n : Nat) : Option SafeState :=
  let st := (vat (s.chan c).grps n).st
  let w := (s.chan (otherChan c)).word
  let o := vat w.states n
  let rq := vat w.requests n
  if !otherSpeaks s c then none
  else match o with
    | .lockout => if st == .lockout then none else some .lockout
    | .safeOff => if st.active && !(st == .ready && bitOf rq rqReady) then some .safeOff else none
    | .stopping => if st == .enabled || st == .degraded then some .stopping else none
    | .degraded => if st == .enabled && !bitOf rq rqBack then some .degraded else none
    | _ => none

/-- Channel `c` follows the other channel, with the other channel's causes and, into STOPPING, its stop. -/
def follow (s : State) (c : Chan) (n : Nat) (st : SafeState) : State :=
  let o := vat (s.chan (otherChan c)).grps n
  let why := causesOf s (otherChan c) n
  if st = .stopping then beginStop s c n o.fn why else moveGroup s c n st why

/-! ## The state machine (R455) -/

/-- What a device mode lets the groups do (R168): hold (F), all but READY to ENABLED (H), all (N). -/
inductive ModeClass where
  | hold | noEnergy | all
  deriving DecidableEq, Repr

def modeClass (s : State) : ModeClass :=
  match (if s.mode.mode = .supplyLow then s.underlying else s.mode.mode) with
  | .reset => .hold | .boot => .hold | .standby => .hold | .shutdown => .hold
  | .setup => if s.coreOn then .noEnergy else .hold
  | .maintenance => .noEnergy
  | .supplyLow => .hold
  | _ => .all

/-- The parts of a demand: the causes with reaction STO, and those with reaction GROUP (R444, R505). -/
def demandCauses (s : State) (c : Chan) (n : Nat) (sto : Bool) : Nat :=
  let m := s.image
  let x := s.chan c
  let ins := (inputsOn m n).filter fun i => pInSto m i == sto
  let rxs := (receiversOn m n).filter fun r => pRxSto m r == sto
  caIf (ins.any fun i => (vat x.ins i).st == .opened) caDemand |||
  caIf (ins.any fun i => (vat x.ins i).st == .fault) caDiscrepancy |||
  caIf (rxs.any fun r => !bitOf (telSeen s c r) 0) caTelDemand

/-- Row 1: both channels hold the same signature, both self-tests have passed, the first exchange is complete. -/
def initDone (s : State) : Bool :=
  s.safe.p.sig == s.safe.h.sig && s.safe.p.selftestOk && s.safe.h.selftestOk && s.safe.p.exchanged && s.safe.h.exchanged && s.pRuns

/-- SAFE_OFF: an acknowledgement is taken where no demand is present (R455 row 3, R465); then the step to READY, which EXTEST withholds
(R640). -/
def inSafeOff (s : State) (c : Chan) (n : Nat) (causes : Nat) : State :=
  let m := s.image
  let x := s.chan c
  let demand := causes &&& maskDemand != 0
  let press := pManual m n && (vat x.ins (pAckIn m n)).ack
  let taken := press && !demand
  let s := raiseIf (taken && (c == .h)) (s.onGrp c n fun g => { g with acked := !demand && (g.acked || taken), request := 0 }) (ev 6 12) n 0
  let g := vat (s.chan c).grps n
  if demand || causes &&& (maskR31 ||| maskTelStop ||| 2 ^ caCoreDown) != 0 || !edmReady m n g || (pManual m n && !g.acked) || s.tap.instr == .extest then s
  else stepUp s c n rqReady .ready

/-- READY: rows 4 and 5; EXTEST withholds row 5 (R640). -/
def inReady (s : State) (c : Chan) (n : Nat) (causes : Nat) : State :=
  let stop := causes &&& (maskDemand ||| 2 ^ caCoreDown)
  if stop != 0 then moveGroup s c n .safeOff stop
  else if modeClass s == .all && without causes maskRecord == 0 && s.tap.instr != .extest then stepUp s c n rqEnabled .enabled
  else s.onGrp c n fun g => { g with request := 0 }

/-- ENABLED and DEGRADED: rows 6 to 9, R508, R509, R517. -/
def inEnergy (s : State) (c : Chan) (n : Nat) (causes : Nat) : State :=
  let m := s.image
  let fn := fnOf m n
  let group := demandCauses s c n false
  let sto := demandCauses s c n true ||| (if fn = .sto then group else 0)
  let g := vat (s.chan c).grps n
  let expired := g.st == .degraded && decide (pTDeg m n * cS ≤ g.degTime)
  if sto != 0 then moveGroup s c n .safeOff sto
  else if group != 0 then beginStop s c n fn group
  else if causes &&& maskTelStop != 0 then beginStop s c n (telFn m n) (causes &&& maskTelStop)
  else if expired then
    let first := !bitOf ((vat s.safe.p.grps n).latched ||| (vat s.safe.h.grps n).latched) caDegExpired
    beginStop (raiseIf first (s.onGrp c n fun g => { g with latched := setBit g.latched caDegExpired }) (ev 6 29) n 0) c n (telFn m n)
      (2 ^ caDegExpired)
  else if g.st == .enabled then
    if bitOf causes caTelPath then moveGroup s c n .degraded (2 ^ caTelPath) else s.onGrp c n fun g => { g with request := 0 }
  else if bitOf causes caTelPath then s.onGrp c n fun g => { g with request := 0 }
  else stepUp s c n rqBack .enabled

/-- STOPPING: a demand with reaction STO ends the stop at once (R512); else the stop is judged (R485, R513). -/
def inStopping (s : State) (c : Chan) (n : Nat) : State :=
  let sto := demandCauses s c n true
  if sto != 0 then moveGroup s c n .safeOff sto else judgeStop s c n

/-- Channel `c` evaluates group `n` (R455). The causes of an entry into LOCKOUT include a demand and CORE_DOWN where they would have taken
the group out of its state in the same evaluation (R741). -/
def evalGroup (s : State) (c : Chan) (n : Nat) : State :=
  if !s.grpUsed n then s.onGrp c n fun g => { g with st := .init, request := 0 } else
  let g := vat (s.chan c).grps n
  let causes := causesOf s c n
  let lock := without (causes &&& maskLock) (if g.st.active then 0 else maskR31)
  let also := if g.st == .ready || g.st == .enabled || g.st == .degraded then causes &&& (maskDemand ||| 2 ^ caCoreDown) else 0
  if g.st != .lockout && lock != 0 then moveGroup s c n .lockout (lock ||| also)
  else match followInto s c n with
  | some st => follow s c n st
  | none =>
    if modeClass s == .hold then s
    else match g.st with
      | .init => if initDone s && causes &&& maskR31 == 0 then moveGroup s c n .startupPending 0 else s
      | .startupPending => if recordDone s.image n g && causes &&& maskR31 == 0 then moveGroup s c n .safeOff 0 else s
      | .safeOff => inSafeOff s c n causes
      | .ready => inReady s c n causes
      | .enabled => inEnergy s c n causes
      | .degraded => inEnergy s c n causes
      | .stopping => inStopping s c n
      | .lockout => s

/-! ## Cross-checks (R440 to R443, R482, R490) -/

/-- A channel's words of the lines: generator and gate of each group as it applies them (R490). -/
def gensOf (s : State) (c : Chan) : Nat :=
  let on := (List.range 4).foldl (fun k n =>
    let mine := (vat (s.chan c).grps n).st.energy && (pArch s.image n == 1 || (pArch s.image n == 2 && c == .h && !s.safe.kill))
    if mine then k + 2 ^ n else k) 0
  on + 16 * on

/-- The filtered levels as SAFE.IN_LEVEL shows them. -/
def levelsOf (x : SafeChan) : Nat :=
  (List.range 8).foldl (fun k i => k + b2n (vat x.ins i).lvlA * 4 ^ i + b2n (vat x.ins i).lvlB * 2 * 4 ^ i) 0

/-- Channel `c` writes its cross-check word (R440, R781). -/
def publish (s : State) (c : Chan) : State :=
  let x := s.chan c
  let m := s.image
  let w : XWord := {
    seq := (x.word.seq + 1) % 65536
    states := vmap (fun _ g => g.st) x.grps
    requests := vmap (fun _ g => g.request) x.grps
    lines := levelsOf x
    inStates := vmap (fun i y => if demands m i then y.st else .notJudged) x.ins
    discFault := (List.range 8).foldl (fun k i => if (vat x.ins i).st == .fault then setBit k i else k) 0
    tpFault := (List.range 8).foldl (fun k i => if (vat x.ins i).tpFaultA || (vat x.ins i).tpFaultB then setBit k i else k) 0
    edm := (List.range 4).foldl (fun k n => if (vat x.grps n).edm then setBit k n else k) 0
    srst := x.srst
    judge := x.judge
    counts := vmap (fun _ e => e.count) x.encs
    speeds := vmap (fun _ e => e.speed) x.encs
    time := x.clk / cUs % 65536
    sig := x.sig
    extra := match c with | .p => s.time.period | .h => b2n s.safe.kill
    gens := gensOf s c
    tel := match c with | .p => telWord s | .h => 0
    at_ := x.sampleAt }
  s.onChan c fun y => { y with word := w, judge := 0 }

/-- The comparison window: 2 ticks + 0.5 ms, capped at 2.5 ms; and channel H's limit for an update: 2 ticks + 0.25 ms, capped at 2.25 ms.
Channel H takes the tick from channel P's word (R441, R443). A tick of TICK_PERIOD is 125 ns of it. -/
def tickOf (s : State) (c : Chan) : Nat := 1250 * (match c with | .p => s.time.period | .h => s.safe.p.word.extra)
def compareWindow (s : State) (c : Chan) : Nat := min (2 * tickOf s c + 500 * cUs) (2500 * cUs)
def updateLimit (s : State) : Nat := min (2 * tickOf s .h + 250 * cUs) (2250 * cUs)

/-- Updates of the other channel are expected: channel P's while CORE is ON and ticks, or after a loss of CORE that no accepted write
asked for (R169, R441); channel H's while channel P runs. -/
def updatesDue (s : State) (c : Chan) : Bool :=
  match c with
  | .p => s.pRuns
  | .h => if s.coreOn then s.time.running else s.safe.coreSeen && !s.pwr.coreOffByWrite && bitOf s.pwr.ctrl 0

/-- Channel `c` watches the other channel's sequence (R441). -/
def watchUpdates (s : State) (c : Chan) : State :=
  let x := s.chan c
  let q := (s.chan (otherChan c)).word.seq
  if q ≠ x.seenSeq then
    s.onChan c fun y => { y with seenSeq := q, seenAt := y.clk, exchanged := y.exchanged || s.chanRuns (otherChan c), xchkBad := false }
  else if !updatesDue s c then s.onChan c fun y => { y with seenAt := y.clk, xchkBad := false }
  else
    let limit := match c with | .p => 600 * cUs | .h => updateLimit s
    if x.seenAt + limit < x.clk then
      raiseIf (!x.xchkBad) (s.onChan c fun y => { y with xchkBad := true }) (ev 6 10) 0 caXchkTimeout
    else s

/-- A disagreement on group `n` found by channel `c` (R443); in a SINGLE_HDC group channel P sets the kill latch (R437). -/
def disagree (s : State) (c : Chan) (n : Nat) : State :=
  if !s.grpUsed n then s else
  let new := !bitOf (vat (s.chan c).grps n).latched caXchkDisagree
  let s := raiseIf new (s.onGrp c n fun g => { g with latched := setBit g.latched caXchkDisagree }) (ev 6 10) n caXchkDisagree
  if c == .p && pArch s.image n == 2 then s.onSafe fun f => { f with kill := true } else s

/-- A difference that has stood since `t`, with its present value: when it began. -/
def since (differs : Bool) (now : Nat) (t : Option Nat) : Option Nat := if differs then some (t.getD now) else none
def stoodFor (limit now : Nat) (t : Option Nat) : Bool := match t with | some u => decide (u + limit < now) | none => false

/-- The counts of encoder `e` disagree: by more than 8 and 50 µs of its rate, after the time between the two samples (R482). The count
rate is the channel's count change over T_SPD. -/
def countsApart (m : ParImage) (e : Nat) (x : SafeChan) (w : XWord) : Bool :=
  let y := vat x.encs e
  let tspd := pTSpd m (e / 2) * cMs
  match y.samples.find? fun p => decide (p.1 + tspd ≤ x.clk) with
  | some p =>
    let dc := y.count - p.2
    let dt : Int := ((x.sampleAt : Int) - w.at_) * 10 / 2 ^ 40
    decide (8 * (tspd : Int) + dc.natAbs * (50 * cUs) < ((y.count - vat w.counts e) * tspd - dc * dt).natAbs)
  | none => decide (8 < (y.count - vat w.counts e).natAbs)

/-- Channel `c` compares its results with the other channel's latest word (R443, R482). -/
def crossCheck (s : State) (c : Chan) : State :=
  let s := watchUpdates s c
  if !otherSpeaks s c then s.onChan c fun x => { x with diffIn := Vector.replicate 8 none } else
  let m := s.image
  let w := (s.chan (otherChan c)).word
  let x := s.chan c
  let now := x.clk
  let win := compareWindow s c
  let s := s.onChan c fun x => { x with
    grps := vmap (fun n g => { g with
      diffState := since (g.st != vat w.states n) now g.diffState
      diffEdm := since (pEdmEn m n && g.edm != bitOf w.edm n) now g.diffEdm }) x.grps
    diffIn := vmap (fun i t => since (demands m i && (vat x.ins i).st != vat w.inStates i) now t) x.diffIn
    encs := vmap (fun e y => { y with
      diffSpeed := since (decide (pVDiff m (e / 2) < (y.speed - vat w.speeds e).natAbs)) now y.diffSpeed }) x.encs }
  let x := s.chan c
  let badEnc := fun k => axisUsed m k && ([2 * k, 2 * k + 1].any fun e =>
    countsApart m e x w || stoodFor (pTDiff m k * cMs) now (vat x.encs e).diffSpeed)
  forN 4 (fun n t =>
    let g := vat x.grps n
    let bad := x.sig != w.sig || stoodFor win now g.diffState || stoodFor win now g.diffEdm ||
      (inputsOn m n).any (fun i => stoodFor win now (vat x.diffIn i)) ||
      (match axisOf m n with | some k => badEnc k | none => false)
    if bad then disagree t c n else t) s

/-! ## The evaluations (R433, R455) -/

/-- The degraded time of group `n` grows while it is DEGRADED, and is cleared after T_DEG of ENABLED (R509). -/
def degStep (s : State) (c : Chan) (n : Nat) : State :=
  let x := s.chan c
  let d := x.clk - x.evalAt
  let lim := pTDeg s.image n * cS
  s.onGrp c n fun g =>
    if g.st == .degraded then { g with degTime := g.degTime + d }
    else match g.enSince with
      | some t => if g.st == .enabled && decide (t + lim ≤ x.clk) then { g with degTime := 0, enSince := none } else g
      | none => g

/-- One evaluation of channel `c`: inputs, axes, cross-check, EDM and degraded time, then every group. -/
def evaluateChan (s : State) (c : Chan) : State :=
  let s := crossCheck (axesJudge (observeAll (inputsJudge s c) c) c) c
  let s := forN 4 (fun n t => degStep (edmJudge t c n) c n) s
  let s := forN 4 (fun n t => evalGroup t c n) s
  s.onChan c fun x => { x with evalAt := x.clk, ins := vmap (fun _ y => { y with ack := false }) x.ins }

/-- Channel H's clock for one cycle of 8,000 RC clocks, scaled by its calibration factor (R439). -/
def hCycle (s : State) : Nat := (quotFree 62 (8000 * cS) s.safe.calib).toNat

/-- A count that departs from `pred` by at most `pct` percent, with no gap (R438). -/
def countOk (c : ClockCount) (pred : Rat) (pct : Nat) : Bool :=
  !c.gap && decide ((c.count : Rat) - pred ≤ pred * pct / 100) && decide (pred - (c.count : Rat) ≤ pred * pct / 100)

/-- Channel H's judgement of the XO over a cycle of 250 µs nominal (R438): within 12 % of the XO_FREQ in use. From a power-on reset until CORE has
first been ON, and until XO_CFG was loaded or written, any frequency of 10 to 125 MHz, widened by the RC tolerance of 3 %, is valid (R301). -/
def xoJudged (s : State) (c : ClockCount) : Bool :=
  if s.spll.everOn || s.spll.cfgLoaded then countOk c ((s.spll.freqInUse : Rat) / 4000) 12
  else !c.gap && decide (10000000 * 97 ≤ c.count * 4000 * 100) && decide (c.count * 4000 * 100 ≤ 125000000 * 103)

/-- The judgements of CORE_CLK, and of channel H's oscillator by the CORE_CLK monitor (R438). -/
def coreJudged (c : ClockCount) : Bool := countOk c 78125 12
def rcJudged (c : ClockCount) : Bool := countOk c 32000 8

/-- A filter's output: the new level once it has stood for `us` µs, else what it was. -/
def filtered (us : Nat) (x : HeldPin) (was : Bool) : Bool := if us ≤ x.heldUs then x.level else was

/-- A warning ends with its rail's rising crossing, which takes effect once it has lasted 1 ms (R134). -/
def warningsEnd (s : State) (w : Vector HeldPin 4) : State :=
  let stays (k : Nat) (was : Bool) : Bool := was && filtered 1000 (vat w k) true
  s.onPwr fun p => { p with
    warn33 := stays 0 p.warn33, warnAon := stays 1 p.warnAon, warn09 := stays 2 p.warn09, warn18 := stays 3 p.warn18 }

/-- A new calibration factor is accepted only with a valid XO and within 32 MHz ±3 % (R439). -/
def calibrate (s : State) (smp : HSample) : State :=
  match smp.rcHz with
  | some hz => if s.pwr.xoValid && rng 31040000 32960000 hz then s.onSafe fun f => { f with calib := hz } else s
  | none => s

/-- Channel H judges CORE_CLK (R438). -/
def judgesCore (s : State) : Bool := s.safe.coreSeen && bitOf s.pwr.ctrl 0

/-- The clock judgements of one channel H cycle, with their event as they arise (R438, R456). -/
def judgeClocks (s : State) (xoOk coreOk rcOk : Bool) : State :=
  let core := !coreOk && judgesCore s
  let rc := !rcOk && s.coreOn
  let s := raiseIf (!xoOk && !s.safe.clockXo) s (ev 6 9) 0 caClockXo
  let s := raiseIf (core && !s.safe.clockCore) s (ev 6 9) 0 caClockCore
  let s := raiseIf (rc && !s.safe.clockH) s (ev 6 9) 0 caClockH
  s.onSafe fun f => { f with clockXo := !xoOk, clockCore := core, clockH := rc }

/-- XO_VALID follows channel H's judgement, and the outputs on the XO with it (R353, R438). -/
def setXoValid (s : State) (ok : Bool) : State :=
  if s.pwr.xoValid = ok then s else settleOuts (s.onPwr fun p => { p with xoValid := ok })

/-- CORE_CLK is valid again after the SPLL has lost lock: the lock shows again, and the searches that are owed start (R333; DEDUCED, log 56). -/
def spllBack (s : State) (coreOk : Bool) : State :=
  if s.coreOn && !s.spll.lock && coreOk then searchOwed (s.onSpll fun p => { p with lock := true }) else s

/-- A channel's filters of EDM0 to EDM3, over 2 ms (R492), and of SRST_N, over 1 ms (R495). -/
def sampleLevels (s : State) (c : Chan) (edm : Vector HeldPin 4) (srst : HeldPin) : State :=
  s.onChan c fun x => { x with
    srst := filtered 1000 srst x.srst, grps := vmap (fun n g => { g with edm := filtered 2000 (vat edm n) g.edm }) x.grps }

/-- Channel H completes a cycle: samples, evaluates every group and writes its word (R433). -/
def channelH (s : State) (smp : HSample) : State :=
  let s := warningsEnd s smp.warn
  let xo := xoJudged s smp.xo
  let core := coreJudged smp.core
  let s := spllBack (setXoValid (judgeClocks s xo core (rcJudged smp.rc)) xo) core
  let s := calibrate s smp
  let n := hCycle s
  let s := s.onChan .h fun x => { x with clk := x.clk + n }
  let s := encSamples (sampleLevels s .h smp.edm smp.srst) .h smp.encs s.time.bench
  publish (evaluateChan s .h) .h

/-- Channel P's input latch in SAMPLE (R27, R70). -/
def latchP (s : State) (smp : TickSample) : State :=
  if !s.pRuns then s else encSamples (sampleLevels s .p smp.edm smp.srst) .p smp.encs s.time.tickEdge

/-- QSTOPk may be high: some group names the axis, and every one that does is ENABLED or DEGRADED (R491). -/
def qstopMay (s : State) (k : Nat) : Bool :=
  let gs := (List.range 4).filter fun n => pArch s.image n != 0 && pAxis s.image n == k + 1
  !gs.isEmpty && gs.all fun n => s.grpState n == .enabled || s.grpState n == .degraded

/-- P_OVERRUN (R28, R31): until a lockout clear. -/
def pOverrun (s : State) : State :=
  forN 4 (fun n t => if !t.grpUsed n then t else
    let f := fun (g : ChanGroup) => { g with latched := setBit g.latched caPOverrun }
    (t.onGrp .p n f).onGrp .h n f) s

/-- Channel P's reserved slot (R69): telegrams, evaluation, and the QSTOP levels for this tick's DISPATCH. -/
def slotP (s : State) : State :=
  if !s.pRuns then s else
  let s := evaluateChan (telegramsJudge s) .p
  s.onSafe fun f => { f with qstopNext := vmk 2 (qstopMay s) }

/-- The QSTOP lines take a level; a line that goes low raises its event (R491, R525). -/
def setQstop (s : State) (v : Nat → Bool) : State :=
  let s := forN 2 (fun k t => raiseIf (vat s.safe.qstop k && !v k) t (ev 6 31) k 0) s
  s.onSafe fun f => { f with qstop := vmk 2 v }

/-- Channel P in DISPATCH: its cross-check word and the QSTOP lines (R440, R491). -/
def dispatchP (s : State) : State :=
  if !s.pRuns then s else publish (setQstop s fun k => vat s.safe.qstopNext k && qstopMay s k) .p

/-! ## Channel P and CORE, resets (R123, R169, R524) -/

/-- R169: at the start of GUARD in which CORE powers down by a write, groups in READY go to SAFE_OFF, in both channels: also in one that has gone
on to ENABLED without the other (R168). -/
def readyOff (s : State) : State :=
  forN 4 (fun n t =>
    if t.grpState n ≠ .ready then t else
    let off (u : State) (c : Chan) : State :=
      let st := (vat (u.chan c).grps n).st
      if st == .ready || st == .enabled then moveGroup u c n .safeOff (2 ^ caCoreDown) else u
    off (off t .p) .h) s

/-- Channel P stops with CORE: QSTOP low, its receivers and transmitters forgotten, no exchange. -/
def chanPStop (s : State) : State :=
  let s := receiversFresh (setQstop s fun _ => false)
  (s.onSafe fun f => { f with
    inbox := [], qstopNext := Vector.replicate 2 false,
    tx := Vector.replicate 4 { (default : TelTx) with seq := 1 } }).onChan .p fun x =>
      { x with exchanged := false, word := { x.word with tel := 0 } }

/-- Channel P starts with CORE ON: it takes over channel H's view of the groups and of the inputs, and begins its own exchange, self-test
and decoders. -/
def chanPStart (s : State) : State :=
  let h := s.safe.h
  let s := s.onSafe fun f => { f with coreSeen := true, p := { f.p with
    ins := vmap (fun _ y => { y with ack := false, ackSince := none, ackRelease := none }) h.ins
    grps := vmap (fun _ g => { g with request := 0, diffState := none, diffEdm := none, enSince := none, edmWin := none,
                                      wasToggling := false, tStart := f.p.clk, belowSince := none, acked := false }) h.grps
    encs := Vector.replicate 4 { (default : ChanEnc) with cleanSince := f.p.clk }
    axDiff := Vector.replicate 2 none, diffIn := Vector.replicate 8 none, sig := f.h.sig, selftestOk := false,
    srst := h.srst, judge := 0, seenAt := f.p.clk, exchanged := false, xchkBad := false, evalAt := f.p.clk, seenDisc := h.word.discFault } }
  (receiversFresh s).onChan .h fun x => { x with exchanged := false, xchkBad := false, seenAt := x.clk }

/-- One group of a channel through a device or soft reset (R123, R510): active states and SAFE_OFF become SAFE_OFF, LOCKOUT and its
causes are kept, INIT and STARTUP_PENDING are unchanged; stop-function state, EDM windows and degraded time are cleared. -/
def resetGroup (g : ChanGroup) : ChanGroup :=
  { ChanGroup.atReset with
    st := if g.st.active then .safeOff else g.st
    latched := without g.latched maskRecord, opened := g.opened, closed := g.closed, edm := g.edm }

/-- The supervisor through a device or soft reset (R123, R495, R741). -/
def safetyReset (s : State) : State :=
  let was := s.grpState s.safe.causeGrp
  let s := s.onSafe fun f => { f with
    p := { f.p with grps := vmap (fun _ g => resetGroup g) f.p.grps, exchanged := false, xchkBad := false, judge := 0 }
    h := { f.h with grps := vmap (fun _ g => resetGroup g) f.h.grps, exchanged := false, xchkBad := false, judge := 0 }
    clearing := false, clearOk := 0, srstStuck := false, coreSeen := false
    qstop := Vector.replicate 2 false, qstopNext := Vector.replicate 2 false, inbox := []
    tx := Vector.replicate 4 { (default : TelTx) with seq := 1 } }
  let s := receiversFresh s
  if was = .lockout then s else s.onSafe fun f => { f with causeGrp := 0, causeState := 0, causeCode := 0 }

/-- Parameters are taken into use: the image, its signature in both channels, the inputs judged afresh, receivers and transmitters
begun anew (R453, R505). -/
def takeImage (s : State) (m : ParImage) (valid : Bool) : State :=
  let q := sigOf m
  let s := s.onSafe fun f => { f with
    par := m, hasPar := valid, confirmed := none
    p := { f.p with sig := q, ins := vmap (fun i y => freshInput m i y) f.p.ins, diffIn := Vector.replicate 8 none }
    h := { f.h with sig := q, ins := vmap (fun i y => freshInput m i y) f.h.ins, diffIn := Vector.replicate 8 none } }
  receiversFresh s

/-- A cause is latched on every group other than UNUSED, in both channels. -/
def latchAll (s : State) (code : Nat) : State :=
  forN 4 (fun n t => if !t.grpUsed n then t else
    let f := fun (g : ChanGroup) => { g with latched := setBit g.latched code }
    (t.onGrp .p n f).onGrp .h n f) s

/-- Every group is evaluated at once by channel H, and by channel P while it runs. -/
def evaluateGroups (s : State) : State :=
  forN 4 (fun n t => let t := evalGroup t .h n; if t.pRuns then evalGroup t .p n else t) s

/-! ## SRST_N and the lockout clear (R457, R495, R496) -/

/-- The judgement of a pulse of `l` µs that ends at bench time `at_`: 1 valid, 2 invalid, 3 stuck, 4 too short. Between the bands either
judgement is allowed, at each pulse anew (free, log 23). -/
def judgePulse (tag at_ l : Nat) : Nat :=
  if l < 99000 then 4
  else if l < 101000 then (if Config.bandChoice tag (at_ * 2 ^ 24 + l) then 1 else 4)
  else if l ≤ 2970000 then 1
  else if l ≤ 3030000 then (if Config.bandChoice (tag + 1) (at_ * 2 ^ 24 + l) then 1 else 2)
  else 3

/-- The lockout causes of group `n` that still stand at a valid pulse: those that only a lockout clear ends are not counted, and an
encoder fault counts until its decoder has been free of it for 1 s (R456, R457, R510). -/
def standing (s : State) (n : Nat) : Nat :=
  let ends := maskOf [caParChange, caPOverrun, caXchkDisagree, caSelftest, caReadback, caKill, caEncFault]
  let m := s.image
  let enc : Bool := match axisOf m n with
    | some k => [Chan.p, Chan.h].any fun c => [2 * k, 2 * k + 1].any fun e =>
        let x := s.chan c
        (vat x.encs e).fault && decide (x.clk < (vat x.encs e).cleanSince + cS)
    | none => false
  without (groupCauses s n &&& maskLock) ends ||| caIf enc caEncFault

/-- A pulse that both channels judge valid (R457 steps 1 and 2). -/
def validPulse (s : State) : State :=
  let s := raise s (ev 6 22)
  if !s.lockout || s.safe.clearing then s else
  let s := match s.safe.confirmed with | some m => takeImage s m true | none => s
  let ok := (List.range 4).foldl (fun k n => if standing s n == 0 then setBit k n else k) 0
  s.onSafe fun f => { f with clearing := true, clearOk := ok }

/-- SRST_N had been high for 100 ms before a pulse of `len` µs, since the release of the last reset too (R153, R495). -/
def srstReady (s : State) (len highUs : Nat) : Bool :=
  decide (100000 ≤ highUs) && decide (s.safe.srstFrom + (len + 100000) * cUs ≤ s.safe.h.clk)

/-- The rising edge of SRST_N ends a pulse, of `lenP` and `lenH` µs in the two channels' measures. -/
def srstPulse (s : State) (lenP lenH highUs : Nat) : State :=
  if s.inReset || s.pwr.booting then s else
  let stuck := s.safe.srstStuck
  let ready := srstReady s lenH highUs
  let s := s.onSafe fun f => { f with srstStuck := false, h := { f.h with srst := true } }
  if !ready then s else
  let jp := judgePulse 70 s.time.bench lenP
  let jh := judgePulse 72 s.time.bench lenH
  let code := fun j => if j = 4 then 2 else j
  let s := if s.pRuns then s.onChan .p fun x => { x with judge := code jp, srst := true } else s
  let s := s.onChan .h fun x => { x with judge := code jh }
  let s := raiseIf (jh == 4 || (jp == 4 && s.pRuns)) s (ev 6 24) 0 0
  let s := raiseIf (jh == 3 && !stuck) s (ev 6 23) 0 0
  if jp == 1 && jh == 1 && s.pRuns then validPulse s else s

/-- A latched cause ends on a channel's group. -/
def dropCauses (s : State) (k : Nat) : State :=
  forN 4 (fun n t =>
    let f := fun (g : ChanGroup) => { g with latched := without g.latched k }
    (t.onGrp .p n f).onGrp .h n f) s

/-- Encoder faults whose decoder has been free of them for 1 s end at the pulse (R510). -/
def encClear (s : State) : State :=
  let f := fun (x : SafeChan) => { x with encs := vmap (fun _ y => { y with fault := y.fault && decide (x.clk < y.cleanSince + cS) }) x.encs }
  (s.onChan .p f).onChan .h f

/-- Group `n` leaves LOCKOUT for STARTUP_PENDING, its record cleared (R457 step 3). -/
def clearGroup (s : State) (n : Nat) : State := moveGroup (moveGroup s .h n .startupPending 0) .p n .startupPending 0

/-- Self-tests end (R455 row 1, R457). -/
def selftestDone (s : State) (passP passH stoOk : Bool) : State :=
  let okP := passP || !s.pRuns
  let s := s.onSafe fun f => { f with
    p := { f.p with selftestOk := if s.pRuns then passP else f.p.selftestOk }, h := { f.h with selftestOk := passH } }
  let s := raiseIf (!okP || !passH) s (ev 6 15) 0 0
  let s := if !okP || !passH then latchAll s caSelftest else dropCauses s (2 ^ caSelftest)
  if !s.safe.clearing then (if !okP || !passH then evaluateGroups s else s) else
  let ok := s.safe.clearOk
  let s := s.onSafe fun f => { f with clearing := false, clearOk := 0 }
  if !passP || !passH || !s.pRuns then raise s (ev 6 4) else
  let s := encClear (dropCauses s (maskOf [caParChange, caPOverrun, caXchkDisagree]))
  let s := if stoOk then (dropCauses s (2 ^ caReadback)).onSafe fun f => { f with stoFault := 0, kill := false } else s
  let locked := (List.range 4).filter fun n => s.grpUsed n && s.grpState n == .lockout
  let clear := locked.filter fun n => bitOf ok n && groupCauses s n &&& maskLock == 0
  let stay := decide (clear.length < locked.length)
  let s := clear.foldl clearGroup s
  raiseIf stay (raiseIf (!clear.isEmpty) s (ev 6 3) 0 0) (ev 6 4) 0 0

/-- Channel `c` generates the line: STOnA is channel P's and STOnB channel H's, and in a SINGLE_HDC group both are channel H's (R435). -/
def generates (m : ParImage) (c : Chan) (n : Nat) (lineB : Bool) : Bool :=
  if pArch m n = 2 then c == .h else (c == .h) == lineB

/-- What a channel sees on an STO line is a fault (R488): 2 consecutive samples of its own line against its generator; on a line it does not
generate an edge while it must be static, or no edge for 300 µs while its generator and gate run. -/
def stoWrong (s : State) (c : Chan) (n : Nat) (lineB : Bool) (sight : StoSight) : Bool :=
  let own := generates s.image c n lineB
  match sight with
  | .mismatch k => own && decide (2 ≤ k)
  | .edge => !own && !stoToggles s n
  | .quiet us => !own && stoToggles s n && decide (300 ≤ us)

/-- An STO readback fault of group `n` found by channel `c` (R488); a line of a SINGLE_HDC group that toggles while channel H's state does
not permit it makes channel P set the kill latch (R437). -/
def stoReadback (s : State) (c : Chan) (n : Nat) (lineB : Bool) (sight : StoSight) : State :=
  if !s.grpUsed n || !s.chanRuns c || !stoWrong s c n lineB sight then s else
  let first := !bitOf ((vat s.safe.p.grps n).latched ||| (vat s.safe.h.grps n).latched) caReadback
  let s := raiseIf first (s.onGrp c n fun g => { g with latched := setBit g.latched caReadback }) (ev 6 20) n (b2n lineB)
  let s := s.onSafe fun f => { f with stoFault := setBit f.stoFault (2 * n + b2n lineB) }
  let s := if c == .p && pArch s.image n == 2 && sight == .edge then s.onSafe fun f => { f with kill := true } else s
  evalGroup s c n

/-! ## Commands -/

/-- XCHK_TIMEOUT: the other channel's updates are judged now (R441), and the groups with it. -/
def execXchkTimeout (c : Chan) (s : State) : Host.Outcome State Fault Refusal :=
  .next (if s.chanRuns c then forN 4 (fun n t => evalGroup t c n) (watchUpdates s c) else s)

/-- XCHK_DISAGREE: channel `c` finds a disagreement on the given groups (R443). -/
def execXchkDisagree (c : Chan) (groups : BitVec 4) (s : State) : Host.Outcome State Fault Refusal :=
  .next (if s.chanRuns c then
    forN 4 (fun n t => if groups.getLsbD n then evalGroup (disagree t c n) c n else t) s else s)

/-- SAFETY_INPUT_CHANGE: a line has been at a level for some time, as one or both channels sample it (R445). -/
def execSafetyInputChange (line : Fin 16) (level : Bool) (who : Who) (heldUs : Nat) (s : State) : Host.Outcome State Fault Refusal :=
  .next (match who with
    | .p => lineChange s .p line level heldUs
    | .h => lineChange s .h line level heldUs
    | .both => lineChange (lineChange s .h line level heldUs) .p line level heldUs)

/-- TEST_PULSE: the end of the mask of a pulse on TPA or TPB, as both channels saw it (R446). -/
def execTestPulse (line : TpLine) (p h : PulseSight) (s : State) : Host.Outcome State Fault Refusal := .next (testPulse s line p h)

/-- DISCREPANCY: T_DISC is judged now in channel `c` (R447, R448). -/
def execDiscrepancy (i : Fin 8) (c : Chan) (s : State) : Host.Outcome State Fault Refusal :=
  let late : Bool := match (vat (s.chan c).ins i).waitSince with
    | some t => decide (t + pTDisc s.image i * cMs < chanNow s c)
    | none => false
  .next (if !s.chanRuns c || !late then s else if pType s.image i = 3 then ackDisc s c i else discFault s c i)

def execSrstPulse (lenP lenH highUs : Nat) (s : State) : Host.Outcome State Fault Refusal :=
  .next (srstPulse s lenP lenH highUs)

def execSelftestDone (passP passH stoOk : Bool) (s : State) : Host.Outcome State Fault Refusal :=
  .next (selftestDone s passP passH stoOk)

/-- SRST_STUCK: a channel's own measure of a hold passes 3 s (R496): once per hold. -/
def execSrstStuck (who : Who) (s : State) : Host.Outcome State Fault Refusal :=
  .next (if s.inReset || s.pwr.booting || s.safe.srstStuck || (who == .p && !s.pRuns) then s
    else raiseAt (s.onSafe fun f => { f with srstStuck := true, h := { f.h with srst := false } }) (ev 6 23) 0 0)

/-- ENC_FAULT: the decoder of encoder `e` in channel `c` finds a fault, and the groups of its axis are judged (R479, R481). -/
def execEncFault (e : Fin 4) (c : Chan) (z : Option Int) (s : State) : Host.Outcome State Fault Refusal :=
  .next (if s.chanRuns c then forN 4 (fun n t => if pAxis t.image n = e / 2 + 1 then evalGroup t c n else t) (encFault s c e z) else s)

/-- ENC_DISAGREE: the speed difference of an axis is judged now in channel `c` (R481). -/
def execEncDisagree (axis : Fin 2) (c : Chan) (s : State) : Host.Outcome State Fault Refusal :=
  .next (if s.chanRuns c then forN 4 (fun n t => if pAxis t.image n = axis + 1 then evalGroup t c n else t) (axesJudge s c) else s)

/-- SS1_TMAX: a running SS1-r is judged (R483). -/
def execSs1Tmax (g : Fin 4) (c : Chan) (s : State) : Host.Outcome State Fault Refusal :=
  .next (if s.chanRuns c && (vat (s.chan c).grps g).st == .stopping && (vat (s.chan c).grps g).fn == .ss1r then judgeStop s c g else s)

/-- SS1_DONE: a running SS1-r is judged (R483). -/
def execSs1Done (g : Fin 4) (c : Chan) (s : State) : Host.Outcome State Fault Refusal :=
  .next (if s.chanRuns c && (vat (s.chan c).grps g).st == .stopping && (vat (s.chan c).grps g).fn != .ss1t then judgeStop s c g else s)

/-- SS1T_DONE: a running SS1-t is judged (R486). -/
def execSs1tDone (g : Fin 4) (c : Chan) (s : State) : Host.Outcome State Fault Refusal :=
  .next (if s.chanRuns c && (vat (s.chan c).grps g).st == .stopping && (vat (s.chan c).grps g).fn == .ss1t then judgeStop s c g else s)

def execStoReadback (g : Fin 4) (lineB : Bool) (c : Chan) (sight : StoSight) (s : State) : Host.Outcome State Fault Refusal :=
  .next (stoReadback s c g lineB sight)

/-- EDM_WINDOW_EXPIRE: the EDM of a group is judged now in channel `c` (R494). -/
def execEdmWindowExpire (g : Fin 4) (c : Chan) (s : State) : Host.Outcome State Fault Refusal :=
  .next (if s.chanRuns c then evalGroup (edmJudge s c g) c g else s)

/-- SAFE_CELL: a SAFE cell arrives; channel P checks it in its next slot (R395, R502, telegramsJudge). -/
def execSafeCell (p : Fin 4) (c : Cell) (s : State) : Host.Outcome State Fault Refusal := .next (receiveCell s p c s.now)

/-- TEL_COMPARE_WINDOW: the copies of a receiver that have waited WIN ticks stand alone (R504). -/
def execTelCompareWindow (r : Fin 8) (s : State) : Host.Outcome State Fault Refusal := .next (if s.pRuns then windowsEnd s r else s)

/-- TEL_PATH_LOST: the watchdog of a path is judged (R506). -/
def execTelPathLost (r : Fin 8) (net : Fin 2) (s : State) : Host.Outcome State Fault Refusal :=
  .next (if s.pRuns then pathJudge s r net else s)

/-- DEG_EXPIRED: a group whose degraded time has reached T_DEG is judged by both channels (R509). -/
def execDegExpired (g : Fin 4) (s : State) : Host.Outcome State Fault Refusal :=
  .next (
    let due := fun (c : Chan) => (vat (s.chan c).grps g).st == .degraded && decide (pTDeg s.image g * cS ≤ (vat (s.chan c).grps g).degTime)
    let s := if due .h then evalGroup s .h g else s
    if s.pRuns && due .p then evalGroup s .p g else s)

/-- CLOCK_FAULT: a clock monitor finds its clock missing or out of tolerance (R438), and the groups are judged at once. -/
def execClockFault (mon : ClockMon) (s : State) : Host.Outcome State Fault Refusal :=
  let f := s.safe
  .next (evaluateGroups (match mon with
    | .xo => setXoValid (judgeClocks s false (!f.clockCore) (!f.clockH)) false
    | .coreClk => judgeClocks s (!f.clockXo) false (!f.clockH)
    | .rc => judgeClocks s (!f.clockXo) (!f.clockCore) false))

end Sys2Proof.Machine
end

