-- ==== Sys2Proof/Machine/Validate.lean ====
section
/-!
DEFINITION. Sys2Proof/Machine/Validate.lean: the validation of a commit (R551, R552): every check in ascending code order, on the
configuration that would result and the device's state at that moment (R548).
-/
namespace Sys2Proof.Machine

/-! ## Codes of R551 -/
def ccCoreOff : Nat := 0x01
def ccSupplyLow : Nat := 0x02
def ccBusy : Nat := 0x03
def ccNotOwner : Nat := 0x04
def ccNoTxn : Nat := 0x05
def ccWrongState : Nat := 0x06
def ccLate : Nat := 0x07
def ccTooLate : Nat := 0x08
def ccBadValue : Nat := 0x09
def ccDcMask : Nat := 0x60
def ccDcTick : Nat := 0x61

/-- What a validation judges: the resulting configuration, the words written, and the device. -/
structure Judged where
  c : View
  written : List Nat
  s : State

/-- A word from `a` to `b` was written in the transaction. -/
def Judged.wrote (j : Judged) (a b : Nat) : Bool := j.written.any fun w => decide (a ≤ w) && decide (w ≤ b)

/-- The commit changes TICK_PERIOD (R549: a write counts as a change). -/
def Judged.periodWritten (j : Judged) : Bool := j.wrote 0x110 0x110
def Judged.period (j : Judged) : Nat := fPeriod.val j.c 0

/-- The addresses given by `addr` of the units below `k` that fail a check. -/
def failing (k : Nat) (bad : Nat → Bool) (addr : Nat → Nat) : List Nat := ((List.range k).filter bad).map addr

/-- One address if a check fails. -/
def failIf (bad : Bool) (addr : Nat) : List Nat := if bad then [addr] else []

/-! ## Values (0x09) -/

/-- The fields that lie in a configuration word, with their block's base. -/
def fieldsAt (a : Nat) : List (Fld × Nat) :=
  match locate a with
  | none => []
  | some (b, n, o) => ((b.flds.filter (b.has n)).filter fun f => decide (f.off ≤ o) && decide (o < f.off + f.words)).map
      fun f => (f, b.base + b.stride * n)

/-- Puts an address into an ascending list, once. -/
def insAsc (a : Nat) : List Nat → List Nat
  | [] => [a]
  | b :: l => if a < b then a :: b :: l else if a = b then b :: l else b :: insAsc a l

/-- A field that the configuration ignores whatever its value: DEN of an APLL in INTEGER mode (R324). -/
def ignoredField (c : View) (f : Fld) (base : Nat) : Bool :=
  (base == apllBase 0 || base == apllBase 1) && f.off == fDen.off && f.width == fDen.width && !fApllMode.on c base

/-- The first words, in ascending order, of the written values that are a reserved encoding or out of range (R16). -/
def badValues (j : Judged) : List Nat :=
  (j.written.flatMap fun a =>
    ((fieldsAt a).filter fun (f, base) => !f.ok (f.val j.c base) && !ignoredField j.c f base).map fun (f, base) => base + f.off).foldl (fun l a => insAsc a l) []

/-! ## Tick, time, eyelets and windows (0x10 to 0x1D) -/

/-- The 29 periods of R63: the divisors of 8,000,000 from 80 to 8000. -/
def periodOk (p : Nat) : Bool := rng 80 8000 p && 8000000 % p == 0

/-- The cap f_tick / 25 in mHz, as a comparison: bandwidth × period above 320,000,000 exceeds it (R78). -/
def aboveCap (code period : Nat) : Bool := decide (320000000 < bwMilli code * period)

/-- The tracking bandwidth and those of the used stages of DPLL `d` (R230). -/
def bwStages (c : View) (d : Nat) : List Nat :=
  (List.range (min 4 (fNStages.val c (dpllBase d)))).map fun k => (fStageBw k).val c (dpllBase d)
def bwCodes (c : View) (d : Nat) : List Nat := fBw.val c (dpllBase d) :: bwStages c d

/-- One tick holds fewer than 800 periods of a frequency in Hz (R65, R184, R360). -/
def below800 (hz : Rat) (period : Nat) : Bool := decide (hz * (period : Rat) < 800 * 8000000)

def eyeRepeats (c : View) (n : Nat) : Bool := fEyeCount.val c (eyeBase n) != 0
def winRepeats (c : View) (w : Nat) : Bool := fWinCount.val c (winBase w) != 0
def winLength (c : View) (w : Nat) : Nat := winStop c w - winStart c w

/-- Gate `w` drives a TIO pin in GATE_OUT mode (R79, R41). -/
def gateDrives (c : View) (w : Nat) : Bool :=
  (List.range 16).any fun p => inService c (tioBase p) && fTioMode.val c (tioBase p) == 5 && fGateSel.val c (tioBase p) == w

/-- The eyelet's target is wrong for its action (R87). -/
def eyeTargetBad (c : View) (n : Nat) : Bool :=
  let act := fAction.val c (eyeBase n)
  let tgt := fTarget.val c (eyeBase n)
  (rng 1 4 act && fTioMode.val c (tioBase tgt) != 4) || (rng 5 6 act && decide (7 < tgt))

def timeChecks (j : Judged) : List (Nat × List Nat) :=
  let c := j.c
  let tick := j.s.tick16
  let new := tickLenB j.period / u16
  let pw := j.periodWritten
  [ (0x10, failIf (pw && !periodOk j.period) 0x110),
    (0x11, failIf (pw && (List.range 4).any fun d => (bwCodes c d).any fun b => aboveCap b j.period) 0x110),
    (0x12, failIf (pw && (List.range 24).any fun n =>
      inService c (outBase n) && fWmEn.on c (outBase n) && below800 (outFreq c n) j.period) 0x110),
    (0x13, if pw then
        failing 32 (fun n => inService c (eyeBase n) && eyeRepeats c n && decide (eyeInterval c n < new)) (fun n => eyeBase n + 0xB) ++
        failing 8 (fun w => inService c (winBase w) && winRepeats c w && decide (winInterval c w < new)) (fun w => winBase w + 0xD)
      else []),
    (0x14, failIf (pw && j.s.safeEnergy) 0x110),
    (0x15, failIf (fSetEn.on c 0 && (match (vat j.s.dplls 0).sel with | some n => rng 8 11 n | none => false)) 0x10F),
    (0x18, failing 32 (eyeTargetBad c) (fun n => eyeBase n + 2)),
    (0x19, failing 32 (fun n => eyeRepeats c n && decide (eyeInterval c n < tick)) (fun n => eyeBase n + 0xB)),
    (0x1A, failing 32 (fun n => eyeRepeats c n && fAction.val c (eyeBase n) == 4 &&
      decide (eyeInterval c n ≤ fWidth.val c (eyeBase n) * ns16)) (fun n => eyeBase n + 9)),
    (0x1B, failing 8 (fun w => decide (winStop c w < winStart c w)) (fun w => winBase w + 7)),
    (0x1C, failing 8 (fun w => decide (winStart c w ≤ winStop c w) && !below25ps (winLength c w) &&
      decide (winLength c w < 4 * ns16) && gateDrives c w) (fun w => winBase w + 7)),
    (0x1D, failing 8 (fun w => winRepeats c w && (decide (winInterval c w < tick) ||
      decide (10 * winInterval c w < 10 * winLength c w + 16384))) (fun w => winBase w + 0xD)) ]

/-! ## References and selection (0x20 to 0x28) -/

/-- Phase-detector rate of a source in Hz; 0 where its divider is 0 (R184, R408). -/
def pdRate (c : View) (n : Nat) : Rat :=
  if n < 8 then (fNomFreq.val c (refBase n) : Rat) / 65536 / (fPrediv.val c (refBase n) : Rat) else 1000000

/-- NOM_FREQ / PREDIV exceeds 25 MHz, for numbers in 2^-16 Hz. -/
def above25M (nom prediv : Nat) : Bool := decide (25000000 * 65536 * prediv < nom)

def refFreqBad (c : View) (n : Nat) : Bool :=
  let b := refBase n
  let nom := fNomFreq.val c b
  !(rng 32768 (1250000000 * 65536) nom) || (fInMode.val c b == 2 && decide (250000000 * 65536 < nom))

def refWmBad (c : View) (period n : Nat) : Bool :=
  let nom := fNomFreq.val c (refBase n)
  fDecode.on c (refBase n) && (decide (400000000 * 65536 < nom) || below800 ((nom : Rat) / 65536) period)

/-- GATE holds fewer than two phase-detector periods (R187). A source without a phase-detector rate (NOM_FREQ or PREDIV 0) passes: no period of
its own is stated (DESIGN CHOICE, log 73). -/
def gateShort (c : View) (n : Nat) : Bool :=
  let r := pdRate c n
  r != 0 && decide ((gateMs (fGate.val c (srcBase n)) : Rat) * r < 2000)

/-- A code that is neither listed for the option nor 0xF (R203). -/
def qlCodeBad (c : View) (code : Nat) : Bool := code != 15 && (qlRank? (fQlOption.val c 0) code).isNone

def refChecks (j : Judged) : List (Nat × List Nat) :=
  let c := j.c
  let serves (n : Nat) : Bool := inService c (refBase n)
  [ (0x20, failing 8 (fun n => serves n && refFreqBad c n) (fun n => refBase n + 2)),
    (0x21, failing 8 (fun n => serves n && above25M (fNomFreq.val c (refBase n)) (fPrediv.val c (refBase n))) (fun n => refBase n + 5)),
    (0x22, failing 8 (fun n => serves n && refWmBad c j.period n) (fun n => refBase n + 7)),
    (0x23, failing 12 (fun n => fBaseSel.on c (srcBase n) && (fPrio n).val c (dpllBase 0) != 0) (fun n => srcBase n + 0xA)),
    (0x24, failing 12 (gateShort c) (fun n => srcBase n + 0xA)),
    (0x25, failing 12 (fun n => decide (fReject.val c (srcBase n) < fAccept.val c (srcBase n))) (fun n => srcBase n + 9)),
    (0x26, failing 12 (fun n => fQlSrc.on c (srcBase n) &&
      decide (fQlTimeout.val c (srcBase n) * 1000000 < 32 * j.period * 125)) (fun n => srcBase n + 0x10)),
    (0x27, failing 8 (fun n => fDecode.on c (refBase n) && fInEdge.on c (refBase n)) (fun n => refBase n + 7)),
    (0x28, failing 4 (fun d => qlCodeBad c (fQlMin.val c (dpllBase d))) (fun d => dpllBase d + 0x28) ++
           failing 4 (fun d => qlCodeBad c (fQlHoldover.val c (dpllBase d)) || qlCodeBad c (fQlFreerun.val c (dpllBase d)) ||
             qlCodeBad c (fQlHostsrc.val c (dpllBase d))) (fun d => dpllBase d + 0x2A)) ]

/-! ## DPLLs and holdover (0x30 to 0x36) -/

/-- The monitored sources that limit DPLL `d`: those with a priority, and the forced one (R230). -/
def limitSources (c : View) (d : Nat) : List Nat :=
  (List.range 12).filter fun n => (fPrio n).val c (dpllBase d) != 0 ||
    (fSelMode.val c (dpllBase d) == 1 && fForcedSrc.val c (dpllBase d) == n)

/-- A bandwidth exceeds one twentieth of a phase-detector rate (R230). -/
def bwAbovePd (c : View) (d : Nat) : Bool :=
  (limitSources c d).any fun n => (bwCodes c d).any fun b => decide (pdRate c n * 1000 < (20 * bwMilli b : Nat))

/-- The stages are not non-increasing, or one is below the tracking bandwidth (R230). -/
def stagesBad (c : View) (d : Nat) : Bool :=
  let st := bwStages c d
  (st.zip (st.drop 1)).any (fun (a, b) => decide (bwMilli a < bwMilli b)) ||
  st.any fun b => decide (bwMilli b < bwMilli (fBw.val c (dpllBase d)))

/-- The feedback input is shared, or its rate is above 25 MHz (R230). -/
def fbBad (c : View) (d : Nat) : Bool :=
  let sel := fFbSel.val c (dpllBase d)
  sel != 0 && (above25M (fFbNom.val c (dpllBase d)) (fFbPrediv.val c (dpllBase d)) ||
    (List.range 4).any fun e => e != d && inService c (dpllBase e) && fFbSel.val c (dpllBase e) == sel)

/-- HIST_LEN, HIST_MIN and MODEL_EN of DPLL `n` (R265). -/
def hoBad (c : View) (n : Nat) : Bool :=
  let len := fHistLen.val c (hoBase n)
  (decide (600 < len) && len % 60 != 0) || decide (len < fHistMin.val c (hoBase n)) || (decide (2 ≤ n) && fModelEn.on c (hoBase n))

def dpllChecks (j : Judged) : List (Nat × List Nat) :=
  let c := j.c
  let serves (d : Nat) : Bool := inService c (dpllBase d)
  [ (0x30, failing 4 (fun d => serves d && (bwCodes c d).any fun b => aboveCap b j.period) (fun d => dpllBase d + 1)),
    (0x31, failing 4 (fun d => serves d && bwAbovePd c d) (fun d => dpllBase d + 1)),
    (0x32, failing 4 (fun d => serves d && stagesBad c d) (fun d => dpllBase d + 4)),
    (0x33, failing 4 (fun d => serves d && decide (fUnlockWin.val c (dpllBase d) < fLockWin.val c (dpllBase d))) (fun d => dpllBase d + 0xE)),
    (0x34, failing 4 (fun d => serves d && fbBad c d) (fun d => dpllBase d + 0x12)),
    (0x35, if serves 0 then failing 12 (fun n => (fPrio n).val c (dpllBase 0) != 0 && (pdRate c n).den != 1) (fun n => dpllBase 0 + 0x30 + n)
           else []),
    (0x36, failing 4 (hoBad c) (fun n => hoBase n) ++
           failIf ((qlRank? (fQlOption.val c 0) (fLearnQlMin.val c modelBase)).isNone) modelBase) ]

/-! ## Synthesis (0x38 to 0x44) -/

/-- XO_FREQ is outside the range of its mode (R299). -/
def xoRangeBad (c : View) : Bool :=
  let f := fXoFreq.val c spllBase
  if fXoMode.val c spllBase = 0 then !rng 25000000 54000000 f else !rng 10000000 125000000 f

def vcoLow : Rat := 9800000000
def vcoHigh : Rat := 11600000000

/-- The modulated extremes, widened by ±1,000 ppm, leave the VCO range (R321, R323). DEV counts 0.01 %. -/
def sscBad (c : View) (n : Nat) : Bool :=
  let f := vcoNom c n
  let dev : Rat := (fSscDev.val c (apllBase n) : Rat) / 10000
  let centre := fSscType.on c (apllBase n)
  let lo := if centre then f * (1 - dev / 2) else f * (1 - dev)
  let hi := if centre then f * (1 + dev / 2) else f
  spreads c n && (fFbSel.val c (dpllBase n) != 0 || decide (lo * 999 / 1000 < vcoLow) || decide (vcoHigh < hi * 1001 / 1000))

/-- The commit needs a band search of APLL `n` (R309). -/
def needsSearch (j : Judged) (n : Nat) : Bool :=
  inService j.c (apllBase n) && (searchWords n j.written || !inService j.s.act (apllBase n))

/-- Output `n` would change at a divider epoch while its last one has not passed (R324). -/
def epochPendingBad (j : Judged) (n : Nat) : Bool :=
  outEpochPends j.s n &&
    (j.wrote (outBase n + 1) (outBase n + 7) ||
     (let sel := fSel.val j.c (outBase n)
      decide (sel < 2) && j.wrote (apllBase sel + 8 + bankOf n) (apllBase sel + 8 + bankOf n)) ||
     (let k := fIdx.val j.c (outBase n)
      fSel.val j.c (outBase n) == 2 && j.wrote (fodBase k) (fodBase k + 3)))

def synChecks (j : Judged) : List (Nat × List Nat) :=
  let c := j.c
  let serves (n : Nat) : Bool := inService c (apllBase n)
  let xo := j.wrote spllBase (spllBase + 2)
  [ (0x38, failIf (xo && xoRangeBad c) spllBase),
    (0x39, failIf (xo && j.s.coreOn && j.s.mode.mode != .setup) spllBase),
    (0x40, failing 2 (fun n => serves n && (decide (vcoNom c n < vcoLow) || decide (vcoHigh < vcoNom c n))) (fun n => apllBase n + 1)),
    (0x41, failing 2 (fun n => serves n && fApllMode.on c (apllBase n) &&
      decide (fDen.val c (apllBase n) ≤ fNum.val c (apllBase n))) (fun n => apllBase n + 2)),
    (0x42, failing 2 (fun n => serves n && sscBad c n) (fun n => apllBase n + 0xC)),
    (0x43, failing 24 (epochPendingBad j) (fun n => outBase n + 1)),
    (0x44, failing 24 (fun n => inService c (outBase n) && decide (fSel.val c (outBase n) < 2) && (cfgSet c n).presc == 0)
      (fun n => apllBase (fSel.val c (outBase n)) + 8 + bankOf n)) ]

/-! ## Outputs (0x50 to 0x57) -/

/-- Highest frequency in Hz of a format at a VDDO level code (0 1.8 V, 1 2.5 V, 2 3.3 V); none where the format is not allowed (R339). -/
def formatMax (format level amp : Nat) : Option Nat :=
  match format with
  | 0 => some 1600000000
  | 1 => if level = 0 then none else some 400000000
  | 2 => if level = 0 ∧ 6 < amp then none else some 2900000000
  | _ => if level = 0 then some 200000000 else some 250000000

/-- The format's limit for output `n` (R339). -/
def outMax (c : View) (n : Nat) : Option Nat :=
  formatMax (fFormat.val c (outBase n)) (fVddoLevel.val c (bankBase (bankOf n))) (fCmlAmp.val c (outBase n))

def formatBad (c : View) (n : Nat) : Bool :=
  match outMax c n with
  | none => true
  | some m => decide ((m : Rat) < outFreq c n)

def dutyBad (c : View) (n : Nat) : Bool :=
  let x := cfgSet c n
  (x.div == 1 && x.high != 0) || decide (2 * x.div - 1 < x.high)

def refSrcBad (c : View) (n : Nat) : Bool :=
  let x := cfgSet c n
  x.sel == 4 && (!inService c (refBase x.idx) || fInMode.val c (refBase x.idx) == 0)

def xoSubBad (c : View) (n : Nat) : Bool :=
  let x := cfgSet c n
  fSquelch.on c (outBase n) && (x.sel == 3 || x.sel == 4 ||
    (match outMax c n with | some m => decide (m < fXoFreq.val c spllBase) | none => true))

/-- The watermark conditions of R360. -/
def watermarkBad (c : View) (period n : Nat) : Bool :=
  let b := outBase n
  let x := cfgSet c n
  let f := outFreq c n
  fWmEn.on c b &&
    !(fFormat.val c b != 1 && !(fFormat.val c b == 3 && fCmosMode.val c b == 2) && decide (x.sel ≤ 2) &&
      decide ((1000000 : Rat) ≤ f) && decide (f ≤ 800000000) && !below800 f period && decide (4 ≤ x.div) &&
      (x.high == 0 || (decide (9 * x.div ≤ 10 * x.high) && decide (10 * x.high ≤ 11 * x.div))))

def outChecks (j : Judged) : List (Nat × List Nat) :=
  let c := j.c
  let serves (n : Nat) : Bool := inService c (outBase n)
  [ (0x50, failing 24 (fun n => serves n && fSel.val c (outBase n) == 2 && decide (8 ≤ n)) (fun n => outBase n + 1)),
    (0x51, failing 24 (fun n => serves n && formatBad c n) (fun n => outBase n + 8)),
    (0x52, failing 24 (fun n => serves n && dutyBad c n) (fun n => outBase n + 4)),
    (0x53, failing 24 (fun n => serves n && decide (3 ≤ fSel.val c (outBase n)) && fCoarse.val c (outBase n) != 0) (fun n => outBase n + 6)),
    (0x54, failing 24 (fun n => serves n && refSrcBad c n) (fun n => outBase n + 1)),
    (0x55, failing 24 (fun n => serves n && xoSubBad c n) (fun n => outBase n + 9)),
    (0x56, failing 24 (fun n => serves n && fSel.val c (outBase n) == 2 &&
      !inService c (apllBase (fFodApll.val c (fodBase (fIdx.val c (outBase n)))))) (fun n => outBase n + 1)),
    (0x57, failing 24 (fun n => serves n && watermarkBad c j.period n) (fun n => outBase n + 0xA)) ]

/-! ## The distributed checks and the whole list -/

/-- R30 holds on a network (R413). -/
def r30Holds (s : State) (x : Nat) : Bool := if x = 0 then s.lace.mismatchA.isSome else s.lace.mismatchB.isSome

/-- The originator's checks of R414: TARGET too close, the mask, and R30. -/
def distLate (j : Judged) : Bool := decide (j.s.txn.commitTick < j.s.curTick + 2 * dcGuard j.c)
def distMaskBad (j : Judged) : Bool := j.s.txn.dcMask == 0 || bitOf j.s.txn.dcMask (laceAddr j.c)
def distTickBad (j : Judged) : Bool := (netsOf j.s.txn.dcNet).any fun x => r30Holds j.s x

/-- Every check of R551 that validation makes, in ascending code order, with the failing words; `proposing` says that the commit is
that of an originator before its PROPOSE, `agreed` that it is a distributed commit already agreed, which SUPPLY_LOW does not stop
(R137, R151). -/
def allChecks (j : Judged) (proposing agreed : Bool) : List (Nat × List Nat) :=
  [ (ccCoreOff, failIf (!j.s.coreOn) 0),
    (ccSupplyLow, if j.s.pwr.supplyLow && !agreed then failIf proposing 0x30A ++ failing 2 (needsSearch j) (fun n => apllBase n + 1) else []),
    (ccLate, failIf (proposing && distLate j) 0x30A),
    (ccBadValue, badValues j) ] ++
  timeChecks j ++ refChecks j ++ dpllChecks j ++ synChecks j ++ outChecks j ++
  [ (ccDcMask, failIf (proposing && distMaskBad j) 0x30B),
    (ccDcTick, failIf (proposing && distTickBad j) 0x30D) ]

/-- Block index of a word: 0xFF outside any indexed block (R729). -/
def wordIndex (a : Nat) : Nat :=
  match locate a with
  | some (b, n, _) => if b.count = 1 then 0xFF else n
  | none => 0xFF

/-- The failures of a validation: code, block index and word address (R551). -/
def validate (s : State) (proposing agreed : Bool) : List (Nat × Nat × Nat) :=
  (allChecks { c := s.stagedView, written := s.txn.written, s := s } proposing agreed).flatMap
    fun (code, as) => as.map fun a => (code, wordIndex a, a)

end Sys2Proof.Machine
end

