-- ==== Sys2Proof/Machine/Txn.lean ====
section
/-!
DEFINITION. Sys2Proof/Machine/Txn.lean: the transaction: its commands, boundaries, validation, the flip, roll-back and timeout (R545
to R556, R563 to R568), and the distributed commit (R414 to R418, R424 to R427).
-/
namespace Sys2Proof.Machine

/-- RESULT codes (R727). -/
def trCommitted : Nat := 1
def trRefused : Nat := 2
def trRolledBack : Nat := 3
def trTimedOut : Nat := 4
def trPower : Nat := 5
def trAborted : Nat := 6
def trNoDecision : Nat := 7
def trNotApplied : Nat := 8

/-- KINDs of COMMIT and ACK cells (R397, R398). -/
def dkPropose : Nat := 1
def dkGo : Nat := 2
def dkAbort : Nat := 3
def akReady : Nat := 1
def akRefused : Nat := 2
def akApplied : Nat := 3
def akNotApplied : Nat := 4

/-- EVALUATE of the present tick has begun (R547). -/
def evaluateBegun (s : State) : Bool := !s.time.running || s.time.phase != .sample

/-- TXN_ERR of a master (R729). -/
def setTxnErr (s : State) (m : Master) (code index : Nat) : State := s.onHost m fun h => { h with errCode := code, errIndex := index }

/-- A refused TXN_CTRL command: TXN_ERR and the echo record the cause, nothing else changes (R546). -/
def refuseTxn (s : State) (m : Master) (cmd code : Nat) : State := echo (setTxnErr s m code 0xFF) m 0x18 cmd [] code

/-- An accepted TXN_CTRL command is echoed. -/
def acceptTxn (s : State) (m : Master) (cmd : Nat) : State := echo s m 0x18 cmd [] resAccepted

/-- The owner's staged write or command restarts TXN_TIMEOUT (R555). -/
def touchTxn (s : State) : State := s.onTxn fun t => { t with touchAt := some s.safe.p.clk, spent := t.spent.map fun _ => 0 }

/-- TXN_TIMEOUT is suspended, and runs on with what is left of it (R555). -/
def pauseTxn (s : State) : State := s.onTxn fun t => { t with spent := t.touchAt.map fun u => s.safe.p.clk - u }
def resumeTxn (s : State) : State :=
  match s.txn.spent with
  | some e => s.onTxn fun t => { t with touchAt := some (s.safe.p.clk - e), spent := none }
  | none => s

/-! ## Roll-back (R556, R416, R426) -/

/-- An ACK of this participant to the originator of its exchange, from its present address, waits for DISPATCH of `tick`. -/
def oweAck (s : State) (kind cause code tick : Nat) : State :=
  let own := laceAddr s.act
  s.onLace fun l => { l with
    ackDue := l.ackDue ++ [{ ack := { kind := kind, cause := cause, txnErr := code }, id := l.dcId, dst := l.dcSrc, own := own, tick := tick }] }

/-- What a roll-back by command or timeout means for a distributed commit: an originator that has not decided decides ABORT with cause
HOST (R416); a participant that sent READY will not apply, and says so at TARGET (R426). -/
def dcRollback (s : State) : State :=
  match s.txn.st with
  | .proposed => s.onLace fun l => { l with decision := dkAbort, abortCause := 3, dc := .aborted, lastResult := 3 }
  | .prepared | .agreed => oweAck (s.onLace fun l => { l with dc := .notApplied }) akNotApplied 1 0 s.lace.dcTarget
  | _ => s

/-- The transaction ends with a result and without its staged writes. -/
def endTxn (s : State) (result : Nat) : State :=
  s.onTxn fun t => { t with
    st := .idle, owner := none, result := result, validated := false, written := [], staged := [], touchAt := none, spent := none }

def rollbackTxn (s : State) (result : Nat) : State := endTxn (dcRollback s) result

/-- CORE powers down: an open transaction is rolled back (R117, R152, R432). -/
def txnCoreOff (s : State) : State := if s.txn.st = .idle then s else endTxn s trPower

/-- The transaction returns to open with a result; its staged writes stay. -/
def reopenTxn (s : State) (result : Nat) : State :=
  (resumeTxn s).onTxn fun t => { t with st := .opened, result := result, validated := false }

/-! ## Commands (R546, R547) -/

/-- The 64-bit tick whose low 32 bits are given and that follows tick `j` (R547). -/
def extendTick (at_ j : Nat) : Nat := j + 1 + (at_ + 2 ^ 32 - (j + 1) % 2 ^ 32) % 2 ^ 32

/-- A commit command is accepted: PENDING with its boundary. -/
def acceptCommit (s : State) (m : Master) (cmd : Nat) (k : CommitKind) (tick : Nat) : State :=
  acceptTxn (pauseTxn (touchTxn (s.onTxn fun t => { t with
    st := .pending, kind := k, commitTick := tick, validated := false, armId := t.dcId }))) m cmd

/-- A command of the transaction is judged: the cause of its refusal, if any. -/
def txnRefusal (s : State) (m : Master) (commits : Bool) (okIn : TxnState → Bool) : Option Nat :=
  if commits && !s.coreOn then some ccCoreOff
  else if s.txn.owner ≠ some m then some ccNotOwner
  else if !okIn s.txn.st then some ccWrongState
  else none

def txnBegin (s : State) (m : Master) : State :=
  if !s.writable then s
  else if !s.coreOn then refuseTxn s m 1 ccCoreOff
  else if s.txn.st ≠ .idle then refuseTxn s m 1 ccBusy
  else if s.pwr.shut ≠ .none then refuseTxn s m 1 ccWrongState
  else
    let s := s.onTxn fun t => { t with st := .opened, owner := some m, result := 0, abortIgnored := false, written := [], staged := [],
                                       validated := false }
    acceptTxn (touchTxn (setTxnErr s m 0 0)) m 1

def commitNext (s : State) (m : Master) : State :=
  if !s.writable then s else
  match txnRefusal s m true (· == .opened) with
  | some e => refuseTxn s m 2 e
  | none => acceptCommit s m 2 .next (s.curTick + (if evaluateBegun s then 2 else 1))

def commitAtTick (s : State) (m : Master) : State :=
  if !s.writable then s else
  match txnRefusal s m true (· == .opened) with
  | some e => refuseTxn s m 3 e
  | none =>
    let j := s.curTick
    let t := extendTick s.txn.at_ j
    if j + 2 ^ 31 < t ∨ (t = j + 1 ∧ evaluateBegun s = true) then refuseTxn s m 3 ccLate else acceptCommit s m 3 .atTick t

def commitAtTime (s : State) (m : Master) : State :=
  if !s.writable then s else
  match txnRefusal s m true (· == .opened) with
  | some e => refuseTxn s m 4 e
  | none =>
    let j := s.curTick
    let t := atTimeTick s
    if t ≤ j ∨ (t = j + 1 ∧ evaluateBegun s = true) then refuseTxn s m 4 ccLate
    else if j + 2 ^ 31 < t then refuseTxn s m 4 ccBadValue
    else acceptCommit s m 4 .atTime t

/-- COMMIT_DIST: TARGET is extended as for COMMIT_AT_TICK; validation follows in the next EVALUATE that has not begun (R553). -/
def commitDist (s : State) (m : Master) : State :=
  if !s.writable then s else
  match txnRefusal s m true (· == .opened) with
  | some e => refuseTxn s m 5 e
  | none => acceptCommit s m 5 .dist (extendTick s.txn.at_ s.curTick)

def armDc (s : State) (m : Master) : State :=
  if !s.writable then s else
  match txnRefusal s m false (· == .opened) with
  | some e => refuseTxn s m 6 e
  | none => acceptTxn (touchTxn (s.onTxn fun t => { t with st := .armed, kind := .dist, armId := t.dcId })) m 6

def disarm (s : State) (m : Master) : State :=
  if !s.writable then s else
  match txnRefusal s m false (· == .armed) with
  | some e => refuseTxn s m 7 e
  | none => acceptTxn (touchTxn (s.onTxn fun t => { t with st := .opened })) m 7

/-- The flip took place in this very cycle, for this master's commit (R564). -/
def flippedNow (s : State) (m : Master) : Bool := s.txn.st == .idle && s.txn.flipBy == some (s.time.bench, m)

def rollbackCmd (s : State) (m : Master) : State :=
  if !s.writable then s
  else if flippedNow s m then acceptTxn (s.onTxn fun t => { t with abortIgnored := true }) m 8
  else match txnRefusal s m false (· != .idle) with
  | some e => refuseTxn s m 8 e
  | none =>
    if s.txn.st = .agreed ∧ s.lace.role = .originator then refuseTxn s m 8 ccTooLate
    else acceptTxn (rollbackTxn s trRolledBack) m 8

def keepalive (s : State) (m : Master) : State :=
  if !s.writable then s else
  match txnRefusal s m false (· != .idle) with
  | some e => refuseTxn s m 9 e
  | none => acceptTxn (touchTxn s) m 9

/-- TXN_TIMEOUT runs in this state (R555). -/
def timeoutRuns (s : State) : Bool :=
  match s.txn.st with
  | .opened | .armed | .proposed | .prepared => true
  | .agreed => s.lace.role == .participant
  | _ => false

/-- More than TXN.CFG.TIMEOUT has run since the owner's last access: an access in the very cycle in which it ends still restarts it (R555, R565). -/
def timeoutOver (s : State) : Bool :=
  match s.txn.touchAt with
  | some t => decide (t + s.txn.timeout * 10000000000 < s.safe.p.clk)
  | none => false

/-- TXN_TIMEOUT expires (R555). -/
def txnTimeout (s : State) : State :=
  if !s.coreOn || !timeoutRuns s || !timeoutOver s then s else raise (rollbackTxn s trTimedOut) evTxnTimeout

/-! ## Validation and the flip (R548 to R550, R553, R554, R566, R567) -/

/-- A refused commit leaves the transaction open with the causes (R550, R551). -/
def refuseCommit (s : State) (errs : List (Nat × Nat × Nat)) (result : Nat) : State :=
  let e := errs.headD (0, 0, 0)
  let s := match s.txn.owner with | some m => setTxnErr s m e.1 e.2.1 | none => s
  raise (reopenTxn (s.onTxn fun t => { t with errList := errs.take 8 }) result) evRefused

/-- The originator's commit has passed: PROPOSE goes out in this tick's DISPATCH (R414). -/
def proposeDc (s : State) : State :=
  let t := s.txn
  let s := (resumeTxn s).onTxn fun t => { t with st := .proposed, errList := [] }
  s.onLace fun l => { l with
    role := .originator, dc := .proposed, dcId := t.armId, dcTarget := t.commitTick, dcMask := t.dcMask, dcNet := t.dcNet,
    acks := Vector.replicate 32 default, decision := 0, abortCause := 0, proposeDue := true, dcDone := false, splitAt := none,
    lastDcId := t.armId, lastResult := 0 }

/-- An agreed commit fails its final validation (R417, R554); an originator judges the participants as after its own application. -/
def dcFinalFail (s : State) (errs : List (Nat × Nat × Nat)) : State :=
  let s := (refuseCommit s errs trNotApplied).onLace fun l => { l with dc := .notApplied }
  if s.lace.role = .participant then oweAck s akNotApplied 2 (errs.headD (0, 0, 0)).1 s.lace.dcTarget
  else
    let guard := dcGuard s.act
    s.onLace fun l => { l with splitAt := some (l.dcTarget + guard), lastResult := 2 }

/-- Commit validation in EVALUATE. A commit whose boundary lies at or before the next one is due; one that a jump or an overrun made
late is applied at the following boundary (R548, R566, R567). -/
def commitValidate (s : State) : State :=
  let due := decide (s.txn.commitTick ≤ s.curTick + 1) && !s.txn.validated
  match s.txn.st, s.txn.kind with
  | .pending, .dist =>
    let errs := validate s true false
    if errs.isEmpty then proposeDc s else refuseCommit s errs trRefused
  | .pending, _ =>
    if !due then s else
    let s := s.onTxn fun t => { t with commitTick := s.curTick + 1 }
    let errs := validate s false false
    if errs.isEmpty then s.onTxn fun t => { t with validated := true, errList := [] } else refuseCommit s errs trRefused
  | .agreed, _ =>
    if !due then s else
    let errs := validate s false true
    if errs.isEmpty then s.onTxn fun t => { t with validated := true, errList := [] } else dcFinalFail s errs
  | _, _ => s

/-- The active copy with every staged word put in place. -/
def flipWords (staged active : List (Nat × Word)) : List (Nat × Word) :=
  staged.foldl (fun l e => sput (resetWordW e.1) e.2 e.1 l) active

/-- The distributed commit has been applied: a participant owes its APPLIED ACK in DISPATCH of TARGET, from its old address (R417,
R427); an originator judges the participants until TARGET + DC_GUARD. -/
def dcApplied (s : State) (addr guard : Nat) : State :=
  let s := s.onLace fun l => { l with dc := .applied }
  if s.lace.role = .participant then
    s.onLace fun l => { l with
      ackDue := l.ackDue ++ [{ ack := { kind := akApplied, cause := 0, txnErr := 0 }, id := l.dcId, dst := l.dcSrc, own := addr, tick := s.txn.commitTick }] }
  else s.onLace fun l => { l with lastResult := 1, splitAt := some (l.dcTarget + guard) }

/-- Commit application in DISPATCH (R548, R566); not in a tick whose GUARD powers CORE down (R152). A PWR_CTRL write that is accepted later in
the same tick finds the selectors flipped, and the commit stands (DESIGN CHOICE, log 72: R152 says the commit is not applied, R556 that
nothing applied is taken back). -/
def commitApply (s : State) : State :=
  let t := s.txn
  if !(t.validated && (t.st == .pending || t.st == .agreed)) || s.pwr.downQueue.contains .core then s else
  let addr := laceAddr s.act
  let guard := dcGuard s.act
  let dist := t.st == .agreed
  let new := s.stagedView
  let cnts := (List.range 16).filter fun c =>
    fCntSrc.val new (cntBase c) != fCntSrc.val s.act (cntBase c) || fCntGate.val new (cntBase c) != fCntGate.val s.act (cntBase c)
  let backs := (List.range 12).filter fun n => inService new (srcBase n) && !inService s.act (srcBase n)
  let bench := s.time.bench
  let seq := s.time.tickSeq
  let s := { s with cfg := { s.cfg with active := flipWords t.staged s.cfg.active, before := s.cfg.active, beforeAt := some bench } }
  let s := s.onTxn fun x => { x with
    commitTick := s.curTick + 1, flipTick := some seq, flipWords := t.written, flipCnts := cnts,
    flipReturns := backs, flipBy := t.owner.map fun m => (bench, m) }
  let s := if dist then dcApplied s addr guard else s
  raise (endTxn s trCommitted) evCommitted

/-! ## The distributed commit on the wire (R414 to R417) -/

/-- The payload of a COMMIT cell of this originator (R397). -/
def commitPayload (s : State) (kind cause : Nat) : List Byte :=
  octetsLE 1 kind ++ octetsLE 2 s.lace.dcId ++ octetsLE 8 s.lace.dcTarget ++ octetsLE 4 s.lace.dcMask ++ octetsLE 2 s.time.period ++
  octetsLE 1 cause

/-- Sends a COMMIT cell on the selected networks. -/
def sendCommit (s : State) (kind cause : Nat) : State :=
  (netsOf s.lace.dcNet).foldl (fun t x =>
    sendNet t x ctCommit .broadcast (laceAddr t.act) 0x3F (commitPayload t kind cause) ((netPorts x).filter fun p => portIsUp t p)) s

/-- Sends an ACK to its originator on both networks, wherever a port is UP (R415, R427). -/
def sendAck (s : State) (a : DueAck) : State :=
  let payload := octetsLE 1 a.ack.kind ++ octetsLE 2 a.id ++ octetsLE 1 a.ack.cause ++ octetsLE 1 a.ack.txnErr
  forN 2 (fun x t => sendNet t x ctAck .unicast a.own a.dst payload ((unicastPorts t x a.dst).filter fun p => portIsUp t p)) s

/-- The distributed commit's part of cell composition: PROPOSE once, a decision in every DISPATCH up to TARGET − 2, ACKs when due; an
APPLIED or NOT_APPLIED enters the STATE cells (R414 to R417). -/
def composeCommit (s : State) : State :=
  let s := if s.lace.proposeDue then (sendCommit s dkPropose 0).onLace fun l => { l with proposeDue := false } else s
  let s := if s.lace.role = .originator ∧ s.lace.decision ≠ 0 ∧ s.curTick + 2 ≤ s.lace.dcTarget then
      sendCommit s s.lace.decision s.lace.abortCause else s
  let due := s.lace.ackDue.filter fun e => decide (e.tick ≤ s.curTick)
  let s := s.onLace fun l => { l with ackDue := l.ackDue.filter fun e => decide (s.curTick < e.tick) }
  due.foldl (fun t e =>
    (sendAck t e).onLace fun l => { l with
      lastResult := if e.id ≠ l.lastDcId then l.lastResult
        else if e.ack.kind = akApplied then 1 else if e.ack.kind = akNotApplied then 2 else l.lastResult }) s

/-- The cause for which a participant refuses a PROPOSE (R415), with the TXN_ERR code; none: it is ready. -/
def proposeRefusal (s : State) (c : Cell) : Option (Nat × Nat) :=
  let busy := s.txn.st == .prepared || s.txn.st == .agreed
  if busy then some (6, 0)
  else if !(s.txn.st == .armed && s.txn.armId == cellField c 8 2) then some (1, 0)
  else if cellField c 22 2 ≠ s.time.period ∨ r30Holds s c.net = true then some (3, ccDcTick)
  else if s.pwr.supplyLow then some (4, ccSupplyLow)
  else if cellField c 10 8 < s.curTick + 2 then some (5, ccLate)
  else
    let errs := validate s false false
    if errs.isEmpty then none else some (2, (errs.headD (0, 0, 0)).1)

/-- A PROPOSE that names this hub is processed: its first copy only. A refusal leaves DC_STATUS, and an exchange in progress, as they are
(R415). -/
def processPropose (s : State) (c : Cell) : State :=
  let id := cellField c 8 2
  if !bitOf (cellField c 18 4) (laceAddr s.act) || s.lace.proposed.contains (c.src, id) then s else
  let s := raise (s.onLace fun l => { l with proposed := (c.src, id) :: l.proposed.filter fun e => e.1 != c.src }) evDcPropose
  match proposeRefusal s c with
  | none =>
    let target := cellField c 10 8
    let s := s.onTxn fun t => { t with st := .prepared, commitTick := target, validated := false }
    oweAck (s.onLace fun l => { l with
      role := .participant, dc := .prepared, dcId := id, dcTarget := target, dcSrc := c.src, lastDcId := id, lastResult := 0,
      splitAt := none, decision := 0 }) akReady 0 0 s.curTick
  | some (cause, code) =>
    let s := if cause = 1 ∨ cause = 6 then s
      else if cause = 2 then refuseCommit s (validate s false false) trRefused
      else (match s.txn.owner with | some m => setTxnErr (reopenTxn s trRefused) m code 0xFF | none => s)
    let ack : DueAck :=
      { ack := { kind := akRefused, cause := cause, txnErr := if cause = 2 then code else 0 }, id := id, dst := c.src,
        own := laceAddr s.act, tick := s.curTick }
    raise (s.onLace fun l => { l with ackDue := l.ackDue ++ [ack] }) evDcRefused

/-- A decision of the originator is processed by a participant that sent READY, up to EVALUATE of TARGET − 1 (R417). -/
def processDecision (s : State) (c : Cell) : State :=
  let l := s.lace
  if l.role ≠ .participant ∨ l.dcId ≠ cellField c 8 2 ∨ l.dcSrc ≠ c.src ∨ l.dcTarget < s.curTick + 1 then s
  else if cellField c 7 1 = dkGo then
    if s.txn.st = .prepared then (s.onTxn fun t => { t with st := .agreed }).onLace fun l => { l with dc := .agreed } else s
  else if s.txn.st = .prepared ∨ s.txn.st = .agreed then
    raise ((reopenTxn s trAborted).onLace fun l => { l with dc := .aborted, lastResult := 3 }) evDcAborted
  else s

/-- A COMMIT cell is processed (R397). -/
def processCommit (s : State) (c : Cell) : State :=
  match cellField c 7 1 with
  | 1 => processPropose s c
  | 2 => processDecision s c
  | 3 => processDecision s c
  | _ => s

/-- Some, or every, participant's last ACK has a KIND. -/
def anyAck (l : LaceDev) (kind : Nat) : Bool := (List.range 32).any fun a => bitOf l.dcMask a && (vat l.acks a).kind == kind
def allAck (l : LaceDev) (kind : Nat) : Bool := (List.range 32).all fun a => !bitOf l.dcMask a || (vat l.acks a).kind == kind

/-- The originator decides ABORT: the transaction returns to open (R416, R553). -/
def decideAbort (s : State) (cause : Nat) : State :=
  (reopenTxn s trAborted).onLace fun l => { l with decision := dkAbort, abortCause := cause, dc := .aborted, lastResult := 3 }

/-- An ACK is processed by the originator (R416, R417). -/
def processAck (s : State) (c : Cell) : State :=
  let l := s.lace
  if l.role ≠ .originator ∨ l.dcId ≠ cellField c 8 2 ∨ bitOf l.dcMask c.src = false then s else
  let kind := cellField c 7 1
  let a : DcAck := { kind := kind, cause := cellField c 10 1, txnErr := cellField c 11 1 }
  if vat l.acks c.src = a then s else
  let s := s.onLace fun l => { l with acks := vupd l.acks c.src fun _ => a }
  if kind = akReady then
    if s.txn.st = .proposed ∧ allAck s.lace akReady = true then
      (pauseTxn (s.onTxn fun t => { t with st := .agreed, validated := false })).onLace fun l => { l with
        decision := dkGo, dc := .agreed }
    else s
  else if kind = akRefused then
    let s := raise s evDcRefused
    if s.txn.st = .proposed then decideAbort s 1 else s
  else if kind = akApplied then
    if l.decision = dkGo ∧ allAck s.lace akApplied = true ∧ l.dcDone = false then
      raise (s.onLace fun l => { l with dcDone := true }) evDcApplied
    else s
  else if kind = akNotApplied ∧ l.decision = dkGo then raise s evDcSplit
  else s

/-- At EVALUATE of TARGET − DC_GUARD replies are missing: ABORT (R416). -/
def dcDeadline (s : State) : State :=
  if s.txn.st = .proposed ∧ s.lace.dcTarget ≤ s.curTick + dcGuard s.act then
    decideAbort s (if anyAck s.lace akRefused then 1 else 2)
  else s

/-- At EVALUATE of TARGET − 1 a participant without a decision gives up (R417). -/
def dcResolve (s : State) : State :=
  if s.txn.st = .prepared ∧ s.lace.dcTarget ≤ s.curTick + 1 then
    raise ((reopenTxn s trNoDecision).onLace fun l => { l with dc := .noDecision, lastResult := 4 }) evDcNoDecision
  else s

/-- The STATE cells of hub `a` show APPLIED for the exchange (R417). -/
def stateApplied (s : State) (a : Nat) : Bool :=
  (List.range 2).any fun x =>
    let e := topo s x a
    e.seen && ofOctetsLE ((e.content.drop 6).take 2) == s.lace.dcId && ofOctetsLE ((e.content.drop 8).take 1) == 1

/-- At TARGET + DC_GUARD a participant that has shown no APPLIED splits the commit (R417). -/
def dcSplitCheck (s : State) : State :=
  match s.lace.splitAt with
  | some t =>
    if s.curTick < t then s else
    let l := s.lace
    let missing := (List.range 32).any fun a => bitOf l.dcMask a && (vat l.acks a).kind != akApplied && !stateApplied s a
    raiseIf missing (s.onLace fun l => { l with splitAt := none }) evDcSplit 0 0
  | none => s

/-! ## Received cells in EVALUATE (R70, R74, R76) -/

/-- One received cell of port `p` is processed. -/
def processCell (s : State) (p : Nat) (r : RxCell) : State :=
  match r.cell.typ with
  | 1 => processTime s p r
  | 2 => processQl s p r.cell
  | 4 => processCommit s r.cell
  | 5 => processEye s r.cell
  | 6 => processState s p r.cell
  | 7 => processAck s r.cell
  | _ => s

/-- Processes the `k` oldest received cells of port `p`; the rest stay in the queue. -/
def processCells (s : State) (p k : Nat) : State :=
  let q := (vat s.ports p).rxq
  (q.take k).foldl (fun u r => processCell u p r) (s.onPort p fun x => { x with rxq := q.drop k })

/-- Port `p`'s share of the job: at most `k` cells, and what is left of the room. -/
def cellsTurn (k : Nat) (t : State × Option Nat) (p : Nat) : State × Option Nat :=
  let n := min k (vat t.1.ports p).rxq.length
  (processCells t.1 p (min n (t.2.getD n)), t.2.map (· - n))

/-- Received cell processing: each port up to its limit of the tick, oldest first, `room` cells in all; then what the distributed commit owes
at this EVALUATE. -/
def cellsJob (s : State) (room : Option Nat) : State :=
  let r := (List.range 4).foldl (cellsTurn (rxLimit s.time.period)) (s, room)
  if r.2.isSome then r.1 else dcSplitCheck (dcResolve (dcDeadline r.1))

/-! ## Commands -/

def execBegin (m : Master) (s : State) : Host.Outcome State Fault Refusal := .next (txnBegin (access s m) m)
def execCommitNext (m : Master) (s : State) : Host.Outcome State Fault Refusal := .next (commitNext (access s m) m)
def execCommitAtTick (m : Master) (s : State) : Host.Outcome State Fault Refusal := .next (commitAtTick (access s m) m)
def execCommitAtTime (m : Master) (s : State) : Host.Outcome State Fault Refusal := .next (commitAtTime (access s m) m)
def execCommitDist (m : Master) (s : State) : Host.Outcome State Fault Refusal := .next (commitDist (access s m) m)
def execArmDc (m : Master) (s : State) : Host.Outcome State Fault Refusal := .next (armDc (access s m) m)
def execDisarm (m : Master) (s : State) : Host.Outcome State Fault Refusal := .next (disarm (access s m) m)
def execRollback (m : Master) (s : State) : Host.Outcome State Fault Refusal := .next (rollbackCmd (access s m) m)
def execKeepalive (m : Master) (s : State) : Host.Outcome State Fault Refusal := .next (keepalive (access s m) m)
def execTxnTimeout (s : State) : Host.Outcome State Fault Refusal := .next (txnTimeout s)

/-- A COMMIT cell with KIND PROPOSE arrives (R415, processPropose). -/
def execPropose (p : Fin 4) (c : Cell) (s : State) : Host.Outcome State Fault Refusal := .next (receiveCell s p c s.now)

/-- A COMMIT cell with KIND GO arrives (R417, processDecision). -/
def execGo (p : Fin 4) (c : Cell) (s : State) : Host.Outcome State Fault Refusal := .next (receiveCell s p c s.now)

/-- A COMMIT cell with KIND ABORT arrives (R417, processDecision). -/
def execAbortDc (p : Fin 4) (c : Cell) (s : State) : Host.Outcome State Fault Refusal := .next (receiveCell s p c s.now)

/-- An ACK cell with KIND READY arrives (R416, processAck). -/
def execReady (p : Fin 4) (c : Cell) (s : State) : Host.Outcome State Fault Refusal := .next (receiveCell s p c s.now)

/-- An ACK cell with KIND REFUSED arrives (R416, processAck). -/
def execRefused (p : Fin 4) (c : Cell) (s : State) : Host.Outcome State Fault Refusal := .next (receiveCell s p c s.now)

/-- An ACK cell with KIND APPLIED arrives (R417, processAck). -/
def execApplied (p : Fin 4) (c : Cell) (s : State) : Host.Outcome State Fault Refusal := .next (receiveCell s p c s.now)

/-- An ACK cell with KIND NOT_APPLIED arrives (R417, processAck). -/
def execNotApplied (p : Fin 4) (c : Cell) (s : State) : Host.Outcome State Fault Refusal := .next (receiveCell s p c s.now)

/-- DC_DEADLINE (R416). -/
def execDcDeadline (s : State) : Host.Outcome State Fault Refusal :=
  .next (if s.coreOn && s.time.phase == .evaluate then dcDeadline s else s)

/-- DC_PARTICIPANT_RESOLVE (R417): no decision, or the final validation of an agreed commit. -/
def execDcParticipantResolve (s : State) : Host.Outcome State Fault Refusal :=
  .next (if s.coreOn && s.time.phase == .evaluate && s.lace.role == .participant then
    (let t := dcResolve s; if t.txn.st = .agreed then commitValidate t else t) else s)

/-- DC_SPLIT_CHECK (R417). -/
def execDcSplitCheck (s : State) : Host.Outcome State Fault Refusal := .next (if s.coreOn then dcSplitCheck s else s)

end Sys2Proof.Machine
end

