-- ==== Sys2Proof/Machine/NvmRec.lean ====
section
/-!
DEFINITION. Sys2Proof/Machine/NvmRec.lean: the NVM (R138, R783): its octets, the A/B record copies (R130, R139, R784), and the data of
the profile, model and safety records (R785).
-/
namespace Sys2Proof.Machine

/-! ## Octets and sectors -/

/-- An octet of the NVM; an erased octet reads 0xFF (log 14). -/
def nvmOctet (s : State) (a : Nat) : Byte := sget 0xFF s.nvm.mem a

/-- NVM.RAW word `w`: octet 2w in bits 7:0, octet 2w + 1 in bits 15:8 (R783). -/
def nvmWord (s : State) (w : Nat) : Word :=
  (nvmOctet s (2 * w + 1)).setWidth 16 <<< 8 ||| (nvmOctet s (2 * w)).setWidth 16

/-- Erases a sector of 4 KiB (R138). -/
def nvmErase (s : State) (sector : Nat) : State :=
  s.onNvm fun v => { v with mem := v.mem.filter fun c => !(decide (4096 * sector ≤ c.1) && decide (c.1 < 4096 * sector + 4096)) }

/-- Programs octets from an address on. -/
def nvmProgram (s : State) (a : Nat) (bs : List Byte) : State :=
  s.onNvm fun v => { v with mem := (bs.mapIdx fun i b => (a + i, b)).foldl (fun m p => sput 0xFF p.2 p.1 m) v.mem }

/-- Work on the NVM can start: VDD33 at or above its rising warning threshold, no SUPPLY_LOW, no SHUTDOWN (R138, R142); `vddOk`: VDD33
is there now. -/
def nvmMay (s : State) (vddOk : Bool) : Bool := !s.pwr.supplyLow && !s.pwr.warn33 && vddOk && s.pwr.shut != .ended

/-! ## Record copies (R130, R139, R784). Records 0 to 3 are the profiles, 4 the model, 5 the safety parameters. -/

def recMagic (r : Nat) : Nat := if r < 4 then 0x5046 else if r = 4 then 0x4C4D else 0x5350

/-- Data lengths that check: a profile up to 1,792 words, the fixed layouts of R785 otherwise. -/
def recLenOk (r n : Nat) : Bool := if r < 4 then rng 1 1792 n else if r = 4 then n == 128 else n == 256

/-- Sector of a copy: A in sector 2r, B in 2r + 1 (R783). -/
def recSector (r : Nat) (b : Bool) : Nat := 2 * r + b2n b

/-- Header word `i` of a copy. -/
def recHeader (s : State) (r : Nat) (b : Bool) (i : Nat) : Nat := (nvmWord s (2048 * recSector r b + i)).toNat

/-- Sequence number in a copy's header. -/
def recSeq (s : State) (r : Nat) (b : Bool) : Nat := recHeader s r b 2 + 65536 * recHeader s r b 3

/-- The data words of a copy, from its second page on. -/
def recData (s : State) (r : Nat) (b : Bool) : List Word :=
  (List.range (recHeader s r b 1)).map fun i => nvmWord s (2048 * recSector r b + 256 + i)

/-- A copy is valid when its magic word, length and CRC-32C check and its header carries the commit mark (R130). -/
def recValid (s : State) (r : Nat) (b : Bool) : Bool :=
  recHeader s r b 0 == recMagic r && recHeader s r b 6 == 0x600D && recLenOk r (recHeader s r b 1) &&
    crc32c (octetsOfWords (recData s r b)) == recHeader s r b 4 + 65536 * recHeader s r b 5

/-- The copy in use: of two valid copies the one with the higher sequence number (R130); of equal ones A (log 40). -/
def recBest (s : State) (r : Nat) : Option Bool :=
  match recValid s r false, recValid s r true with
  | true, true => some (decide (recSeq s r false < recSeq s r true))
  | true, false => some false
  | false, true => some true
  | false, false => none

/-- Exactly one copy is valid (EV_PWR_BOOT_COPY). -/
def recLone (s : State) (r : Nat) : Bool := recValid s r false != recValid s r true

/-- The copy that a write replaces: the one not in use (R139). -/
def recTarget (s : State) (r : Nat) : Bool := match recBest s r with | some b => !b | none => false

/-- Sequence number of the next record. -/
def recNextSeq (s : State) (r : Nat) : Nat := match recBest s r with | some b => (recSeq s r b + 1) % 2 ^ 32 | none => 1

/-- A record write begins: the older copy's sector is erased, and the NVM is busy (R139). -/
def recBegin (s : State) (r : Nat) : State :=
  let k := recSector r (recTarget s r)
  (nvmErase s k).onNvm fun v => { v with busy := some k }

/-- The header page's words: magic word, length, sequence number, CRC-32C, commit mark (R784). -/
def recHeaderOf (r seq : Nat) (data : List Word) : List Word :=
  [Word.ofN (recMagic r), Word.ofN data.length] ++ wordsLE 2 seq ++ wordsLE 2 (crc32c (octetsOfWords data)) ++ [(0x600D : Word), 0x0001]

/-- A record write ends: data pages, then the header page with CRC-32C and commit mark (R139, R784). -/
def recEnd (s : State) (r : Nat) (data : List Word) : State :=
  let a := 4096 * recSector r (recTarget s r)
  let header := recHeaderOf r (recNextSeq s r) data
  (nvmProgram (nvmProgram s (a + 512) (octetsOfWords data)) a (octetsOfWords header)).onNvm fun v => { v with busy := none }

/-- Data pages of a record, of 256 words each (R138). -/
def dataPages (data : List Word) : Nat := (data.length + 255) / 256

/-- The first `k` pages of a record are programmed: the data pages, then the header page (R139). -/
def recPages (s : State) (r : Nat) (data : List Word) (k : Nat) : State :=
  if dataPages data < k then recEnd s r data
  else nvmProgram s (4096 * recSector r (recTarget s r) + 512) (octetsOfWords (data.take (256 * k)))

/-- The NVM stops being busy, with the record under way left invalid (R139, R144). -/
def recCut (s : State) : State := s.onNvm fun v => { v with busy := none }

/-! ## Profiles (R785) -/

/-- The triple of a word: address 15:0, address 23:16, value. -/
def triple (a : Nat) (v : Word) : List Word := [Word.ofN a, Word.ofN (a / 65536), v]

/-- The data of a profile record: PWR_CTRL, AUTO_START, then every other RWS word whose active value differs from its reset value. -/
def profileData (s : State) : List Word :=
  triple 0x5 (Word.ofN s.pwr.ctrl) ++ triple 0x16C (Word.ofN (fAutoStart.val s.act 0)) ++
    (s.cfg.active.filter fun c => c.1 != 0x16C).flatMap fun c => triple c.1 c.2

/-- The triples of a record's data: address and value. -/
def triples : List Word → List (Nat × Word)
  | a :: b :: v :: ws => (a.toNat + 65536 * (b.toNat % 256), v) :: triples ws
  | _ => []

/-- The leading PWR_CTRL triple, and the triples that are left. -/
def leadPwr : List (Nat × Word) → Option Nat × List (Nat × Word)
  | (a, v) :: ts => if a = 0x5 then (some (v.toNat % 16), ts) else (none, (a, v) :: ts)
  | [] => (none, [])

/-- A word alone that R16 would refuse: a field lying in it whole is outside its values. -/
def wordBad (a : Nat) (v : Word) : Bool :=
  (fieldsAt a).any fun (f, base) => f.words == 1 && !f.ok (f.val (fun _ => v.toNat) base)

/-- Whether a triple is taken: an RWS word, and a value that R16 accepts. -/
def tripleOk (t : Nat × Word) : Bool := isRws t.1 && !wordBad t.1 t.2

/-- A configuration word as it is stored: reserved bits are ignored (R15). -/
def cfgWord (a : Nat) (v : Word) : Word := Word.ofN (v.toNat &&& cfgMask a)

/-- The active copy that a list of triples gives, from reset values. -/
def activeOf (ts : List (Nat × Word)) : List (Nat × Word) :=
  (ts.filter tripleOk).foldl (fun c t => sput (resetWordW t.1) (cfgWord t.1 t.2) t.1 c) []

/-! ## The Last model (R283, R785) -/

/-- A coefficient as a signed 32-bit number, with the free rounding of log 1. -/
def coefWord (x : Rat) : Nat := wrapI 32 (clampI 32 (ratFree 70 x))

/-- The validity flags as one word. -/
def setFlags (x : SensorSet) : Nat := b2n x.temp1 + 2 * b2n x.temp2 + 4 * b2n x.ageV

/-- The 60 words of a sensor set. -/
def setData (x : SensorSet) : List Word :=
  [Word.ofN (wrapI 16 (x.tref.getD 0))] ++ wordsLE 2 (coefWord x.b0) ++ wordsLE 2 (coefWord x.k1) ++ wordsLE 2 (coefWord x.k2) ++
    wordsLE 2 (coefWord x.a) ++ (List.range 10).flatMap (fun i => wordsLE 4 (binary64 (x.cov.getD i (Config.modelCov0 i)))) ++
    [Word.ofN x.span] ++ wordsLE 2 x.minutes ++ wordsLE 2 x.residual ++ [Word.ofN (setFlags x)] ++ List.replicate 5 0

/-- The data of a model record. -/
def modelData (s : State) : List Word :=
  wordsLE 2 (fXoFreq.val s.act spllBase) ++ wordsLE 2 s.model.xoAge ++ wordsLE 3 s.benchSec ++
    [Word.ofN (fAgeTau.val s.act modelBase)] ++ setData s.model.ts ++ setData s.model.die

/-- Words `i` to `i + k − 1` of a record's data as a number. -/
def dataAt (d : List Word) (i k : Nat) : Nat := ofWordsLE ((d.drop i).take k)

/-- A sensor set as a record saved at XO age `age` gives it, from word `i` on; a set without learned minutes has no TREF (log 41). The minutes
behind its span, its residual and its 72 h are not in the record: the span stands for itself, the residual as that of one minute, and a valid
AGE term for 72 h of cover (log 69). With `restart` the XO age starts at 0 again. -/
def setOf (d : List Word) (i : Nat) (restart : Bool) : SensorSet :=
  let n := dataAt d (i + 50) 2
  let age := if restart then 0 else dataAt d 2 2
  let span := dataAt d (i + 49) 1
  let residual := dataAt d (i + 52) 2
  let tref := signedN 16 (dataAt d i 1)
  let ageV := bitOf (dataAt d (i + 54) 1) 2
  { SensorSet.blank with
    tref := if n = 0 then none else some tref
    b0 := signedN 32 (dataAt d (i + 1) 2), k1 := signedN 32 (dataAt d (i + 3) 2), k2 := signedN 32 (dataAt d (i + 5) 2)
    a := signedN 32 (dataAt d (i + 7) 2)
    cov := if n = 0 then [] else (List.range 10).map fun j => ofBinary64 (dataAt d (i + 9 + 4 * j) 4)
    span := span, minutes := n, residual := residual
    restored := if n = 0 then none else some (span, age)
    mins := if n = 0 then [] else [{ age := age, temp := tref, err2 := (residual : Rat) * residual }]
    firstAge := if n = 0 || restart then none else some (if ageV then age - 72 * 3600 else age)
    temp1 := bitOf (dataAt d (i + 54) 1) 0, temp2 := bitOf (dataAt d (i + 54) 1) 1, ageV := ageV && !restart }

/-- A model record is taken into use: both sets, the time and age of the save; at a power-on reset the XO age, which AGE_POWER = RESTART
makes 0, clearing AGE_VALID (R130, R282). -/
def modelLoad (s : State) (d : List Word) (powerOn : Bool) : State :=
  let restart := powerOn && fAgePower.on s.act modelBase
  let age := dataAt d 2 2
  s.onModel fun m => { m with
    ts := setOf d 8 restart, die := setOf d 68 restart, saveSec := dataAt d 4 3, saveAge := age, saveFrom := if restart then 0 else age
    xoAge := if !powerOn then m.xoAge else if restart then 0 else age }

/-- The image without a model: nothing learned (R130, R285). -/
def modelBlank (s : State) : State :=
  s.onModel fun m => { m with ts := SensorSet.blank, die := SensorSet.blank, secs := [], minDue := [], learnedSince := false }

/-- MODEL_CLEAR clears the image at once; the flags that it clears are reported (R285, R281). -/
def modelClear (s : State) : State := flagEvent s.model (modelBlank s)

/-! ## The safety record -/

/-- The 256 words of an image, and the image that 256 words give. -/
def imageWords (m : ParImage) : List Word := (List.range 256).map fun o => sget 0 m o
def imageOf (d : List Word) : ParImage := (d.mapIdx fun o w => (o, w)).filter fun c => c.2 != 0

end Sys2Proof.Machine
end

