-- ==== Sys2Proof/Machine/OpQueue.lean ====
section
/-!
DEFINITION. Sys2Proof/Machine/OpQueue.lean: the queue of long operations (R557 to R561, R569, R137, R142), and what an operation or a
power change does to the service session and the debug level (R622, R632 to R634).
-/
namespace Sys2Proof.Machine

/-! ## Result codes (R733) -/

def orDone : Nat := 0x01
def orRefused : Nat := 0x02
def orLocked : Nat := 0x03
def orRateLimit : Nat := 0x04
def orNvmFail : Nat := 0x05
def orAuthFail : Nat := 0x06
def orNoChallenge : Nat := 0x07
def orBusy : Nat := 0x08
def orDelayed : Nat := 0x09
def orRngFail : Nat := 0x0A
def orKeySet : Nat := 0x0B
def orBadValue : Nat := 0x0C
def orPolicyRaise : Nat := 0x0D
def orFusesExhausted : Nat := 0x0E
def orNoChange : Nat := 0x0F
def orOtpFail : Nat := 0x10
def orNotService : Nat := 0x11
def orInvalid : Nat := 0x12
def orSig : Nat := 0x13
def orActive : Nat := 0x14

/-! ## Operations by code (R558, R626, R629) -/

/-- The listed codes of operations that are queued; ABORT (0xF0) acts at once. -/
def opListed (code : Nat) : Bool := rng 0x01 0x08 code || rng 0x10 0x14 code

/-- Operations that write NVM or OTP, and wait in SUPPLY_LOW (R137, R558, R630). -/
def opWrites (code : Nat) : Bool := [0x01, 0x03, 0x04, 0x05, 0x08, 0x12, 0x13, 0x14].contains code

/-- Operations that burn OTP in one program cycle (R630). -/
def opBurns (code : Nat) : Bool := rng 0x12 0x14 code

/-- Operations that need CORE: self-test, snapshot export and authentication steps (R117). -/
def opNeedsCore (code : Nat) : Bool := [0x06, 0x07, 0x10, 0x11].contains code

/-- The record that an operation writes: a profile, the model or the safety parameters. -/
def opRecord (o : LongOp) : Option Nat :=
  match o.code with
  | 0x01 => some (o.arg0.toNat % 4)
  | 0x03 => some 4
  | 0x04 => some 4
  | 0x05 => some 5
  | _ => none

/-- The erases and page programs of an operation that writes NVM: a record's erase, data pages and header page, or the four sectors of LOG_CLEAR
(R138, R139). -/
def opSteps (o : LongOp) : Nat := if (opRecord o).isSome then 2 + dataPages o.data else 4

/-- The one in progress now: free (log 28). -/
def opStep (s : State) (o : LongOp) : Nat := Config.nvmStep o.ticket s.time.bench % opSteps o

/-- The NVM after the first `k` steps of an operation. -/
def opPart (s : State) (o : LongOp) (k : Nat) : State :=
  match opRecord o with
  | some r => if k = 0 then s else recPages s r o.data (k - 1)
  | none => (List.range k).foldl (fun t i => nvmErase t (12 + i)) s

/-- The NVM where an ABORT ends an operation: after the step in progress, and never with a record complete (R561). -/
def opAborted (s : State) (o : LongOp) : State :=
  if o.st = .running ∧ opWrites o.code = true then opPart s o (min (opStep s o + 1) (opSteps o - 1)) else s

/-- The running operation that erases or programs the NVM. -/
def nvmWork (s : State) : Option LongOp := s.opq.find? fun o => o.st == .running && opWrites o.code && !opBurns o.code

/-- The work on the NVM stops after the step in progress (R137, R140, R144, R145); `torn`: before it ends. -/
def nvmStop (s : State) (torn : Bool) : State :=
  match nvmWork s with
  | some o => recCut (opPart s o (opStep s o + b2n (!torn)))
  | none => s

/-- STATE codes (R732). -/
def OpState.code : OpState → Nat
  | .none => 0 | .queued => 1 | .held => 2 | .running => 3 | .done => 4 | .aborted => 5 | .abortedPower => 6

/-! ## The session and the debug level -/

/-- The highest levels that the policy fuses leave without and with a session: each burned fuse of a pair lowers its level by one, from
D1 and from D2 (R629; log 42). -/
def noSessMax (s : State) : Nat := 1 - (b2n (bitOf s.otp.policy 0) + b2n (bitOf s.otp.policy 1))
def sessMax (s : State) : Nat := 2 - (b2n (bitOf s.otp.policy 2) + b2n (bitOf s.otp.policy 3))

/-- The debug level changes (R632, R635, R473): entering D2 every group is judged at once; leaving it restarts channel P. -/
def setDebug (s : State) (level : Nat) : State :=
  if level = s.sec.dbg then s else
  let restart := s.sec.haltP
  let s := raise (s.onSec fun x => { x with dbg := level, haltP := false }) evDebugLevel
  let s := if restart then chanPStart s else s
  if level = 2 then evaluateGroups s else s

/-- The service session ends with a cause (R622), and the level falls with it (R634). -/
def endSessionBy (s : State) (cause : Nat) : State :=
  if s.sec.session.isNone then s else
  let s := raise (raise (s.onSec fun x => { x with session := none, endCause := cause }) evSessionEnd) evSecState
  if s.sec.field then setDebug s (min s.sec.dbg (noSessMax s)) else s

/-! ## The queue -/

/-- OP_STATUS and OP_RESULT of the port whose last accepted operation this is (R557, R732, R733). -/
def showOp (o : LongOp) (m : Master) (h : HostPort) : HostPort :=
  if o.issuer = some m ∧ h.lastTicket = some o.ticket then
    { h with lastState := o.st.code, lastIgnored := o.abortIgnored, lastResult := if o.st = .done then 256 * o.result + o.cause else 0 }
  else h

def shown (s : State) (o : LongOp) : State := { s with hb := showOp o .hb s.hb, mp := showOp o .mp s.mp }

/-- An entry of the queue is replaced. -/
def setOp (s : State) (o : LongOp) : State :=
  shown { s with opq := s.opq.map fun x => if x.ticket = o.ticket then o else x } o

/-- The running operation. -/
def State.runningOp (s : State) : Option LongOp := s.opq.find? fun o => o.st == .running

/-- An operation clears SEC.BUF (R624). -/
def clearBuf (s : State) : State := s.onSec fun x => { x with buf := Vector.replicate 16 0, bufWas := some (s.time.bench, x.buf) }

/-- An operation ends: it leaves the queue for HOST.OPH, a record it was writing is not valid, the exchange buffer it reads is cleared,
and its end is reported (R560, R561, R624). -/
def closeOp (s : State) (o : LongOp) (st : OpState) (result cause : Nat) : State :=
  let o' := { o with st := st, result := result, cause := cause, tick := s.tickNum % 2 ^ 32, doneAt := s.time.bench, data := [] }
  let s := shown { s with opq := s.opq.filter fun x => x.ticket != o.ticket, oph := (o' :: s.oph).take 16 } o'
  let s := if o.st = .running ∧ opWrites o.code = true then recCut s else s
  let s := if o.code = 0x07 then s.onSnap fun x => { x with exporting := false } else s
  let s := if o.code = 0x11 ∨ o.code = 0x12 then clearBuf s else s
  let s := if o.code = 0x06 ∧ o.st = .running then settleOuts s else s
  raise s (if st = .done ∧ result = orDone then evOpDone else evOpFail)

/-- An operation enters the queue: HELD where it writes NVM in SUPPLY_LOW, with EV_PWR_NVM_HELD once per entry (R137, R559). -/
def enqueueOp (s : State) (issuer : Option Master) (code : Nat) (arg0 arg1 : Word) (echoSeq : Nat) : State :=
  let held := s.pwr.supplyLow && opWrites code
  let o : LongOp :=
    { ticket := s.ticket, issuer := issuer, code := code, arg0 := arg0, arg1 := arg1, st := if held then .held else .queued, result := 0,
      cause := 0, tick := 0, abortIgnored := false, aborting := false, doneAt := 0, data := [], echoSeq := echoSeq }
  let s := { s with opq := s.opq ++ [o], ticket := (s.ticket + 1) % 256 }
  let s := match issuer with
    | some m => shown (s.onHost m fun h => { h with lastTicket := some o.ticket }) o
    | none => s
  if held && !s.pwr.heldRaised then raise (s.onPwr fun p => { p with heldRaised := true }) evNvmHeld else s

/-- OP_CMD issues an operation, with the arguments as they stand; a fifth one is refused (R557, R730). -/
def issueOp (s : State) (m : Master) (code : Nat) : State :=
  if !s.writable then s else
  let h := s.host m
  let args := [h.arg0.toNat, h.arg1.toNat]
  if s.opq.length < 4 then
    let seq := s.echoSeq
    enqueueOp (echo s m 0x20 code args resAccepted) (some m) code h.arg0 h.arg1 seq
  else raise (echo s m 0x20 code args resQueueFull) evQueueFull

/-! ## The shutdown sequence (R142, R155) -/

/-- What PWR_STATUS shows of a domain. -/
def domainState (p : PowerUnit) : Domain → DomState
  | .core => p.core
  | .syn => p.syn
  | .outl => p.outl
  | .outh => p.outh

def setDomain (p : PowerUnit) (d : Domain) (x : DomState) : PowerUnit :=
  match d with
  | .core => { p with core := x }
  | .syn => { p with syn := x }
  | .outl => { p with outl := x }
  | .outh => { p with outh := x }

/-- The order in which domains power down (R115). -/
def downOrder : List Domain := [.outh, .outl, .syn, .core]

/-- The shutdown record of step 4 (R142, R593). -/
def shutRecord (s : State) : LogRec :=
  { sec := s.benchSec, ns := s.benchNs, age := s.model.xoAge, event := 0xFF, origin := 1, rpt := 0, unit := 0, cause := 0 }

/-- Step 5 of R142, once the shutdown record has been programmed (or counted as lost, R594): the domains are to go down. -/
def shutdownPower (s : State) : State :=
  if s.log.buf.any fun r => r.event == 0xFF then s else
  s.onPwr fun p => { p with
    shut := .powering, ctrl := 0, upQueue := [], coreOffByWrite := true
    downQueue := downOrder.filter fun d => domainState p d != .off }

/-- Steps 2 to 5 of R142 as far as they can go: the queue is empty, then the model is saved, then the record is in the buffer and programmed,
then the domains go down. -/
def shutdownStep (s : State) : State :=
  match s.pwr.shut with
  | .draining =>
    if s.opq.isEmpty then enqueueOp (s.onPwr fun p => { p with shut := .saving }) none 0x03 0 0 0 else s
  | .saving =>
    if (s.opq.any fun o => o.issuer.isNone && o.code == 0x03) || decide (16 ≤ s.log.buf.length) then s
    else shutdownPower (logPush (s.onPwr fun p => { p with shut := .logging }) (shutRecord s))
  | .logging => shutdownPower s
  | _ => s

/-- An operation ends, and a shutdown that waited for it goes on. -/
def finishOp (s : State) (o : LongOp) (st : OpState) (result cause : Nat) : State := shutdownStep (closeOp s o st result cause)

/-- Operations that a power-down of CORE aborts: those that need it (R117, R646). -/
def opsCoreOff (s : State) : State :=
  (s.opq.filter fun o => opNeedsCore o.code).foldl (fun t o => closeOp t o .abortedPower 0 0) s

end Sys2Proof.Machine
end

