-- ==== Sys2Proof/Machine/Power.lean ====
section
/-!
DEFINITION. Sys2Proof/Machine/Power.lean: the domains (R110 to R118), the resets (R122 to R129, R144, R147), BOOT (R130 to R133, R785),
the supplies (R134 to R137, R148 to R150) and STANDBY (R141, R166 rows 19 to 21).
-/
namespace Sys2Proof.Machine

/-! ## Domains going down -/

/-- The number of a domain in PWR_CTRL and as the unit of its events. -/
def domIndex : Domain → Nat
  | .core => 0 | .syn => 1 | .outl => 2 | .outh => 3

/-- Raises that no SAMPLE has latched: PWR and SAFE ones are held for the next CORE ON (R617, R118, R458). -/
def holdRaised (s : State) : State :=
  let r := s.evt.raised.toNat
  s.onPwr fun p => { p with pwrPend := p.pwrPend ||| r % 2 ^ 32 % 2 ^ 16, safePend := p.safePend ||| bitsOf r 223 192 }

/-- The session, the challenge, the exchange buffer and level D2 end with CORE, without an event (R622, R634, R646; chapter 15,
Placement). -/
def secCoreOff (s : State) : State :=
  let held := s.sec.session.isSome
  let cap := if held && s.sec.field then noSessMax s else 1
  s.onSec fun x => { x with
    session := none, endCause := if held then 4 else x.endCause, challenge := none, chalOctets := [], chalEnd := 0
    buf := Vector.replicate 16 0, ptr := 0, level := 0, dbg := min x.dbg (min cap 1), haltP := false }

/-- Everything that lives in CORE is lost: the tick and its jobs, loops, sources, Lace, eyelets, events, counters, snapshot and echoes;
the transaction is rolled back and the operations that need CORE end (R59, R83, R109, R117, R169, R193, R221, R262, R432, R580, R607).
The host's words QL_HOST, HOST_FREQ and HOST_LOCK are kept. -/
def coreLost (s : State) (byWrite : Bool) : State :=
  let s := holdRaised (secCoreOff (opsCoreOff (txnCoreOff s)))
  let s := chanPStop (lacesCoreOff (dpllsCoreOff (synCoreOff (eyesCoreOff s))))
  let s := { s with
    time := { s.time with
      running := false, phase := .guard, jobHwm := Vector.replicate 21 0, overrunCnt := Vector.replicate 21 0, deferred := [],
      unfinished := [], rejudge := false }
    pwr := { s.pwr with
      core := .off, syn := .off, outl := .off, outh := .off, upQueue := [], downQueue := [], coreOffByWrite := byWrite, pendOwed := false,
      bypOut0 := s.pwr.bypOut0 && (s.inReset || s.pwr.booting) }
    srcs := vmap (fun _ x => { (default : Source) with qlHost := x.qlHost }) s.srcs
    lockPin := false
    lastJump := none
    evt := { (default : Events) with mask := s.evt.mask, route := s.evt.route }
    cnts := Vector.replicate 16 default, cntCyc := Vector.replicate 16 default
    snap := default
    echoes := []
    opers := default
    mode := { s.mode with pendingOp := none } }
  let s := if byWrite then s.onSafe fun f => { f with coreSeen := false } else s
  outsDomainOff s

/-- A domain other than CORE stops working (R117, R331). -/
def unitsOff (s : State) (d : Domain) : State :=
  match d with
  | .core => s
  | .syn => apllsLost s true
  | .outl => settleOuts (outsDomainOff s)
  | .outh => settleOuts (outsDomainOff s)

/-- Domains power down in the order of R115. -/
def powerDown (s : State) (ds : List Domain) (byWrite : Bool) : State :=
  let s := s.onPwr fun p => { p with upQueue := p.upQueue.filter fun d => !ds.contains d.1, downQueue := [] }
  (downOrder.filter fun d => ds.contains d).foldl (fun t d =>
    let was := domainState t.pwr d
    let t := t.onPwr fun p => setDomain p d .off
    if was != .on then t
    else if d = .core then coreLost (t.onPwr fun p => setDomain p d .on) byWrite
    else unitsOff t d) s

/-! ## Domains coming up (R114, R116, R117, R120) -/

/-- The rails that a domain needs are above brown-out (R110, R120). -/
def railsOk (s : State) (d : Domain) : Bool :=
  let p := s.pwr
  match d with
  | .core => !p.bor09
  | .syn => !p.bor18
  | .outl => !p.bor09 && !p.bor18 && !vat p.vddoBor 0 && !vat p.vddoBor 1
  | .outh => !p.bor09 && !p.bor18 && !vat p.vddoBor 2 && !vat p.vddoBor 3

/-- BOOT ends (R130, R133, R143, R166 rows 3 to 5, R287): FREERUN with CORE ON and AUTOSTART, otherwise SETUP. -/
def bootFinish (s : State) : State :=
  let run := s.coreOn && s.pwr.autostart
  let s := s.onPwr fun p => { p with booting := false, bootWait := false, bootDone := true }
  let s := s.onMode fun m => { m with opmode := if run then .run else .setup }
  let s := raise s evResetDone
  let s := raiseIf s.pwr.rstLong (s.onPwr fun p => { p with rstLong := false }) evRstLong 0 0
  let s := if s.model.discarded && s.coreOn then raise (s.onModel fun m => { m with discarded := false }) evModelDiscarded else s
  let s := if s.pwr.bypOut0 && !(inService s.act (outBase 0) && bitOf s.pwr.ctrl 2) then out0Bypass s false else bypassEnds s
  let s := if run then searchAll (startLoops s) else s
  settleOuts (refreshMode s mcBootEnd)

/-- A domain shows FAULT, and CORE without its own goes to SETUP (R114, R133, R166 row 21, R178). -/
def markFault (s : State) (d : Domain) : State :=
  let s := raiseAt (s.onPwr fun p => setDomain p d .fault) evDomainFault (domIndex d) 0
  if d ≠ .core then s
  else if s.pwr.booting then bootFinish s
  else refreshMode (s.onMode fun m => { m with opmode := .setup, standby := false, pendingOp := none }) mcCoreFault

/-- A domain does not come up: it shows FAULT, and the later domains of its write are not powered up; those of another write are (R114). -/
def rampFault (s : State) (d : Domain) : State :=
  markFault (s.onPwr fun p => { p with upQueue := p.upQueue.filter fun q => q.2 != p.rampWrite }) d

/-- The first domain of the queue starts its ramp once no other ramps: CORE at any time, the others while CORE is ON, in BOOT too (R117; log 49);
without its rails it shows FAULT (R114, R120). -/
def rampFirst (s : State) : State :=
  match s.pwr.upQueue with
  | [] => s
  | (d, w) :: ds =>
    let ramping := downOrder.any fun x => domainState s.pwr x == .ramping
    if ramping || (d != .core && !s.coreOn) then s else
    let s := s.onPwr fun p => { p with upQueue := ds, rampWrite := w }
    if railsOk s d then s.onPwr fun p => setDomain p d .ramping else rampFault s d

/-- The queue goes on as far as it can: past domains that show FAULT for their rails. -/
def nextRamp (s : State) : State := forN 4 (fun _ t => rampFirst t) s

/-- CORE becomes ON (R59, R116, R118, R141, R193, R300, R301, R166 row 20): the SPLL has locked on a valid XO; the monitors of the sources have
no history. -/
def coreUp (s : State) : State :=
  if s.pwr.core ≠ .ramping ∨ s.pwr.xoValid = false then s else
  let back := s.mode.standby
  let s := { s with
    pwr := { s.pwr with core := .on, coreOffByWrite := false, pendOwed := true }
    spll := { s.spll with
      lock := true, everOn := true, modeInUse := fXoMode.val s.act spllBase, freqInUse := fXoFreq.val s.act spllBase }
    srcs := vmap (fun _ x => { x with lastEdge := s.safe.p.clk, gateFrom := s.now }) s.srcs
    mode := { s.mode with standby := false, opmode := if back then s.mode.standbyRet else s.mode.opmode } }
  let s := raiseAt (lacesCoreOn (chanPStart s)) evDomainUp (domIndex .core) 0
  let s := if back && s.loopsRun then startLoops s else s
  let s := if back then searchAll s else s
  let s := if s.model.discarded && !s.pwr.booting then
      raise (s.onModel fun m => { m with discarded := false }) evModelDiscarded else s
  nextRamp (settleOuts (refreshMode s mcPwrCtrl))

/-- A switched domain other than CORE becomes ON: SYN searches while the loops are to run, outputs come back into service (R117). -/
def domainUp (s : State) (d : Domain) : State :=
  if d = .core then coreUp s
  else if domainState s.pwr d ≠ .ramping ∨ s.coreOn = false then s
  else
    let s := raiseAt (s.onPwr fun p => setDomain p d .on) evDomainUp (domIndex d) 0
    let s := if d = .syn && s.apllsRun then searchAll s else s
    nextRamp (settleOuts s)

/-- CORE leaves ON without a write: every other domain goes with it (R166 row 21, R333). -/
def coreFault (s : State) : State := markFault (powerDown s downOrder false) .core

/-- DOMAIN_FAULT: a domain that ramps, or one that is ON, shows FAULT. -/
def domainFault (s : State) (d : Domain) : State :=
  match domainState s.pwr d with
  | .ramping => nextRamp (rampFault s d)
  | .on => if d = .core then coreFault s else markFault (powerDown s [d] false) d
  | _ => s

/-! ## PWR_CTRL (R48, R113, R115, R141, R165, R177, R717) -/

/-- The enable bit of a domain. -/
def enabled (v : Nat) (d : Domain) : Bool := bitOf v (domIndex d)

def upOrder : List Domain := [.core, .syn, .outl, .outh]

/-- What refuses a write: an enable without CORE_EN, energy on an axis (R48), MAINTENANCE (R165). -/
def pwrRefused (s : State) (v : Nat) : Bool :=
  let clears := bitOf s.pwr.ctrl 0 && !bitOf v 0
  (!bitOf v 0 && v != 0) || (clears && s.safeEnergy) || (clears && s.mode.opmode == .maintenance)

/-- What such a write finds. -/
def undoOf (s : State) : Undo :=
  { bench := s.time.bench, mode := s.mode, pwrPend := s.pwr.pwrPend, soft := bitOf s.pwr.resetCause 4, log := s.log }

/-- What a write of PWR_CTRL or DEV_CMD finds is kept for a reset of the same cycle: the first such write's (R146). -/
def noteCmd (s : State) : State :=
  match s.undo with
  | some u => if u.bench = s.time.bench then s else { s with undo := some (undoOf s) }
  | none => { s with undo := some (undoOf s) }

/-- PWR_CTRL is written. With CORE ON before its first tick boundary no tick accepts the write, and the domains go down at once; CORE_EN set
again before the GUARD that it was to go down in withdraws the power-down and ends STANDBY at once (DESIGN CHOICE, log 72). -/
def pwrCtrlWrite (s : State) (w : Nat) : State :=
  let v := w % 16
  let old := s.pwr.ctrl
  if !s.writable then s else
  let s := noteCmd s
  if pwrRefused s v then raise s evCtrlRefused
  else if v = old then s
  else
    let k := s.pwr.upWrites + 1
    let changed (d : Domain) : Bool := enabled v d != enabled old d
    let ret := if s.mode.standby then s.mode.standbyRet else s.clockMode
    let s := if v = 0 then s.onMode fun m => { m with standby := true, standbyRet := ret, pendingOp := none } else s
    let s := if enabled v .core && s.coreOn then s.onMode fun m => { m with standby := false } else s
    let s := s.onPwr fun p =>
      let p := upOrder.foldl (fun q d => if domainState q d = .fault ∧ changed d = true then setDomain q d .off else q) p
      let waits (d : Domain) : Option (Domain × Nat) := p.upQueue.find? fun q => q.1 == d
      let ups := (upOrder.filter fun d => enabled v d && ((waits d).isSome || domainState p d == .off)).map fun d => (waits d).getD (d, k)
      let stay := p.downQueue.filter fun d => !enabled v d || p.shut == .powering
      { p with ctrl := v, upQueue := ups, upWrites := k, downQueue := stay }
    let downs := upOrder.filter fun d => !enabled v d && (domainState s.pwr d == .on || domainState s.pwr d == .ramping)
    let s := if s.coreOn && s.time.running then
        s.onPwr fun p => { p with downQueue := downOrder.filter fun d => downs.contains d || p.downQueue.contains d }
      else powerDown s downs true
    nextRamp (refreshMode s mcPwrCtrl)

/-- DOMAIN_POWER_DOWN: at the start of GUARD of the accepting tick; groups in READY go to SAFE_OFF before channel P stops (R115, R169).
-/
def domainPowerDown (s : State) : State :=
  let ds := s.pwr.downQueue
  if ds.isEmpty || (s.coreOn && s.time.running && s.time.phase != .guard) then s else
  let s := if ds.contains .core then readyOff s else s
  refreshMode (nextRamp (powerDown s ds true)) (if s.pwr.shut = .powering then mcShutdown else mcPwrCtrl)

/-! ## What a reset leaves (R123) -/

/-- The monitors' present judgements and the straps, which no reset changes. -/
def keepRails (old new : PowerUnit) : PowerUnit :=
  { new with
    warn33 := old.warn33, warnAon := old.warnAon, warn09 := old.warn09, warn18 := old.warn18, bor09 := old.bor09, bor18 := old.bor18,
    bor33 := old.bor33, vddoBor := old.vddoBor, vddoOvr := old.vddoOvr, straps := old.straps, resetHeld := old.resetHeld,
    resetCause := old.resetCause, bypOut0 := old.bypOut0 }

/-- In RESET the bypass of OUT0 follows STRAP[2] (R125, R132). -/
def strapBypass (s : State) : State :=
  if bitOf s.pwr.straps 2 then out0Bypass s true else if s.pwr.bypOut0 then out0Bypass s false else s

/-- The state a power-on reset leaves: NVM, OTP and fault log are kept (R123). -/
def applyPowerOn (s : State) : State :=
  let b := State.reset
  strapBypass { b with
    pwr := { keepRails s.pwr b.pwr with resetClass := 2 }
    nvm := { s.nvm with busy := none }, otp := s.otp, log := s.log, draws := s.draws, pending := s.pending }

/-- The state a device or soft reset leaves (R123, R126, R282, R301, R405, R439, R627). -/
def applyWarm (s : State) : State :=
  let b := State.reset
  let t := safetyReset s
  let p := s.pwr
  let cls := p.resetClass
  strapBypass { b with
    time := { b.time with
      bench := s.time.bench, inc := s.time.inc, secSeen := s.time.secSeen, tickSeq := s.time.tickSeq, tickEdge := s.time.tickEdge }
    pwr := { keepRails p b.pwr with
      resetClass := cls, supplyLow := p.supplyLow, heldRaised := p.heldRaised, rstHeldMs := p.rstHeldMs, rstLong := p.rstLong,
      strapEcho := p.strapEcho, pwrPend := p.pwrPend, safePend := p.safePend }
    mode := { b.mode with mode := s.mode.mode, prev := s.mode.prev, hist := s.mode.hist }
    model := { b.model with xoAge := s.model.xoAge, saveStarts := s.model.saveStarts }
    spll := { b.spll with
      everOn := s.spll.everOn, modeInUse := if s.spll.everOn then s.spll.modeInUse else 0,
      freqInUse := if s.spll.everOn then s.spll.freqInUse else 25000000 }
    lace := { b.lace with secValid := s.lace.secValid }
    safe := { t.safe with stg := parBlank, telRej := 0, telRejTick := none }
    sec := { b.sec with
      field := s.sec.field, failCnt := s.sec.failCnt, delay := s.sec.delay, endCause := if s.sec.session.isSome then 5 else s.sec.endCause }
    log := s.log, nvm := { s.nvm with busy := none }, otp := s.otp, tap := s.tap, draws := s.draws, pending := s.pending }

/-! ## BOOT (R130, R131, R785, R786) -/

/-- Slot `n` of the fault log holds a record whose CRC checks: its SEQ (R593, R595). -/
def logSlotSeq (s : State) (n : Nat) : Option Nat :=
  let bs := (List.range 32).map fun i => nvmOctet s (0xC000 + 32 * n + i)
  if crc32c (bs.take 28) = ofOctetsLE (bs.drop 28) then some (ofOctetsLE (bs.take 4)) else none

/-- The newest valid record: its SEQ and slot. -/
def logNewest (s : State) : Option (Nat × Nat) :=
  (List.range 512).foldl (fun best n =>
    match logSlotSeq s n, best with
    | some q, some (b, k) => if b < q then some (q, n) else some (b, k)
    | some q, none => some (q, n)
    | none, b => b) none

/-- BOOT takes the head of the log from the valid record with the highest SEQ (R595). -/
def bootLog (s : State) : State :=
  match logNewest s with
  | some (q, n) => s.onLog fun l => { l with nextSeq := (q + 1) % 2 ^ 32, slot := (n + 1) % 512 }
  | none => s.onLog fun l => { l with nextSeq := 0, slot := 0 }

/-- The code of a copy in BOOT_RESULT w1. -/
def copyCode : Option Bool → Nat
  | none => 0 | some false => 1 | some true => 2

/-- EV_PWR_BOOT_COPY for a record of which only one copy was valid. -/
def bootCopy (s : State) (r : Nat) : State := raiseIf (recLone s r) s evBootCopy r 0

/-- The safety parameters: a record is taken into use; without one every group is in LOCKOUT (R130, R453). -/
def bootSafety (s : State) : State :=
  match recBest s 5 with
  | some b =>
    let m := imageOf (recData s 5 b)
    let s := if s.safe.hasPar && s.safe.par == m then s.onSafe fun f => { f with confirmed := none } else takeImage s m true
    bootCopy (s.onPwr fun p => { p with bootResult1 := p.bootResult1 + 16 * copyCode (some b) }) 5
  | none =>
    let s := takeImage s parBlank false
    let lock (c : Chan) (n : Nat) (t : State) : State :=
      if (vat (t.chan c).grps n).st = .lockout then t else moveGroup t c n .lockout (2 ^ caNoParams)
    let s := forN 4 (fun n t => lock .p n (lock .h n t)) s
    s.onPwr fun p => { p with bootResult0 := p.bootResult0 + 8 }

/-- The profile that the straps select, or reset values. -/
def bootProfile (s : State) : State :=
  let n := s.pwr.strapEcho % 4
  let s := s.onPwr fun p => { p with bootProfile := n, bootResult0 := n, bootPwr := 1, autostart := false }
  if n = 3 then s else
  match recBest s n with
  | some b =>
    let lead := leadPwr (triples (recData s n b))
    let s := { s with cfg := { s.cfg with active := activeOf lead.2 } }
    let skipped := (lead.2.filter fun t => !tripleOk t).length
    let auto := fAutoStart.on s.act 0
    let s := s.onPwr fun p => { p with
      bootPwr := lead.1.getD 1, autostart := auto, bootResult1 := copyCode (some b), bootResult2 := min 31 skipped }
    bootCopy (s.onSpll fun x => { x with cfgLoaded := true }) n
  | none => raise (s.onPwr fun p => { p with bootFallback := true, bootResult0 := p.bootResult0 + 4 }) evBootFallback

/-- The XO setting in use follows the active one until CORE has been ON, and the tick period is the configuration's (R63, R301). -/
def bootFollow (s : State) : State :=
  let s := if s.spll.everOn then s else s.onSpll fun x => { x with
    modeInUse := fXoMode.val s.act spllBase, freqInUse := fXoFreq.val s.act spllBase }
  s.onTime fun t => { t with period := fPeriod.val s.act 0 }

/-- The Last model: a record of another XO is discarded as if there were none (R130, R282, R287). -/
def bootModel (s : State) : State :=
  match recBest s 4 with
  | some b =>
    let d := recData s 4 b
    if dataAt d 0 2 = fXoFreq.val s.act spllBase then
      let s := modelLoad s d (s.pwr.resetClass == 2)
      bootCopy (s.onPwr fun p => { p with bootResult1 := p.bootResult1 + 4 * copyCode (some b) }) 4
    else (modelBlank s).onModel fun m => { m with discarded := true }
  | none => modelBlank s

/-- PWR_CTRL takes the image of the profile, or CORE only; CORE starts its ramp (R130, R114). -/
def bootPower (s : State) : State :=
  let v := if bitOf s.pwr.bootPwr 0 then s.pwr.bootPwr else 0
  let k := s.pwr.upWrites + 1
  nextRamp (s.onPwr fun p => { p with
    bootWait := false, ctrl := v, upWrites := k, upQueue := (upOrder.filter fun d => enabled v d).map fun d => (d, k) })

/-- BOOT waits for the XO to be valid (R130). -/
def bootGoesOn (s : State) : State := if s.pwr.booting && s.pwr.bootWait && s.pwr.xoValid then bootPower s else s

/-- An operation waits with its NVM work in SUPPLY_LOW: all but a program cycle of the OTP and an erase or page program that is its last (R137). -/
def opHolds (s : State) (o : LongOp) : Bool :=
  opWrites o.code && !(o.st == .running && (opBurns o.code || opStep s o + 1 == opSteps o))

/-- SUPPLY_LOW shows, and the operations that it holds wait (R136, R137). -/
def supplyLowShow (s : State) (unit : Nat) (waits : List LongOp) : State :=
  let held := !waits.isEmpty
  let s := raiseAt (s.onPwr fun p => { p with supplyLow := true, heldRaised := held }) evSupplyWarn unit 0
  let s := waits.foldl (fun t o => setOp t { o with st := .held }) s
  refreshMode (raiseIf held s evNvmHeld 0 0) mcSupply

/-- SUPPLY_LOW is entered (R136, R137): waiting NVM work is HELD; of a record under way the page in progress is completed, and the record is held
and begins again from its erase (R139, R145). -/
def supplyLowEnter (s : State) (unit : Nat) : State :=
  if s.pwr.supplyLow then s else
  let waits := s.opq.filter (opHolds s)
  let s := if waits.any fun o => o.st == .running then nvmStop s false else s
  supplyLowShow s unit waits

/-- A rail is below its warning threshold. -/
def anyWarn (p : PowerUnit) : Bool := p.warn33 || p.warnAon || p.warn09 || p.warn18

/-- The device leaves reset: straps are sampled (not after a soft reset), and BOOT loads its records and waits for the XO (R123, R127 to
R130, R148); SRST_N is watched from here (R495). -/
def release (s : State) : State :=
  let s := s.onPwr fun p => { p with
    strapEcho := if p.resetClass = 0 then p.strapEcho else p.straps, booting := true, bootWait := true, bootResult0 := 0, bootResult1 := 0,
    bootResult2 := 0 }
  let s := refreshMode { s with prioMp := bitOf s.pwr.strapEcho 3 } mcReset
  let s := if anyWarn s.pwr && !s.pwr.supplyLow then supplyLowShow s 0 [] else s
  let s := strapBypass s
  let s := bootLog ((s.onSec fun x => { x with field := s.otp.keySet }).onSafe fun f => { f with srstFrom := f.h.clk })
  bootGoesOn (bootSafety (bootModel (bootFollow (bootProfile s))))

/-- The device leaves reset when the last source has ended and no page program delays it (R144, R147). -/
def tryRelease (s : State) : State := if s.inReset then s else release s

/-! ## Reset sources (R122) -/

/-- A page program or an OTP program cycle is in progress, for which a reset waits; it waits for no erase (R144, R630). -/
def programming (s : State) : Bool :=
  s.opq.any fun o => o.st == .running && (opBurns o.code || ((opRecord o).isSome && opStep s o != 0))

/-- A reset source becomes active (R122, R125, R135, R144, R147): `bit` in RESET_CAUSE, class 0 soft, 1 device, 2 power-on. The domains
go off and DEV_MODE is RESET at once; the state of R123 is applied at once, or after the page program, which completes (R144). A power-on reset
ends the hold of a soft one and keeps the bits of the sources that hold the device still (R147). -/
def assertReset (s : State) (bit cls : Nat) : State :=
  let was := s.inReset
  let hold := if cls = 2 then without s.pwr.resetHeld 16 else s.pwr.resetHeld
  let s := if was then s else nvmStop s (cls == 2)
  let s := s.onPwr fun p => { p with
    resetHeld := hold ||| 2 ^ bit, resetCause := if cls = 2 then 1 ||| hold else p.resetCause ||| 2 ^ bit
    resetClass := if was then max p.resetClass cls else cls }
  if cls = 2 then applyPowerOn s
  else if was then s
  else
    let s := powerDown (s.onMode fun m => { m with pendingOp := none }) downOrder false
    let s := strapBypass (refreshMode (s.onPwr fun p => { p with booting := false, bootWait := false, shut := .none, upQueue := [] }) mcReset)
    if programming s then s.onPwr fun p => { p with resetWaits := true } else applyWarm s

/-- What the writes of PWR_CTRL and DEV_CMD of this very cycle did is taken back (R146). -/
def undoCmd (s : State) : State :=
  match s.undo with
  | some u =>
    if u.bench ≠ s.time.bench then s else
    { s with
      mode := u.mode, log := u.log, undo := none
      pwr := { s.pwr with
        pwrPend := u.pwrPend, resetHeld := without s.pwr.resetHeld 16
        resetCause := if u.soft then s.pwr.resetCause else without s.pwr.resetCause 16 } }
  | none => s

/-- A reset source ends. -/
def endReset (s : State) (bits : List Nat) (straps : BitVec 4) : State :=
  let was := s.inReset
  let s := s.onPwr fun p => { p with
    resetHeld := bits.foldl (fun k b => if bitOf k b then k - 2 ^ b else k) p.resetHeld
    straps := straps.toNat }
  if was then tryRelease s else s

/-! ## Commands -/

/-- POWER_ON_RESET: the rails of AON are below brown-out (R122). -/
def execPowerOnReset (s : State) : Host.Outcome State Fault Refusal := .next (assertReset s 0 2)

/-- POR_RELEASE (R120): VDD33 is up, VDD09 is not required and CORE_EN is clear, so that the brown-out sources hold no longer; the straps are those
of that instant. -/
def execPorRelease (straps : BitVec 4) (s : State) : Host.Outcome State Fault Refusal :=
  .next (endReset (s.onPwr fun p => { p with bor33 := false }) [0, 1, 2] straps)

/-- BOR_33. -/
def execBor33 (s : State) : Host.Outcome State Fault Refusal := .next (assertReset (s.onPwr fun p => { p with bor33 := true }) 1 1)

/-- BOR_09: VDD09 is below brown-out; it resets the device while CORE_EN is set. -/
def execBor09 (s : State) : Host.Outcome State Fault Refusal :=
  let t := s.onPwr fun p => { p with bor09 := true }
  .next (if bitOf s.pwr.ctrl 0 then assertReset t 2 1 else t)

/-- BROWN_OUT_RECOVERY: VDD33, VDD09 or both are above their rising thresholds again (R134, R147). -/
def execBrownOutRecovery (vdd33Up vdd09Up : Bool) (straps : BitVec 4) (s : State) : Host.Outcome State Fault Refusal :=
  .next (endReset (s.onPwr fun p => { p with bor33 := p.bor33 && !vdd33Up, bor09 := p.bor09 && !vdd09Up })
    ((if vdd33Up then [1] else []) ++ if vdd09Up then [2] else []) straps)

/-- RST_N_ASSERT: RST_HELD_MS starts again from 0 (R125, R126); writes of the same cycle are discarded (R146). -/
def execRstNAssert (s : State) : Host.Outcome State Fault Refusal :=
  .next (assertReset ((undoCmd s).onPwr fun p => { p with rstHeldMs := 0 }) 3 1)

/-- RST_N_RELEASE, after a hold of `heldMs` (R126, R127). -/
def execRstNRelease (heldMs : Nat) (straps : BitVec 4) (s : State) : Host.Outcome State Fault Refusal :=
  .next (if bitOf s.pwr.resetHeld 3 then
    endReset (s.onPwr fun p => { p with rstHeldMs := min 65535 heldMs, rstLong := p.rstLong || decide (1000 < heldMs) }) [3] straps else s)

/-- BYP_OUT0_STRAP_CHANGE (R128, R132, R154). -/
def execBypOut0StrapChange (level : Bool) (s : State) : Host.Outcome State Fault Refusal :=
  let t := s.onPwr fun p => { p with straps := p.straps % 4 + 4 * b2n level + 8 * b2n (bitOf p.straps 3) }
  .next (if s.inReset || s.pwr.booting then out0Bypass t level else t)

/-- BOOT_XO_TIMEOUT: BOOT ends in SETUP with CORE in FAULT (R130, R133). -/
def execBootXoTimeout (s : State) : Host.Outcome State Fault Refusal :=
  .next (if s.pwr.booting && s.pwr.bootWait && !s.pwr.xoValid then markFault s .core else s)

/-- BOOT_END, at the first tick boundary after CORE is ON (R130), or at once where the image powers nothing. -/
def execBootEnd (s : State) : Host.Outcome State Fault Refusal :=
  .next (if s.pwr.booting && !s.pwr.bootWait && (s.coreOn || !bitOf s.pwr.ctrl 0) then bootFinish s else s)

/-- XO_VALID: channel H judges the XO valid (R438); BOOT goes on (R130). -/
def execXoValid (s : State) : Host.Outcome State Fault Refusal :=
  .next (settleOuts (bootGoesOn (s.onPwr fun p => { p with xoValid := true })))

/-- CHANNEL_H_EVALUATION: one cycle of channel H (R433, R438, R455), after which BOOT goes on if the XO has become valid. -/
def execChannelHEvaluation (smp : HSample) (s : State) : Host.Outcome State Fault Refusal := .next (bootGoesOn (channelH s smp))

/-- SUPPLY_WARN: a rail is below its warning threshold (R134, R136). -/
def execSupplyWarn (rail : Rail) (s : State) : Host.Outcome State Fault Refusal :=
  let t := s.onPwr fun p => match rail with
    | .vdd33 => { p with warn33 := true }
    | .vdd09aon => { p with warnAon := true }
    | .vdd09 => { p with warn09 := true }
    | .vdd18a => { p with warn18 := true }
  .next (if s.inReset then t else supplyLowEnter t 0)

/-- SUPPLY_OK: every rail has stayed above its rising threshold for 10 ms; held work resumes in queue order (R136, R137, R160). -/
def execSupplyOk (s : State) : Host.Outcome State Fault Refusal :=
  let t := s.onPwr fun p => { p with warn33 := false, warnAon := false, warn09 := false, warn18 := false }
  .next (if !s.pwr.supplyLow then t else
    let t := raise (t.onPwr fun p => { p with supplyLow := false }) evSupplyOk
    let t := (t.opq.filter fun o => o.st == .held).foldl (fun u o => setOp u { o with st := .queued }) t
    refreshMode (searchOwed t) mcSupply)

/-- SYN_INVALID: VDD18A is below brown-out (R134, R150). -/
def execSynInvalid (s : State) : Host.Outcome State Fault Refusal :=
  .next (raise (settleOuts (apllsLost (s.onPwr fun p => { p with bor18 := true }) true)) evSynInvalid)

/-- SYN_VALID: VDD18A is above brown-out again; searches start unless SUPPLY_LOW holds (R149, R150). -/
def execSynValid (s : State) : Host.Outcome State Fault Refusal :=
  .next (searchOwed (s.onPwr fun p => { p with bor18 := false }))

/-- The bypass of OUT0 follows VDDO0 in RESET and BOOT (R132). -/
def bypassSettle (s : State) : State := if s.pwr.bypOut0 then out0Bypass s true else s

/-- VDDO_LOW (R121). -/
def execVddoLow (bank : Fin 4) (s : State) : Host.Outcome State Fault Refusal :=
  .next (raiseAt (settleOuts (bypassSettle (s.onPwr fun p => { p with vddoBor := vupd p.vddoBor bank fun _ => true }))) evVddoLow bank 0)

/-- VDDO_RECOVER (R121). -/
def execVddoRecover (bank : Fin 4) (s : State) : Host.Outcome State Fault Refusal :=
  .next (settleOuts (bypassSettle (s.onPwr fun p => { p with vddoBor := vupd p.vddoBor bank fun _ => false })))

/-- VDDO_LEVEL (R338). -/
def execVddoLevel (bank : Fin 4) (s : State) : Host.Outcome State Fault Refusal :=
  .next (raiseAt (settleOuts (s.onPwr fun p => { p with vddoOvr := vupd p.vddoOvr bank fun _ => true })) evVddoLevel bank 0)

/-- VDDO_LEVEL_RECOVER (R338). -/
def execVddoLevelRecover (bank : Fin 4) (s : State) : Host.Outcome State Fault Refusal :=
  .next (settleOuts (s.onPwr fun p => { p with vddoOvr := vupd p.vddoOvr bank fun _ => false }))

/-- DOMAIN_UP (R114). -/
def execDomainUp (d : Domain) (s : State) : Host.Outcome State Fault Refusal := .next (domainUp s d)

/-- DOMAIN_FAULT (R114, R116, R178). -/
def execDomainFault (d : Domain) (s : State) : Host.Outcome State Fault Refusal := .next (domainFault s d)

/-- DOMAIN_POWER_DOWN. -/
def execDomainPowerDown (s : State) : Host.Outcome State Fault Refusal := .next (domainPowerDown s)

/-- CORE_ON (R116). -/
def execCoreOn (s : State) : Host.Outcome State Fault Refusal := .next (coreUp s)

/-- W1C of DEVICE.PWR_PEND (R580, R616): a cleared event is not raised later. -/
def pwrPendClear (s : State) (v : Nat) : State :=
  if s.writable then s.onPwr fun p => { p with pwrPend := without p.pwrPend v } else s

/-- W1C of DEVICE.RESET_CAUSE (R122). -/
def resetCauseClear (s : State) (v : Nat) : State :=
  if s.writable then s.onPwr fun p => { p with resetCause := without p.resetCause v } else s

end Sys2Proof.Machine
end

