-- ==== Sys2Proof/Machine/Modes.lean ====
section
/-!
DEFINITION. Sys2Proof/Machine/Modes.lean: DEV_CMD and what its requests do (R129, R142, R155, R163 to R166, R171 to R179, R715).
-/
namespace Sys2Proof.Machine

/-! ## Mode requests -/

/-- The REQ code of the request that names an operation (R715). -/
def reqCode : OpMode → Nat
  | .run => 1 | .setup => 2 | .bypass => 3 | .maintenance => 4

/-- The underlying modes in which a request is accepted (R163). -/
def reqMode (op : OpMode) (m : Mode) : Bool :=
  match op with
  | .run => m == .setup || m == .bypass || m == .maintenance
  | .setup => m.running || m == .bypass || m == .maintenance
  | .bypass => m == .setup || m.running || m == .maintenance
  | .maintenance => m == .setup || m.running || m == .bypass

/-- The cause for which a request is refused (R163), as an echo's result; a self-test that ended in this very cycle still refuses (R179). -/
def reqRefusal (s : State) (op : OpMode) : Option Nat :=
  if !reqMode op s.underlying then some resWrongMode
  else if op ≠ .setup ∧ s.coreOn = false then some ccCoreOff
  else if (op = .setup ∨ op = .maintenance) ∧ s.safeEnergy = true then some resSafetyActive
  else if op ≠ .maintenance ∧ (s.selftesting || s.oph.any fun o => o.code == 0x06 && o.doneAt == s.time.bench) = true then some resSelftest
  else none

/-- A START, SETUP, BYPASS or MAINT request is judged. One that names the operation in force has no effect of its own, and takes the place
of a request that waits (R163, R164, R173). -/
def modeRequest (s : State) (m : Master) (op : OpMode) : State :=
  if !s.writable then s else
  let s := noteCmd s
  let refusal := if s.mode.opmode = op then none else reqRefusal s op
  match refusal with
  | some e => raise (echo s m 0x3 (reqCode op) [] e) evModeRefused
  | none => (echo s m 0x3 (reqCode op) [] resAccepted).onMode fun u => { u with pendingOp := some op, pendingTick := s.time.tickSeq }

/-- The guards of rows 10 to 12 of R166 as they stand at the boundary: energy towards SETUP and MAINTENANCE, a self-test out of
MAINTENANCE. -/
def modeGuard (s : State) (op : OpMode) : Bool :=
  !((op == .setup || op == .maintenance) && s.safeEnergy) && !(s.mode.opmode == .maintenance && s.selftesting)

/-- The actions of rows 6 to 12 of R166 for a change from the clock behaviour `base`. -/
def modeActions (s : State) (op base : OpMode) : State :=
  match op, base with
  | .run, .setup => searchAll (startLoops s)
  | .run, .bypass => startLoops s
  | .run, _ => s
  | .bypass, .setup => searchAll s
  | .bypass, .run => openLoops s
  | .bypass, _ => s
  | .setup, .setup => s
  | .setup, _ => apllsStop (openLoops s)
  | .maintenance, _ => s

/-- An accepted request changes DEVICE.OPMODE at the first tick boundary after its acceptance (R164 to R166): DEV_MODE with it (R158),
before the loops move. -/
def opmodeChange (s : State) : State :=
  match s.mode.pendingOp with
  | none => s
  | some op =>
    if !(s.coreOn && s.time.running && decide (s.mode.pendingTick < s.time.tickSeq)) then s else
    let s := s.onMode fun u => { u with pendingOp := none }
    if s.mode.opmode = op ∨ modeGuard s op = false then s else
    let base := s.clockMode
    let left := s.mode.opmode
    let s := refreshMode (s.onMode fun u => { u with opmode := op, maintBase := if op = .maintenance then left else u.maintBase }) mcDevCmd
    refreshMode (settleOuts (modeActions s op base)) mcDevCmd

/-! ## SOFT_RESET and SHUTDOWN -/

/-- DEV_CMD.SOFT_RESET (R129). -/
def softReset (s : State) (m : Master) : State :=
  if !s.writable then s else
  let s := noteCmd s
  if s.safeEnergy then raise (echo s m 0x3 8 [] resSafetyActive) evCmdRefused
  else assertReset (echo s m 0x3 8 [] resAccepted) 4 0

/-- The causes for which SHUTDOWN is refused (R142). -/
def shutRefusal (s : State) : Option Nat :=
  if s.safeEnergy then some resSafetyActive else if s.pwr.supplyLow then some ccSupplyLow else none

/-- Steps 1 and 2 of R142: a transaction is rolled back, a waiting mode request is discarded (R172), operations that write no NVM are
aborted. -/
def shutdownBegin (s : State) : State :=
  let s := s.onMode fun u => { u with pendingOp := none }
  let s := if s.txn.st = .idle then s else rollbackTxn s trPower
  let s := (s.opq.filter fun o => !opWrites o.code).foldl (fun t o => closeOp t o .abortedPower 0 0) s
  shutdownStep (s.onPwr fun p => { p with shut := .draining })

/-- DEV_CMD.SHUTDOWN (R142). -/
def shutdown (s : State) (m : Master) : State :=
  if !s.writable then s else
  let s := noteCmd s
  match shutRefusal s with
  | some e => raise (echo s m 0x3 9 [] e) evCmdRefused
  | none =>
    let s := echo s m 0x3 9 [] resAccepted
    if s.pwr.shut = .none then shutdownBegin s else s.onMode fun u => { u with pendingOp := none }

/-- Step 6 of R142: the domains are off, and no NVM operation is in progress; in SUPPLY_LOW the sequence waits (R155). -/
def shutdownComplete (s : State) : State :=
  let off := downOrder.all fun d => domainState s.pwr d == .off
  if s.pwr.shut = .powering ∧ off = true ∧ s.pwr.supplyLow = false ∧ s.runningOp = none then
    refreshMode (s.onPwr fun p => { p with shut := .ended }) mcShutdown
  else s

/-! ## Commands -/

/-- START. -/
def execStart (m : Master) (s : State) : Host.Outcome State Fault Refusal := .next (modeRequest (access s m) m .run)

/-- SETUP. -/
def execSetup (m : Master) (s : State) : Host.Outcome State Fault Refusal := .next (modeRequest (access s m) m .setup)

/-- BYPASS. -/
def execBypass (m : Master) (s : State) : Host.Outcome State Fault Refusal := .next (modeRequest (access s m) m .bypass)

/-- MAINT. -/
def execMaint (m : Master) (s : State) : Host.Outcome State Fault Refusal := .next (modeRequest (access s m) m .maintenance)

/-- SOFT_RESET. -/
def execSoftReset (m : Master) (s : State) : Host.Outcome State Fault Refusal := .next (softReset (access s m) m)

/-- SOFT_RESET_HOLD_END: 1 ms has passed (R129). The straps are not sampled after a soft reset. -/
def execSoftResetHoldEnd (s : State) : Host.Outcome State Fault Refusal :=
  .next (if bitOf s.pwr.resetHeld 4 then endReset s [4] (BitVec.ofNat 4 s.pwr.straps) else s)

/-- SHUTDOWN. -/
def execShutdown (m : Master) (s : State) : Host.Outcome State Fault Refusal := .next (shutdown (access s m) m)

/-- SHUTDOWN_COMPLETE. -/
def execShutdownComplete (s : State) : Host.Outcome State Fault Refusal := .next (shutdownComplete s)

/-- OPMODE_CHANGE. -/
def execOpmodeChange (s : State) : Host.Outcome State Fault Refusal := .next (opmodeChange s)

end Sys2Proof.Machine
end

