-- ==== Sys2Proof/Machine/Events.lean ====
section
/-!
DEFINITION. Sys2Proof/Machine/Events.lean: the sticky bits, the counters that count in EVALUATE, the interrupt pins, the event registers
(R574 to R582, R608 to R612), the counter commands (R601) and the programming of the fault log (R593, R595).
-/
namespace Sys2Proof.Machine

/-! ## SAMPLE and EVALUATE -/

/-- SAMPLE latches the raises of the last tick and the raw conditions (R574, R575): a P event's raw bit shows its occurrence, an L event's
its condition. -/
def eventsLatch (s : State) : State :=
  let occ := s.evt.raised &&& evDefined
  let lvl := BitVec.ofNat 256 (evLevel.foldl (fun m e => m ||| 2 ^ e) 0)
  let cond := BitVec.ofNat 256 (evLevel.foldl (fun m e => if rawCond s e then m ||| 2 ^ e else m) 0)
  s.onEvt fun v => { v with raised := 0, latched := occ, raw := (occ &&& ~~~lvl) ||| cond }

/-- The tick numbers of the latched occurrences, 32 bits. -/
def noteTicks (latched : BitVec 256) (tick : Nat) (l : List (Nat × Nat)) : List (Nat × Nat) :=
  (List.range 256).foldl (fun l e => if latched.getLsbD e then sput 0 tick e l else l) l

/-- Whether a source that counts in EVALUATE counts in this tick: an event, the tick itself, a group in ENABLED or DEGRADED (R598). -/
def evalCounts (s : State) (code : Nat) : Bool :=
  if code < 0x100 then s.evt.latched.getLsbD code
  else if code = 0x101 then true
  else if rng 0x160 0x163 code then s.grpState (code - 0x160) == .enabled || s.grpState (code - 0x160) == .degraded
  else false

/-- The sticky bits, LAST_TICK and the counters take the occurrences latched in this tick (R574, R599). -/
def stickyJob (s : State) : State :=
  let s := s.onEvt fun v => { v with
    sticky := v.sticky ||| v.latched, setAt := some s.time.bench, lastTick := noteTicks v.latched (s.curTick % 2 ^ 32) v.lastTick }
  forN 16 (fun c t => if evalCounts t (fCntSrc.val t.act (cntBase c)) then countInto c 1 t else t) s

/-! ## Interrupt pins (R581, R610) -/

/-- Some group routed to pin `k` has a sticky bit that is set and unmasked. -/
def irqWanted (s : State) (k : Nat) : Bool :=
  let open_ := (s.evt.sticky &&& ~~~s.evt.mask).toNat
  s.coreOn && (List.range 8).any fun g => s.evt.route.getLsbD (2 * g + k) && bitsOf open_ (32 * g + 31) (32 * g) != 0

/-- DISPATCH asserts the pins. -/
def irqUpdate (s : State) : State := s.onEvt fun v => { v with irq0 := irqWanted s 0, irq1 := irqWanted s 1 }

/-- A write releases a pin at once where it leaves nothing to report; it asserts none. -/
def irqRelease (s : State) : State := s.onEvt fun v => { v with irq0 := v.irq0 && irqWanted s 0, irq1 := v.irq1 && irqWanted s 1 }

/-! ## The event words (R576 to R579) -/

/-- 16 bits of a word at the place of the low or the high word of a group. -/
def evWord (g : Nat) (hi : Bool) (v : Nat) : BitVec 256 := BitVec.ofNat 256 (v % 65536 * 2 ^ (32 * g + (if hi then 16 else 0)))

/-- The low or high word of a group. -/
def evWordOf (x : BitVec 256) (g : Nat) (hi : Bool) : Nat :=
  let b := 32 * g + (if hi then 16 else 0)
  bitsOf (x &&& evDefined).toNat (b + 15) b

/-- The sticky bits that EVALUATE has set for a new occurrence in this very CORE_CLK cycle: a write of that cycle leaves them set (R608). -/
def setNewly (s : State) : BitVec 256 := if s.evt.setAt = some s.time.bench then s.evt.latched else 0

/-- W1C of sticky bits (R579, R608). -/
def stickyClear (s : State) (g : Nat) (hi : Bool) (v : Nat) : State :=
  if !s.servedCore then s
  else irqRelease (s.onEvt fun x => { x with sticky := (x.sticky &&& ~~~(evWord g hi v)) ||| (x.sticky &&& setNewly s) })

/-- A write of mask bits; those of reserved events are ignored (R576, R577). -/
def maskWrite (s : State) (g : Nat) (hi : Bool) (v : Nat) : State :=
  if !s.servedCore then s else
  let here := evWord g hi 0xFFFF &&& evDefined
  irqRelease (s.onEvt fun x => { x with mask := (x.mask &&& ~~~here) ||| (evWord g hi v &&& here) })

/-- A write of IRQ_ROUTE. -/
def routeWrite (s : State) (v : Nat) : State :=
  if !s.servedCore then s else irqRelease (s.onEvt fun x => { x with route := Word.ofN v })

/-! ## Counter commands (R601, R611) -/

/-- Counter `c` is cleared; the counts of the same CORE_CLK cycle are made into the cleared counter (R611). -/
def cntZero (s : State) (c : Nat) : State :=
  let now : Bool := (vat s.cntCyc c).at_ == some s.time.bench
  recount c { s with cntCyc := vupd s.cntCyc c fun y => if now then { y with base := default } else default }

/-- Counter `c` is cleared with every count of its old source. -/
def cntRestart (s : State) (c : Nat) : State := { s.onCnt c fun _ => default with cntCyc := vupd s.cntCyc c fun _ => default }

/-- CNT[c].CMD CLEAR. -/
def cntClear (s : State) (m : Master) (c : Nat) : State :=
  if !s.servedCore then s else echo (cntZero s c) m (cntBase c + 8) 1 [] resAccepted

/-- EVENTS.CNT_CMD CLEAR. -/
def cntCmdClear (s : State) (m : Master) (mask : Nat) : State :=
  if !s.servedCore then s else
  echo (forN 16 (fun c t => if bitOf mask c then cntZero t c else t) s) m 0x090030 mask [1] resAccepted

/-- A commit that changes SRC or GATE clears the counter at the boundary. -/
def cntsCommit (s : State) : State := s.txn.flipCnts.foldl cntRestart s

/-- A hardware source counts once more at 2^48 − 1 (R600): only a counter at its maximum is concerned. -/
def counterOverflow (s : State) (c : Nat) : State :=
  let code := fCntSrc.val s.act (cntBase c)
  let hw := code = 0x100 || rng 0x110 0x157 code
  if s.coreOn && hw && (vat s.cnts c).value == 2 ^ 48 - 1 && gateOpen s c then countInto c 1 s else s

/-! ## The fault log in the NVM (R593, R595) -/

/-- The detail octets 22 to 27 of a record: the unit and the cause; how they are laid out is not stated (log 43). -/
def logDetail (r : LogRec) : Nat := wrapI 48 (Config.unstated 80 r.unit r.cause)

/-- The 32 octets of a record. -/
def logOctets (seq : Nat) (r : LogRec) : List Byte :=
  let bs := octetsLE 4 seq ++ octetsLE 6 r.sec ++ octetsLE 4 r.ns ++ octetsLE 4 r.age ++ octetsLE 1 r.event ++ octetsLE 1 r.origin ++
    octetsLE 2 r.rpt ++ octetsLE 6 (logDetail r)
  bs ++ octetsLE 4 (crc32c bs)

/-- The oldest record of the buffer is programmed into the next slot, whose sector is erased first where the slot begins it. -/
def logRecordProgram (s : State) (vddOk : Bool) : State :=
  match s.log.buf with
  | [] => s
  | r :: rest =>
    if s.inReset || s.pwr.booting || !nvmMay s vddOk || s.nvm.busy.isSome then s else
    let n := s.log.slot
    let s := if n % 128 = 0 then nvmErase s (12 + n / 128) else s
    let s := nvmProgram s (0xC000 + 32 * n) (logOctets s.log.nextSeq r)
    shutdownStep (s.onLog fun l => { l with buf := rest, nextSeq := (l.nextSeq + 1) % 2 ^ 32, slot := (n + 1) % 512 })

/-! ## Commands -/

/-- CLEAR. -/
def execClear (m : Master) (c : Fin 16) (s : State) : Host.Outcome State Fault Refusal := .next (cntClear (access s m) m c)

/-- CNT_CMD_CLEAR. -/
def execCntCmdClear (m : Master) (mask : Word) (s : State) : Host.Outcome State Fault Refusal :=
  .next (cntCmdClear (access s m) m mask.toNat)

/-- LOG_RECORD_PROGRAM. -/
def execLogRecordProgram (vddOk : Bool) (s : State) : Host.Outcome State Fault Refusal := .next (logRecordProgram s vddOk)

/-- HW_COUNTER_OVERFLOW. -/
def execHwCounterOverflow (c : Fin 16) (s : State) : Host.Outcome State Fault Refusal := .next (counterOverflow s c)

end Sys2Proof.Machine
end

