-- ==== Sys2Proof/Machine/Security.lean ====
section
/-!
DEFINITION. Sys2Proof/Machine/Security.lean: SEC_CTRL, SEC_DATA and the exchange buffer (R622 to R624, R633, R743, R744), the timers of
the session and of authentication (R622, R626, R627), and the TAP (R122, R635, R638 to R640).
-/
namespace Sys2Proof.Machine

/-! ## The exchange buffer (R624) -/

/-- A challenge is outstanding for another master than `m`: its writes to the buffer are discarded. -/
def bufDenied (s : State) (m : Master) : Bool :=
  match s.sec.challenge with | some c => c != m | none => false

/-- A write of a buffer word. -/
def bufWrite (s : State) (m : Master) (i v : Nat) : State :=
  if bufDenied s m then raise s evSecDenied else s.onSec fun x => { x with buf := vupd x.buf i fun _ => Word.ofN v }

/-- The buffer as an operation has cleared it in this very cycle: SEC_DATA still reaches it (R754). -/
def bufBefore (s : State) : Option (Vector Word 16) := (s.sec.bufWas.filter fun p => p.1 == s.time.bench).map (·.2)

def ptrNext (s : State) : State := s.onSec fun x => { x with ptr := (x.ptr + 1) % 16 }

/-- SEC_DATA: word PTR, and PTR advances at every access (R744). A write to a buffer that this cycle clears leaves nothing (R754). -/
def secDataWrite (s : State) (m : Master) (v : Nat) : State :=
  if !s.servedCore then s else
  let cleared := (bufBefore s).isSome
  ptrNext ((bufWrite s m s.sec.ptr v).onSec fun x => { x with buf := if cleared then s.sec.buf else x.buf })

def secDataRead (s : State) : Nat × State :=
  if !s.servedCore then (0, s) else ((vat ((bufBefore s).getD s.sec.buf) s.sec.ptr).toNat, ptrNext s)

/-! ## SEC_CTRL (R633, R743) -/

/-- The level is permitted to the master: a lower one always; otherwise as the security state says. -/
def levelPermitted (s : State) (m : Master) (l : Nat) : Bool :=
  decide (l < s.sec.dbg) ||
    match s.sec.session with
    | some h => h == m && decide (l ≤ sessMax s)
    | none => !s.sec.field || decide (l ≤ noSessMax s)

/-- DBG_SET with the LEVEL of the register. -/
def dbgSet (s : State) (m : Master) : State :=
  if !s.servedCore then s else
  let l := s.sec.level
  if levelPermitted s m l then setDebug (echo s m 0x3D 2 [l] resAccepted) l
  else raise (echo s m 0x3D 2 [l] resDebugDenied) evDebugDenied

/-- END_SESSION. -/
def sessionEndCmd (s : State) (m : Master) : State :=
  if !s.servedCore then s
  else if s.sec.session = some m then endSessionBy (echo s m 0x3D 1 [] resAccepted) 1
  else echo s m 0x3D 1 [] resNotHolder

/-- BUF_CLEAR. -/
def bufClear (s : State) (m : Master) : State :=
  if !s.servedCore then s else (echo s m 0x3D 3 [] resAccepted).onSec fun x => { x with buf := Vector.replicate 16 0 }

/-- A write of SEC_CTRL: LEVEL and PTR first, then the command; a reserved LEVEL discards the whole write (R16, R709, R752). -/
def secCtrlWrite (s : State) (m : Master) (v : Nat) : State :=
  if !s.servedCore then s else
  let level := bitsOf v 5 4
  let cmd := bitsOf v 1 0
  if level = 3 then
    raise (if cmd = 0 then s else echo s m 0x3D cmd [level] ccBadValue) evBadValue
  else
    let s := s.onSec fun x => { x with level := level, ptr := bitsOf v 11 8 }
    match cmd with
    | 1 => sessionEndCmd s m
    | 2 => dbgSet s m
    | 3 => bufClear s m
    | _ => s

/-! ## Timers -/

/-- 900 s and 60 s of CORE_CLK time, in 100 ps. -/
def sessionTicks : Nat := 900 * 10000000000
def chalTicks : Nat := 60 * 10000000000

/-- The session master has made no access for more than 900 s: one in the very cycle in which they end still counts (R622, R642). -/
def sessionIdle (s : State) : State :=
  if s.sec.session.isSome && decide (s.sec.lastAccess + sessionTicks < s.safe.p.clk) then endSessionBy s 2 else s

/-- The challenge ceases to be outstanding 60 s after it was drawn, after any response that completes in that cycle (R626, R645). -/
def challengeExpire (s : State) : State :=
  if s.sec.challenge.isSome && decide (s.sec.chalEnd < s.safe.p.clk) then
    s.onSec fun x => { x with challenge := none, chalOctets := [], chalEnd := 0 }
  else s

/-- The delay after failed responses runs out, on channel H's clock (R627). -/
def authDelayExpire (s : State) : State :=
  match s.sec.delay with
  | some t => if t ≤ s.safe.h.clk then s.onSec fun x => { x with delay := none } else s
  | none => s

/-! ## The TAP -/

/-- TRST_N: the controller alone is reset; the debug level stays (R122, R638). A running access completes (R653). -/
def tapReset (s : State) : State :=
  (s.onPwr fun p => { p with resetCause := p.resetCause ||| 32 }).onTap fun t => { t with instr := .idcode }

/-- A group was near energy at the start of the present cycle: a move to READY in the cycle itself does not count (R650). -/
def nearEnergy (s : State) : Bool := anyActive s && s.safe.nearFrom != some s.time.bench

/-- EXTEST is loaded by Update-IR, with the cells as shifted in; with a group near energy it is replaced by BYPASS (R639). -/
def extestLoad (s : State) (cells : Nat) : State :=
  if nearEnergy s then raise (s.onTap fun t => { t with instr := .bypass }) evDebugDenied
  else s.onTap fun t => { t with instr := .extest, cells := cells }

/-- The pins that the boundary cells drive: under EXTEST every output pin, the safety pins only in UNPROVISIONED (R639). -/
def scanDrives (s : State) (safetyPin : Bool) : Bool :=
  s.tap.instr == .extest && (!safetyPin || (!s.sec.field && s.sec.session.isNone))

/-- DBG_CTRL reaches its register at D2 only, while CORE is ON (R635, R638); otherwise the opcode acts as BYPASS (log 44). -/
def dbgCtrl (s : State) (halt : Bool) : State :=
  if s.sec.dbg = 2 ∧ s.coreOn = true then
    let s := s.onTap fun t => { t with instr := .dbgCtrl }
    if halt then s.onSec fun x => { x with haltP := true }
    else if s.sec.haltP then chanPStart (s.onSec fun x => { x with haltP := false })
    else s
  else s.onTap fun t => { t with instr := .bypass }

/-! ## Commands -/

/-- END_SESSION. -/
def execEndSession (m : Master) (s : State) : Host.Outcome State Fault Refusal := .next (sessionEndCmd (access s m) m)

/-- DBG_SET: a write of SEC_CTRL with this LEVEL and the present PTR. -/
def execDbgSet (m : Master) (level : BitVec 2) (s : State) : Host.Outcome State Fault Refusal :=
  .next (secCtrlWrite (access s m) m (256 * s.sec.ptr + 16 * level.toNat + 2))

/-- BUF_CLEAR. -/
def execBufClear (m : Master) (s : State) : Host.Outcome State Fault Refusal := .next (bufClear (access s m) m)

/-- SESSION_IDLE. -/
def execSessionIdle (s : State) : Host.Outcome State Fault Refusal := .next (sessionIdle s)

/-- CHALLENGE_EXPIRE. -/
def execChallengeExpire (s : State) : Host.Outcome State Fault Refusal := .next (challengeExpire s)

/-- AUTH_DELAY_EXPIRE. -/
def execAuthDelayExpire (s : State) : Host.Outcome State Fault Refusal := .next (authDelayExpire s)

/-- TAP_RESET. -/
def execTapReset (s : State) : Host.Outcome State Fault Refusal := .next (tapReset s)

/-- EXTEST. -/
def execExtest (cells : Nat) (s : State) : Host.Outcome State Fault Refusal := .next (extestLoad s cells)

/-- SAMPLE_PRELOAD: the cells are loaded; the pins keep their functional drive. -/
def execSamplePreload (cells : Nat) (s : State) : Host.Outcome State Fault Refusal :=
  .next (s.onTap fun t => { t with instr := .samplePreload, cells := cells })

/-- IDCODE. -/
def execIdcode (s : State) : Host.Outcome State Fault Refusal := .next (s.onTap fun t => { t with instr := .idcode })

/-- BYPASS, and every opcode that is not listed. -/
def execBypassInstruction (s : State) : Host.Outcome State Fault Refusal := .next (s.onTap fun t => { t with instr := .bypass })

/-- HALT_P. -/
def execHaltP (s : State) : Host.Outcome State Fault Refusal := .next (dbgCtrl s true)

/-- RESUME_P. -/
def execResumeP (s : State) : Host.Outcome State Fault Refusal := .next (dbgCtrl s false)

end Sys2Proof.Machine
end

