-- ==== Sys2Proof/Machine/Sha256.lean ====
section
/-!
DEFINITION. Sys2Proof/Machine/Sha256.lean: HMAC-SHA-256, the function that R625 and R628 name. PRESUMED (log 19): the spec names the
standard function and does not restate it; SHA-256 and HMAC are written here as their published standards define them.
-/
namespace Sys2Proof.Machine

/-- The eight working words of SHA-256. -/
structure ShaWords where
  a : BitVec 32
  b : BitVec 32
  c : BitVec 32
  d : BitVec 32
  e : BitVec 32
  f : BitVec 32
  g : BitVec 32
  h : BitVec 32
  deriving DecidableEq, Repr, Inhabited

/-- The initial hash value: the first 32 fractional bits of the square roots of the first eight primes. -/
def shaInit : ShaWords :=
  { a := 0x6a09e667, b := 0xbb67ae85, c := 0x3c6ef372, d := 0xa54ff53a, e := 0x510e527f, f := 0x9b05688c, g := 0x1f83d9ab, h := 0x5be0cd19 }

/-- The round constants: the first 32 fractional bits of the cube roots of the first 64 primes. -/
def shaConsts : List (BitVec 32) :=
  [0x428a2f98, 0x71374491, 0xb5c0fbcf, 0xe9b5dba5, 0x3956c25b, 0x59f111f1, 0x923f82a4, 0xab1c5ed5] ++
  [0xd807aa98, 0x12835b01, 0x243185be, 0x550c7dc3, 0x72be5d74, 0x80deb1fe, 0x9bdc06a7, 0xc19bf174] ++
  [0xe49b69c1, 0xefbe4786, 0x0fc19dc6, 0x240ca1cc, 0x2de92c6f, 0x4a7484aa, 0x5cb0a9dc, 0x76f988da] ++
  [0x983e5152, 0xa831c66d, 0xb00327c8, 0xbf597fc7, 0xc6e00bf3, 0xd5a79147, 0x06ca6351, 0x14292967] ++
  [0x27b70a85, 0x2e1b2138, 0x4d2c6dfc, 0x53380d13, 0x650a7354, 0x766a0abb, 0x81c2c92e, 0x92722c85] ++
  [0xa2bfe8a1, 0xa81a664b, 0xc24b8b70, 0xc76c51a3, 0xd192e819, 0xd6990624, 0xf40e3585, 0x106aa070] ++
  [0x19a4c116, 0x1e376c08, 0x2748774c, 0x34b0bcb5, 0x391c0cb3, 0x4ed8aa4a, 0x5b9cca4f, 0x682e6ff3] ++
  [0x748f82ee, 0x78a5636f, 0x84c87814, 0x8cc70208, 0x90befffa, 0xa4506ceb, 0xbef9a3f7, 0xc67178f2]

/-- One round with a constant and a word of the message schedule. -/
def shaRound (k w : BitVec 32) (x : ShaWords) : ShaWords :=
  let s1 := x.e.rotateRight 6 ^^^ x.e.rotateRight 11 ^^^ x.e.rotateRight 25
  let ch := (x.e &&& x.f) ^^^ (~~~x.e &&& x.g)
  let t1 := x.h + s1 + ch + k + w
  let s0 := x.a.rotateRight 2 ^^^ x.a.rotateRight 13 ^^^ x.a.rotateRight 22
  let maj := (x.a &&& x.b) ^^^ (x.a &&& x.c) ^^^ (x.b &&& x.c)
  { a := t1 + (s0 + maj), b := x.a, c := x.b, d := x.c, e := x.d + t1, f := x.e, g := x.f, h := x.g }

/-- The word of the message schedule that follows the last sixteen. -/
def shaNext (w : List (BitVec 32)) : BitVec 32 :=
  let x := w.getD 1 0
  let y := w.getD 14 0
  let s0 := x.rotateRight 7 ^^^ x.rotateRight 18 ^^^ x >>> 3
  let s1 := y.rotateRight 17 ^^^ y.rotateRight 19 ^^^ y >>> 10
  w.getD 0 0 + s0 + w.getD 9 0 + s1

/-- The rounds of the constants given, with the sixteen words of the schedule that come next. -/
def shaRounds : List (BitVec 32) → List (BitVec 32) → ShaWords → ShaWords
  | [], _, x => x
  | k :: ks, w, x => shaRounds ks (w.drop 1 ++ [shaNext w]) (shaRound k (w.getD 0 0) x)

/-- One block of 64 octets taken into the hash value. -/
def shaBlock (x : ShaWords) (block : List Byte) : ShaWords :=
  let w := (List.range 16).map fun i => BitVec.ofNat 32 (ofOctetsBE ((block.drop (4 * i)).take 4))
  let y := shaRounds shaConsts w x
  { a := x.a + y.a, b := x.b + y.b, c := x.c + y.c, d := x.d + y.d, e := x.e + y.e, f := x.f + y.f, g := x.g + y.g, h := x.h + y.h }

/-- A message padded to whole blocks: 0x80, zeros, and its length in bits as 8 octets. -/
def shaPad (msg : List Byte) : List Byte :=
  msg ++ [0x80] ++ List.replicate ((119 - msg.length % 64) % 64) 0 ++ octetsBE 8 (8 * msg.length)

/-- SHA-256 of a message, 32 octets. -/
def sha256 (msg : List Byte) : List Byte :=
  let p := shaPad msg
  let x := (List.range (p.length / 64)).foldl (fun x i => shaBlock x ((p.drop (64 * i)).take 64)) shaInit
  [x.a, x.b, x.c, x.d, x.e, x.f, x.g, x.h].flatMap fun w => octetsBE 4 w.toNat

/-- HMAC-SHA-256 under a key of at most 64 octets (the key of R625 has 32). -/
def hmacSha256 (key msg : List Byte) : List Byte :=
  let k := key ++ List.replicate (64 - key.length) 0
  sha256 (k.map (· ^^^ 0x5C) ++ sha256 (k.map (· ^^^ 0x36) ++ msg))

end Sys2Proof.Machine
end

