-- ==== Sys2Proof/Machine/LongOps.lean ====
section
/-!
DEFINITION. Sys2Proof/Machine/LongOps.lean: the long operations: their start and needs, their ends, ABORT (R558 to R561, R568, R569), the
profiles (R785, R803), the model saves (R284 to R286), the safety confirmation (R453, R779, R800), authentication (R625 to R627), the OTP
(R628 to R630) and the snapshot export (R607, R790).
-/
namespace Sys2Proof.Machine

/-! ## Start (R559, R137, R138, R558) -/

/-- The operation whose turn it is: the first queued one, past held ones; one that writes NVM waits behind a held one, and for the supply.
-/
def nextOp (s : State) (vddOk : Bool) : Option LongOp :=
  s.opq.find? fun o =>
    o.st == .queued && (!opWrites o.code || (nvmMay s vddOk && !(s.opq.any fun x => x.st == .held && opWrites x.code)))

/-- The issuer holds the service session (R620, R621). -/
def issuerServes (s : State) (o : LongOp) : Bool := o.issuer.isSome && s.sec.session == o.issuer

/-- A profile is locked while an odd number of its fuses are burned (R629). -/
def fuseCount (k : Nat) : Nat := (List.range 16).foldl (fun n i => n + b2n (bitOf k i)) 0
def profileLocked (s : State) (p : Nat) : Bool := fuseCount (vat s.otp.lock p) % 2 == 1

/-- 30 model saves have been started in the last 24 h of XO age (R285). -/
def saveRecent (s : State) : List Nat := s.model.saveStarts.filter fun a => decide (s.model.xoAge < a + 86400)
def saveLimited (s : State) : Bool := decide (30 ≤ (saveRecent s).length)

/-- What PROFILE_LOAD needs of its issuer's transaction (R568). -/
def loadNeeds (s : State) (o : LongOp) : Option (Nat × Nat) :=
  if s.txn.st = .idle ∨ s.txn.owner.isNone = true ∨ s.txn.owner ≠ o.issuer then some (orRefused, ccNoTxn)
  else if s.txn.st ≠ .opened ∧ s.txn.st ≠ .armed then some (orRefused, ccWrongState)
  else none

/-- The requested policy of OTP_DBG_POLICY: NOSESS_MAX and SESS_MAX (R731). -/
def policyArgs (o : LongOp) : Nat × Nat := (bitsOf o.arg0.toNat 1 0, bitsOf o.arg0.toNat 5 4)

/-- An octet of the exchange buffer; octet 2w lies in bits 15:8 of word w (R624). -/
def bufOctets (s : State) : List Byte :=
  s.sec.buf.toList.flatMap fun w => octetsBE 2 w.toNat

/-- A need that is not met, or a result that needs no work: RESULT and CAUSE (R558, R453, R629, R733). -/
def opNeeds (s : State) (o : LongOp) : Option (Nat × Nat) :=
  match o.code with
  | 0x01 =>
    if 3 < o.arg0.toNat then some (orBadValue, 0)
    else if profileLocked s o.arg0.toNat then some (orLocked, 0)
    else if 1792 < (profileData s).length then some (orBadValue, 0)
    else none
  | 0x02 => match loadNeeds s o with
    | some r => some r
    | none => if 3 < o.arg0.toNat then some (orBadValue, 0) else none
  | 0x03 => if saveLimited s then some (orRateLimit, 0) else none
  | 0x04 => if saveLimited s then some (orRateLimit, 0) else none
  | 0x05 =>
    if !issuerServes s o then some (orNotService, 0)
    else if !parValid s.safe.stg then some (orInvalid, 0)
    else if o.arg0.toNat + 65536 * o.arg1.toNat ≠ sigOf s.safe.stg then some (orSig, 0)
    else if anyActive s then some (orActive, 0)
    else none
  | 0x06 =>
    if !s.coreOn then some (orRefused, ccCoreOff)
    else if s.underlying ≠ .maintenance then some (orRefused, resWrongMode)
    else none
  | 0x07 => if !s.coreOn then some (orRefused, ccCoreOff) else none
  | 0x10 =>
    if !s.coreOn then some (orRefused, ccCoreOff)
    else if s.sec.session.isSome || (s.sec.challenge.isSome && s.sec.challenge != o.issuer) then some (orBusy, 0)
    else if s.sec.delay.isSome then some (orDelayed, 0)
    else none
  | 0x11 => if !s.coreOn then some (orRefused, ccCoreOff) else none
  | 0x12 =>
    if !issuerServes s o then some (orRefused, resNotService)
    else if s.otp.keySet then some (orKeySet, 0)
    else if (bufOctets s).all (· == 0) then some (orBadValue, 0)
    else none
  | 0x13 =>
    let (n, x) := policyArgs o
    if !issuerServes s o then some (orRefused, resNotService)
    else if 1 < n ∨ 2 < x ∨ o.arg0.toNat &&& 0x33 ≠ o.arg0.toNat then some (orBadValue, 0)
    else if noSessMax s < n ∨ sessMax s < x then some (orPolicyRaise, 0)
    else none
  | 0x14 =>
    let p := o.arg0.toNat
    if !issuerServes s o then some (orRefused, resNotService)
    else if 3 < p ∨ 1 < o.arg1.toNat then some (orBadValue, 0)
    else if profileLocked s p == bitOf o.arg1.toNat 0 then some (orNoChange, 0)
    else if fuseCount (vat s.otp.lock p) = 16 then some (orFusesExhausted, 0)
    else none
  | _ => none

/-- What an operation takes over as it starts: the data of the record it writes, or the key. -/
def opData (s : State) (o : LongOp) : List Word :=
  match o.code with
  | 0x01 => profileData s
  | 0x03 => modelData s
  | 0x04 => modelData s
  | 0x05 => imageWords s.safe.stg
  | 0x12 => s.sec.buf.toList
  | _ => []

/-- The effects of a start beside the state: MODEL_CLEAR clears the image at once, a model save is counted, an export and a self-test
begin, the NVM is busy (R139, R285, R561, R607, R786). -/
def opBegin (s : State) (o : LongOp) : State :=
  let s := if o.code = 0x04 ∧ o.data.isEmpty = true then modelClear s else s
  let s := if (o.code = 0x03 ∨ o.code = 0x04) ∧ o.data.isEmpty = true then
      s.onModel fun m => { m with saveStarts := m.xoAge :: saveRecent s } else s
  let data := if o.data.isEmpty then opData s o else o.data
  let s := setOp s { o with st := .running, data := data }
  let s := match opRecord o with
    | some r => recBegin s r
    | none => if o.code = 0x08 then s.onNvm fun v => { v with busy := some 12 } else s
  let s := if o.code = 0x07 then s.onSnap fun x => { x with exporting := true } else s
  if o.code = 0x06 then settleOuts s else s

/-- Cycles for long operations: while CORE ticks those of EVALUATE and DISPATCH that no job uses (R72); any while it does not. -/
def opCycles (s : State) : Bool := !(s.coreOn && s.time.running) || spareCycles s

/-- OP_START: the operation whose turn it is starts, or ends at once where its needs are not met. A record write that was held begins
again, with what it had taken over (R139). Operations run in spare cycles only, where CORE ticks (R72). -/
def opStart (s : State) (vddOk : Bool) : State :=
  if !s.writable || s.runningOp.isSome || !opCycles s then s else
  match nextOp s vddOk with
  | none => s
  | some o =>
    match (if o.data.isEmpty then opNeeds s o else none) with
    | some (r, c) =>
      let s := finishOp s o .done r c
      if o.code = 0x05 then raise s (ev 6 14) else s
    | none => opBegin s o

/-! ## Ends -/

/-- A word is put into the staged copy. -/
def stagePut (s : State) (a : Nat) (v : Word) : State :=
  s.onTxn fun t => { t with
    staged := lput v a t.staged, written := if t.written.contains a then t.written else t.written ++ [a] }

/-- The count of skipped triples stands in the third argument word of the operation's echo (R785; log 45). -/
def echoSkips (s : State) (o : LongOp) (n : Nat) : State :=
  { s with echoes := s.echoes.map fun e =>
      if e.seq = o.echoSeq ∧ e.addr = 0x20 then { e with args := e.args.take 2 ++ [n] } else e }

/-- PROFILE_LOAD (R785, R803): the triples that are taken replace what is staged. Without a valid copy the result is not stated (log 45). -/
def loadDone (s : State) (o : LongOp) : State :=
  match loadNeeds s o with
  | some (r, c) => finishOp s o .done r c
  | none =>
    let p := o.arg0.toNat
    match recBest s p with
    | none => finishOp s o .done (wrapI 8 (Config.unstated 81 p 0)) 0
    | some b =>
      let ts := (leadPwr (triples (recData s p b))).2
      let s := (ts.filter tripleOk).foldl (fun t x => stagePut t x.1 (cfgWord x.1 x.2)) s
      finishOp (echoSkips s o (ts.filter fun x => !tripleOk x).length) o .done orDone 0

/-- A record has been written and verified, or its verify has failed (R286, R453, R591). -/
def recordEnds (s : State) (o : LongOp) (r : Nat) (ok : Bool) : State :=
  let s := if ok then recEnd s r o.data else raise (recCut s) evNvmFail
  let s :=
    if r = 4 then
      if ok then
        raise (s.onModel fun m => { m with
          saveSec := dataAt o.data 4 3, saveAge := dataAt o.data 2 2, saveFrom := dataAt o.data 2 2, learnedSince := false, retryAt := none, autoFail := none }) evModelSaved
      else
        let s := if o.issuer.isNone && o.echoSeq == 2 then
            s.onModel fun m => { m with retryAt := some (m.xoAge + 3600), autoFail := some m.xoAge } else s
        raise s evModelSaveFail
    else if r = 5 then
      if ok then raise (evaluateGroups (latchAll (s.onSafe fun f => { f with confirmed := some (imageOf o.data) }) caParChange)) (ev 6 13)
      else raise s (ev 6 14)
    else s
  finishOp s o .done (if ok then orDone else orNvmFail) 0

/-- LOG_CLEAR (R594, R596): the ring is erased, SEQ starts at 0, and the clear counts as 512 records; the buffer is kept. -/
def logClear (s : State) : State :=
  let s := (List.range 4).foldl (fun t k => nvmErase t (12 + k)) s
  (s.onNvm fun v => { v with busy := none }).onLog fun l => ({ l with nextSeq := 0, slot := 0 }).account s.model.xoAge 512

/-- The image words from 0x0C_1000 on (R789, R790): 0x860 words. -/
def imageLen : Nat := 0x860
def snapImage (s : State) : List Word := (List.range imageLen).map fun i => sget 0 s.snap.image i

/-- SNAP_EXPORT: header and image (R607, R790). -/
def exportDone (s : State) : State :=
  let img := snapImage s
  let ws := [Word.ofN imageLen] ++ wordsLE 4 s.snap.markTick ++ wordsLE 2 (crc32c (octetsOfWords img)) ++ [0] ++ img
  s.onSnap fun x => { x with exp := (ws.mapIdx fun i w => (i, w)).filter fun c => c.2 != 0 }

/-! ### Authentication (R625 to R627) -/

/-- The master octet of R625. -/
def masterOctet : Master → Byte
  | .hb => 1 | .mp => 2

/-- The key in use: 32 octets of 0x00 while LC is UNPROVISIONED (R627). -/
def keyInUse (s : State) : List Byte := if s.sec.field then s.otp.key else List.replicate 32 0

/-- The 26 octets of the message of R625. -/
def authMessage (s : State) (m : Master) : List Byte :=
  s.sec.chalOctets ++ octetsBE 8 Config.uid.toNat ++ [masterOctet m, 1]

/-- The response of R625, octet 0 first. -/
def authResponse (s : State) (m : Master) : List Byte := hmacSha256 (keyInUse s) (authMessage s m)

/-- The buffer's words for octets, two to a word. -/
def bufOf (bs : List Byte) : Vector Word 16 := vmk 16 fun w => Word.ofN (ofOctetsBE ((bs.drop (2 * w)).take 2))

/-- AUTH_CHALLENGE ends: a fresh challenge, outstanding for 60 s, or RNG_FAIL with the buffer cleared (R626). -/
def challengeDone (s : State) (o : LongOp) (m : Master) (rngOk : Bool) : State :=
  if !rngOk then finishOp (clearBuf s) o .done orRngFail 0 else
  let c := octetsBE 16 (Config.randomBits s.draws).toNat
  let s := { s with draws := s.draws + 1 }
  finishOp (s.onSec fun x => { x with
    buf := bufOf c, chalOctets := c, challenge := some m, chalEnd := s.safe.p.clk + chalTicks }) o .done orDone 0

/-- The delay after the n-th failure in a row, in s (R627). -/
def delaySec (n : Nat) : Nat := min (60 * 2 ^ (n - 3)) 3600

/-- AUTH_RESPONSE ends (R626, R627): a matching response opens SERVICE for the issuer, with the staged parameters of R779. -/
def responseDone (s : State) (o : LongOp) (m : Master) : State :=
  if s.sec.challenge ≠ some m then finishOp s o .done orNoChallenge 0 else
  let match_ := bufOctets s == authResponse s m
  let s := s.onSec fun x => { x with challenge := none, chalOctets := [], chalEnd := 0 }
  if match_ then
    let s := s.onSec fun x => { x with failCnt := 0, session := some m, openTime := s.now, lastAccess := s.safe.p.clk }
    let s := s.onSafe fun f => { f with stg := if f.hasPar then f.par else parFresh }
    finishOp (raise (raise s evAuthOk) evSecState) o .done orDone 0
  else
    let n := min 255 (s.sec.failCnt + 1)
    let s := s.onSec fun x => { x with
      failCnt := n, delay := if 3 ≤ n then some (s.safe.h.clk + delaySec n * 10000000000) else x.delay }
    finishOp (raise s evAuthFail) o .done orAuthFail 0

/-! ### OTP (R628 to R630) -/

/-- The first `k` unburned of the fuses `lo` to `hi` − 1 are burned. -/
def burn (fuses : Nat) (lo hi k : Nat) : Nat :=
  (((List.range hi).filter fun i => decide (lo ≤ i) && !bitOf fuses i).take k).foldl (fun f i => f + 2 ^ i) fuses

/-- KEY_CHECK of a key: the first 4 octets of HMAC-SHA-256(KEY, 16 octets of 0x00) (R628). -/
def keyCheckOf (key : List Byte) : Nat := ofOctetsBE ((hmacSha256 key (List.replicate 16 0)).take 4)

/-- The program cycle of an OTP operation. Where the verify fails, which of its fuses are burned is not stated (log 46), but KEY_SET is
(R631). -/
def otpBurn (s : State) (o : LongOp) (ok : Bool) : State :=
  let free (tag : Nat) (full old : Nat) : Nat :=
    if ok then full else old ||| (full &&& wrapI 64 (Config.unstated tag full o.ticket))
  match o.code with
  | 0x12 =>
    let key := octetsOfWords (o.data.map fun w => w.rotateLeft 8)
    let key' := if ok then key else octetsLE 32 (wrapI 256 (Config.unstated 82 (ofOctetsLE key) o.ticket))
    let check := if ok then keyCheckOf key else wrapI 32 (Config.unstated 83 (ofOctetsLE key) o.ticket)
    { s with otp := { s.otp with key := key', keySet := true, keyCheck := check } }
  | 0x13 =>
    let (n, x) := policyArgs o
    let f := s.otp.policy
    let f := free 84 (burn (burn f 0 2 (noSessMax s - n)) 2 4 (sessMax s - x)) f
    { s with otp := { s.otp with policy := f } }
  | 0x14 => { s with otp := { s.otp with lock := vupd s.otp.lock o.arg0.toNat fun f => free 85 (burn f 0 16 1) f } }
  | _ => s

/-- An OTP operation ends (R629, R630, R634): LC, the session and the debug level follow the fuses. -/
def otpDone (s : State) (o : LongOp) (ok : Bool) : State :=
  let s := otpBurn s o ok
  let s := if ok then raise s evOtpWrite else raise s evNvmFail
  let s := match o.code with
    | 0x12 => endSessionBy (s.onSec fun x => { x with field := true }) 3
    | 0x13 => if s.sec.session.isSome then setDebug s (min s.sec.dbg (sessMax s)) else s
    | _ => s
  finishOp s o .done (if ok then orDone else orOtpFail) 0

/-- OP_DONE: the running operation ends. One that an ABORT has asked to stop ends ABORTED here, except an OTP program cycle, which completes
once started (R560, R561, R630). It ends in spare cycles (R72). -/
def opDone (s : State) (rep : OpReport) : State :=
  if !opCycles s then s else
  match s.opq.find? fun o => o.st == .running || o.aborting with
  | none => s
  | some o =>
    if o.aborting && !opBurns o.code then finishOp (opAborted s o) o .aborted 0 0 else
    let o := { o with abortIgnored := o.abortIgnored || o.aborting }
    match o.code with
    | 0x02 => loadDone s o
    | 0x06 => finishOp s o .done (if rep.testOk then orDone else wrapI 8 (Config.unstated 87 o.arg0.toNat 0)) 0
    | 0x07 => finishOp (exportDone s) o .done orDone 0
    | 0x08 => finishOp (if rep.verifyOk then logClear s else raise (logClear s) evNvmFail) o .done
        (if rep.verifyOk then orDone else orNvmFail) 0
    | 0x10 => match o.issuer with | some m => challengeDone s o m rep.rngOk | none => s
    | 0x11 => match o.issuer with | some m => responseDone s o m | none => s
    | _ => match opRecord o with
      | some r => recordEnds s o r rep.verifyOk
      | none => otpDone s o rep.verifyOk

/-! ## ABORT (R561, R569) -/

/-- The operation with this ticket completed in this very cycle, for its issuer. -/
def doneNow (s : State) (m : Master) (t : Nat) (o : LongOp) : Bool :=
  o.ticket == t && o.issuer == some m && o.st == .done && o.doneAt == s.time.bench

/-- ABORT acts at once; the ticket stands in OP_ARG0. -/
def abortOp (s : State) (m : Master) : State :=
  if !s.writable then s else
  let h := s.host m
  let t := h.arg0.toNat % 256
  let tell (u : State) (r : Nat) : State := echo u m 0x20 0xF0 [h.arg0.toNat, h.arg1.toNat] r
  match s.opq.find? fun o => o.ticket == t with
  | some o =>
    if o.issuer ≠ some m then tell s ccNotOwner
    else if o.st = .running then setOp (tell s resAccepted) { o with aborting := true }
    else finishOp (tell s resAccepted) o .aborted 0 0
  | none =>
    if s.oph.any (doneNow s m t) then
      let s := tell s resAccepted
      let mark (o : LongOp) : LongOp := { o with abortIgnored := o.abortIgnored || doneNow s m t o }
      let s := { s with oph := s.oph.map mark }
      s.onHost m fun x => if x.lastTicket = some t then { x with lastIgnored := true } else x
    else tell s resNotFound

/-! ## The automatic model save (R284, R286) -/

/-- A model save is in the queue, the device's own or a MODEL_SAVE of the host's, which serves both (R293). -/
def saveQueued (s : State) : Bool := s.opq.any fun o => o.code == 0x03

/-- It enters the queue if there is room; otherwise it is tried again. -/
def queueSave (s : State) (seq : Nat) : State :=
  if s.opq.length < 4 then enqueueOp s none 0x03 0 0 seq else s

/-- The save is due: a day of XO age since the last successful save, and since the last automatic one that failed, with learning since. -/
def saveDue (s : State) : Bool :=
  let m := s.model
  m.learnedSince && decide (m.saveFrom + 86400 ≤ m.xoAge) &&
    (match m.autoFail with | some a => decide (a + 86400 ≤ m.xoAge) | none => true)

def modelSaveDue (s : State) : State :=
  if s.served && s.pwr.shut == .none && saveDue s && !saveQueued s then queueSave s 2 else s

def modelSaveRetry (s : State) : State :=
  match s.model.retryAt with
  | some a =>
    if s.served && s.pwr.shut == .none && decide (a ≤ s.model.xoAge) && !saveQueued s && decide (s.opq.length < 4) then
      queueSave (s.onModel fun m => { m with retryAt := none }) 1
    else s
  | none => s

/-! ## The page program that a reset waited for (R144, R630) -/

/-- The page program or OTP cycle completes: no further page of a record is written, fuses are burned; then the reset is applied. -/
def programEnd (s : State) : State :=
  if !s.pwr.resetWaits then s else
  let s := match s.runningOp with
    | some o => if opBurns o.code then otpBurn s o (Config.bandChoice 86 o.ticket) else s
    | none => s
  tryRelease (applyWarm (s.onPwr fun p => { p with resetWaits := false }))

/-! ## Commands -/

/-- PROFILE_SAVE is issued. -/
def execProfileSave (m : Master) (s : State) : Host.Outcome State Fault Refusal := .next (issueOp (access s m) m 0x01)
/-- PROFILE_LOAD is issued. -/
def execProfileLoad (m : Master) (s : State) : Host.Outcome State Fault Refusal := .next (issueOp (access s m) m 0x02)
/-- MODEL_SAVE is issued. -/
def execModelSave (m : Master) (s : State) : Host.Outcome State Fault Refusal := .next (issueOp (access s m) m 0x03)
/-- MODEL_CLEAR is issued. -/
def execModelClear (m : Master) (s : State) : Host.Outcome State Fault Refusal := .next (issueOp (access s m) m 0x04)
/-- SAFE_CONFIRM is issued. -/
def execSafeConfirm (m : Master) (s : State) : Host.Outcome State Fault Refusal := .next (issueOp (access s m) m 0x05)
/-- SELFTEST is issued. -/
def execSelftest (m : Master) (s : State) : Host.Outcome State Fault Refusal := .next (issueOp (access s m) m 0x06)
/-- SNAP_EXPORT is issued. -/
def execSnapExport (m : Master) (s : State) : Host.Outcome State Fault Refusal := .next (issueOp (access s m) m 0x07)
/-- LOG_CLEAR is issued. -/
def execLogClear (m : Master) (s : State) : Host.Outcome State Fault Refusal := .next (issueOp (access s m) m 0x08)
/-- AUTH_CHALLENGE is issued. -/
def execAuthChallenge (m : Master) (s : State) : Host.Outcome State Fault Refusal := .next (issueOp (access s m) m 0x10)
/-- AUTH_RESPONSE is issued. -/
def execAuthResponse (m : Master) (s : State) : Host.Outcome State Fault Refusal := .next (issueOp (access s m) m 0x11)
/-- OTP_KEY_WRITE is issued. -/
def execOtpKeyWrite (m : Master) (s : State) : Host.Outcome State Fault Refusal := .next (issueOp (access s m) m 0x12)
/-- OTP_DBG_POLICY is issued. -/
def execOtpDbgPolicy (m : Master) (s : State) : Host.Outcome State Fault Refusal := .next (issueOp (access s m) m 0x13)
/-- OTP_PROFILE_LOCK is issued. -/
def execOtpProfileLock (m : Master) (s : State) : Host.Outcome State Fault Refusal := .next (issueOp (access s m) m 0x14)
/-- ABORT. -/
def execAbort (m : Master) (s : State) : Host.Outcome State Fault Refusal := .next (abortOp (access s m) m)
/-- OP_START. -/
def execOpStart (vddOk : Bool) (s : State) : Host.Outcome State Fault Refusal := .next (opStart s vddOk)
/-- OP_DONE. -/
def execOpDone (rep : OpReport) (s : State) : Host.Outcome State Fault Refusal := .next (opDone s rep)
/-- MODEL_SAVE_DUE. -/
def execModelSaveDue (s : State) : Host.Outcome State Fault Refusal := .next (modelSaveDue s)
/-- MODEL_SAVE_RETRY. -/
def execModelSaveRetry (s : State) : Host.Outcome State Fault Refusal := .next (modelSaveRetry s)
/-- PAGE_PROGRAM_END. -/
def execPageProgramEnd (s : State) : Host.Outcome State Fault Refusal := .next (programEnd s)

end Sys2Proof.Machine
end

