-- ==== Sys2Proof/Machine/StateMap.lean ====
section
/-!
DEFINITION. Sys2Proof/Machine/StateMap.lean: what every direct register (R706 to R746) and every word of the state map (R755 to R794)
reads as, and which words form one ROL group (R539, R760). The side effects of accesses are in HostBus.lean.
-/
namespace Sys2Proof.Machine

/-! ## Words -/

/-- One listed item of the map: its first address, its length, whether its words form an ROL group, whether its power domain is ON, and
its words. -/
structure Item where
  base : Nat
  len : Nat
  grp : Bool
  on : Bool
  word : Nat → Nat

/-- An ROL group (or a single word), a group of single words, a single word. -/
def rol (on : Bool) (base len : Nat) (ws : Unit → List Nat) : Item := ⟨base, len, decide (1 < len), on, fun i => (ws ()).getD i 0⟩
def singles (on : Bool) (base len : Nat) (w : Nat → Nat) : Item := ⟨base, len, false, on, w⟩
def one (on : Bool) (base : Nat) (w : Unit → Nat) : Item := ⟨base, 1, false, on, fun _ => w ()⟩

/-- A number, a signed number and a time value as words. -/
def nw (k n : Nat) : List Nat := (List.range k).map fun i => n / 65536 ^ i % 65536
def iw (k : Nat) (z : Int) : List Nat := nw k (wrapI (16 * k) z)
def tw (t : Nat) : List Nat := nw 1 (t % ns16) ++ nw 2 (t % sec16 / ns16) ++ nw 3 (t / sec16)

/-- A fraction as a signed number, with the free rounding of log 1. -/
def rw (tag k : Nat) (x : Rat) : List Nat := iw k (ratFree tag x)

/-- Fields packed into a word: values and their lowest bits. -/
def pack (fs : List (Nat × Nat)) : Nat := fs.foldl (fun w f => w + f.1 * 2 ^ f.2) 0

/-! ## Codes -/

/-- Masters, domain states, transaction states and the other enumerations as their registers show them. -/
def masterCode : Option Master → Nat
  | none => 0 | some .hb => 1 | some .mp => 2
def DomState.code : DomState → Nat
  | .off => 0 | .ramping => 1 | .on => 2 | .fault => 3
def TxnState.code : TxnState → Nat
  | .idle => 0 | .opened => 1 | .pending => 2 | .armed => 3 | .proposed => 4 | .prepared => 5 | .agreed => 6
def Qual.code : Qual → Nat
  | .disqualified => 0 | .holdOff => 1 | .qualified => 2
def QlOrigin.code : QlOrigin → Nat
  | .failed => 0 | .force => 1 | .inband => 2 | .host => 3
def FbState.code : FbState → Nat
  | .ok => 0 | .lost => 1 | .frozen => 2
def PmState.code : PmState → Nat
  | .idle => 0 | .moving => 1 | .frozen => 2
def HoBasis.code : HoBasis → Nat
  | .interval => 0 | .recent => 1 | .none => 2
def TsState.code : TsState → Nat
  | .disabled => 0 | .ok => 1 | .frozen => 2 | .fault => 3
def ApllState.code : ApllState → Nat
  | .off => 0 | .search => 1 | .locking => 2 | .aligning => 3 | .waitEpoch => 4 | .run => 5 | .fault => 6
def Sense.code : Sense → Nat
  | .ok => 0 | .stuckLow => 1 | .stuckHigh => 2 | .freqErr => 3 | .activeOff => 4 | .notChecked => 5
def EyeState.code : EyeState → Nat
  | .idle => 0 | .pending => 1 | .live => 2 | .done => 3 | .dropped => 4
def WinState.code : WinState → Nat
  | .idle => 0 | .pending => 1 | .opened => 2 | .done => 3 | .dropped => 4
def DcRole.code : DcRole → Nat
  | .none => 0 | .originator => 1 | .participant => 2
def DcState.code : DcState → Nat
  | .idle => 0 | .proposed => 1 | .prepared => 2 | .agreed => 3 | .applied => 4 | .notApplied => 5 | .aborted => 6 | .noDecision => 7

/-! ## The direct registers (R712 to R746) -/

/-- Bits of a bank as a number. -/
def bits {n : Nat} (v : Vector Bool n) : Nat := (v.toList.mapIdx fun i b => b2n b * 2 ^ i).foldl (· + ·) 0

/-- DEV_MODE. -/
def devMode (s : State) : Nat :=
  pack [(s.mode.opmode.code, 14), (s.mode.prev.code, 8), (s.underlying.code, 4), (s.mode.mode.code, 0)]

/-- DEV_STATUS; bits derived from CORE read 0 while CORE is not ON (R716). -/
def devStatus (s : State) : Nat :=
  pack [(b2n (faultN s), 15), (b2n (s.lockPin && s.coreOn), 14), (b2n s.lace.secValid, 13), (b2n (s.txn.st != .idle), 12),
    (b2n (!s.opq.isEmpty), 11), (b2n s.safeEnergy, 10), (b2n s.lockout, 9), (b2n s.pwr.xoValid, 8), (s.pwr.bootProfile, 2),
    (b2n s.pwr.bootFallback, 1), (b2n s.pwr.bootDone, 0)]

/-- PWR_STATUS and SUPPLY_STATUS. -/
def pwrStatus (s : State) : Nat :=
  pack [(b2n s.mode.standby, 8), (s.pwr.outh.code, 6), (s.pwr.outl.code, 4), (s.pwr.syn.code, 2), (s.pwr.core.code, 0)]
def supplyStatus (s : State) : Nat :=
  pack [(bits s.pwr.vddoOvr, 12), (bits s.pwr.vddoBor, 8), (b2n s.pwr.supplyLow, 7), (b2n s.pwr.bor18, 5), (b2n s.pwr.warn18, 4),
    (b2n s.pwr.bor09, 3), (b2n s.pwr.warn09, 2), (b2n s.pwr.warnAon, 1), (b2n s.pwr.warn33, 0)]

/-- The tick number that the TICK group copies: with CORE off from the active TICK_PERIOD (R66, R722). -/
def State.tickRead (s : State) : Nat := if s.coreOn then s.tickNum else s.time.bench / tickLenB (fPeriod.val s.act 0)

/-- TXN_STATUS. -/
def txnStatus (s : State) : Nat :=
  pack [(b2n s.txn.abortIgnored, 15), (masterCode s.txn.owner, 13), (s.txn.result, 8), (s.txn.st.code, 0)]

/-- OP_STATUS of a master (R732). -/
def opStatus (s : State) (h : HostPort) : Nat :=
  pack [(h.lastTicket.getD 0, 8), (b2n h.lastIgnored, 7), (h.lastState, 4), (s.opq.length, 0)]

/-- EVT_SUMMARY (R734). -/
def evtSummary (s : State) : Nat :=
  let grp (x : BitVec 256) (g : Nat) : Nat := b2n (evWordOf x g false != 0 || evWordOf x g true != 0)
  pack (((List.range 8).map fun g => (grp s.evt.sticky g, 8 + g)) ++
        ((List.range 8).map fun g => (grp (s.evt.sticky &&& ~~~s.evt.mask) g, g)))

/-- SNAP_STATUS (R739). -/
def snapStatus (s : State) : Nat :=
  pack [(s.snap.missed, 8), (b2n s.snap.overrun, 7), (b2n s.snap.srcTrig, 5), (b2n s.snap.srcEye, 4), (b2n s.snap.srcReq, 3),
    (b2n s.snap.exporting, 2), (b2n s.snap.valid, 0)]

/-- SAFE_STATUS (R740): an UNUSED group reads 0. -/
def safeStatus (s : State) : Nat :=
  pack ([(b2n s.safe.kill, 15), (b2n (!s.safe.h.srst), 14), (b2n s.safe.confirmed.isSome, 13)] ++
    (List.range 4).map fun n => ((s.grpState n).code, 3 * n))

/-- SEC_STATUS (R742). -/
def secStatus (s : State) : Nat :=
  pack [(min 15 s.sec.failCnt, 12), (b2n s.sec.delay.isSome, 11), (masterCode s.sec.challenge, 9), (s.sec.dbg, 7),
    (masterCode s.sec.session, 5), (b2n s.sec.field, 4), (if s.sec.session.isSome then 2 else b2n s.sec.field, 0)]

/-- MASTER_STATUS as a master reads it (R745). -/
def masterStatus (s : State) (m : Option Master) : Nat :=
  pack [(b2n s.mp.stale, 5), (b2n s.hb.stale, 4), (masterCode s.txn.owner, 2), (b2n (m == some .mp), 1), (b2n s.prioMp, 0)]

/-- CONFLICT_LOG (R746). -/
def conflictLog (s : State) : Nat := pack [((s.conflicts.head?.map (·.loser)).getD 0, 8), (s.conflictCnt, 0)]

/-- A register of a master's own; 0 for a reader that is no master. -/
def perMaster (s : State) (m : Option Master) (f : HostPort → Nat) : Nat := match m with | some x => f (s.host x) | none => 0

/-- Direct addresses that are listed (R706, R707). -/
def dirListed (a : Nat) : Bool :=
  rng 0x00 0x0E a || rng 0x10 0x14 a || rng 0x18 0x1C a || rng 0x20 0x24 a || rng 0x28 0x30 a || rng 0x34 0x35 a || rng 0x38 0x39 a ||
  rng 0x3C 0x3E a || rng 0x40 0x41 a

/-- CORE registers (R112, R706). -/
def dirCore (a : Nat) : Bool := rng 0x28 0x35 a || rng 0x3C 0x3E a

/-- The value a direct register reads as, WIN_DATA and WIN_DATA_INC apart; WOC fields and unlisted addresses read 0 (R13, R17). -/
def dirWord (s : State) (m : Option Master) (a : Nat) : Nat :=
  if dirCore a && !s.coreOn then 0 else
  match a with
  | 0x00 => 0x4E58
  | 0x01 => Config.pFirmware.toNat * 256 + 1
  | 0x02 => devMode s
  | 0x04 => devStatus s
  | 0x05 => s.pwr.ctrl
  | 0x06 => pwrStatus s
  | 0x07 => supplyStatus s
  | 0x08 => s.benchNs % 65536
  | 0x09 => s.benchNs / 65536
  | 0x0A => s.benchSec % 65536
  | 0x0B => s.benchSec / 65536 % 65536
  | 0x0C => s.benchSec / 2 ^ 32 % 65536
  | 0x0D => s.tickRead % 65536
  | 0x0E => s.tickRead / 65536 % 65536
  | 0x10 => perMaster s m fun h => h.winAddr % 65536
  | 0x11 => perMaster s m fun h => h.winAddr / 65536
  | 0x14 => perMaster s m fun h => b2n h.staged
  | 0x19 => txnStatus s
  | 0x1A => s.txn.at_ % 65536
  | 0x1B => s.txn.at_ / 65536
  | 0x1C => perMaster s m fun h => 256 * h.errCode + h.errIndex
  | 0x21 => perMaster s m fun h => h.arg0.toNat
  | 0x22 => perMaster s m fun h => h.arg1.toNat
  | 0x23 => perMaster s m (opStatus s)
  | 0x24 => perMaster s m fun h => h.lastResult
  | 0x28 => evtSummary s
  | 0x29 => s.evt.grpSel
  | 0x2A => evWordOf s.evt.sticky s.evt.grpSel false
  | 0x2B => evWordOf s.evt.sticky s.evt.grpSel true
  | 0x2C => evWordOf s.evt.raw s.evt.grpSel false
  | 0x2D => evWordOf s.evt.raw s.evt.grpSel true
  | 0x2E => evWordOf s.evt.mask s.evt.grpSel false
  | 0x2F => evWordOf s.evt.mask s.evt.grpSel true
  | 0x30 => s.evt.route.toNat
  | 0x34 => pack [(b2n s.snap.hold, 2), (b2n s.snap.trigEn, 1)]
  | 0x35 => snapStatus s
  | 0x38 => safeStatus s
  | 0x39 => pack [(s.safe.causeGrp, 12), (s.safe.causeState, 8), (s.safe.causeCode, 0)]
  | 0x3C => secStatus s
  | 0x3D => pack [(s.sec.ptr, 8), (s.sec.level, 4)]
  | 0x3E => (vat s.sec.buf s.sec.ptr).toNat
  | 0x40 => masterStatus s m
  | 0x41 => conflictLog s
  | _ => 0

/-- The ROL groups among the direct registers: TIME and TICK (R720, R722). -/
def dirItems (s : State) : List Item :=
  [rol true 0x08 5 fun _ => nw 2 s.benchNs ++ nw 3 s.benchSec, rol true 0x0D 2 fun _ => nw 2 s.tickRead]

/-! ## Echo groups and entries (R761, R767) -/

/-- The eight words of an echo. -/
def echoWords (e : Echo) : List Nat :=
  let arg (i : Nat) : Nat := e.args.getD i 0
  [e.value, arg 0, arg 1, arg 2, pack [(masterCode (some e.master), 14), (e.result, 0)]] ++ nw 2 e.tick ++ [e.seq]

/-- The echo group of the word at `addr`: its newest echo, zeros if there is none. -/
def echoItem (s : State) (on : Bool) (base addr : Nat) : Item :=
  rol on base 8 fun _ => match s.echoes.find? fun e => e.addr == addr with | some e => echoWords e | none => []

/-- An entry of HOST.ECHO_LOG: the address in place of w0 and in w3 15:8. -/
def echoLogWords (e : Echo) : List Nat :=
  (echoWords e).mapIdx fun i w =>
    if i = 0 then e.addr % 65536 else if i = 3 then w % 256 + e.addr / 65536 % 256 * 256 else w

/-- An entry of HOST.OPQ or HOST.OPH. -/
def opWords (o : LongOp) : List Nat :=
  [pack [(o.ticket, 0), (masterCode o.issuer, 8), (o.st.code, 12)], o.code, o.arg0.toNat, o.arg1.toNat, 256 * o.result + o.cause] ++
    nw 2 o.tick

/-- A record of HOST.CONFLICT. -/
def conflictWords (c : Conflict) : List Nat :=
  nw 2 c.target ++ [masterCode (some c.winner), c.winVal.toNat, c.loseVal.toNat] ++ nw 2 c.tick

/-- An entry of DEVICE.MODE_HIST. -/
def histWords (h : ModeChange) : List Nat := pack [(h.newMode.code, 0), (h.oldMode.code, 4), (h.cause, 8)] :: tw h.time

/-- The group at base + size × k that holds address `a`, for k below `n`, with the words that `f k` gives. -/
def repeated (on : Bool) (base step len n a : Nat) (f : Nat → List Nat) : List Item :=
  let k := (a - base) / step
  if base ≤ a ∧ k < n then [rol on (base + step * k) len fun _ => f k] else []

/-- Words of the entry `k` of a list; none where the list is shorter. -/
def entryWords {α : Type} (xs : List α) (f : α → List Nat) (k : Nat) : List Nat := match xs[k]? with | some x => f x | none => []

/-! ## DEVICE, TIME, TICK, TXN and HOST (R764 to R767) -/

/-- DEVICE.FAULT_SRC: the conditions of R582 and the lowest event number among those that hold. -/
def faultSrc (s : State) : List Nat :=
  let fs := faultSticky s ++ faultPending s ++ faultRaw s
  [pack [(b2n s.lockout, 0), (b2n !(faultSticky s).isEmpty, 1), (b2n !(faultPending s).isEmpty, 2), (b2n !(faultRaw s).isEmpty, 3)],
   fs.foldl min (fs.headD 0)]

def deviceItems (s : State) (a : Nat) : List Item :=
  let lim := rrLimits s.time.period
  [rol true 0x100 6 (fun _ => tw s.now), rol true 0x106 2 (fun _ => nw 2 (s.time.bench % u16)), rol true 0x108 3 (fun _ => nw 3 s.time.inc),
   one true 0x111 (fun _ => pack [(if lim.1 = 8 then 0 else lim.1, 0), (if lim.2 = 4 then 0 else lim.2, 4), (rxLimit s.time.period, 8)]),
   one true 0x112 (fun _ => 0), rol true 0x114 4 (fun _ => nw 4 s.tickRead),
   singles s.coreOn 0x120 21 (fun j => vat s.time.jobHwm j), singles s.coreOn 0x140 21 (fun j => vat s.time.overrunCnt j),
   one true 0x160 (fun _ => s.pwr.resetCause), one true 0x161 (fun _ => s.pwr.rstHeldMs), one true 0x162 (fun _ => s.pwr.strapEcho),
   rol true 0x163 3 (fun _ => [s.pwr.bootResult0, s.pwr.bootResult1, s.pwr.bootResult2]), one true 0x166 (fun _ => s.pwr.pwrPend),
   one true 0x167 (fun _ => s.mode.opmode.code), one true 0x168 (fun _ => b2n s.mode.standby),
   one true 0x169 (fun _ => s.mode.maintBase.baseCode), one true 0x16A (fun _ => s.mode.standbyRet.baseCode),
   rol true 0x16D 2 (fun _ => faultSrc s)] ++
  repeated true 0x180 8 8 16 a (entryWords s.mode.hist histWords) ++
  [echoItem s true 0x200 0x03, echoItem s true 0x208 0x18, echoItem s true 0x210 0x20, echoItem s true 0x218 0x34,
   echoItem s true 0x220 0x3D, echoItem s true 0x228 0x112, echoItem s true 0x230 0x440, echoItem s true 0x238 0x090030,
   one true 0x300 (fun _ => s.txn.timeout), rol true 0x301 4 (fun _ => nw 4 s.txn.commitTick),
   singles true 0x305 5 (fun i => (nw 2 s.txn.atNs ++ nw 3 s.txn.atSec).getD i 0), one true 0x30A (fun _ => s.txn.dcId),
   singles true 0x30B 2 (fun i => (nw 2 s.txn.dcMask).getD i 0), one true 0x30D (fun _ => s.txn.dcNet)] ++
  repeated true 0x310 3 3 8 a (entryWords s.txn.errList fun e => pack [(e.1, 0), (e.2.1, 8)] :: nw 2 e.2.2) ++
  repeated true 0x400 8 8 8 a (entryWords s.conflicts conflictWords) ++
  [one true 0x440 (fun _ => 0)] ++
  repeated true 0x480 8 8 4 a (entryWords s.opq opWords) ++
  repeated true 0x500 8 8 16 a (entryWords s.oph opWords) ++
  repeated true 0x600 8 8 32 a (entryWords (s.echoes.take 32) echoLogWords)

/-! ## Sources (R768) -/

/-- Milliseconds of a span of bench time, with the free rounding of log 1. -/
def msOf (tag span : Nat) : Nat := (quotFree tag span ms16).toNat

def sourceItems (s : State) (b n : Nat) : List Item :=
  let x := vat s.srcs n
  let on := s.coreOn
  [one on (b + 0x11) (fun _ => x.qlHost),
   rol on (b + 0x20) 3 (fun _ =>
     pack [(x.qual.code, 0), (b2n x.freqAlarm, 4), (b2n x.actAlarm, 5), (b2n x.hitAlarm, 6)] ::
       nw 2 (if x.qual = .holdOff then msOf 90 (s.now - x.holdStart) else 0)),
   rol on (b + 0x24) 3 (fun _ => iw 2 x.freqOffset ++ [b2n x.freqValid]),
   rol on (b + 0x28) 2 (fun _ =>
     [pack [(x.effQl.getD 15, 0), (x.qlOrigin.code, 4), (x.lastInband, 8)],
      if x.inbandAt = 0 then 0 else min 65535 (msOf 91 (s.now - x.inbandAt))]),
   rol on (b + 0x2C) 5 (fun _ => b2n x.wmSync :: nw 3 x.wmPayload ++ [x.wmCrcCnt]),
   one on (b + 0x3F) (fun _ => (vat s.opers.srcs n).code)]

/-! ## DPLLs (R769, R770) -/

/-- Seconds left of the wait-to-restore time of source `n` of DPLL `d`, with the free rounding of log 1. -/
def wtrLeft (s : State) (d n : Nat) : Nat :=
  match vat (vat s.dplls d).wtrStart n with
  | some t => (quotFree 92 (fWtr.val s.act (dpllBase d) * sec16 - (s.now - t) : Nat) sec16).toNat
  | none => 0

def dpllItems (s : State) (d : Nat) : List Item :=
  let b := dpllBase d
  let x := vat s.dplls d
  let on := s.coreOn
  [singles on (b + 0x20) 3 (fun i => (iw 3 x.hostFreq).getD i 0), one on (b + 0x23) (fun _ => b2n x.hostLock),
   singles on (b + 0x24) 4 (fun _ => 0),
   rol on (b + 0x40) 13 (fun _ =>
     pack [(x.sel.getD 15, 0), (x.outQl, 4), (x.selCause, 8)] :: (List.range 12).map (wtrLeft s d)),
   rol on (b + 0x50) 10 (fun _ =>
     pack [(x.loop.code, 0), (x.stage, 4), (x.fb.code, 8), ((vat s.opers.dplls d).code, 10), (x.loopCause, 12)] ::
       iw 3 x.meanErr ++ iw 3 x.word ++ iw 3 x.bo),
   rol on (b + 0x60) 10 (fun _ =>
     pack [((pmShown s d).code, 0), (b2n x.pmAbort, 4)] ::
       iw 3 x.pmT ++ rw 93 3 ((x.pmP : Rat) / pUnit) ++ rw 94 3 ((x.pmV : Rat) / vUnit)),
   echoItem s on (b + 0x78) (b + 0x24)] ++
  (if d = 0 then [] else [rol on (b + 0x70) 6 fun _ => tw (x.timescale / u16)])

/-! ## Holdover and the Last model (R771) -/

def hoItems (s : State) (d : Nat) : List Item :=
  let b := hoBase d
  let x := vat s.hos d
  let f := x.frozen
  let on := s.coreOn
  let ts := f.useTs
  let m := fun (_ : Unit) => (freezeHistory s d s.tickSec).2
  [rol on (b + 0x08) 3 (fun _ =>
     pack [(b2n x.inHo, 0), (x.basis.code, 1), (x.sensor, 4), (b2n x.terms.1, 8), (b2n x.terms.2.1, 9), (b2n x.terms.2.2, 10)] ::
       nw 2 (if x.inHo then s.model.xoAge - x.entryAge else 0)),
   rol on (b + 0x10) 20 (fun _ =>
     let tc := (ratFree 95 (f.tc / ns16)).toNat
     rw 96 3 f.fHist ++ rw 97 1 f.t0Ts ++ rw 97 1 f.t0Die ++ nw 2 (tc % 1000000000) ++ nw 3 (tc / 1000000000) ++ rw 98 2 f.uc ++
       nw 2 (coefWord (if ts then f.c1Ts else f.c1Die)) ++ nw 2 (coefWord (if ts then f.c2Ts else f.c2Die)) ++
       nw 2 (coefWord (if ts then f.aTs else f.aDie)) ++ rw 98 2 f.tau),
   rol on (b + 0x28) 6 (fun _ => iw 3 x.target ++ rw 96 3 x.appliedWord),
   rol on (b + 0x30) 7 (fun _ => rw 96 3 (m ()).mean ++ nw 2 (m ()).count ++ rw 97 1 (m ()).tTs ++ rw 97 1 (m ()).tDie)]

/-- The coefficients of a sensor set; an unset TREF reads 0 (log 41). -/
def coefWords (x : SensorSet) : List Nat :=
  iw 1 (x.tref.getD 0) ++ nw 2 (coefWord x.k1) ++ nw 2 (coefWord x.k2) ++ nw 2 (coefWord x.a) ++ nw 2 (coefWord x.b0)

/-- The six words of a sensor set in MODEL.STATUS. -/
def setStatus (x : SensorSet) : List Nat := [setFlags x, x.span] ++ nw 2 x.minutes ++ nw 2 x.residual

def modelItems (s : State) : List Item :=
  let m := s.model
  [rol true (modelBase + 0x10) 2 (fun _ => iw 1 m.tempTs ++ iw 1 m.tempDie),
   rol true (modelBase + 0x18) 19 (fun _ =>
     [pack [(m.tsState.code, 0), (b2n m.learning, 2), (m.whyNot, 4)]] ++ setStatus m.ts ++ setStatus m.die ++ nw 3 m.saveSec ++
       nw 2 m.saveAge ++ [(saveRecent s).length]),
   rol true (modelBase + 0x30) 9 (fun _ => coefWords m.ts), rol true (modelBase + 0x40) 9 (fun _ => coefWords m.die),
   rol true (modelBase + 0x50) 2 (fun _ => nw 2 m.xoAge)]

/-! ## APLL, SPLL, OUT, FOD and BANK (R772 to R774) -/

def apllItems (s : State) (n : Nat) : List Item :=
  let b := apllBase n
  let x := vat s.aplls n
  let on := s.synOn
  [one on (b + 0x0E) (fun _ => 0),
   rol on (b + 0x10) 5 (fun _ =>
     [pack [(x.st.code, 0), (b2n x.lock, 4), (b2n x.aligned, 5), (b2n (vat s.dplls n).steerLimit, 6), ((vat s.opers.aplls n).code, 8)],
      pack [(x.band, 0), (x.vtune, 8)]] ++ iw 3 x.alignOff),
   rol on (b + 0x18) 11 (fun _ => tw x.epochTime ++ nw 4 x.epochTick ++ [x.epochCount]),
   echoItem s on (b + 0x30) (b + 0x0E)]

/-- SPLL.STATUS XO_PENDING: the active XO_CFG differs from what is in use (R300). -/
def xoPending (s : State) : Bool :=
  fXoMode.val s.act spllBase != s.spll.modeInUse || fXoFreq.val s.act spllBase != s.spll.freqInUse

def spllItems (s : State) : List Item :=
  [rol s.coreOn (spllBase + 8) 4 fun _ =>
    pack [(b2n s.pwr.xoValid, 0), (b2n s.spll.lock, 1), (b2n (xoPending s), 2), (s.spll.modeInUse, 4)] :: nw 2 s.spll.freqInUse]

/-- The running source of OUT[n].STATUS: 7 where nothing drives the output. -/
def runningSource (x : Output) : Nat :=
  match x.run with
  | .running => x.cur.sel
  | .substituting => 3
  | _ => 7

def outItems (s : State) (n : Nat) : List Item :=
  let b := outBase n
  let x := vat s.outs n
  let on := outDomOn s n
  [rol on (b + 0x10) 3 (fun _ =>
     [pack [((vat s.opers.outs n).code, 0), (runningSource x, 2), (b2n x.squelched, 5), (b2n (x.run == .substituting), 6),
            (b2n x.wmActive, 7), (x.sense.code, 8)], x.fineNow, x.skips]),
   rol on (b + 0x14) 4 (fun _ => rw 99 3 (outFreq s.act n * 65536) ++ [b2n (wholeHz (outFreq s.act n))]),
   rol on (b + 0x18) 4 (fun _ => nw 2 x.senseExp ++ nw 2 x.senseCnt)]

/-- FOD[k].STATUS; SQUELCHED while an in-service output selects the FOD and it delivers no steered clock (DEDUCED, log 47). -/
def fodItems (s : State) (k : Nat) : List Item :=
  let x := vat s.fods k
  [rol s.outlOn (fodBase k + 8) 4 fun _ =>
    pack [(b2n x.run, 0), (b2n (fodUsed s.act k && cannotDeliver s 2 k), 1), (b2n x.aligned, 2)] :: nw 3 x.ratio]

def bankItems (s : State) (b : Nat) : List Item :=
  [one true (bankBase b + 1) fun _ => pack [(b2n (vat s.pwr.vddoBor b), 0), (b2n (vat s.pwr.vddoOvr b), 1)]]

/-! ## EYE, WIN, TIO and GATE (R775) -/

def eyeItems (s : State) (n : Nat) : List Item :=
  let b := eyeBase n
  let x := vat s.eyes n
  let on := s.coreOn
  [singles on (b + 0x13) 6 (fun i => (tw x.quickTime).getD i 0), one on (b + 0x19) (fun _ => 0),
   rol on (b + 0x20) 8 (fun _ =>
     [pack [(x.st.code, 0), (b2n x.abortIgnored, 4), (b2n x.lateFired, 5), ((vat s.opers.eyes n).code, 8)], x.fireCount] ++ tw x.lastFire),
   echoItem s on (b + 0x30) (b + 0x19)]

def winItems (s : State) (w : Nat) : List Item :=
  [rol s.coreOn (winBase w + 0x18) 2 fun _ => [(vat s.wins w).st.code, (vat s.wins w).instances]]

/-- The words of TS_HEAD for a FIFO: its oldest entry, or no entry. -/
def headWords (q : List Stamp) : List Nat :=
  match q with
  | e :: _ => pack [(1, 15), (b2n e.rising, 1), (b2n e.missed, 0)] :: tw e.time
  | [] => []

def tioItems (s : State) (n : Nat) : List Item :=
  let x := vat s.tios n
  [rol s.coreOn (tioBase n + 8) 7 (fun _ => headWords x.fifo),
   one s.coreOn (tioBase n + 0x10) (fun _ => pack [((vat s.opers.tios n).code, 0), (x.fifo.length, 8)])]

def gateItems (s : State) : List Item := [one s.coreOn 0x060E00 fun _ => bits s.gates]

/-! ## LACE (R776, R777) -/

def laceItems (s : State) (p : Nat) : List Item :=
  let b := laceBase p
  let x := vat s.ports p
  let on := s.coreOn
  [rol on (b + 0x48) 2 (fun _ =>
     [pack [((vat s.opers.ports p).code, 0), (b2n x.cdrLock, 2), (b2n x.cellLock, 3), (portCause s p, 4), (b2n (carries s p), 7),
            (b2n x.sd, 8), ((x.reported.map Oper.code).getD 4, 9)],
      pack [(x.measures, 8), (x.peerAddr, 2), (x.peerPort, 0)]]),
   rol on (b + 0x50) 9 (fun _ => iw 3 x.dIn ++ iw 3 x.lastRtt ++ iw 3 x.lastO)] ++
  (List.range 9).map (fun i => rol on (b + 0x60 + 2 * i) 2 fun _ => nw 2 (vat x.cnts i)) ++
  [one on (b + 0x78) (fun _ => 0), echoItem s on (b + 0x80) (b + 0x78)]

/-- The words of an entry of LACE.TOPO: its age saturates. -/
def topoWords (s : State) (e : TopoEntry) : List Nat :=
  [pack [(b2n e.seen, 0), (e.port, 1), (e.hops, 4)], if e.seen then min 65535 (s.time.tickSeq - e.tick) else 0] ++
    nw 11 (ofOctetsLE (e.content.take 21))

def laceDevItems (s : State) (a : Nat) : List Item :=
  let on := s.coreOn
  [one on (laceDevBase + 8) (fun _ => b2n s.lace.secValid)] ++
  repeated on 0x070800 0x10 13 32 a (fun k => topoWords s (vat s.lace.topoA k)) ++
  repeated on 0x070A00 0x10 13 32 a (fun k => topoWords s (vat s.lace.topoB k)) ++
  [rol on 0x070C00 6 (fun _ => [pack [(s.lace.role.code, 0), (s.lace.dc.code, 4)], s.lace.dcId] ++ nw 4 s.lace.dcTarget),
   singles on 0x070C10 32 (fun i => pack [((vat s.lace.acks i).kind, 0), ((vat s.lace.acks i).cause, 8)])]

/-! ## SAFETY (R778 to R781) -/

/-- The 24 words of a cross-check group. -/
def xWords (w : XWord) : List Nat :=
  let grp (f : Nat → Nat) : Nat := pack ((List.range 4).map fun n => (f n, 3 * n))
  let st (x : InState) : Nat := match x with | .opened => 0 | .closed => 1 | .fault => 2 | .notJudged => 3
  [w.seq, grp fun n => (vat w.states n).code, grp fun n => vat w.requests n, w.lines,
   pack ((List.range 8).map fun i => (st (vat w.inStates i), 2 * i)), pack [(w.discFault, 0), (w.tpFault, 8)],
   pack [(w.edm, 0), (b2n w.srst, 4), (w.judge, 5)]] ++ w.counts.toList.flatMap (iw 2) ++ w.speeds.toList.flatMap (iw 1) ++
    [w.time] ++ nw 2 w.sig ++ [w.extra, w.gens]

/-- The places of the two-word values of an image: A_MIN of a group, CPR_P and CPR_H of an axis. -/
def parPair (o : Nat) : Option Nat :=
  [0x11, 0x21, 0x31, 0x41, 0x90, 0x92, 0xA0, 0xA2].find? fun b => o == b || o == b + 1

/-- SAFE_PAR: its two-word values are ROL groups, every other word stands alone (R760). -/
def parItems (s : State) (a : Nat) : List Item :=
  match parPair (a - 0x080000) with
  | some o => [rol true (0x080000 + o) 2 fun _ => [s.par o, s.par (o + 1)]]
  | none => [singles true 0x080000 256 s.par]

/-- Milliseconds of a channel's time, with the free rounding of log 1. -/
def chanMs (tag span : Nat) : Nat := (quotFree tag span cMs).toNat

def safeGrpItems (s : State) (n : Nat) : List Item :=
  let b := 0x080900 + 0x20 * n
  let g := vat s.safe.h.grps n
  let win := match g.edmWin with | some w => pack [(1, 1), (b2n w.kindOn, 2)] | none => 0
  let stopping := g.st == .stopping
  [one s.coreOn b (fun _ => (s.stP n).code), one true (b + 1) (fun _ => (s.stH n).code),
   rol true (b + 2) 2 (fun _ => nw 2 (groupCauses s n)), rol true (b + 4) 2 (fun _ => nw 2 (chanMs 100 g.degTime)),
   one true (b + 6) (fun _ => pack [(g.opened, 0), (g.closed, 8)]), one true (b + 7) (fun _ => b2n g.edm + win),
   one true (b + 8) (fun _ => wrapI 16 g.v0), one true (b + 9) (fun _ => if stopping then chanMs 101 (s.safe.h.clk - g.tStart) else 0)]

/-- The speed of axis `k` with its sign: that of the encoder with the larger magnitude (R480). -/
def axisSigned (x : SafeChan) (k : Nat) : Int :=
  let a := (vat x.encs (2 * k)).speed
  let b := (vat x.encs (2 * k + 1)).speed
  if b.natAbs ≤ a.natAbs then a else b

def safeAxItems (s : State) (k : Nat) : List Item :=
  let b := 0x080A00 + 0x10 * k
  let any (f : SafeChan → Bool) : Bool := f s.safe.h || (s.pRuns && f s.safe.p)
  [one true b (fun _ =>
     pack [(b2n (any fun x => (vat x.encs (2 * k)).frozen), 0), (b2n (any fun x => (vat x.encs (2 * k + 1)).frozen), 1),
       (b2n (any fun x => encFaulty x k), 4), (b2n (any fun x => encDisagree s.image x k), 5)]),
   one s.coreOn (b + 1) (fun _ => wrapI 16 (axisSigned s.safe.p k)), one true (b + 2) (fun _ => wrapI 16 (axisSigned s.safe.h k))]

def safeItems (s : State) (a : Nat) : List Item :=
  let h := s.safe.h
  [rol true 0x080800 2 (fun _ => nw 2 s.safe.h.sig), rol s.coreOn 0x080802 2 (fun _ => nw 2 (sigOf s.safe.stg)),
   rol true 0x080804 2 (fun _ => nw 2 (sigOf s.safe.stg)), rol true 0x080808 2 (fun _ => nw 2 s.safe.telRej),
   one true 0x080810 (fun _ => pack ((List.range 8).map fun i => (inCode s.image i (vat h.ins i), 2 * i))),
   one true 0x080811 (fun _ => levelsOf h), rol s.coreOn 0x080820 24 (fun _ => xWords s.safe.p.word),
   rol true 0x080840 24 (fun _ => xWords s.safe.h.word)] ++
  (List.range 4).flatMap (safeGrpItems s) ++ (List.range 2).flatMap (safeAxItems s) ++
  repeated true 0x080B00 8 5 8 a (fun r =>
    let x := vat s.safe.rx r
    pack [(b2n x.permit, 0), (b2n x.pathA.lost, 1), (b2n x.pathB.lost, 2), (b2n x.diff, 3)] :: nw 2 x.pathA.lastSeq ++ nw 2 x.pathB.lastSeq)

/-! ## EVENTS and CNT (R782) -/

/-- Both words of a group of event bits. -/
def evPair (x : BitVec 256) (g : Nat) : List Nat := [evWordOf x g false, evWordOf x g true]

def eventItems (s : State) (a : Nat) : List Item :=
  let on := s.coreOn
  [singles on 0x090000 16 (fun i => (evPair s.evt.sticky (i / 2)).getD (i % 2) 0)] ++
  repeated on 0x090010 2 2 8 a (evPair s.evt.raw) ++
  [singles on 0x090020 16 (fun i => (evPair s.evt.mask (i / 2)).getD (i % 2) 0), singles on 0x090030 2 (fun _ => 0)] ++
  repeated on 0x090100 2 2 256 a (fun e => nw 2 (sget 0 s.evt.lastTick e))

def cntItems (s : State) (c : Nat) : List Item :=
  let b := cntBase c
  let x := vat s.cnts c
  [rol s.coreOn (b + 4) 4 (fun _ => nw 3 x.value ++ [pack [(b2n x.sat, 15), (x.wraps, 0)]]), one s.coreOn (b + 8) (fun _ => 0),
   echoItem s s.coreOn (b + 0x10) (b + 8)]

/-! ## NVM and LOG (R783, R786, R797) -/

/-- A word of the NVM as a read sees it: 0 in the sector that NVM.BUSY names (R797). -/
def nvmRead (s : State) (w : Nat) : Nat := if s.nvm.busy = some (w / 2048) then 0 else (nvmWord s w).toNat

/-- LOG.HEAD: SEQ and slot of the newest valid record, and how many are valid. -/
def logHead (s : State) : List Nat :=
  let n := ((List.range 512).filter fun k => (logSlotSeq s k).isSome).length
  match logNewest s with
  | some (q, k) => nw 2 q ++ [k, n]
  | none => [0, 0, 0, 0]

/-- NVM.STATUS of record `r`. -/
def nvmStatus (s : State) (r : Nat) : List Nat :=
  let best := recBest s r
  [pack [(b2n (recValid s r false), 0), (b2n (recValid s r true), 1), (b2n (best == some false), 2), (b2n (best == some true), 3)],
   recSeq s r false % 65536, recSeq s r true % 65536]

def nvmItems (s : State) (a : Nat) : List Item :=
  [singles true 0x0A0000 0x8000 (nvmRead s)] ++
  repeated true 0x0A8000 16 16 512 a (fun n => (List.range 16).map fun i => nvmRead s (0x6000 + 16 * n + i)) ++
  [rol true 0x0AA000 4 (fun _ => logHead s)] ++
  repeated true 0x0AA100 16 16 16 a (fun m =>
    entryWords s.log.buf (fun r => nw 16 (ofOctetsLE (logOctets ((s.log.nextSeq + m) % 2 ^ 32) r))) m) ++
  [one true 0x0AA200 (fun _ => s.log.lost)] ++
  repeated true 0x0AB000 4 3 6 a (nvmStatus s) ++
  [one true 0x0AB020 (fun _ => match s.nvm.busy with | some k => pack [(1, 15), (k, 0)] | none => 0)]

/-! ## SEC (R787) -/

/-- Seconds left of a span of channel time, with the free rounding of log 1. -/
def secondsLeft (tag stop now : Nat) : Nat := (quotFree tag (stop - now : Nat) cS).toNat

def secItems (s : State) : List Item :=
  let on := s.coreOn
  let x := s.sec
  let left := if x.session.isSome then secondsLeft 102 (x.lastAccess + sessionTicks) s.safe.p.clk else 0
  [rol true 0x0B0000 4 (fun _ => nw 4 Config.uid.toNat),
   rol true 0x0B0010 3 (fun _ => [b2n s.otp.keySet, s.otp.keyCheck / 65536, s.otp.keyCheck % 65536]),
   one true 0x0B0014 (fun _ => pack [(noSessMax s, 0), (sessMax s, 4), (s.otp.policy, 8)]),
   singles true 0x0B0018 4 (fun p => vat s.otp.lock p),
   rol on 0x0B0020 8 (fun _ => [pack [(masterCode x.session, 0), (x.endCause, 8)]] ++ tw x.openTime ++ [left]),
   one true 0x0B0030 (fun _ => x.failCnt),
   one true 0x0B0031 (fun _ => match x.delay with | some t => secondsLeft 103 t s.safe.h.clk | none => 0),
   singles on 0x0B0040 16 (fun i => (vat x.buf i).toNat)]

/-! ## SNAP (R788, R790) -/

def snapItems (s : State) : List Item :=
  let on := s.coreOn
  [rol on 0x0C0000 10 (fun _ => tw s.snap.markTime ++ nw 4 s.snap.markTick), one on 0x0C0010 (fun _ => s.snap.trigEvt),
   singles on 0x0C1000 imageLen (fun i => (sget 0 s.snap.image i).toNat),
   singles on 0x0C8000 (imageLen + 8) (fun i => (sget 0 s.snap.exp i).toNat)]

/-! ## INTERNAL (R791 to R794) -/

/-- The sub-block that lists an address, by its number in the directory. -/
def internBlock (a : Nat) : Option Nat :=
  (List.range (Config.internalCount % 65536)).find? fun k =>
    decide (Config.internalBase k ≤ a) && decide (a < Config.internalBase k + Config.internalLen k % 65536)

/-- The types that lie in AON (R794), and those marked ROM (R793). -/
def internAon (t : Nat) : Bool := [0x03, 0x05, 0x0A, 0x0B, 0x0C].contains t
def internRom (t : Nat) : Bool := t == 0x02 || t == 0x0C

def internItems (s : State) (a : Nat) : List Item :=
  if a = 0x0F0000 then [one true a fun _ => Config.internalCount]
  else if 0x0F0010 ≤ a ∧ (a - 0x0F0010) / 4 < Config.internalCount % 65536 then
    repeated true 0x0F0010 4 4 (Config.internalCount % 65536) a fun k =>
      nw 2 (Config.internalBase k) ++ [Config.internalLen k, Config.internalType k]
  else match internBlock a with
    | some k =>
      [one (internAon (Config.internalType k) || s.coreOn) a fun _ => (sget (Config.internalWord a s.time.bench) s.cfg.intern a).toNat]
    | none => []

/-! ## The whole map -/

/-- The items, configuration words apart, of the block that an address lies in (R755). -/
def itemsNear (s : State) (a : Nat) : List Item :=
  match a / 65536 with
  | 0x00 => if a < 0x80 then dirItems s else deviceItems s a
  | 0x01 => let n := (a - refBase 0) / 0x100; if n < 8 then sourceItems s (refBase n) n else []
  | 0x02 => let d := (a - dpllBase 0) / 0x400; if d < 4 then dpllItems s d else []
  | 0x03 => if a < modelBase then hoItems s ((a - hoBase 0) / 0x40) else modelItems s
  | 0x04 => if a < spllBase then apllItems s ((a - apllBase 0) / 0x100) else spllItems s
  | 0x05 =>
    if a < fodBase 0 then outItems s ((a - outBase 0) / 0x80)
    else if a < 0x050D00 then fodItems s ((a - fodBase 0) / 0x20)
    else if bankBase 0 ≤ a ∧ (a - bankBase 0) / 0x10 < 4 then bankItems s ((a - bankBase 0) / 0x10) else []
  | 0x06 =>
    if a < winBase 0 then eyeItems s ((a - eyeBase 0) / 0x40)
    else if a < tioBase 0 then winItems s ((a - winBase 0) / 0x40)
    else if a < 0x060E00 then tioItems s ((a - tioBase 0) / 0x40)
    else gateItems s
  | 0x07 =>
    if a < laceDevBase then
      let p := (a - laceBase 0) / 0x100
      sourceItems s (laceBase p) (8 + p) ++ laceItems s p
    else laceDevItems s a
  | 0x08 => if a < 0x080100 then parItems s a
    else if 0x080400 ≤ a ∧ a < 0x080500 then [singles true 0x080400 256 fun o => (sget 0 s.safe.stg o).toNat] else safeItems s a
  | 0x09 => if a < cntBase 0 then eventItems s a
    else let c := (a - cntBase 0) / 0x20; if c < 16 then cntItems s c else []
  | 0x0A => nvmItems s a
  | 0x0B => secItems s
  | 0x0C => snapItems s
  | 0x0F => internItems s a
  | _ => []

/-- The item that lists an address. -/
def itemAt (s : State) (a : Nat) : Option Item := (itemsNear s a).find? fun i => decide (i.base ≤ a) && decide (a < i.base + i.len)

/-- The state map lists an address: a direct register that R763 lists, a configuration word, or an item (R537). -/
def mapListed (s : State) (a : Nat) : Bool :=
  if a < 0x80 then dirListed a && a != 0x12 && a != 0x13 else isRws a || (itemAt s a).isSome

/-- What the state-map word at an address holds, as reader `m` sees it, with configuration words taken from a view; unlisted words, WOC
words and words of a powered-down domain read 0 (R13, R111, R537). -/
def mapWord (s : State) (m : Option Master) (c : View) (a : Nat) : Nat :=
  if a < 0x80 then (if a = 0x12 ∨ a = 0x13 then 0 else dirWord s m a)
  else if isRws a then c a
  else match itemAt s a with
    | some i => if i.on then i.word (a - i.base) % 65536 else 0
    | none => 0

end Sys2Proof.Machine
end

