-- ==== Sys2Proof/Machine/Snapshot.lean ====
section
/-!
DEFINITION. Sys2Proof/Machine/Snapshot.lean: SNAP_CTRL and the snapshot mark (R604 to R607, R613, R618, R738, R747, R789).
-/
namespace Sys2Proof.Machine

/-! ## The image (R789) -/

/-- The rows of the image: offset in the image, first source word, words. -/
def imageRows : List (Nat × Nat × Nat) :=
  let per (n : Nat) (f : Nat → Nat × Nat × Nat) : List (Nat × Nat × Nat) := (List.range n).map f
  [(0x000, 0x100, 0x20), (0x020, 0x000, 0x80)] ++
  per 4 (fun n => (0x100 + 0x40 * n, dpllBase n + 0x40, 0x40)) ++
  per 8 (fun n => (0x200 + 0x20 * n, refBase n + 0x20, 0x20)) ++
  per 4 (fun p => (0x300 + 0x20 * p, laceBase p + 0x20, 0x20)) ++
  per 4 (fun p => (0x380 + 0x40 * p, laceBase p + 0x48, 0x38)) ++
  per 4 (fun n => (0x480 + 0x40 * n, hoBase n + 8, 0x38)) ++
  per 2 (fun n => (0x580 + 0x20 * n, apllBase n + 0x10, 0x20)) ++
  per 24 (fun n => (0x600 + 0x10 * n, outBase n + 0x10, 0x10)) ++
  [(0x780, 0x090000, 0x30)] ++
  per 16 (fun c => (0x7C0 + 4 * c, cntBase c + 4, 4)) ++
  per 4 (fun n => (0x800 + 8 * n, 0x080900 + 0x20 * n, 8)) ++
  [(0x820, 0x300, 0x20), (0x840, 0x480, 0x20)]

/-- The image of the present state: its words that are not 0, by offset, rising. Registers of a master's own read 0 for no master. -/
def imageNow (s : State) : List (Nat × Word) :=
  (imageRows.flatMap fun r => (List.range r.2.2).map fun j => (r.1 + j, Word.ofN (mapWord s none s.act (r.2.1 + j)))).filter
    fun w => w.2 != 0

/-! ## The mark -/

/-- The trigger event has occurred in this tick (R604). -/
def snapTrigger (s : State) : Bool := s.snap.trigEn && s.evt.latched.getLsbD s.snap.trigEvt

/-- A mark falls due. -/
def markDue (s : State) : Bool := s.snap.reqDue || s.snap.eyeDue || snapTrigger s

/-- The mark job: all requests due give one mark (R613). While a VALID image is held, or an export runs, it is missed (R606). -/
def snapMark (s : State) (overrun : Bool) : State :=
  if !markDue s then s else
  let x := s.snap
  let trig := snapTrigger s
  let done (y : Snapshot) : Snapshot := { y with reqDue := false, eyeDue := false }
  if (x.hold && x.valid && !x.released) || x.exporting then
    raise (s.onSnap fun y => done { y with missed := min 255 (y.missed + 1) }) evSnapMissed
  else
    let img := imageNow s
    raise (s.onSnap fun y => done { y with
      valid := true, srcReq := x.reqDue, srcEye := x.eyeDue, srcTrig := trig, overrun := overrun, released := false,
      markTime := s.now, markTick := s.tickNum, image := img }) evSnapDone

/-! ## SNAP_CTRL -/

/-- RELEASE, then REQ, under one echo (R747); a REQ accepted before EVALUATE begins is marked in it, else in the next (R604). -/
def snapCommand (s : State) (m : Master) (rel req : Bool) : State :=
  if !s.servedCore || !(rel || req) then s else
  let s := if rel then s.onSnap fun x => { x with released := x.hold && x.valid, missed := 0 } else s
  let later := evaluateBegun s
  let s := if req then s.onSnap fun x => { x with reqDue := x.reqDue || !later, reqNext := x.reqNext || later } else s
  echo s m 0x34 (8 * b2n rel + b2n req) [] resAccepted

/-- A write of SNAP_CTRL: HOLD and TRIG_EN first, then the commands (R709). -/
def snapCtrlWrite (s : State) (m : Master) (v : Nat) : State :=
  if !s.servedCore then s else
  snapCommand (s.onSnap fun x => { x with hold := bitOf v 2, trigEn := bitOf v 1 }) m (bitOf v 3) (bitOf v 0)

/-- REQ. -/
def execReq (m : Master) (s : State) : Host.Outcome State Fault Refusal := .next (snapCommand (access s m) m false true)

/-- RELEASE. -/
def execRelease (m : Master) (s : State) : Host.Outcome State Fault Refusal := .next (snapCommand (access s m) m true false)

end Sys2Proof.Machine
end

