-- ==== Sys2Proof/Machine/HostBus.lean ====
section
/-!
DEFINITION. Sys2Proof/Machine/HostBus.lean: the accesses of the two host masters and of JTAG to the direct registers and the state map
(R13 to R17, R526 to R544, R637, R706 to R711, R723 to R752, R763, R799).
-/
namespace Sys2Proof.Machine

/-! ## Targets and the cycle of an access (R542, R544) -/

def otherMaster : Master → Master
  | .hb => .mp
  | .mp => .hb

/-- The registers of which each master has its own (R526): they never conflict (R711). -/
def ownRegister (a : Nat) : Bool := [0x10, 0x11, 0x14, 0x1C, 0x21, 0x22, 0x23, 0x24].contains a

/-- The target that an address of the state map names: the word of EVENTS that EVT_STATUS or EVT_MASK selects (R578), the word of SEC.BUF at PTR
for SEC_DATA; else the word itself, the direct registers among them (R763). -/
def canonical (s : State) (a : Nat) : Nat :=
  if a = 0x2A ∨ a = 0x2B then 0x090000 + 2 * s.evt.grpSel + (a - 0x2A)
  else if a = 0x2E ∨ a = 0x2F then 0x090020 + 2 * s.evt.grpSel + (a - 0x2E)
  else if a = 0x3E then 0x0B0040 + s.sec.ptr
  else a

/-- The present access of master `m` to address `a` falls in the cycle of the other master's write of the same target: what the word read as before
that write (R544). A register of `m`'s own, DEV_ID and DEV_REV are what no write of the other master changes. -/
def beforeWrite (s : State) (m : Master) (a : Nat) : Option Nat :=
  if ownRegister a || decide (a ≤ 0x01) then none else
  (s.wrote.filter fun w => w.at_ == s.time.bench && w.by_ != m && (w.addr == a || w.target == canonical s a)).map fun w =>
    (if (s.host m).staged then w.staged else w.act).toNat

/-- `t` is what a write of master `m` to address `a` makes of `s`: the write is noted with the word as the other master read it before. -/
def noted (s : State) (m : Master) (a : Nat) (t : State) : State :=
  if ownRegister a || !s.writable then t else
  let o := some (otherMaster m)
  { t with wrote := some { at_ := s.time.bench, by_ := m, addr := a, target := canonical s a,
                           act := Word.ofN (mapWord s o s.act a), staged := Word.ofN (mapWord s o s.stagedView a) } }

/-! ## Reading (R536 to R540) -/

/-- The copy of the configuration that a master's window reads (R536); in the cycle of a commit's selector flip, as it was before the flip
(R544, R795): the staged copy of that moment is the active one after it. -/
def viewOf (s : State) (m : Master) : View :=
  if (s.host m).staged then s.stagedView else if s.cfg.beforeAt = some s.time.bench then s.beforeFlip else s.act

/-- The ROL group that an address belongs to. -/
def groupAt (s : State) (a : Nat) : Option Item := if isRws a then none else (itemAt s a).filter (·.grp)

/-- The word of an address in a master's holding registers of the ROL groups. -/
def rolWord (s : State) (m : Master) (a : Nat) : Nat := (sget 0 (s.host m).rolHold a).toNat

/-- Word `k` of a group at an opening read, before a write of the same cycle (R570). -/
def openWord (s : State) (m : Master) (i : Item) (k : Nat) : Nat := (beforeWrite s m (i.base + k)).getD (i.word k)

/-- An opening read: the whole group is copied and latched, any other latch is released, and STALE clears (R539, R540). -/
def openGroup (s : State) (m : Master) (i : Item) : State :=
  s.onHost m fun h => { h with
    latched := some i.base, stale := false
    rolHold := (List.range i.len).foldl (fun l k => sput 0 (Word.ofN (openWord s m i k)) (i.base + k) l) h.rolHold }

/-- A captured edge lies in the present CORE_CLK cycle. -/
def sameCycle (s : State) (last : Option Nat) : Bool :=
  match last with
  | some t => decide (s.now ≤ t) && decide (t < s.now + s.cycle16)
  | none => false

/-- The last word of a latched TS_HEAD removes the entry it was opened on (R81, R539, R775); an edge stored behind the last entry in this
very cycle makes the FIFO ready again (R106). -/
def dropHead (s : State) (m : Master) (i : Item) : State :=
  if i.len = 7 ∧ tioBase 0 ≤ i.base ∧ i.base < 0x060E00 then
    let n := (i.base - tioBase 0) / 0x40
    let q := (vat s.tios n).fifo
    let held := (List.range 7).map fun k => rolWord s m (i.base + k)
    if !q.isEmpty && headWords q == held then
      raiseIf (decide (q.length = 2) && sameCycle s (vat s.tios n).lastEdge) (s.onTio n fun x => { x with fifo := x.fifo.drop 1 }) evTsReady n 0
    else s
  else s

/-- A read of a word of an ROL group: what it returns and what it leaves. -/
def groupRead (s : State) (m : Master) (i : Item) (a : Nat) : Nat × State :=
  if a = i.base then (if i.on then (openWord s m i 0 % 65536, openGroup s m i) else (0, s))
  else if (s.host m).latched = some i.base then
    (rolWord s m a, if a + 1 = i.base + i.len then (dropHead s m i).onHost m fun h => { h with latched := none } else s)
  else if i.on then (rolWord s m a, raise (s.onHost m fun h => { h with stale := true }) evStale)
  else (0, s)

/-- A read of one word of the state map (the direct registers among them, R763). -/
def mapRead (s : State) (m : Master) (a : Nat) : Nat × State :=
  match groupAt s a with
  | some i => groupRead s m i a
  | none =>
    let r := if a = 0x3E then secDataRead s else (mapWord s (some m) (viewOf s m) a, s)
    ((beforeWrite s m a).getD r.1, r.2)

/-- The window address after WIN_DATA_INC (R535). -/
def windowNext (s : State) (m : Master) : State := s.onHost m fun h => { h with winAddr := (h.winAddr + 1) % 2 ^ 24 }

/-- A read of a direct register, the window registers among them (R534, R535). -/
def directRead (s : State) (m : Master) (a : Nat) : Nat × State :=
  if a = 0x12 then mapRead s m (s.host m).winAddr
  else if a = 0x13 then let r := mapRead s m (s.host m).winAddr; (r.1, windowNext r.2 m)
  else mapRead s m a

/-- A bus read: served outside RESET; in BOOT only 0x00 to 0x07 (R125, R162, R529). -/
def busRead (s : State) (m : Master) (a : Nat) : Nat × State :=
  if s.served then directRead s m a
  else (if !s.inReset && decide (a ≤ 0x07) then dirWord s (some m) a else 0, s)

/-- What a read delivers to its master: nothing in RESET. -/
def deliver (s : State) (m : Master) (ws : List Nat) : State :=
  if s.inReset then s else s.onHost m fun h => { h with readData := ws.map Word.ofN }

/-! ## Writing (R13 to R17, R541) -/

/-- A word held until the most significant word of its value is written (R541). -/
def holdWord (s : State) (m : Master) (a v : Nat) : State := s.onHost m fun h => { h with wrHold := sput 0 (Word.ofN v) a h.wrHold }

/-- The value of `k` held words from address `a` on. -/
def heldVal (s : State) (m : Master) (a k : Nat) : Nat := wordsAt (fun x => (sget 0 (s.host m).wrHold x).toNat) a k

/-- A command word with a reserved code or value: discarded, echoed and reported (R16, R752). -/
def badCommand (s : State) (m : Master) (addr code : Nat) (args : List Nat) : State :=
  raise (echo s m addr code args ccBadValue) evBadValue

/-- A value outside its range is discarded and reported (R16); otherwise the write takes effect. -/
def writeIf (ok : Bool) (s : State) (f : State → State) : State := if ok then f s else raise s evBadValue

/-- DEV_CMD (R715). -/
def devCmdWrite (s : State) (m : Master) (v : Nat) : State :=
  let req := bitsOf v 3 0
  let confirm := bitsOf v 15 8
  if req = 0 || s.pwr.shut == .ended then s
  else if confirm ≠ (if req = 8 ∨ req = 9 then 0x5A else 0) then badCommand s m 0x03 req []
  else match req with
    | 1 => modeRequest s m .run
    | 2 => modeRequest s m .setup
    | 3 => modeRequest s m .bypass
    | 4 => modeRequest s m .maintenance
    | 8 => softReset s m
    | 9 => shutdown s m
    | _ => badCommand s m 0x03 req []

/-- TXN_CTRL (R726). -/
def txnCtrlWrite (s : State) (m : Master) (v : Nat) : State :=
  match bitsOf v 3 0 with
  | 0 => s
  | 1 => txnBegin s m
  | 2 => commitNext s m
  | 3 => commitAtTick s m
  | 4 => commitAtTime s m
  | 5 => commitDist s m
  | 6 => armDc s m
  | 7 => disarm s m
  | 8 => rollbackCmd s m
  | 9 => keepalive s m
  | c => badCommand s m 0x18 c []

/-- OP_CMD (R730). -/
def opCmdWrite (s : State) (m : Master) (v : Nat) : State :=
  let code := bitsOf v 7 0
  if code = 0 then s
  else if code = 0xF0 then abortOp s m
  else if opListed code then issueOp s m code
  else badCommand s m 0x20 code [(s.host m).arg0.toNat, (s.host m).arg1.toNat]

/-- HOST.CONFLICT_CLR (R543, R767). -/
def conflictClr (s : State) (m : Master) : State :=
  if s.writable then echo { s with conflicts := [], conflictCnt := 0 } m 0x440 1 [] resAccepted else s

/-- A write of a direct register, WIN_DATA and WIN_DATA_INC apart: each field acts by its access code (R13, R706 to R746). -/
def regWrite (s : State) (m : Master) (a v : Nat) : State :=
  if !dirListed a then raise s evBadAddr
  else if dirCore a && !s.coreOn then s
  else match a with
  | 0x03 => devCmdWrite s m v
  | 0x05 => pwrCtrlWrite s v
  | 0x10 => s.onHost m fun h => { h with winAddr := h.winAddr / 65536 * 65536 + v }
  | 0x11 => s.onHost m fun h => { h with winAddr := v % 256 * 65536 + h.winAddr % 65536 }
  | 0x14 => s.onHost m fun h => { h with staged := bitOf v 0 }
  | 0x18 => txnCtrlWrite s m v
  | 0x1A => holdWord s m 0x1A v
  | 0x1B => s.onTxn fun t => { t with at_ := heldVal s m 0x1A 1 + 65536 * v }
  | 0x20 => opCmdWrite s m v
  | 0x21 => s.onHost m fun h => { h with arg0 := Word.ofN v }
  | 0x22 => s.onHost m fun h => { h with arg1 := Word.ofN v }
  | 0x29 => s.onEvt fun x => { x with grpSel := bitsOf v 2 0 }
  | 0x2A => stickyClear s s.evt.grpSel false v
  | 0x2B => stickyClear s s.evt.grpSel true v
  | 0x2E => maskWrite s s.evt.grpSel false v
  | 0x2F => maskWrite s s.evt.grpSel true v
  | 0x30 => routeWrite s v
  | 0x34 => snapCtrlWrite s m v
  | 0x3D => secCtrlWrite s m v
  | 0x3E => secDataWrite s m v
  | 0x40 => { s with prioMp := bitOf v 0 }
  | _ => s

/-- A write of the configuration word of a master's transaction (R14, R545), which restarts TXN_TIMEOUT (R555). -/
def stagedWrite (s : State) (m : Master) (a v : Nat) : State :=
  if s.txn.owner ≠ some m then raise s evNoTxn
  else match s.txn.st with
    | .idle => raise s evNoTxn
    | .opened | .armed => touchTxn (stagePut s a (cfgWord a (Word.ofN v)))
    | _ => raise s evTxnHeld

/-- A write of an RWS word; SPLL.XO_CFG needs no transaction while CORE is not ON (R302). -/
def rwsWrite (s : State) (m : Master) (a v : Nat) : State :=
  if spllBase ≤ a ∧ a < spllBase + 3 ∧ s.coreOn = false then xoCfgWrite s m (a - spllBase) v else stagedWrite s m a v

/-- QL_HOST of source `n`: an invalid code is reported (R196). -/
def qlHostWrite (s : State) (n v : Nat) : State :=
  let code := bitsOf v 3 0
  raiseIf (qlRank? s.qlOption code).isNone
    (s.onSrc n fun x => { x with qlHost := code, qlWrite := some (s.time.bench, cycleStart s.time.bench x.qlWrite x.qlHost) }) evQlInvalid n 0

/-- The DEVICE, TXN and HOST words that can be written (R764, R766, R767). -/
def deviceWrite (s : State) (m : Master) (a v : Nat) : State :=
  match a with
  | 0x112 => if bitOf v 0 then hwmClr s m else s
  | 0x160 => resetCauseClear s v
  | 0x166 => pwrPendClear s v
  | 0x300 => writeIf (rng 1 3600 v) s fun s => s.onTxn fun t => { t with timeout := v }
  | 0x305 | 0x306 | 0x307 | 0x308 | 0x30B => holdWord s m a v
  | 0x309 =>
    let ns := heldVal s m 0x305 2
    writeIf (rng 0 999999999 ns) s fun s => s.onTxn fun t => { t with atNs := ns, atSec := heldVal s m 0x307 2 + 2 ^ 32 * v }
  | 0x30A => s.onTxn fun t => { t with dcId := v }
  | 0x30C => s.onTxn fun t => { t with dcMask := heldVal s m 0x30B 1 + 65536 * v }
  | 0x30D => writeIf (bitsOf v 1 0 != 0) s fun s => s.onTxn fun t => { t with dcNet := bitsOf v 1 0 }
  | 0x440 => if bitOf v 0 then conflictClr s m else s
  | _ => s

/-- The words of DPLL `d` that can be written (R769). -/
def dpllWrite (s : State) (m : Master) (d o v : Nat) : State :=
  let b := dpllBase d
  match o with
  | 0x20 | 0x21 | 0x24 | 0x25 | 0x26 => holdWord s m (b + o) v
  | 0x22 => hostFreqWrite s d (heldVal s m (b + 0x20) 2 + 2 ^ 32 * v)
  | 0x23 => s.onDpll d fun x => { x with hostLock := bitOf v 0 }
  | 0x27 =>
    let w := heldVal s m (b + 0x24) 3
    match bitsOf v 1 0 with
    | 1 => pmStepCmd s m d w
    | 2 => pmHaltCmd s m d w
    | c => raiseAt (pmEcho s m d w c ccBadValue) evBadValue d 0
  | _ => s

/-- The words of eyelet `n` that can be written (R775). -/
def eyeWrite (s : State) (m : Master) (n o v : Nat) : State :=
  let b := eyeBase n
  match o with
  | 0x13 | 0x14 | 0x15 | 0x16 | 0x17 => holdWord s m (b + o) v
  | 0x18 =>
    let ns := heldVal s m (b + 0x14) 2
    writeIf (rng 0 999999999 ns) s fun s => s.onEye n fun x => { x with
      quickTime := ofTimeWords (heldVal s m (b + 0x13) 1) ns (heldVal s m (b + 0x16) 2 + 2 ^ 32 * v) }
  | 0x19 =>
    match bitsOf v 1 0 with
    | 1 => armEye s m n
    | 2 => cancelEye s m n
    | c => badCommand s m (b + 0x19) c []
  | _ => s

/-- APLL[n].CMD (R772). -/
def apllCmdWrite (s : State) (m : Master) (n v : Nat) : State :=
  match bitsOf v 1 0 with
  | 1 => researchCmd s m n
  | 2 => resyncCmd s m n
  | c => badCommand s m (apllBase n + 0x0E) c []

/-- The event and counter words that can be written (R782). -/
def eventWrite (s : State) (m : Master) (a v : Nat) : State :=
  let g := a % 16 / 2
  let hi := a % 2 == 1
  if a < 0x090010 then stickyClear s g hi v
  else if 0x090020 ≤ a ∧ a < 0x090030 then
    if hi then maskWrite (maskWrite s g false (heldVal s m (a - 1) 1)) g true v else holdWord s m a v
  else if a = 0x090030 then holdWord s m a v
  else if a = 0x090031 then (if bitOf v 0 then cntCmdClear s m (heldVal s m 0x090030 1) else s)
  else if cntBase 0 ≤ a ∧ (a - cntBase 0) % 0x20 = 8 ∧ bitOf v 0 then cntClear s m ((a - cntBase 0) / 0x20)
  else s

/-- SAFE_PARSTG: word by word, to the session master only (R450, R778, R801); a reserved code or a value outside its range is discarded
(R16). -/
def parWrite (s : State) (m : Master) (o v : Nat) : State :=
  if o = 0 then s
  else if s.sec.session ≠ some m then raise s evSecDenied
  else writeIf (parWordOk s.safe.stg o (v &&& parMask o)) s fun s =>
    s.onSafe fun f => { f with stg := sput 0 (Word.ofN (v &&& parMask o)) o f.stg }

/-- An INTERNAL word written at D2 (R791 to R793). -/
def internPut (s : State) (a v : Nat) : State :=
  match internBlock a with
  | none => s
  | some k =>
    if internRom (Config.internalType k) then raise s evBadAddr
    else { s with cfg := { s.cfg with intern := lput (Word.ofN v) a s.cfg.intern } }

/-- Records a conflict: the newest eight records, the count and the event (R543). -/
def noteConflict (s : State) (a : Nat) (w : Master) (loser winVal loseVal : Nat) : State :=
  let c : Conflict :=
    { target := a, winner := w, loser := loser, winVal := Word.ofN winVal, loseVal := Word.ofN loseVal, tick := s.echoTick }
  raise { s with conflicts := (c :: s.conflicts).take 8, conflictCnt := stick 8 s.conflictCnt } evConflict

/-- A host's write of an INTERNAL word, which wins against one of JTAG in the same cycle (R637). -/
def internHost (s : State) (m : Master) (a v : Nat) : State :=
  let s' := internPut s a v
  match s.tap.wrote with
  | some (b, a', j) => if b = s.time.bench ∧ a' = a then noteConflict s' a m 3 v j.toNat else s'
  | none => s'

/-- A write of a listed word that is no configuration word, in a domain that is ON. -/
def itemWrite (s : State) (m : Master) (a v : Nat) : State :=
  match a / 65536 with
  | 0x00 => deviceWrite s m a v
  | 0x01 => if (a - refBase 0) % 0x100 = 0x11 then qlHostWrite s ((a - refBase 0) / 0x100) v else s
  | 0x02 => dpllWrite s m ((a - dpllBase 0) / 0x400) ((a - dpllBase 0) % 0x400) v
  | 0x04 => if a < spllBase ∧ a % 0x100 = 0x0E then apllCmdWrite s m ((a - apllBase 0) / 0x100) v else s
  | 0x06 => if a < winBase 0 then eyeWrite s m ((a - eyeBase 0) / 0x40) ((a - eyeBase 0) % 0x40) v else s
  | 0x07 =>
    let p := (a - laceBase 0) / 0x100
    if laceDevBase ≤ a then s
    else if a % 0x100 = 0x11 then qlHostWrite s (8 + p) v
    else if a % 0x100 = 0x78 ∧ bitOf v 0 then cntClr s m p
    else s
  | 0x08 => if 0x080400 ≤ a ∧ a < 0x080500 then parWrite s m (a - 0x080400) v else s
  | 0x09 => eventWrite s m a v
  | 0x0B => if 0x0B0040 ≤ a ∧ a < 0x0B0050 then bufWrite s m (a - 0x0B0040) v else s
  | 0x0C => if a = 0x0C0010 then s.onSnap fun x => { x with trigEvt := bitsOf v 7 0 } else s
  | 0x0F => if s.sec.dbg < 2 then raise s evSecDenied else internHost s m a v
  | _ => s

/-- A write of one word of the state map (R536, R537, R763). -/
def mapWrite (s : State) (m : Master) (a v : Nat) : State :=
  if a < 0x80 then (if a = 0x12 ∨ a = 0x13 then raise s evBadAddr else regWrite s m a v)
  else if isRws a then rwsWrite s m a v
  else match itemAt s a with
    | none => raise s evBadAddr
    | some i => if i.on then itemWrite s m a v else s

/-- A bus write of a direct register: ignored in RESET, BOOT and SHUTDOWN (R125, R161, R162). -/
def busWrite (s : State) (m : Master) (a v : Nat) : State :=
  if !s.writable then s
  else if a = 0x12 then noted s m (s.host m).winAddr (mapWrite s m (s.host m).winAddr v)
  else if a = 0x13 then noted s m (s.host m).winAddr (windowNext (mapWrite s m (s.host m).winAddr v) m)
  else noted s m a (regWrite s m a v)

/-! ## Accesses to a target -/

/-- The state-map address that a target names for a master: a window register names the word at the window address. -/
def resolve (s : State) (m : Master) : Target → Nat
  | .direct a => if a.val = 0x12 ∨ a.val = 0x13 then (s.host m).winAddr else a.val
  | .map a => a.val

/-- A read of a target, delivered to its master. -/
def targetRead (s : State) (m : Master) (t : Target) : State :=
  let r := match t with
    | .direct a => busRead s m a
    | .map a => if s.served then mapRead s m a else (0, s)
  deliver r.2 m [r.1]

/-- A write of a target. -/
def targetWrite (s : State) (m : Master) (t : Target) (v : Nat) : State :=
  match t with
  | .direct a => busWrite s m a v
  | .map a => if s.writable then noted s m a (mapWrite s m a v) else s

/-- A read or a write of a direct register by a master. -/
def regAccess (s : State) (m : Master) (a : Nat) (x : Access) : State :=
  match x with
  | .read => let r := busRead s m a; deliver r.2 m [r.1]
  | .write v => busWrite s m a v.toNat

/-- The multiword RW and WOC words: those that the holding register takes (R541, R760). -/
def holdsWord (a : Nat) : Bool :=
  rng 0x1A 0x1B a || rng 0x305 0x309 a || rng 0x30B 0x30C a || rng 0x090020 0x090031 a ||
  (a / 65536 == 0x02 && rng 0x20 0x27 ((a - dpllBase 0) % 0x400) && (a - dpllBase 0) % 0x400 != 0x23) ||
  (decide (eyeBase 0 ≤ a) && decide (a < winBase 0) && rng 0x13 0x18 ((a - eyeBase 0) % 0x40))

/-! ## Arbitration (R542 to R544, R573) -/

/-- The write of master `w` wins against the other master's of the same cycle to the same target; a window address moves on all the same. -/
def winWrite (s : State) (w : Master) (win : Target × Nat) (lose : Target × Nat) : State :=
  let o := otherMaster w
  let s := noteConflict (targetWrite s w win.1 win.2) (resolve s w win.1) w (masterCode (some o)) win.2 lose.2
  if lose.1 = .direct 0x13 then windowNext s o else s

/-- Writes of both masters in one cycle: a conflict where they name one target, unless it is each one's own or is not listed. -/
def bothWrite (s : State) (m : Master) (x y : Target × Nat) : State :=
  if !s.writable then s else
  let o := otherMaster m
  let a := resolve s m x.1
  if canonical s a ≠ canonical s (resolve s o y.1) ∨ ownRegister a ∨ mapListed s a = false then targetWrite (targetWrite s m x.1 x.2) o y.1 y.2
  else if m = (if s.prioMp then Master.mp else .hb) then winWrite s m x y
  else winWrite s o y x

/-! ## SPI frames (R531 to R533) -/

/-- Words of a WRITE_REG frame from an address upward; above 0x7F they are unlisted. -/
def writeRegs (m : Master) : Nat → List Word → State → State
  | _, [], s => s
  | a, v :: vs, s => writeRegs m (a + 1) vs (if a < 0x80 then busWrite s m a v.toNat else raise s evBadAddr)

/-- The fetch of word `k` of a frame has not completed when its first bit is due: only while CORE is not ON (R694). -/
def lateFetch (s : State) (late : List Nat) (k : Nat) : Bool := !s.coreOn && late.contains k

/-- Words of a READ_REG frame from its word `k` on. A late one is 0 and has no side effect (R694). -/
def readRegs (m : Master) (late : List Nat) : Nat → Nat → Nat → State → List Nat × State
  | _, _, 0, s => ([], s)
  | k, a, n + 1, s =>
    let r := if a < 0x80 && !lateFetch s late k then busRead s m a else (0, s)
    let rest := readRegs m late (k + 1) (a + 1) n r.2
    (r.1 :: rest.1, rest.2)

/-- Words of a READ_MAP frame, each as WIN_DATA_INC; a late one is 0, and only the window address moves on (R535, R694). -/
def readWords (m : Master) (late : List Nat) : Nat → Nat → State → List Nat × State
  | _, 0, s => ([], s)
  | k, n + 1, s =>
    let r := if lateFetch s late k then (0, if s.served then windowNext s m else s) else busRead s m 0x13
    let rest := readWords m late (k + 1) n r.2
    (r.1 :: rest.1, rest.2)

/-- A frame that performs nothing (R532). -/
def badFrame (s : State) : State := if s.inReset then s else raise s evSpiFrame

/-- WRITE_REG: in BOOT every write is ignored without an event (R162). -/
def writeRegFrame (s : State) (a : Nat) (ws : List Word) : State :=
  if !s.writable then s else if 0x7F < a then badFrame s else writeRegs .mp a ws s

/-- READ_REG. -/
def readRegFrame (s : State) (a n : Nat) (late : List Nat) : State :=
  if 0x7F < a then badFrame s else let r := readRegs .mp late 0 a n s; deliver r.2 .mp r.1

/-- The window address of MP that a map frame loads. -/
def loadWindow (s : State) (a : Nat) : State := s.onHost .mp fun h => { h with winAddr := a }

/-- WRITE_MAP. -/
def writeMapFrame (s : State) (a : Nat) (ws : List Word) : State :=
  if !s.writable then s else ws.foldl (fun t v => busWrite t .mp 0x13 v.toNat) (loadWindow s a)

/-- READ_MAP. -/
def readMapFrame (s : State) (a n : Nat) (late : List Nat) : State :=
  let r := readWords .mp late 0 n (if s.served then loadWindow s a else s)
  deliver r.2 .mp r.1

/-! ## JTAG (R637) -/

/-- A JTAG write: outside INTERNAL it is discarded; so is one of a word that a host master writes in the same cycle, as the loser of a conflict. -/
def jtagWrite (s : State) (a : Nat) (v : Word) : State :=
  if a / 65536 ≠ 0x0F then s else
  match s.wrote.filter fun w => w.at_ == s.time.bench && w.addr == a with
  | some w => noteConflict s a w.by_ 3 (mapWord s none s.act a) v.toNat
  | none => (internPut s a v.toNat).onTap fun t => { t with wrote := some (s.time.bench, a, v) }

/-- MAP_ACCESS: reads need D1, writes D2. A read takes each word directly and latches nothing; a write outside INTERNAL is discarded. -/
def jtagAccess (s : State) (op a : Nat) (v : Word) : State :=
  let result (s : State) (ok : Bool) (d : Word) : State :=
    s.onTap fun t => { t with instr := .mapAccess, mapDone := ok, mapAddr := a, mapData := d }
  if op = 1 then
    if s.sec.dbg = 0 then result (raise s evDebugDenied) false v else result s true (Word.ofN (mapWord s none s.act a))
  else if op = 2 then
    if s.sec.dbg < 2 then result (raise s evDebugDenied) false v
    else result (jtagWrite s a v) true v
  else result s false v

/-! ## Commands -/

/-- HB_ACCESS_TIMEOUT: a read returns 0, a write is discarded (R530). -/
def execHbAccessTimeout (a : Access) (s : State) : Host.Outcome State Fault Refusal :=
  let s := access s .hb
  .next (if s.inReset then s else
    raise (match a with | .read => deliver s .hb [0] | .write _ => s) evAccessTimeout)

/-- HB_STROBE_CONFLICT: nothing is performed, and no event is raised (R529). -/
def execHbStrobeConflict (s : State) : Host.Outcome State Fault Refusal := .next s

/-- WRITE_REG. -/
def execWriteReg (a : BitVec 24) (ws : List Word) (s : State) : Host.Outcome State Fault Refusal :=
  .next (writeRegFrame (access s .mp) a.toNat ws)

/-- READ_REG. -/
def execReadReg (a : BitVec 24) (n : Nat) (late : List Nat) (s : State) : Host.Outcome State Fault Refusal :=
  .next (readRegFrame (access s .mp) a.toNat n late)

/-- WRITE_MAP. -/
def execWriteMap (a : BitVec 24) (ws : List Word) (s : State) : Host.Outcome State Fault Refusal :=
  .next (writeMapFrame (access s .mp) a.toNat ws)

/-- READ_MAP. -/
def execReadMap (a : BitVec 24) (n : Nat) (late : List Nat) (s : State) : Host.Outcome State Fault Refusal :=
  .next (readMapFrame (access s .mp) a.toNat n late)

/-- SPI_FRAME: a malformed frame. -/
def execSpiFrame (s : State) : Host.Outcome State Fault Refusal := .next (badFrame s)

/-- WIN_DATA. -/
def execWinData (m : Master) (x : Access) (s : State) : Host.Outcome State Fault Refusal := .next (regAccess (access s m) m 0x12 x)

/-- WIN_DATA_INC. -/
def execWinDataInc (m : Master) (x : Access) (s : State) : Host.Outcome State Fault Refusal := .next (regAccess (access s m) m 0x13 x)

/-- ROL_GROUP_OPEN: acts where the target is the opening word of a group (log 25). -/
def execRolGroupOpen (m : Master) (t : Target) (s : State) : Host.Outcome State Fault Refusal :=
  let s := access s m
  let a := resolve s m t
  .next (if (groupAt s a).any fun i => i.base == a then targetRead s m t else s)

/-- STALE: acts where the target is an upper word of a group that the master has not latched (log 25). -/
def execStale (m : Master) (t : Target) (s : State) : Host.Outcome State Fault Refusal :=
  let s := access s m
  let a := resolve s m t
  .next (if (groupAt s a).any fun i => i.base != a && (s.host m).latched != some i.base then targetRead s m t else s)

/-- HOLDING_WRITE: acts where the target is a word of a multiword RW or WOC value (log 25). -/
def execHoldingWrite (m : Master) (t : Target) (v : Word) (s : State) : Host.Outcome State Fault Refusal :=
  let s := access s m
  .next (if holdsWord (resolve s m t) then targetWrite s m t v.toNat else s)

/-- STAGED_WRITE: acts where the address is a configuration word (log 25). -/
def execStagedWrite (m : Master) (a : Fin 16777216) (v : Word) (s : State) : Host.Outcome State Fault Refusal :=
  let s := access s m
  .next (if s.writable && isRws a then noted s m a (rwsWrite s m a v.toNat) else s)

/-- REGISTER_WRITE, with the other master's write of the same cycle if there is one. -/
def execRegisterWrite (m : Master) (t : Target) (v : Word) (rival : Option (Target × Word)) (s : State) : Host.Outcome State Fault Refusal :=
  match rival with
  | none => .next (targetWrite (access s m) m t v.toNat)
  | some r => .next (bothWrite (access (access s m) (otherMaster m)) m (t, v.toNat) (r.1, r.2.toNat))

/-- CONFLICT_CLR. -/
def execConflictClr (m : Master) (s : State) : Host.Outcome State Fault Refusal := .next (conflictClr (access s m) m)

/-- TS_HEAD_READ: a read of the last word of TIO[n].TS_HEAD. -/
def execTsHeadRead (m : Master) (pin : Fin 16) (s : State) : Host.Outcome State Fault Refusal :=
  let s := access s m
  let r := if s.served then mapRead s m (tioBase pin + 0x0E) else (0, s)
  .next (deliver r.2 m [r.1])

/-- PWR_CTRL_WRITE. -/
def execPwrCtrlWrite (m : Master) (v : Word) (s : State) : Host.Outcome State Fault Refusal :=
  let s := access s m
  .next (noted s m 0x05 (pwrCtrlWrite s v.toNat))

/-- PWR_PEND_CLEAR. -/
def execPwrPendClear (m : Master) (v : Word) (s : State) : Host.Outcome State Fault Refusal :=
  let s := access s m
  .next (noted s m 0x166 (pwrPendClear s v.toNat))

/-- RESET_CAUSE_CLEAR. -/
def execResetCauseClear (m : Master) (v : Word) (s : State) : Host.Outcome State Fault Refusal :=
  let s := access s m
  .next (noted s m 0x160 (resetCauseClear s v.toNat))

/-- HOST_FREQ_WRITE: the write of the last word, which completes the value (R541). -/
def execHostFreqWrite (m : Master) (d : Fin 4) (v : BitVec 48) (s : State) : Host.Outcome State Fault Refusal :=
  let s := access s m
  .next (noted s m (dpllBase d + 0x22) (hostFreqWrite s d v.toNat))

/-- XO_CFG_WRITE: without a transaction while CORE is not ON (R302). -/
def execXoCfgWrite (m : Master) (off : Fin 3) (v : Word) (s : State) : Host.Outcome State Fault Refusal :=
  .next (if s.writable && !s.coreOn then
    let s := access s m
    noted s m (spllBase + off) (xoCfgWrite s m off v.toNat) else s)

/-- EVT_STATUS_WRITE: to the group that EVT_GRP_SEL selects at this access (R577, R735). -/
def execEvtStatusWrite (m : Master) (hi : Bool) (v : Word) (s : State) : Host.Outcome State Fault Refusal :=
  let s := access s m
  .next (noted s m (0x2A + b2n hi) (stickyClear s s.evt.grpSel hi v.toNat))

/-- SEC_DATA. -/
def execSecData (m : Master) (a : Access) (s : State) : Host.Outcome State Fault Refusal :=
  let s := access s m
  .next (match a with
    | .write v => noted s m 0x3E (secDataWrite s m v.toNat)
    | .read =>
      let r := secDataRead s
      r.2.onHost m fun h => { h with readData := [Word.ofN ((beforeWrite s m 0x3E).getD r.1)] })

/-- MAP_ACCESS. -/
def execMapAccess (op : BitVec 2) (a : BitVec 24) (v : Word) (s : State) : Host.Outcome State Fault Refusal :=
  .next (jtagAccess s op.toNat a.toNat v)

end Sys2Proof.Machine
end

