-- ==== Sys2Proof/Machine/Deckle.lean ====
section
/-!
DEFINITION. Sys2Proof/Machine/Deckle.lean: the deckle: the tick boundary, the four phases and their jobs, overruns (R67 to R77), the
commit that comes into force at a boundary (R548), and the whole second (R61, R64, R100).
-/
namespace Sys2Proof.Machine

/-! ## What a commit brings at its boundary (R548, R549) -/

/-- A word from `lo` to before `hi` of the block at `b` is among those written. -/
def touched (ws : List Nat) (b lo hi : Nat) : Bool := ws.any fun a => decide (b + lo ≤ a) && decide (a < b + hi)

/-- Sources: a changed input starts again without a history of QUALIFIED or of edges (R185, R190, R204); a changed GATE starts new gates
(R194); a source returned to service starts its hold-off (R192). -/
def sourcesCommit (ws returns : List Nat) (s : State) : State :=
  let s := forN 8 (fun n t =>
    if touched ws (refBase n) 1 7 then
      (disqualify t n).onSrc n fun x => { x with wasQualified := false, hitEdges := 0, hitClean := 0, hitSkip := 0 }
    else t) s
  let s := forN 12 (fun n t =>
    if fGate.val t.act (srcBase n) = fGate.val t.beforeFlip (srcBase n) then t else t.onSrc n fun x => { x with gateFrom := t.now }) s
  returns.foldl (fun t n =>
    if (vat t.srcs n).qual ≠ .qualified then t else
    let t := { t with dplls := vmap (fun _ d => { d with wtrStart := vupd d.wtrStart n fun _ => none }) t.dplls }
    enterHoldOff t n true) s

/-- Eyelets whose words were written: every edge of the old program is withdrawn, and a local program in service becomes active (R88, R92,
R102). -/
def eyesCommit (ws : List Nat) (s : State) : State :=
  forN 32 (fun n t =>
    if !touched ws (eyeBase n) 0 0x13 then t else
    let mine := inService t.act (eyeBase n) && !fEyeSource.on t.act (eyeBase n)
    t.onEye n fun x => { x with
      st := .idle, edges := [], active := false, abortIgnored := false, lateFired := false, armed := mine, remote := none, baseTime := if mine then eyeTime t.act n else x.baseTime }) s

/-- Windows whose words were written (R88, R96): loaded edges of the old program are withdrawn. A gate that is open stays as it is, although
its STOP is withdrawn (DESIGN CHOICE, log 9: R102 speaks of eyelets only). -/
def winsCommit (ws : List Nat) (s : State) : State :=
  forN 8 (fun w t =>
    if touched ws (winBase w) 0 0x12 then
      t.onWin w fun x => { x with st := .idle, edges := [], active := false, armed := inService t.act (winBase w) }
    else t) s

/-- A pin whose words were written is judged anew from its next driven edge, and one that comes into GATE_OUT follows its gate (R79);
`readOk` has a bit for each pin that reads back the level it is then driven to (R84). -/
def tiosCommit (ws : List Nat) (readOk : BitVec 16) (s : State) : State :=
  forN 16 (fun p t =>
    if !touched ws (tioBase p) 0 3 then t else
    let t := t.onTio p fun x => { x with readbackBad := false }
    if tioActs t p 5 then
      let lvl := vat t.gates (fGateSel.val t.act (tioBase p))
      t.onTio p fun x => { x with level := lvl, readbackBad := x.level != lvl && !readOk.getLsbD p }
    else t) s

/-- The commit whose selectors were flipped in the last DISPATCH comes into force at this boundary; `readOk` as for `tiosCommit`. -/
def commitInForce (s : State) (readOk : BitVec 16) : State :=
  match s.txn.flipTick with
  | none => s
  | some _ =>
    let ws := s.txn.flipWords
    let returns := s.txn.flipReturns
    let s := cntsCommit s
    let s := s.onTxn fun t => { t with flipTick := none, flipWords := [], flipCnts := [], flipReturns := [] }
    let s := sourcesCommit ws returns s
    let s := if modelBase ∈ ws ∧ fLearnSrc.val s.beforeFlip modelBase ≠ learnDpll s then resetB0 s else s
    let s := lacesCommit (tsEnable s)
    let s := outsCommit (forN 2 (fun n t => apllCommit ws n t) s)
    tiosCommit ws readOk (winsCommit ws (eyesCommit ws s))

/-! ## SAMPLE -/

/-- The events that arose while CORE was off are raised in the first tick and are pending no more (R118, R458, log 8); the timescales start at bench time (R308), and channel
H's time for channel P's first update counts (R169). -/
def firstTick (s : State) : State :=
  if !s.pwr.pendOwed then s else
  let owed := BitVec.ofNat 256 (s.pwr.pwrPend + s.pwr.safePend * 2 ^ 192)
  let s := s.onEvt fun v => { v with raised := v.raised ||| owed }
  let s := s.onChan .h fun x => { x with seenAt := clockH s }
  tsEnable (timescalesSet (s.onPwr fun p => { p with pendOwed := false, pwrPend := 0, safePend := 0 }))

/-- The raw event latch. Occurrences that a deferred sticky update still owes are kept; a latch that GUARD stops leaves the raises for the
next SAMPLE (R77). -/
def latchEvents (s : State) (late : Bool) : State :=
  let owed := if s.time.deferred.contains 12 then s.evt.latched else 0
  if late then s.onEvt fun v => { v with latched := owed }
  else (eventsLatch s).onEvt fun v => { v with latched := v.latched ||| owed }

/-- Phase-detector edges of source `n` in a tick, and the age of its last input edge: none from a stage that is OFF (R183), none from a Lace
port that carries no time (R44, R408). -/
def edgesOf (s : State) (smp : TickSample) (n : Nat) : List Nat := if seesEdges s n then vat smp.edges n else []
def ageOf (s : State) (smp : TickSample) (n : Nat) : Option Nat := if seesEdges s n then vat smp.ages n else none

/-- The edges that the TDC of DPLL `d` compares: those of its selected source. -/
def tdcEdges (s : State) (smp : TickSample) (d : Nat) : List Nat :=
  match (vat s.dplls d).sel with
  | some n => if n < 12 then edgesOf s smp n else []
  | none => []

/-- The latches of SAMPLE (R70): monitors, TDC, sense-back, the host's words (R199, R245), channel P's inputs. A latch of rows 0 and 1 that
GUARD stops latches nothing: what accumulates stays for the next tick's (R75, R77). -/
def sampleLatch (s : State) (smp : TickSample) : State :=
  let s := if smp.late.contains 0 then s else forN 12 (fun n t => srcEdges t n (edgesOf t smp n).length (ageOf t smp n)) s
  let s := if smp.late.contains 1 then s else
    forN 4 (fun d t => tdcLatch t d (tdcEdges t smp d) smp.fb) s
  let b := s.time.bench
  let s := { s with srcs := vmap (fun _ (x : Source) => { x with qlHostLatched := cycleStart b x.qlWrite x.qlHost }) s.srcs
                    dplls := vmap (fun _ (x : Dpll) => { x with hostFreqLatched := cycleStart b x.hostFreqWas x.hostFreq }) s.dplls }
  latchP (senseLatch s smp.sense) smp

/-- Cycles to the next tick boundary; none where bench time has passed it already (R67). -/
def cyclesToBoundary (s : State) : Nat :=
  let len := tickLenB s.time.period
  if s.time.running && s.time.bench / len != s.time.tickEdge / len then 0
  else cyclesFor s ((s.time.bench / len + 1) * len - s.time.bench)

/-- The tick boundary: the internal tick edge starts SAMPLE. No tick comes before BOOT has ended (R161). -/
def tickBoundary (s : State) (smp : TickSample) : State :=
  if !s.coreOn || s.inReset || s.pwr.booting || (s.time.running && s.time.phase != .guard) then s else
  let s := runCycles (cyclesToBoundary s) s
  let s := s.onTime fun t => { t with
    tickEdge := t.bench, tickSeq := t.tickSeq + 1, phase := .sample, running := true, deferred := t.unfinished,
    unfinished := smp.late.filter fun j => j == 0 || j == 1 || j == 3 }
  let s := { s with ports := vmap (fun _ (x : LacePort) => { x with rxOvf := false }) s.ports }
  let s := s.onSnap fun x => { x with reqDue := x.reqDue || x.reqNext, reqNext := false }
  let s := latchEvents (firstTick s) (smp.late.contains 3)
  let s := activateArmed (commitInForce s smp.tioOk)
  sampleLatch (wmBoundary (fineSlew s)) smp

/-! ## Phases and jobs (R68 to R73, R77) -/

/-- Cycles until `pct` percent of the tick has passed since its internal tick edge, in bench time and rounded down (R68). -/
def cyclesTo (s : State) (pct : Nat) : Nat :=
  (tickLenB s.time.period * pct / 100 - (s.time.bench - s.time.tickEdge)) / s.time.inc

/-- A phase begins: the time up to it passes, and the cycles that jobs used are recorded (R73). -/
def beginPhase (s : State) (ph : Phase) (pct : Nat) (used : List (Nat × Nat)) : State :=
  let s := runCycles (cyclesTo s pct) s
  s.onTime fun t => { t with
    phase := ph, jobHwm := used.foldl (fun h u => vupd h u.1 fun x => max x (min 65535 u.2)) t.jobHwm }

/-- The jobs of a phase in the order in which they run: deferred ones first. -/
def jobOrder (s : State) (jobs : List Nat) : List Nat :=
  jobs.filter (s.time.deferred.contains ·) ++ jobs.filter (!s.time.deferred.contains ·)

/-- Derives the OPER_STATEs of eyelets and TIO pins and their disagreements (R40, R42). -/
def deriveTimeOpers (s : State) : State :=
  let s := { s with opers := { s.opers with eyes := vmk 32 (eyeOper s), tios := vmk 16 (tioOper s) } }
  let c := s.act
  let e := s.opers.eyes
  let o := s.opers.tios
  let r := noteMismatch s evTimeMismatch 32 (fun n => disagrees (inService c (eyeBase n)) (vat e n)) s.opers.eyeDis
  let q := noteMismatch r.2 evTimeMismatch 16 (fun p => disagrees (inService c (tioBase p)) (vat o p)) s.opers.tioDis
  { q.2 with opers := { q.2.opers with eyeDis := r.1, tioDis := q.1 } }

/-- How many items of its work a job does: all of them (none), or those that it had done when GUARD stopped it. -/
def roomOf (rep : PhaseReport) (j : Nat) : Option Nat := (rep.unfinished.find? fun u => u.1 == j).map (·.2)

/-- A job that is done as a whole or not at all. -/
def whole (room : Option Nat) (f : State → State) (s : State) : State := if room.isNone then f s else s

/-- The jobs of EVALUATE after channel P's slot, by row of the table of R70; `room` bounds the items of a job that is budgeted per item. -/
def evaluateJob (j : Nat) (room : Option Nat) (s : State) : State :=
  match j with
  | 5 => activityCheck s room
  | 6 => loopJob s room
  | 7 => moverJob s room
  | 8 => whole room outputsJob (evalSources s room)
  | 9 => selectJob s room
  | 10 => cellsJob s room
  | 11 => whole room commitValidate s
  | 12 => whole room stickyJob s
  | 13 => whole room (fun t => snapMark t false) s
  | _ => s

/-- Channel P's reserved slot; running past its 600 cycles is a safety fault (R28, R69). -/
def slotJob (s : State) (overrun : Bool) : State :=
  let s := slotP s
  if overrun && s.pRuns then
    pOverrun (s.onTime fun t => { t with overrunCnt := vupd t.overrunCnt 4 (stick 16) })
  else s

/-- EVALUATE. A job that does not finish delays the snapshot mark to GUARD (R618). -/
def evaluatePhase (s : State) (rep : PhaseReport) : State :=
  if !s.coreOn || !s.time.running || s.time.phase != .sample then s else
  let s := beginPhase s .evaluate 10 rep.used
  let s := deriveTimeOpers (portsJob (slotJob s rep.pOverrun))
  let late := (rep.unfinished.map (·.1)).filter (rng 5 13)
  let late := if late.isEmpty || late.contains 13 || !markDue s then late else late ++ [13]
  let s := s.onTime fun t => { t with unfinished := t.unfinished ++ late }
  (jobOrder s [5, 6, 7, 8, 9, 10, 11, 12, 13]).foldl
    (fun t j => evaluateJob j (if late.contains j then some ((roomOf rep j).getD 0) else none) t) s

/-- The jobs of DISPATCH after the eyelet handover; `room` as for EVALUATE. -/
def dispatchJob (j : Nat) (room : Option Nat) (s : State) : State :=
  match j with
  | 15 => whole room commitApply s
  | 16 => whole room (fun t => wmCompose (freqWords t)) s
  | 17 => telegramsSend (dispatchP s)
  | 18 => loadAll s room
  | 19 => whole room (fun t => composeCommit (composeCells t)) s
  | 20 => whole room irqUpdate s
  | _ => s

/-- DISPATCH: handover first, then deferred jobs, then the tick's own; channel P's work is never deferred (R28, R77). -/
def dispatchPhase (s : State) (rep : PhaseReport) : State :=
  if !s.coreOn || !s.time.running || s.time.phase != .evaluate then s else
  let s := beginPhase s .dispatch 70 rep.used
  let late := (rep.unfinished.map (·.1)).filter fun j => rng 14 20 j && j != 17
  let s := s.onTime fun t => { t with unfinished := t.unfinished ++ late }
  let s := if late.contains 14 then s else handoverAll s
  (jobOrder s [15, 16, 17, 18, 19, 20]).foldl
    (fun t j => dispatchJob j (if late.contains j then some ((roomOf rep j).getD 0) else none) t) s

/-- GUARD: unfinished jobs stop, are counted once and are deferred; a delayed snapshot mark is taken now (R73, R77, R618). -/
def guardPhase (s : State) : State :=
  if !s.coreOn || !s.time.running || s.time.phase != .dispatch then s else
  let s := beginPhase s .guard 95 []
  let late := s.time.unfinished
  if late.isEmpty then s else
  let s := s.onTime fun t => { t with
    unfinished := late.filter (· != 13)
    overrunCnt := vmap (fun j c => if late.contains j then stick 16 c else c) t.overrunCnt }
  let s := if late.contains 13 then snapMark s true else s
  raise s evOverrun

/-! ## The whole second -/

/-- The committed TICK_PERIOD takes effect (R64, R567). -/
def periodChange (s : State) : State :=
  let p := fPeriod.val s.act 0
  if p = s.time.period then s else
  let s := s.onTime fun t => { t with period := p }
  let s := if s.txn.st = .pending ∧ s.txn.kind = .atTime then s.onTxn fun t => { t with commitTick := atTimeTick s } else s
  raise s evPeriodChanged

/-- The committed seconds take effect; a tick-number adoption that is due is discarded (R61, R260, R405). -/
def secondsSet (s : State) : State :=
  if !fSetEn.on s.act 0 then s else
  let sec := fSetSec.val s.act 0
  let word := Word.ofN (s.act 0x10F - s.act 0x10F % 2)
  let s := { s with cfg := { s.cfg with active := sput (resetWordW 0x10F) word 0x10F s.cfg.active } }
  let s := s.onDpll 0 fun x => { x with adoptDue := false, tickDiff := 0, tickDiffCnt := 0 }
  let delta : Int := (sec : Int) * secB - (s.benchSec : Int) * secB
  stepBench (s.onLace fun l => { l with secValid := true }) delta

/-- Bench time crosses a whole second (R100): up to it the time passes, unless it has been crossed already. The XO's age grows while
channel H finds the XO valid (R282), the SD flags are judged (R420), seconds count (R598). -/
def wholeSecond (s : State) : State :=
  let s := if s.time.secSeen = s.benchSec then clockCycles (cyclesFor s (secB - s.time.bench % secB)) s else s
  let s := s.onTime fun t => { t with secSeen := t.bench / secB }
  let s := if s.pwr.xoValid then s.onModel fun m => { m with xoAge := m.xoAge + 1 } else s
  let s := countSrc 0x102 1 (raise s evSecond)
  let s := if s.coreOn then forN 4 (fun p t => sdSecond t p) s else s
  secondsSet (periodChange s)

/-! ## Commands -/

/-- TICK_BOUNDARY. -/
def execTickBoundary (smp : TickSample) (s : State) : Host.Outcome State Fault Refusal := .next (tickBoundary s smp)

/-- EVALUATE_PHASE. -/
def execEvaluatePhase (rep : PhaseReport) (s : State) : Host.Outcome State Fault Refusal := .next (evaluatePhase s rep)

/-- DISPATCH_PHASE. -/
def execDispatchPhase (rep : PhaseReport) (s : State) : Host.Outcome State Fault Refusal := .next (dispatchPhase s rep)

/-- GUARD_PHASE. -/
def execGuardPhase (s : State) : Host.Outcome State Fault Refusal := .next (guardPhase s)

/-- WHOLE_SECOND. -/
def execWholeSecond (s : State) : Host.Outcome State Fault Refusal := .next (wholeSecond s)

end Sys2Proof.Machine
end

