-- ==== Sys2Proof/Machine/Dispatch.lean ====
section
/-!
DEFINITION. Sys2Proof/Machine/Dispatch.lean: one arm per command, each a direct call of that command's meaning.
-/
namespace Sys2Proof.Machine

def exec (i : Instr) (s : State) : Host.Outcome State Fault Refusal :=
  match i with
  | .powerOnReset => Sys2Proof.Machine.execPowerOnReset s
  | .porRelease straps => Sys2Proof.Machine.execPorRelease straps s
  | .bor33 => Sys2Proof.Machine.execBor33 s
  | .bor09 => Sys2Proof.Machine.execBor09 s
  | .brownOutRecovery vdd33Up vdd09Up straps => Sys2Proof.Machine.execBrownOutRecovery vdd33Up vdd09Up straps s
  | .rstNAssert => Sys2Proof.Machine.execRstNAssert s
  | .rstNRelease heldMs straps => Sys2Proof.Machine.execRstNRelease heldMs straps s
  | .bypOut0StrapChange level => Sys2Proof.Machine.execBypOut0StrapChange level s
  | .tapReset => Sys2Proof.Machine.execTapReset s
  | .bootXoTimeout => Sys2Proof.Machine.execBootXoTimeout s
  | .bootEnd => Sys2Proof.Machine.execBootEnd s
  | .xoValid => Sys2Proof.Machine.execXoValid s
  | .clockFault mon => Sys2Proof.Machine.execClockFault mon s
  | .supplyWarn rail => Sys2Proof.Machine.execSupplyWarn rail s
  | .supplyOk => Sys2Proof.Machine.execSupplyOk s
  | .synInvalid => Sys2Proof.Machine.execSynInvalid s
  | .synValid => Sys2Proof.Machine.execSynValid s
  | .vddoLow bank => Sys2Proof.Machine.execVddoLow bank s
  | .vddoRecover bank => Sys2Proof.Machine.execVddoRecover bank s
  | .vddoLevel bank => Sys2Proof.Machine.execVddoLevel bank s
  | .vddoLevelRecover bank => Sys2Proof.Machine.execVddoLevelRecover bank s
  | .pwrCtrlWrite m v => Sys2Proof.Machine.execPwrCtrlWrite m v s
  | .domainUp d => Sys2Proof.Machine.execDomainUp d s
  | .domainFault d => Sys2Proof.Machine.execDomainFault d s
  | .domainPowerDown => Sys2Proof.Machine.execDomainPowerDown s
  | .coreOn => Sys2Proof.Machine.execCoreOn s
  | .pwrPendClear m v => Sys2Proof.Machine.execPwrPendClear m v s
  | .resetCauseClear m v => Sys2Proof.Machine.execResetCauseClear m v s
  | .start m => Sys2Proof.Machine.execStart m s
  | .setup m => Sys2Proof.Machine.execSetup m s
  | .bypass m => Sys2Proof.Machine.execBypass m s
  | .maint m => Sys2Proof.Machine.execMaint m s
  | .softReset m => Sys2Proof.Machine.execSoftReset m s
  | .softResetHoldEnd => Sys2Proof.Machine.execSoftResetHoldEnd s
  | .shutdown m => Sys2Proof.Machine.execShutdown m s
  | .shutdownComplete => Sys2Proof.Machine.execShutdownComplete s
  | .opmodeChange => Sys2Proof.Machine.execOpmodeChange s
  | .tickBoundary smp => Sys2Proof.Machine.execTickBoundary smp s
  | .evaluatePhase rep => Sys2Proof.Machine.execEvaluatePhase rep s
  | .dispatchPhase rep => Sys2Proof.Machine.execDispatchPhase rep s
  | .guardPhase => Sys2Proof.Machine.execGuardPhase s
  | .wholeSecond => Sys2Proof.Machine.execWholeSecond s
  | .hwmClr m => Sys2Proof.Machine.execHwmClr m s
  | .tioEdge pin rising sub => Sys2Proof.Machine.execTioEdge pin rising sub s
  | .tsHeadRead m pin => Sys2Proof.Machine.execTsHeadRead m pin s
  | .arm m n => Sys2Proof.Machine.execArm m n s
  | .cancel m n => Sys2Proof.Machine.execCancel m n s
  | .eyeletFire n readOk => Sys2Proof.Machine.execEyeletFire n readOk s
  | .tioPulseEnd pin readOk => Sys2Proof.Machine.execTioPulseEnd pin readOk s
  | .windowEdgeFire w readOk => Sys2Proof.Machine.execWindowEdgeFire w readOk s
  | .freqGateComplete n edges span => Sys2Proof.Machine.execFreqGateComplete n edges span s
  | .actAlarm n edges => Sys2Proof.Machine.execActAlarm n edges s
  | .actAlarmClear n => Sys2Proof.Machine.execActAlarmClear n s
  | .phaseHit n span gap edges => Sys2Proof.Machine.execPhaseHit n span gap edges s
  | .holdoffElapsed n => Sys2Proof.Machine.execHoldoffElapsed n s
  | .wtrDone d n => Sys2Proof.Machine.execWtrDone d n s
  | .qlTimeout n => Sys2Proof.Machine.execQlTimeout n s
  | .wmPayloadReceived n payload shapeOk onTime age => Sys2Proof.Machine.execWmPayloadReceived n payload shapeOk onTime age s
  | .dpllLock d => Sys2Proof.Machine.execDpllLock d s
  | .dpllUnlock d => Sys2Proof.Machine.execDpllUnlock d s
  | .fastLockStage d => Sys2Proof.Machine.execFastLockStage d s
  | .acqTimeout d => Sys2Proof.Machine.execAcqTimeout d s
  | .fbLost d => Sys2Proof.Machine.execFbLost d s
  | .fbFrozen d => Sys2Proof.Machine.execFbFrozen d s
  | .fbOk d => Sys2Proof.Machine.execFbOk d s
  | .hostFreqWrite m d v => Sys2Proof.Machine.execHostFreqWrite m d v s
  | .hostWdog d => Sys2Proof.Machine.execHostWdog d s
  | .step m d v => Sys2Proof.Machine.execStep m d v s
  | .halt m d => Sys2Proof.Machine.execHalt m d s
  | .ticknumAdopt => Sys2Proof.Machine.execTicknumAdopt s
  | .tsenseMeasure ts die settled => Sys2Proof.Machine.execTsenseMeasure ts die settled s
  | .tsenseJudge => Sys2Proof.Machine.execTsenseJudge s
  | .learningMinute => Sys2Proof.Machine.execLearningMinute s
  | .modelSaveDue => Sys2Proof.Machine.execModelSaveDue s
  | .modelSaveRetry => Sys2Proof.Machine.execModelSaveRetry s
  | .xoCfgWrite m off v => Sys2Proof.Machine.execXoCfgWrite m off v s
  | .research m n => Sys2Proof.Machine.execResearch m n s
  | .resync m n => Sys2Proof.Machine.execResync m n s
  | .bandDone n code vtune => Sys2Proof.Machine.execBandDone n code vtune s
  | .bandFail n => Sys2Proof.Machine.execBandFail n s
  | .alignDone n off => Sys2Proof.Machine.execAlignDone n off s
  | .startEpoch u => Sys2Proof.Machine.execStartEpoch u s
  | .apllUnlock n => Sys2Proof.Machine.execApllUnlock n s
  | .apllResearchDelay n => Sys2Proof.Machine.execApllResearchDelay n s
  | .spllUnlock => Sys2Proof.Machine.execSpllUnlock s
  | .dividerEpoch u => Sys2Proof.Machine.execDividerEpoch u s
  | .cellSlot => Sys2Proof.Machine.execCellSlot s
  | .cellLock p => Sys2Proof.Machine.execCellLock p s
  | .cellLockLost p cdr => Sys2Proof.Machine.execCellLockLost p cdr s
  | .timeCell p c sub => Sys2Proof.Machine.execTimeCell p c sub s
  | .secondsAdopt => Sys2Proof.Machine.execSecondsAdopt s
  | .qlCell p c => Sys2Proof.Machine.execQlCell p c s
  | .stateCell p c => Sys2Proof.Machine.execStateCell p c s
  | .safeCell p c => Sys2Proof.Machine.execSafeCell p c s
  | .eyeCell p c => Sys2Proof.Machine.execEyeCell p c s
  | .propose p c => Sys2Proof.Machine.execPropose p c s
  | .go p c => Sys2Proof.Machine.execGo p c s
  | .abortDc p c => Sys2Proof.Machine.execAbortDc p c s
  | .ready p c => Sys2Proof.Machine.execReady p c s
  | .refused p c => Sys2Proof.Machine.execRefused p c s
  | .applied p c => Sys2Proof.Machine.execApplied p c s
  | .notApplied p c => Sys2Proof.Machine.execNotApplied p c s
  | .dcDeadline => Sys2Proof.Machine.execDcDeadline s
  | .dcParticipantResolve => Sys2Proof.Machine.execDcParticipantResolve s
  | .dcSplitCheck => Sys2Proof.Machine.execDcSplitCheck s
  | .portWindowExpire p => Sys2Proof.Machine.execPortWindowExpire p s
  | .peerReportTimeout p => Sys2Proof.Machine.execPeerReportTimeout p s
  | .portCauseExpire p => Sys2Proof.Machine.execPortCauseExpire p s
  | .cntClr m p => Sys2Proof.Machine.execCntClr m p s
  | .channelHEvaluation smp => Sys2Proof.Machine.execChannelHEvaluation smp s
  | .xchkTimeout c => Sys2Proof.Machine.execXchkTimeout c s
  | .xchkDisagree c groups => Sys2Proof.Machine.execXchkDisagree c groups s
  | .safetyInputChange line level who heldUs => Sys2Proof.Machine.execSafetyInputChange line level who heldUs s
  | .testPulse line p h => Sys2Proof.Machine.execTestPulse line p h s
  | .discrepancy k c => Sys2Proof.Machine.execDiscrepancy k c s
  | .srstPulse lenP lenH highUs => Sys2Proof.Machine.execSrstPulse lenP lenH highUs s
  | .selftestDone passP passH stoOk => Sys2Proof.Machine.execSelftestDone passP passH stoOk s
  | .srstStuck who => Sys2Proof.Machine.execSrstStuck who s
  | .encFault e c z => Sys2Proof.Machine.execEncFault e c z s
  | .encDisagree axis c => Sys2Proof.Machine.execEncDisagree axis c s
  | .ss1Tmax g c => Sys2Proof.Machine.execSs1Tmax g c s
  | .ss1Done g c => Sys2Proof.Machine.execSs1Done g c s
  | .ss1tDone g c => Sys2Proof.Machine.execSs1tDone g c s
  | .stoReadback g lineB c sight => Sys2Proof.Machine.execStoReadback g lineB c sight s
  | .edmWindowExpire g c => Sys2Proof.Machine.execEdmWindowExpire g c s
  | .telCompareWindow r => Sys2Proof.Machine.execTelCompareWindow r s
  | .telPathLost r net => Sys2Proof.Machine.execTelPathLost r net s
  | .degExpired g => Sys2Proof.Machine.execDegExpired g s
  | .hbAccessTimeout a => Sys2Proof.Machine.execHbAccessTimeout a s
  | .hbStrobeConflict => Sys2Proof.Machine.execHbStrobeConflict s
  | .writeReg addr ws => Sys2Proof.Machine.execWriteReg addr ws s
  | .readReg addr n late => Sys2Proof.Machine.execReadReg addr n late s
  | .writeMap addr ws => Sys2Proof.Machine.execWriteMap addr ws s
  | .readMap addr n late => Sys2Proof.Machine.execReadMap addr n late s
  | .spiFrame => Sys2Proof.Machine.execSpiFrame s
  | .winData m a => Sys2Proof.Machine.execWinData m a s
  | .winDataInc m a => Sys2Proof.Machine.execWinDataInc m a s
  | .rolGroupOpen m t => Sys2Proof.Machine.execRolGroupOpen m t s
  | .stale m t => Sys2Proof.Machine.execStale m t s
  | .holdingWrite m t v => Sys2Proof.Machine.execHoldingWrite m t v s
  | .stagedWrite m a v => Sys2Proof.Machine.execStagedWrite m a v s
  | .registerWrite m t v rival => Sys2Proof.Machine.execRegisterWrite m t v rival s
  | .conflictClr m => Sys2Proof.Machine.execConflictClr m s
  | .begin m => Sys2Proof.Machine.execBegin m s
  | .commitNext m => Sys2Proof.Machine.execCommitNext m s
  | .commitAtTick m => Sys2Proof.Machine.execCommitAtTick m s
  | .commitAtTime m => Sys2Proof.Machine.execCommitAtTime m s
  | .commitDist m => Sys2Proof.Machine.execCommitDist m s
  | .armDc m => Sys2Proof.Machine.execArmDc m s
  | .disarm m => Sys2Proof.Machine.execDisarm m s
  | .rollback m => Sys2Proof.Machine.execRollback m s
  | .keepalive m => Sys2Proof.Machine.execKeepalive m s
  | .txnTimeout => Sys2Proof.Machine.execTxnTimeout s
  | .profileSave m => Sys2Proof.Machine.execProfileSave m s
  | .profileLoad m => Sys2Proof.Machine.execProfileLoad m s
  | .modelSave m => Sys2Proof.Machine.execModelSave m s
  | .modelClear m => Sys2Proof.Machine.execModelClear m s
  | .safeConfirm m => Sys2Proof.Machine.execSafeConfirm m s
  | .selftest m => Sys2Proof.Machine.execSelftest m s
  | .snapExport m => Sys2Proof.Machine.execSnapExport m s
  | .logClear m => Sys2Proof.Machine.execLogClear m s
  | .authChallenge m => Sys2Proof.Machine.execAuthChallenge m s
  | .authResponse m => Sys2Proof.Machine.execAuthResponse m s
  | .otpKeyWrite m => Sys2Proof.Machine.execOtpKeyWrite m s
  | .otpDbgPolicy m => Sys2Proof.Machine.execOtpDbgPolicy m s
  | .otpProfileLock m => Sys2Proof.Machine.execOtpProfileLock m s
  | .abort m => Sys2Proof.Machine.execAbort m s
  | .opStart vddOk => Sys2Proof.Machine.execOpStart vddOk s
  | .opDone rep => Sys2Proof.Machine.execOpDone rep s
  | .challengeExpire => Sys2Proof.Machine.execChallengeExpire s
  | .authDelayExpire => Sys2Proof.Machine.execAuthDelayExpire s
  | .evtStatusWrite m hi v => Sys2Proof.Machine.execEvtStatusWrite m hi v s
  | .clear m c => Sys2Proof.Machine.execClear m c s
  | .cntCmdClear m mask => Sys2Proof.Machine.execCntCmdClear m mask s
  | .logRecordProgram vddOk => Sys2Proof.Machine.execLogRecordProgram vddOk s
  | .req m => Sys2Proof.Machine.execReq m s
  | .release m => Sys2Proof.Machine.execRelease m s
  | .endSession m => Sys2Proof.Machine.execEndSession m s
  | .dbgSet m level => Sys2Proof.Machine.execDbgSet m level s
  | .bufClear m => Sys2Proof.Machine.execBufClear m s
  | .secData m a => Sys2Proof.Machine.execSecData m a s
  | .sessionIdle => Sys2Proof.Machine.execSessionIdle s
  | .extest cells => Sys2Proof.Machine.execExtest cells s
  | .samplePreload cells => Sys2Proof.Machine.execSamplePreload cells s
  | .idcode => Sys2Proof.Machine.execIdcode s
  | .bypassInstruction => Sys2Proof.Machine.execBypassInstruction s
  | .mapAccess op addr v => Sys2Proof.Machine.execMapAccess op addr v s
  | .haltP => Sys2Proof.Machine.execHaltP s
  | .resumeP => Sys2Proof.Machine.execResumeP s
  | .wmMarkMissing n => Sys2Proof.Machine.execWmMarkMissing n s
  | .cellCrcError p codeErrs => Sys2Proof.Machine.execCellCrcError p codeErrs s
  | .pageProgramEnd => Sys2Proof.Machine.execPageProgramEnd s
  | .hwCounterOverflow c => Sys2Proof.Machine.execHwCounterOverflow c s
  | .tickMismatchExpire net => Sys2Proof.Machine.execTickMismatchExpire net s

end Sys2Proof.Machine
end

