-- ==== Sys2Proof/Safety.lean ====
section
/-!
DEFINITION. Sys2Proof/Safety.lean: the terms in which claims speak of the block: what a command answers, the parts of the state that a
command may change, the invariant, and short names for conditions of the spec that several claims use.
-/
namespace Sys2Proof.Machine

/-! ## Answers -/

/-- A step is safe when it answers a next state: the block has no fault. -/
def SafeStep (s : State) : Prop := ∃ t, step s = .next t

/-- Command `i` at state `s` completes, with a next state of which `P` holds. -/
def Answers (i : Instr) (s : State) (P : State → Prop) : Prop := ∃ t, exec i s = .next t ∧ P t

/-- Event `e` has been raised: the next SAMPLE will latch it while CORE is ON (R574); while CORE is off a PWR or SAFE event is held
(R118, R458), and no other event exists (R710). -/
def EventSet (t : State) (e : Nat) : Prop :=
  if t.coreOn then t.evt.raised.getLsbD e = true
  else if e / 32 = 0 then bitOf t.pwr.pwrPend (e % 32) = true
  else if e / 32 = 6 then bitOf t.pwr.safePend (e % 32) = true
  else True

/-- The newest echo is of a command of master `m` at a word, with its code or value and its result (R602). -/
def Echoed (t : State) (m : Master) (addr value result : Nat) : Prop :=
  ∃ e, t.echoes.head? = some e ∧ e.master = m ∧ e.addr = addr ∧ e.value = value ∧ e.result = result

/-! ## Frames -/

/-- The parts of the state that frames speak of: one per field of `State`, where a field that many commands touch in one place only is
parted there (the events that wait for CORE, the raises of the tick, the session's idle time, the safety parameters and the two channels,
NVM octets and the running write, the active configuration and the INTERNAL words). -/
inductive Part where
  | bench | inc | tick | time | eyes | wins | gates | tios | pend | hold | domains | rails | boot | pwr | hist | mode
  | srcs | dplls | hos | model | aplls | spll | outs | fods | lockPin | lastJump | ports | lace | params | chanP
  | chanH | near | safe | hb | mp | prioMp | conflicts | wrote | conflictCnt | echoes | echoSeq | txn | opq | oph
  | ticket | raised | evt | cnts | cntCyc | log | snap | nvm | nvmBusy | otp | lastAccess | session | sec | tap
  | active | intern | before | opers | undo | draws | pending
  deriving DecidableEq, Repr

/-- The second state agrees with the first in one part. -/
def Part.same (s t : State) : Part → Prop
  | .bench => t.time.bench = s.time.bench
  | .inc => t.time.inc = s.time.inc
  | .tick =>
    let f := fun (x : TimeUnit) => (x.period, x.running, x.phase, x.tickEdge, x.tickSeq)
    f t.time = f s.time
  | .time =>
    let f := fun (x : TimeUnit) => { x with
      bench := 0, inc := 0, period := 0, running := false, phase := default, tickEdge := 0, tickSeq := 0 }
    f t.time = f s.time
  | .eyes => t.eyes = s.eyes
  | .wins => t.wins = s.wins
  | .gates => t.gates = s.gates
  | .tios => t.tios = s.tios
  | .pend => (t.pwr.pwrPend, t.pwr.safePend) = (s.pwr.pwrPend, s.pwr.safePend)
  | .hold =>
    let f := fun (x : PowerUnit) => (x.resetHeld, x.resetCause, x.resetClass, x.resetWaits)
    f t.pwr = f s.pwr
  | .domains =>
    let f := fun (x : PowerUnit) => (x.ctrl, x.core, x.syn, x.outl, x.outh, x.upQueue, x.downQueue, x.coreOffByWrite)
    f t.pwr = f s.pwr
  | .rails =>
    let f := fun (x : PowerUnit) => (x.warn33, x.warnAon, x.warn09, x.warn18, x.bor09, x.bor18, x.bor33, x.vddoBor, x.vddoOvr, x.supplyLow)
    f t.pwr = f s.pwr
  | .boot => (t.pwr.booting, t.pwr.bootWait, t.pwr.bootDone, t.pwr.shut) = (s.pwr.booting, s.pwr.bootWait, s.pwr.bootDone, s.pwr.shut)
  | .pwr =>
    let f := fun (x : PowerUnit) => { x with
      pwrPend := 0, safePend := 0, resetHeld := 0, resetCause := 0, resetClass := 0, resetWaits := false, ctrl := 0,
      core := default, syn := default, outl := default, outh := default, upQueue := [], downQueue := [], coreOffByWrite := false,
      warn33 := false, warnAon := false, warn09 := false, warn18 := false, bor09 := false, bor18 := false, bor33 := false,
      vddoBor := default, vddoOvr := default, supplyLow := false, booting := false, bootWait := false, bootDone := false,
      shut := default }
    f t.pwr = f s.pwr
  | .hist => t.mode.hist = s.mode.hist
  | .mode => { t.mode with hist := [] } = { s.mode with hist := [] }
  | .srcs => t.srcs = s.srcs
  | .dplls => t.dplls = s.dplls
  | .hos => t.hos = s.hos
  | .model => t.model = s.model
  | .aplls => t.aplls = s.aplls
  | .spll => t.spll = s.spll
  | .outs => t.outs = s.outs
  | .fods => t.fods = s.fods
  | .lockPin => t.lockPin = s.lockPin
  | .lastJump => t.lastJump = s.lastJump
  | .ports => t.ports = s.ports
  | .lace => t.lace = s.lace
  | .params => (t.safe.par, t.safe.stg, t.safe.confirmed, t.safe.hasPar) = (s.safe.par, s.safe.stg, s.safe.confirmed, s.safe.hasPar)
  | .chanP => t.safe.p = s.safe.p
  | .chanH => t.safe.h = s.safe.h
  | .near => t.safe.nearFrom = s.safe.nearFrom
  | .safe =>
    let f := fun (x : Safety) => { x with
      par := [], stg := [], confirmed := none, hasPar := false, p := default, h := default, nearFrom := none }
    f t.safe = f s.safe
  | .hb => t.hb = s.hb
  | .mp => t.mp = s.mp
  | .prioMp => t.prioMp = s.prioMp
  | .conflicts => t.conflicts = s.conflicts
  | .wrote => t.wrote = s.wrote
  | .conflictCnt => t.conflictCnt = s.conflictCnt
  | .echoes => t.echoes = s.echoes
  | .echoSeq => t.echoSeq = s.echoSeq
  | .txn => t.txn = s.txn
  | .opq => t.opq = s.opq
  | .oph => t.oph = s.oph
  | .ticket => t.ticket = s.ticket
  | .raised => t.evt.raised = s.evt.raised
  | .evt => { t.evt with raised := 0 } = { s.evt with raised := 0 }
  | .cnts => t.cnts = s.cnts
  | .cntCyc => t.cntCyc = s.cntCyc
  | .log => t.log = s.log
  | .snap => t.snap = s.snap
  | .nvm => t.nvm.mem = s.nvm.mem
  | .nvmBusy => t.nvm.busy = s.nvm.busy
  | .otp => t.otp = s.otp
  | .lastAccess => t.sec.lastAccess = s.sec.lastAccess
  | .session => t.sec.session = s.sec.session
  | .sec => { t.sec with lastAccess := 0, session := none } = { s.sec with lastAccess := 0, session := none }
  | .tap => t.tap = s.tap
  | .active => t.cfg.active = s.cfg.active
  | .intern => t.cfg.intern = s.cfg.intern
  | .before => (t.cfg.before, t.cfg.beforeAt) = (s.cfg.before, s.cfg.beforeAt)
  | .opers => t.opers = s.opers
  | .undo => t.undo = s.undo
  | .draws => t.draws = s.draws
  | .pending => t.pending = s.pending

/-- The parts through which events are reported, and those of a command's echo. -/
def Part.report : List Part := [.pend, .raised, .log]
def Part.echo : List Part := [.echoes, .echoSeq]

/-- Every part; every part but some. -/
def Part.all : List Part :=
  [.bench, .inc, .tick, .time, .eyes, .wins, .gates, .tios, .pend, .hold, .domains, .rails, .boot, .pwr, .hist, .mode, .srcs,
   .dplls, .hos, .model, .aplls, .spll, .outs, .fods, .lockPin, .lastJump, .ports, .lace, .params, .chanP, .chanH, .near, .safe,
   .hb, .mp, .prioMp, .conflicts, .wrote, .conflictCnt, .echoes, .echoSeq, .txn, .opq, .oph, .ticket, .raised, .evt, .cnts,
   .cntCyc, .log, .snap, .nvm, .nvmBusy, .otp, .lastAccess, .session, .sec, .tap, .active, .intern, .before, .opers, .undo,
   .draws, .pending]
def Part.allBut (l : List Part) : List Part := Part.all.filter fun p => !l.contains p

/-- The parts that a command changes in some state. -/
def touches : Instr → List Part
  | .powerOnReset | .bor33 | .bor09 | .rstNAssert | .softReset _ | .writeReg _ _ | .writeMap _ _ | .winData _ _ | .winDataInc _ _
  | .holdingWrite _ _ _ | .registerWrite _ _ _ _ => Part.allBut [.otp, .draws, .pending]
  | .porRelease _ | .brownOutRecovery _ _ _ | .rstNRelease _ _ | .softResetHoldEnd =>
    Part.report ++ [.tick, .hold, .domains, .rails, .boot, .pwr, .hist, .mode, .dplls, .model, .aplls, .spll, .outs, .fods, .params,
    .chanP, .chanH, .near, .safe, .hb, .mp, .prioMp, .opq, .sec, .active]
  | .bypOut0StrapChange _ => [.pwr, .outs]
  | .tapReset => [.hold, .tap]
  | .bootXoTimeout | .xoValid => Part.report ++ [.domains, .boot, .pwr, .hist, .mode, .dplls, .model, .aplls, .outs, .fods]
  | .bootEnd => Part.report ++ [.boot, .pwr, .hist, .mode, .dplls, .model, .aplls, .outs, .fods]
  | .clockFault _ => Part.report ++ [.pwr, .outs, .fods, .chanP, .chanH, .near, .safe]
  | .supplyWarn _ => Part.report ++ [.rails, .pwr, .hist, .mode, .hb, .mp, .opq, .nvm, .nvmBusy]
  | .supplyOk => Part.report ++ [.rails, .hist, .mode, .aplls, .outs, .fods, .hb, .mp, .opq]
  | .synInvalid | .synValid => Part.report ++ [.rails, .aplls, .outs, .fods]
  | .vddoLow _ | .vddoRecover _ => Part.report ++ [.rails, .pwr, .outs, .fods]
  | .vddoLevel _ | .vddoLevelRecover _ => Part.report ++ [.rails, .outs, .fods]
  | .pwrCtrlWrite _ _ =>
    Part.allBut [.bench, .inc, .hold, .rails, .params, .near, .prioMp, .conflicts, .conflictCnt, .echoSeq, .ticket, .nvm, .otp, .tap,
    .active, .intern, .before, .draws, .pending]
  | .domainUp _ | .coreOn =>
    Part.report ++ [.domains, .boot, .pwr, .hist, .mode, .srcs, .dplls, .model, .aplls, .spll, .outs, .fods, .ports, .lace, .chanP,
    .chanH, .safe]
  | .domainFault _ =>
    Part.allBut [.bench, .inc, .hold, .rails, .params, .near, .prioMp, .conflicts, .wrote, .conflictCnt, .echoSeq, .ticket, .nvm,
    .otp, .lastAccess, .tap, .active, .intern, .before, .undo, .draws, .pending]
  | .domainPowerDown =>
    Part.allBut [.bench, .inc, .hold, .rails, .params, .prioMp, .conflicts, .wrote, .conflictCnt, .echoSeq, .ticket, .nvm, .otp,
    .lastAccess, .tap, .active, .intern, .before, .undo, .draws, .pending]
  | .pwrPendClear _ _ => [.pend, .wrote, .lastAccess]
  | .resetCauseClear _ _ => [.hold, .wrote, .lastAccess]
  | .start _ | .setup _ | .bypass _ | .maint _ => Part.report ++ Part.echo ++ [.mode, .lastAccess, .undo]
  | .shutdown _ =>
    Part.report ++ Part.echo ++ [.domains, .boot, .pwr, .mode, .outs, .fods, .lace, .hb, .mp, .txn, .opq, .oph, .ticket, .snap,
    .nvmBusy, .lastAccess, .sec, .undo]
  | .shutdownComplete => Part.report ++ [.boot, .hist, .mode]
  | .opmodeChange => Part.report ++ [.hist, .mode, .dplls, .hos, .aplls, .outs, .fods]
  | .tickBoundary _ =>
    Part.report ++ [.bench, .tick, .time, .eyes, .wins, .tios, .pwr, .srcs, .dplls, .model, .aplls, .outs, .fods, .ports, .chanP,
    .chanH, .txn, .evt, .cnts, .cntCyc, .snap]
  | .evaluatePhase _ =>
    Part.report ++ [.bench, .tick, .time, .eyes, .hist, .mode, .srcs, .dplls, .hos, .model, .aplls, .outs, .fods, .lastJump, .ports,
    .lace, .chanP, .chanH, .near, .safe, .hb, .mp, .txn, .evt, .cnts, .cntCyc, .snap, .opers]
  | .dispatchPhase _ =>
    Part.report ++ [.bench, .inc, .tick, .time, .eyes, .wins, .dplls, .aplls, .outs, .fods, .lockPin, .ports, .lace, .chanP, .chanH,
    .safe, .txn, .evt, .cnts, .cntCyc, .active, .before]
  | .guardPhase => Part.report ++ [.bench, .tick, .time, .dplls, .chanP, .cnts, .cntCyc, .snap]
  | .wholeSecond =>
    Part.report ++ [.bench, .tick, .time, .dplls, .model, .aplls, .outs, .lastJump, .ports, .lace, .chanP, .txn, .cnts, .cntCyc,
    .active]
  | .hwmClr _ => Part.echo ++ [.time, .lastAccess]
  | .tioEdge _ _ _ => Part.report ++ [.tios, .cnts, .cntCyc]
  | .tsHeadRead _ _ | .readReg _ _ _ | .readMap _ _ _ | .rolGroupOpen _ _ | .stale _ _ =>
    Part.report ++ [.tios, .hb, .mp, .lastAccess, .sec]
  | .arm _ _ => Part.echo ++ [.eyes, .lastAccess, .active]
  | .cancel _ _ => Part.echo ++ [.eyes, .lastAccess]
  | .eyeletFire _ _ | .windowEdgeFire _ _ => Part.report ++ [.bench, .eyes, .wins, .gates, .tios, .dplls, .chanP, .cnts, .cntCyc, .snap]
  | .tioPulseEnd _ _ => Part.report ++ [.bench, .tios, .dplls, .chanP, .cnts, .cntCyc]
  | .freqGateComplete _ _ _ | .actAlarm _ _ | .qlTimeout _ | .wmMarkMissing _ => Part.report ++ [.srcs]
  | .actAlarmClear _ => [.srcs]
  | .phaseHit _ _ _ _ => Part.report ++ [.srcs, .dplls, .model]
  | .holdoffElapsed _ => Part.report ++ [.bench, .dplls, .chanP, .cnts, .cntCyc]
  | .wtrDone _ _ | .fastLockStage _ | .acqTimeout _ | .fbLost _ | .fbFrozen _ | .fbOk _ | .hostWdog _ => Part.report ++ [.dplls]
  | .wmPayloadReceived _ _ _ _ _ => Part.report ++ [.srcs, .dplls]
  | .dpllLock _ | .dpllUnlock _ => Part.report ++ [.hist, .mode, .dplls, .hos]
  | .hostFreqWrite _ _ _ => Part.report ++ [.dplls, .wrote, .lastAccess]
  | .step _ _ _ => Part.report ++ Part.echo ++ [.dplls, .lastAccess]
  | .halt _ _ => Part.echo ++ [.dplls, .lastAccess]
  | .ticknumAdopt => Part.report ++ [.bench, .tick, .time, .dplls, .aplls, .outs, .lastJump, .txn]
  | .tsenseMeasure _ _ _ | .tsenseJudge | .learningMinute => Part.report ++ [.model]
  | .modelSaveDue => Part.report ++ [.pwr, .hb, .mp, .opq, .ticket]
  | .modelSaveRetry => Part.report ++ [.pwr, .model, .hb, .mp, .opq, .ticket]
  | .xoCfgWrite _ _ _ => [.spll, .hb, .mp, .wrote, .lastAccess, .active]
  | .research _ _ => Part.report ++ Part.echo ++ [.aplls, .outs, .fods, .lastAccess]
  | .resync _ _ => Part.report ++ Part.echo ++ [.bench, .pwr, .dplls, .aplls, .outs, .fods, .chanP, .cnts, .cntCyc, .lastAccess]
  | .bandDone _ _ _ | .bandFail _ | .alignDone _ _ | .apllUnlock _ | .apllResearchDelay _ => Part.report ++ [.aplls, .outs, .fods]
  | .startEpoch _ => Part.report ++ [.bench, .dplls, .aplls, .outs, .fods, .chanP, .cnts, .cntCyc]
  | .spllUnlock => Part.report ++ [.aplls, .spll, .outs, .fods]
  | .dividerEpoch _ => Part.report ++ [.bench, .pwr, .dplls, .aplls, .outs, .fods, .chanP, .cnts, .cntCyc]
  | .cellSlot | .peerReportTimeout _ | .portCauseExpire _ => [.ports]
  | .cellLock _ | .cellLockLost _ _ => Part.report ++ [.ports]
  | .timeCell _ _ _ | .qlCell _ _ | .stateCell _ _ | .safeCell _ _ | .eyeCell _ _ | .propose _ _ | .go _ _ | .abortDc _ _
  | .ready _ _ | .refused _ _ | .applied _ _ | .notApplied _ _ => Part.report ++ [.ports, .safe, .cnts, .cntCyc]
  | .secondsAdopt => Part.report ++ [.bench, .tick, .time, .aplls, .outs, .lastJump, .lace, .txn]
  | .dcDeadline => [.lace, .txn]
  | .dcParticipantResolve => Part.report ++ [.lace, .hb, .mp, .txn]
  | .dcSplitCheck => Part.report ++ [.lace]
  | .portWindowExpire _ => Part.report ++ [.ports, .opers]
  | .cntClr _ _ => Part.echo ++ [.ports, .lastAccess]
  | .channelHEvaluation _ =>
    Part.report ++ [.domains, .rails, .boot, .pwr, .hist, .mode, .dplls, .model, .aplls, .spll, .outs, .fods, .chanP, .chanH, .near,
    .safe]
  | .xchkTimeout _ | .xchkDisagree _ _ | .selftestDone _ _ _ | .encFault _ _ _ | .encDisagree _ _ | .ss1Tmax _ _ | .ss1Done _ _
  | .ss1tDone _ _ | .stoReadback _ _ _ _ | .edmWindowExpire _ _ | .degExpired _ => Part.report ++ [.chanP, .chanH, .near, .safe]
  | .safetyInputChange _ _ _ _ | .discrepancy _ _ => Part.report ++ [.chanP, .chanH]
  | .testPulse _ _ _ => Part.report ++ [.chanP, .chanH, .safe]
  | .srstPulse _ _ _ => Part.report ++ [.params, .chanP, .chanH, .safe]
  | .srstStuck _ => Part.report ++ [.chanH, .safe]
  | .telCompareWindow _ => [.safe]
  | .telPathLost _ _ => Part.report ++ [.safe]
  | .hbAccessTimeout _ => Part.report ++ [.hb, .mp, .lastAccess]
  | .hbStrobeConflict => []
  | .spiFrame => Part.report
  | .stagedWrite _ _ _ => Part.report ++ [.spll, .hb, .mp, .wrote, .txn, .lastAccess, .active]
  | .conflictClr _ => Part.echo ++ [.conflicts, .conflictCnt, .lastAccess]
  | .begin _ | .commitNext _ | .commitAtTick _ | .commitAtTime _ | .commitDist _ | .armDc _ | .disarm _ | .keepalive _ =>
    Part.echo ++ [.hb, .mp, .txn, .lastAccess]
  | .rollback _ => Part.echo ++ [.lace, .hb, .mp, .txn, .lastAccess]
  | .txnTimeout => Part.report ++ [.lace, .txn]
  | .profileSave _ | .profileLoad _ | .modelSave _ | .modelClear _ | .safeConfirm _ | .selftest _ | .snapExport _ | .logClear _
  | .authChallenge _ | .authResponse _ | .otpKeyWrite _ | .otpDbgPolicy _ | .otpProfileLock _ =>
    Part.report ++ Part.echo ++ [.pwr, .hb, .mp, .opq, .ticket, .lastAccess]
  | .abort _ =>
    Part.report ++ Part.echo ++ [.domains, .boot, .pwr, .outs, .fods, .hb, .mp, .opq, .oph, .ticket, .snap, .nvmBusy, .lastAccess,
    .sec]
  | .opStart _ => Part.report ++ [.domains, .boot, .pwr, .model, .outs, .fods, .hb, .mp, .opq, .oph, .ticket, .snap, .nvm, .nvmBusy, .sec]
  | .opDone _ =>
    Part.report ++ [.domains, .boot, .pwr, .model, .outs, .fods, .params, .chanP, .chanH, .near, .safe, .hb, .mp, .echoes, .txn, .opq,
    .oph, .ticket, .snap, .nvm, .nvmBusy, .otp, .lastAccess, .session, .sec, .draws]
  | .challengeExpire | .authDelayExpire => [.sec]
  | .evtStatusWrite _ _ _ => [.wrote, .evt, .lastAccess]
  | .clear _ _ | .cntCmdClear _ _ => Part.report ++ Part.echo ++ [.cnts, .cntCyc, .lastAccess]
  | .logRecordProgram _ => Part.report ++ [.domains, .boot, .pwr, .hb, .mp, .opq, .ticket, .nvm]
  | .req _ | .release _ => Part.echo ++ [.snap, .lastAccess]
  | .endSession _ | .dbgSet _ _ => Part.report ++ Part.echo ++ [.chanP, .chanH, .near, .safe, .lastAccess, .session, .sec]
  | .bufClear _ => Part.echo ++ [.lastAccess, .sec]
  | .secData _ _ => Part.report ++ [.hb, .mp, .wrote, .lastAccess, .sec]
  | .sessionIdle => Part.report ++ [.chanP, .chanH, .near, .safe, .session, .sec]
  | .extest _ => Part.report ++ [.tap]
  | .samplePreload _ | .idcode | .bypassInstruction => [.tap]
  | .mapAccess _ _ _ => Part.report ++ [.conflicts, .conflictCnt, .tap, .intern]
  | .haltP | .resumeP => [.chanP, .chanH, .safe, .sec, .tap]
  | .cellCrcError _ _ => Part.report ++ [.ports, .cnts, .cntCyc]
  | .pageProgramEnd => Part.allBut [.bench, .inc, .nvm, .tap, .draws, .pending]
  | .hwCounterOverflow _ => Part.report ++ [.cnts, .cntCyc]
  | .tickMismatchExpire _ => [.lace]

/-! ## The invariant -/

/-- The held words of a port are in canonical form. -/
def portWf (h : HostPort) : Bool := swfFrom (fun _ => (0 : Word)) 0 h.wrHold && swfFrom (fun _ => (0 : Word)) 0 h.rolHold

/-- The stores are in their one canonical form, and the queues and histories keep the length that the spec gives them. -/
structure BlockInv (s : State) : Prop where
  /-- the NVM octets (R783), erased ones not listed -/
  nvm : swfFrom (fun _ => (0xFF : Byte)) 0 s.nvm.mem = true
  /-- the active configuration, words at their reset value not listed (R111, R758) -/
  active : swfFrom resetWordW 0 s.cfg.active = true
  /-- the queue of long operations (R557) and its history -/
  opq : s.opq.length ≤ 4
  oph : s.oph.length ≤ 16
  /-- DEVICE.MODE_HIST (R158) and HOST.CONFLICT (R543) -/
  hist : s.mode.hist.length ≤ 16
  conflicts : s.conflicts.length ≤ 8
  /-- the holding registers of both ports (R539, R541) -/
  hb : portWf s.hb = true
  mp : portWf s.mp = true
  /-- the TIO FIFOs (R81) -/
  fifo : ∀ n, n < 16 → (vat s.tios n).fifo.length ≤ 16

/-! ## Conditions -/

/-- Held in reset by source `bit`, which RESET_CAUSE shows (R122, R125). -/
def HeldBy (bit : Nat) (t : State) : Prop :=
  t.inReset = true ∧ bitOf t.pwr.resetHeld bit = true ∧ bitOf t.pwr.resetCause bit = true ∧ t.mode.mode = .reset ∧ t.coreOn = false

/-- Out of reset with the straps `k` sampled (R128, R130). -/
def Boots (k : Nat) (xo : Bool) (t : State) : Prop :=
  t.inReset = false ∧ t.pwr.strapEcho = k ∧ t.prioMp = bitOf k 3 ∧ t.pwr.bootWait = !xo ∧
  (xo = false → t.pwr.booting = true ∧ t.mode.mode = .boot)

/-- The warning of a rail is shown (R134). -/
def warned : Rail → PowerUnit → Bool
  | .vdd33, p => p.warn33
  | .vdd09aon, p => p.warnAon
  | .vdd09, p => p.warn09
  | .vdd18a, p => p.warn18

/-- The command that requests an operating mode (R163). -/
def requestRow (m : Master) : OpMode → Instr
  | .run => .start m
  | .setup => .setup m
  | .bypass => .bypass m
  | .maintenance => .maint m

/-- A gate of source `n` that completes now began after the monitors started and after the last change of GATE (R193, R194). -/
abbrev gateFresh (s : State) (n : Nat) : Prop :=
  let g := gateMs (fGate.val s.act (srcBase n)) * ms16
  (vat s.srcs n).gateFrom ≤ s.now / g * g - g

/-- The end of source `n`'s hold-off (R192). -/
def holdEnd (s : State) (n : Nat) : Nat := (vat s.srcs n).holdStart + fHoldoff.val s.act (srcBase n) * ms16

/-- External feedback of DPLL `d` is in use and OK, on a source that carries edges (R243). -/
def fbWatched (s : State) (d : Nat) : Bool :=
  dpllRuns s d && fFbSel.val s.act (dpllBase d) != 0 && ((vat s.dplls d).loop == .acquire || (vat s.dplls d).loop == .locked) &&
  (vat s.dplls d).fb == .ok && (vat s.dplls d).sel != some 12

/-- External feedback of DPLL `d` is in use and OK, and its loop has lost its source in this very tick (R253). -/
def fbJustLost (s : State) (d : Nat) : Bool :=
  dpllRuns s d && fFbSel.val s.act (dpllBase d) != 0 && !((vat s.dplls d).loop == .acquire || (vat s.dplls d).loop == .locked) &&
  (vat s.dplls d).lostTick == some s.time.tickSeq && (vat s.dplls d).fb == .ok && (vat s.dplls d).sel != some 12

/-- The movement target of DPLL `d` stays within 1 ms with a step of `z` (R246). -/
abbrev pmWithin (s : State) (d : Nat) (z : Int) : Prop :=
  ((vat s.dplls d).pmT * pUnit + (vat s.dplls d).pmTfrac + z * pUnit).natAbs ≤ pmMax * pUnit

/-- APLL `n` searches its band (R310). -/
def searching (s : State) (n : Nat) : Bool :=
  ((vat s.aplls n).st == .search || (vat s.aplls n).st == .locking) && !(vat s.aplls n).delayDue && s.synOn

/-- A cell with a good CRC that port `p` takes as for this hub: lock held, in service, a valid header of its own network, not this hub's
own (R388, R400, R401, R413). -/
def cellAccepted (s : State) (p : Nat) (c : Cell) : Bool :=
  s.coreOn && (vat s.ports p).cellLock && portServes s p && headerOk c && c.net == portNet p && c.src != laceAddr s.act &&
  (c.scope != .unicast || c.dst == laceAddr s.act)

/-- The rows of the table for a cell of each type other than SAFE; a TIME cell arrives `sub` steps of 4 ps after the CORE_CLK edge (R393). -/
def cellRows (p : Fin 4) (c : Cell) (sub : Fin 800) : List Instr :=
  match c.typ with
  | 1 => [.timeCell p c sub]
  | 2 => [.qlCell p c]
  | 4 => [.propose p c, .go p c, .abortDc p c]
  | 5 => [.eyeCell p c]
  | 6 => [.stateCell p c]
  | 7 => [.ready p c, .refused p c, .applied p c, .notApplied p c]
  | _ => []

/-- A channel alone sees a change. -/
def whoOf : Chan → Who
  | .p => .p
  | .h => .h

/-- The level that a channel holds of a line: line A of an input is even, line B odd. -/
def lineLevel (x : ChanInput) (line : Nat) : Bool := if line % 2 = 0 then x.lvlA else x.lvlB

/-- A line's share of a change: its input, and whether it is line B. -/
abbrev lineInput (line : Fin 16) : Nat := line / 2
abbrev lineIsB (line : Fin 16) : Bool := line.val % 2 == 1

/-- Configuration word `a` as master `m` reads it: in the copy that its WIN_CTRL selects, and in the cycle of the other master's write of that word
as it was before it (R536, R544). -/
def seenWord (s : State) (m : Master) (a : Nat) : Word := Word.ofN ((beforeWrite s m a).getD (viewOf s m a))

/-- What counter `c` reads after a clear: the counts made in the same CORE_CLK cycle through its gate (R611). -/
def clearedCounter (s : State) (c : Nat) : Counter :=
  let y := vat s.cntCyc c
  let n := if y.at_ = some s.time.bench ∧ gateOpen s c = true then y.offered else 0
  ((default : Counter).add (fCntOvf.on s.act (cntBase c)) n).1

/-- The axis speed that channel `c` judges a stop of group `g` by; 0 without an axis (R480, R483). -/
def groupSpeed (s : State) (c : Chan) (g : Nat) : Nat :=
  match axisOf s.image g with
  | some k => axisSpeed (s.chan c) k
  | none => 0

/-- A configuration word that master `m` may stage now: it owns an OPEN or ARMED transaction (R545); SPLL.XO_CFG is staged only with CORE
ON (R302). -/
structure Stageable (s : State) (m : Master) (a : Nat) : Prop where
  writable : s.writable = true
  rws : isRws a = true
  xo : s.coreOn = true ∨ a < spllBase ∨ spllBase + 3 ≤ a
  owner : s.txn.owner = some m
  st : s.txn.st = .opened ∨ s.txn.st = .armed

/-- Word `a` is staged with value `v`, and nothing else is; TXN_TIMEOUT begins anew (R15, R548, R555). -/
def Staged (s : State) (a : Nat) (v : Word) (t : State) : Prop :=
  t.stagedView a = v.toNat &&& cfgMask a ∧ (∀ b, b ≠ a → t.stagedView b = s.stagedView b) ∧ t.cfg = s.cfg ∧
  t.txn.touchAt = some s.safe.p.clk

/-- The rows that issue a long operation, with their codes (R558, R626, R629). -/
def longRows (m : Master) : List (Instr × Nat) :=
  [(.profileSave m, 0x01), (.profileLoad m, 0x02), (.modelSave m, 0x03), (.modelClear m, 0x04), (.safeConfirm m, 0x05), (.selftest m, 0x06),
   (.snapExport m, 0x07), (.logClear m, 0x08), (.authChallenge m, 0x10), (.authResponse m, 0x11), (.otpKeyWrite m, 0x12),
   (.otpDbgPolicy m, 0x13), (.otpProfileLock m, 0x14)]

/-- Operation `o` of a code is the one that OP_DONE ends, and no ABORT waits for it. -/
def Ends (s : State) (o : LongOp) (code : Nat) : Prop :=
  s.opq.find? (fun o => o.st == .running || o.aborting) = some o ∧ o.aborting = false ∧ o.code = code

/-- Operation `o` has just ended DONE with a result (R560). -/
def EndedAs (t : State) (o : LongOp) (result : Nat) : Prop :=
  ∃ e, t.oph.head? = some e ∧ e.ticket = o.ticket ∧ e.st = .done ∧ e.result = result

end Sys2Proof.Machine
end

