-- ==== Sys2Proof/Certificates/Slice0/Obligations.lean ====
section
/-!
DEFINITION. Sys2Proof/Certificates/Slice0/Obligations.lean: the statements for the provers. Each docstring names the rules it rests on; a
clause that rests on a choice of the model names the log entry in its statement text.
-/
open Sys2Proof Sys2Proof.Machine

/-- A reset source holds the device in reset with every switched domain off (R122, R123, R125, R129, R147). -/
def Obligations.ResetSourceHoldsDevice : Prop :=
  (∀ s, Answers .powerOnReset s fun t => HeldBy 0 t ∧ t.pwr.resetCause = 1 ||| without s.pwr.resetHeld 16 ∧ t.otp = s.otp ∧ t.log = s.log ∧
    (nvmWork s = none → t.nvm.mem = s.nvm.mem)) ∧
  (∀ s, s.inReset = false → Answers .bor33 s (HeldBy 1)) ∧
  (∀ s, s.inReset = false → bitOf s.pwr.ctrl 0 = true → Answers .bor09 s (HeldBy 2)) ∧
  (∀ s, s.inReset = false → Answers .rstNAssert s fun t => HeldBy 3 t ∧ t.pwr.rstHeldMs = 0) ∧
  (∀ s m, s.served = true → s.pwr.shut ≠ .ended → s.safeEnergy = false → Answers (.softReset m) s (HeldBy 4))

/-- The end of the last reset sources starts BOOT with the straps of that instant (R127, R128, R130). -/
def Obligations.ReleaseStartsBoot : Prop :=
  (∀ s straps, s.pwr.resetHeld ∈ [1, 3, 5, 7] → s.pwr.resetWaits = false → s.pwr.resetClass ≠ 0 →
    Answers (.porRelease straps) s (Boots straps.toNat s.pwr.xoValid)) ∧
  (∀ s up33 up09 straps, s.pwr.resetHeld ≠ 0 → s.pwr.resetHeld = 2 * b2n up33 + 4 * b2n up09 → s.pwr.resetWaits = false →
    s.pwr.resetClass ≠ 0 → Answers (.brownOutRecovery up33 up09 straps) s (Boots straps.toNat s.pwr.xoValid)) ∧
  (∀ s ms straps, s.pwr.resetHeld = 8 → s.pwr.resetWaits = false → s.pwr.resetClass ≠ 0 →
    Answers (.rstNRelease ms straps) s fun t => Boots straps.toNat s.pwr.xoValid t ∧ t.pwr.rstHeldMs = min 65535 ms) ∧
  (∀ s, s.pwr.resetHeld = 16 → s.pwr.resetWaits = false → s.pwr.resetClass = 0 →
    Answers .softResetHoldEnd s (Boots s.pwr.strapEcho s.pwr.xoValid))

/-- What ends BOOT, what lets it go on, and the strap of OUT0 (R130, R132, R133, R438, R653). -/
def Obligations.BootRuns : Prop :=
  (∀ s level, Answers (.bypOut0StrapChange level) s fun t =>
    t.pwr.bypOut0 = (if s.inReset || s.pwr.booting then level else s.pwr.bypOut0) ∧ bitOf t.pwr.straps 2 = level) ∧
  (∀ s, s.pwr.booting = true → s.pwr.bootWait = true → s.pwr.xoValid = false →
    Answers .bootXoTimeout s fun t => t.pwr.core = .fault ∧ t.pwr.booting = false ∧ t.pwr.bootDone = true ∧ t.mode.opmode = .setup) ∧
  (∀ s, s.pwr.booting = true → s.pwr.bootWait = false → s.coreOn = true →
    Answers .bootEnd s fun t => t.pwr.booting = false ∧ t.pwr.bootDone = true ∧ t.mode.opmode = if s.pwr.autostart then .run else .setup) ∧
  (∀ s, Answers .xoValid s fun t => t.pwr.xoValid = true ∧ (s.pwr.booting = true → t.pwr.bootWait = false)) ∧
  (∀ s, Answers .tapReset s fun t => bitOf t.pwr.resetCause 5 = true ∧ t.tap.instr = .idcode ∧ t.sec.dbg = s.sec.dbg)

/-- Supply warnings, and the indications of the SYN and VDDO monitors (R121, R134, R136, R137, R149, R150, R160, R338). -/
def Obligations.SupplyWarningsAndRailMonitors : Prop :=
  (∀ s rail, s.inReset = false → Answers (.supplyWarn rail) s fun t => t.pwr.supplyLow = true ∧ warned rail t.pwr = true ∧
    (s.pwr.supplyLow = false → s.pwr.booting = false → s.pwr.shut ≠ .ended → t.mode.mode = .supplyLow)) ∧
  (∀ s, s.pwr.supplyLow = true → Answers .supplyOk s fun t => t.pwr.supplyLow = false ∧ anyWarn t.pwr = false ∧
    ∀ o ∈ t.opq, o.st ≠ .held) ∧
  (∀ s, Answers .synInvalid s fun t => t.pwr.bor18 = true) ∧
  (∀ s, Answers .synValid s fun t => t.pwr.bor18 = false) ∧
  (∀ s (b : Fin 4), Answers (.vddoLow b) s fun t => vat t.pwr.vddoBor b = true ∧ ∀ k : Nat, k ≠ b → vat t.pwr.vddoBor k = vat s.pwr.vddoBor k) ∧
  (∀ s (b : Fin 4), Answers (.vddoRecover b) s fun t => vat t.pwr.vddoBor b = false ∧ ∀ k : Nat, k ≠ b → vat t.pwr.vddoBor k = vat s.pwr.vddoBor k) ∧
  (∀ s (b : Fin 4), Answers (.vddoLevel b) s fun t => vat t.pwr.vddoOvr b = true ∧ ∀ k : Nat, k ≠ b → vat t.pwr.vddoOvr k = vat s.pwr.vddoOvr k) ∧
  (∀ s (b : Fin 4), Answers (.vddoLevelRecover b) s fun t => vat t.pwr.vddoOvr b = false ∧ ∀ k : Nat, k ≠ b → vat t.pwr.vddoOvr k = vat s.pwr.vddoOvr k) ∧
  (∀ s smp, Answers (.channelHEvaluation smp) s fun t =>
    t.pwr.warn33 = (s.pwr.warn33 && filtered 1000 (vat smp.warn 0) true) ∧ t.pwr.warnAon = (s.pwr.warnAon && filtered 1000 (vat smp.warn 1) true) ∧
    t.pwr.warn09 = (s.pwr.warn09 && filtered 1000 (vat smp.warn 2) true) ∧ t.pwr.warn18 = (s.pwr.warn18 && filtered 1000 (vat smp.warn 3) true))

/-- An accepted PWR_CTRL write takes its four enables; a refused one changes none (R48, R113, R165, R177). -/
def Obligations.PwrCtrlWriteAndRefusal : Prop :=
  (∀ s m v, s.served = true → s.pwr.shut ≠ .ended → pwrRefused s (v.toNat % 16) = false → v.toNat % 16 ≠ s.pwr.ctrl →
    Answers (.pwrCtrlWrite m v) s fun t => t.pwr.ctrl = v.toNat % 16) ∧
  (∀ s m v, s.served = true → s.pwr.shut ≠ .ended → pwrRefused s (v.toNat % 16) = true →
    Answers (.pwrCtrlWrite m v) s fun t => t.pwr.ctrl = s.pwr.ctrl ∧ (∀ d, domainState t.pwr d = domainState s.pwr d) ∧
      EventSet t evCtrlRefused)

/-- Domains become ON, show FAULT and go off (R114, R115, R116, R117). -/
def Obligations.DomainsPowerUpAndDown : Prop :=
  (∀ s d, domainState s.pwr d = .ramping → (∀ q ∈ s.pwr.upQueue, q.1 ≠ d) → (if d = .core then s.pwr.xoValid = true else s.coreOn = true) →
    Answers (.domainUp d) s fun t => domainState t.pwr d = .on) ∧
  (∀ s, s.pwr.core = .ramping → s.pwr.xoValid = true → (∀ q ∈ s.pwr.upQueue, q.1 ≠ .core) →
    Answers .coreOn s fun t => t.coreOn = true ∧ t.spll.lock = true ∧ t.spll.everOn = true ∧ t.pwr.pendOwed = true) ∧
  (∀ s d, domainState s.pwr d = .ramping → (∀ q ∈ s.pwr.upQueue, q.1 ≠ d) →
    Answers (.domainFault d) s fun t => domainState t.pwr d = .fault ∧ ∀ q ∈ t.pwr.upQueue, q.2 ≠ s.pwr.rampWrite) ∧
  (∀ s d, domainState s.pwr d = .on → Answers (.domainFault d) s fun t => domainState t.pwr d = .fault) ∧
  (∀ s, s.pwr.downQueue ≠ [] → (s.coreOn = true → s.time.running = true → s.time.phase = .guard) →
    Answers .domainPowerDown s fun t => t.pwr.downQueue = [] ∧ ∀ d ∈ s.pwr.downQueue, domainState t.pwr d = .off)

/-- PWR_PEND_CLEAR and RESET_CAUSE_CLEAR clear exactly the bits written with 1 (R122, R580, R616). -/
def Obligations.WriteOneToClearWords : Prop :=
  (∀ s m v, Answers (.pwrPendClear m v) s fun t => ∀ i, i < 16 →
    bitOf t.pwr.pwrPend i = (bitOf s.pwr.pwrPend i && !(s.writable && v.getLsbD i))) ∧
  (∀ s m v, Answers (.resetCauseClear m v) s fun t => ∀ i, i < 16 →
    bitOf t.pwr.resetCause i = (bitOf s.pwr.resetCause i && !(s.writable && v.getLsbD i)))

/-- An accepted mode request waits for the tick boundary, where OPMODE changes (R163, R164, R165, R166, R173). -/
def Obligations.ModeRequestsWaitForTheBoundary : Prop :=
  (∀ s m op, s.served = true → s.pwr.shut ≠ .ended → (s.mode.opmode = op ∨ reqRefusal s op = none) →
    Answers (requestRow m op) s fun t => t.mode.pendingOp = some op ∧ t.mode.pendingTick = s.time.tickSeq ∧ t.mode.opmode = s.mode.opmode) ∧
  (∀ s m op e, s.served = true → s.pwr.shut ≠ .ended → s.mode.opmode ≠ op → reqRefusal s op = some e →
    Answers (requestRow m op) s fun t => t.mode = s.mode ∧ EventSet t evModeRefused) ∧
  (∀ s op, s.mode.pendingOp = some op → s.coreOn = true → s.time.running = true → s.mode.pendingTick < s.time.tickSeq →
    s.mode.opmode ≠ op → modeGuard s op = true →
    Answers .opmodeChange s fun t => t.mode.opmode = op ∧ t.mode.pendingOp = none ∧
      (op = .maintenance → t.mode.maintBase = s.mode.opmode)) ∧
  (∀ s, s.time.tickSeq ≤ s.mode.pendingTick → Answers .opmodeChange s fun t => t = s)

/-- SHUTDOWN begins the sequence, and it completes once nothing is left to do (R142, R155, R172). -/
def Obligations.ShutdownSequence : Prop :=
  (∀ s m, s.served = true → s.pwr.shut = .none → s.safeEnergy = false → s.pwr.supplyLow = false →
    Answers (.shutdown m) s fun t => t.pwr.shut ≠ .none ∧ t.mode.pendingOp = none ∧ ∀ o ∈ t.opq, opWrites o.code = true) ∧
  (∀ s, s.pwr.shut = .powering → (∀ d, domainState s.pwr d = .off) → s.pwr.supplyLow = false → s.runningOp = none →
    Answers .shutdownComplete s fun t => t.pwr.shut = .ended ∧ (s.served = true → t.mode.mode = .shutdown)) ∧
  (∀ s m, s.served = true → s.pwr.shut = .none → (s.safeEnergy = true ∨ s.pwr.supplyLow = true) →
    Answers (.shutdown m) s fun t => t.pwr.shut = .none ∧ t.opq = s.opq ∧ EventSet t evCmdRefused)

/-- The tick and its phases, whole seconds and the high-water marks (R64, R67, R68, R73, R77, R100, R282). -/
def Obligations.DeckleAndWholeSeconds : Prop :=
  (∀ s smp, s.coreOn = true → s.inReset = false → s.pwr.booting = false → (s.time.running = true → s.time.phase = .guard) →
    Answers (.tickBoundary smp) s fun t => t.time.phase = .sample ∧ t.time.running = true ∧ t.time.tickSeq = s.time.tickSeq + 1 ∧
      t.time.deferred = s.time.unfinished ∧ t.time.unfinished = smp.late.filter fun j => j == 0 || j == 1 || j == 3) ∧
  (∀ s rep, s.coreOn = true → s.time.running = true → s.time.phase = .sample →
    Answers (.evaluatePhase rep) s fun t => t.time.phase = .evaluate ∧ t.time.tickSeq = s.time.tickSeq ∧
      ∀ u ∈ rep.unfinished, rng 5 13 u.1 = true → u.1 ∈ t.time.unfinished) ∧
  (∀ s rep, s.coreOn = true → s.time.running = true → s.time.phase = .evaluate →
    Answers (.dispatchPhase rep) s fun t => t.time.phase = .dispatch ∧ t.time.tickSeq = s.time.tickSeq ∧
      ∀ u ∈ rep.unfinished, rng 14 20 u.1 = true → u.1 ≠ 17 → u.1 ∈ t.time.unfinished) ∧
  (∀ s, s.coreOn = true → s.time.running = true → s.time.phase = .dispatch →
    Answers .guardPhase s fun t => t.time.phase = .guard ∧ t.time.tickSeq = s.time.tickSeq ∧
      ∀ j, j < 21 → vat t.time.overrunCnt j =
        if j ∈ s.time.unfinished then stick 16 (vat s.time.overrunCnt j) else vat s.time.overrunCnt j) ∧
  (∀ s, Answers .wholeSecond s fun t => t.model.xoAge = s.model.xoAge + b2n s.pwr.xoValid ∧ t.time.period = fPeriod.val s.act 0) ∧
  (∀ s m, s.servedCore = true → Answers (.hwmClr m) s fun t => (∀ j, vat t.time.jobHwm j = 0) ∧ t.time.overrunCnt = s.time.overrunCnt)

/-- ARM, CANCEL and the firing of an eyelet act on that eyelet alone (R41, R86, R88, R91, R92, R99, R101). -/
def Obligations.EyeletCommandsAndFiring : Prop :=
  (∀ s m (n : Fin 32), s.servedCore = true → Answers (.arm m n) s fun t =>
    (vat t.eyes n).armed = true ∧ (vat t.eyes n).baseTime = (vat s.eyes n).quickTime ∧ (vat t.eyes n).edges = (vat s.eyes n).edges ∧
      ∀ k : Nat, k ≠ n → vat t.eyes k = vat s.eyes k) ∧
  (∀ s m (n : Fin 32), s.servedCore = true → firingNow s n = false → Answers (.cancel m n) s fun t =>
    (vat t.eyes n).st = .idle ∧ (vat t.eyes n).edges = [] ∧ (vat t.eyes n).active = false ∧ (vat t.eyes n).armed = false ∧
      ∀ k : Nat, k ≠ n → vat t.eyes k = vat s.eyes k) ∧
  (∀ s m (n : Fin 32), s.servedCore = true → firingNow s n = true → Answers (.cancel m n) s fun t =>
    (vat t.eyes n).abortIgnored = true ∧ (vat t.eyes n).edges = (vat s.eyes n).edges ∧ ∀ k : Nat, k ≠ n → vat t.eyes k = vat s.eyes k) ∧
  (∀ s (n : Fin 32) ok e, s.coreOn = true → eyeNext s n = some e → inTick s e.time = true →
    Answers (.eyeletFire n ok) s fun t => (vat t.eyes n).edges = (vat s.eyes n).edges.erase e) ∧
  (∀ s (n : Fin 32) ok e, s.coreOn = true → eyeNext s n = some e → inTick s e.time = true →
    (∀ g r, unitEdge s (n + 8) = some (some g, r) → firstOn s g = some (n + 8)) →
    Answers (.eyeletFire n ok) s fun t =>
      (eyeOper s n = .up → (vat t.eyes n).fireCount = min 65535 ((vat s.eyes n).fireCount + 1) ∧
        (vat t.eyes n).lastFire = e.time ∧ (vat t.eyes n).lateFired = ((vat s.eyes n).lateFired || e.late)) ∧
      ∀ k : Nat, k ≠ n → vat t.eyes k = vat s.eyes k)

/-- A window's edge opens or closes its gate (R96, R98, R99). -/
def Obligations.WindowEdgesMoveTheirGate : Prop :=
  ∀ s (w : Fin 8) ok e, s.coreOn = true → winNext s w = some e → inTick s e.time = true →
    Answers (.windowEdgeFire w ok) s fun t =>
      (vat t.wins w).edges = (vat s.wins w).edges.erase e ∧ vat t.gates w = !e.isStop ∧
      (vat t.wins w).instances = (if e.isStop then (vat s.wins w).instances else min 65535 ((vat s.wins w).instances + 1)) ∧
      (e.isStop = false → (vat t.wins w).st = .opened) ∧
      ∀ k : Nat, k ≠ w → vat t.wins k = vat s.wins k ∧ vat t.gates k = vat s.gates k

/-- An edge on a TIO pin is stored with its time, or lost to a full FIFO or to the 8 ns limit (R41, R67, R79, R80, R81, R82, R86). -/
def Obligations.TioEdgesAreStamped : Prop :=
  (∀ s (p : Fin 16) r (sub : Fin 160), s.coreOn = true → tioOper s p = .up → tioWants (tioMode s p) r = true →
    within8ns (vat s.tios p).lastEdge (crossTime s sub) = false → (vat s.tios p).fifo.length < 16 →
    Answers (.tioEdge p r sub) s fun t =>
      (vat t.tios p).fifo = (vat s.tios p).fifo ++ [{ time := stampTime s p (crossTime s sub), rising := r, missed := (vat s.tios p).missNext }] ∧
      (vat t.tios p).missNext = false ∧ ∀ k : Nat, k ≠ p → vat t.tios k = vat s.tios k) ∧
  (∀ s (p : Fin 16) r (sub : Fin 160), s.coreOn = true → tioOper s p = .up → tioWants (tioMode s p) r = true →
    (within8ns (vat s.tios p).lastEdge (crossTime s sub) = true ∨ 16 ≤ (vat s.tios p).fifo.length) →
    Answers (.tioEdge p r sub) s fun t =>
      (vat t.tios p).fifo = (vat s.tios p).fifo ∧ (vat t.tios p).missNext = true ∧ ∀ k : Nat, k ≠ p → vat t.tios k = vat s.tios k) ∧
  (∀ s (p : Fin 16) ok e, s.coreOn = true → (vat s.tios p).pulseEnd = some e → inTick s e = true → Answers (.tioPulseEnd p ok) s fun t =>
    (vat t.tios p).pulseEnd = none ∧
    (inService s.act (tioBase p) = true → tioMode s p = 4 → (vat t.tios p).level = false) ∧ ∀ k : Nat, k ≠ p → vat t.tios k = vat s.tios k)

/-- A completed gate and the activity monitor set the measurements and alarms of their source (R183, R186, R188, R189, R190, R193, R194).
-/
def Obligations.FrequencyAndActivityMonitors : Prop :=
  (∀ s (n : Fin 12) edges span, s.coreOn = true → seesEdges s n = true → gateFresh s n → 2 ≤ edges →
    Answers (.freqGateComplete n edges span) s fun t =>
    let off := gateOffset (srcNom s.act n) (srcPrediv s.act n) edges span
    (vat t.srcs n).freqValid = true ∧ (vat t.srcs n).freqOffset = clampI 32 (ratFree 1 off) ∧
    (vat t.srcs n).freqAlarm = (if offBeyond off (fReject.val s.act (srcBase n)) then true
      else if offBeyond off (fAccept.val s.act (srcBase n)) then (vat s.srcs n).freqAlarm else false) ∧
    ∀ k : Nat, k ≠ n → vat t.srcs k = vat s.srcs k) ∧
  (∀ s (n : Fin 12) edges span, s.coreOn = true → gateFresh s n → (edges < 2 ∨ seesEdges s n = false) →
    Answers (.freqGateComplete n edges span) s fun t => (vat t.srcs n).freqValid = false ∧ ∀ k : Nat, k ≠ n → vat t.srcs k = vat s.srcs k) ∧
  (∀ s (n : Fin 12) edges span, ¬ gateFresh s n → Answers (.freqGateComplete n edges span) s fun t => t = s) ∧
  (∀ s (n : Fin 12) k, s.coreOn = true → (vat s.srcs n).actAlarm = false → actPassed s n (s.safe.p.clk - (vat s.srcs n).lastEdge) = true →
    Answers (.actAlarm n k) s fun t =>
    (vat t.srcs n).actAlarm = true ∧ (vat t.srcs n).hitEdges = 0 ∧ EventSet t evActAlarm ∧ ∀ k : Nat, k ≠ n → vat t.srcs k = vat s.srcs k) ∧
  (∀ s (n : Fin 12) k, actPassed s n (s.safe.p.clk - (vat s.srcs n).lastEdge) = false → Answers (.actAlarm n k) s fun t => t = s) ∧
  (∀ s (n : Fin 12), s.coreOn = true → seesEdges s n = true → Answers (.actAlarmClear n) s fun t =>
    (vat t.srcs n).actAlarm = false ∧ ∀ k : Nat, k ≠ n → vat t.srcs k = vat s.srcs k)

/-- The hold-off, the wait-to-restore timer and the QL timeout of a source run out (R192, R198, R204, R213). -/
def Obligations.HoldoffWtrAndQlTimers : Prop :=
  (∀ s (n : Fin 12), s.coreOn = true → (vat s.srcs n).qual = .holdOff → inTick s (holdEnd s n) = true →
    Answers (.holdoffElapsed n) s fun t => t = passTo s (holdEnd s n) ∧ t.srcs = s.srcs) ∧
  (∀ (s : State) (n : Fin 12), (vat s.srcs n).qual = .holdOff → holdElapsed s n = true → portUp s n = true →
      let x := vat s.srcs n
      let bad := x.actAlarm || x.freqAlarm || x.hitAlarm || x.alarmSince || x.gateBad
      (vat (evalSource s n).srcs n).qual = (if bad then .disqualified else if x.gateClean then .qualified else .holdOff)) ∧
  (∀ s (d : Fin 4) (n : Fin 12) b, s.coreOn = true → s.time.phase ≠ .sample → vat (vat s.dplls d).wtrStart n = some b →
    b + fWtr.val s.act (dpllBase d) * sec16 ≤ s.now →
    Answers (.wtrDone d n) s fun t => vat (vat t.dplls d).wtrStart n = none ∧ EventSet t evWtrDone ∧ t.srcs = s.srcs ∧
      ∀ k : Nat, k ≠ d → vat t.dplls k = vat s.dplls k) ∧
  (∀ s (d : Fin 4) (n : Fin 12), s.time.phase = .sample → Answers (.wtrDone d n) s fun t => t = s) ∧
  (∀ s (n : Fin 12), s.coreOn = true → (vat s.srcs n).accQl ≠ none → (vat s.srcs n).qlExpired = false →
    (vat s.srcs n).inbandAt + fQlTimeout.val s.act (srcBase n) * ms16 ≤ s.now →
    Answers (.qlTimeout n) s fun t => (vat t.srcs n).qlExpired = true ∧ EventSet t evQlTimeout ∧ ∀ k : Nat, k ≠ n → vat t.srcs k = vat s.srcs k)

/-- What a received watermark payload and a missing mark do to the decoder (R182, R198, R201, R367). -/
def Obligations.WatermarkDecoder : Prop :=
  (∀ s (n : Fin 8) p shape time age, s.coreOn = true → fDecode.on s.act (refBase n) = true → fInMode.val s.act (refBase n) ≠ 0 →
    wmGood p.toNat shape = true → Answers (.wmPayloadReceived n p shape time age) s fun t =>
      (vat t.srcs n).wmPayload = p.toNat ∧ (vat t.srcs n).lastInband = bitsOf p.toNat 43 40 ∧
      (vat t.srcs n).wmSync = (time && ((vat s.srcs n).wmSync || decide (1 ≤ (vat s.srcs n).wmRun))) ∧
      (vat t.srcs n).wmCrcCnt = (vat s.srcs n).wmCrcCnt ∧ ∀ k : Nat, k ≠ n → vat t.srcs k = vat s.srcs k) ∧
  (∀ s (n : Fin 8) p shape time age, s.coreOn = true → fDecode.on s.act (refBase n) = true → fInMode.val s.act (refBase n) ≠ 0 →
    wmGood p.toNat shape = false → Answers (.wmPayloadReceived n p shape time age) s fun t =>
      (vat t.srcs n).wmCrcCnt = stick 16 (vat s.srcs n).wmCrcCnt ∧ (vat t.srcs n).wmPayload = (vat s.srcs n).wmPayload ∧
      (vat t.srcs n).wmSync = (time && (vat s.srcs n).wmSync && decide ((vat s.srcs n).wmRun < 2)) ∧ ∀ k : Nat, k ≠ n → vat t.srcs k = vat s.srcs k) ∧
  (∀ s (n : Fin 8), s.coreOn = true → fDecode.on s.act (refBase n) = true → Answers (.wmMarkMissing n) s fun t =>
    (vat t.srcs n).wmSync = false ∧ ∀ k : Nat, k ≠ n → vat t.srcs k = vat s.srcs k)

/-- DPLL_LOCK and DPLL_UNLOCK change the loop state, or the stage's dwell (R225, R231, R232, R233, R251, R252). -/
def Obligations.LockAndUnlockAreDeclared : Prop :=
  (∀ s (d : Fin 4), canDeclare s d = true → s.time.phase = .evaluate → lockDue (vat s.dplls d) = true →
    (vat s.dplls d).unlockTick ≠ some s.time.tickSeq → (vat s.dplls d).switchTick ≠ some s.time.tickSeq →
    Answers (.dpllLock d) s fun t => EventSet t evLock ∧
      (if (vat s.dplls d).stage < 4 then (vat t.dplls d).loop = (vat s.dplls d).loop ∧ (vat t.dplls d).lockSince = some s.now
       else (vat t.dplls d).loop = .locked ∧ (vat t.dplls d).loopCause = lcLock) ∧
      ∀ k : Nat, k ≠ d → vat t.dplls k = vat s.dplls k) ∧
  (∀ s (d : Fin 4), (s.time.phase ≠ .evaluate ∨ lockDue (vat s.dplls d) = false) → Answers (.dpllLock d) s fun t => t = s) ∧
  (∀ s (d : Fin 4), canDeclare s d = true → s.time.phase = .evaluate → (vat s.dplls d).unlockMet = true →
    ((vat s.dplls d).loop = .locked ∨ (vat s.dplls d).lockSince ≠ none) →
    Answers (.dpllUnlock d) s fun t => EventSet t evUnlock ∧ (vat t.dplls d).loop = .acquire ∧ (vat t.dplls d).lockSince = none ∧
      (vat t.dplls d).unlockTick = some s.time.tickSeq ∧
      (vat t.dplls d).stage = (if (vat s.dplls d).loop = .locked then 7 else (vat s.dplls d).stage) ∧
      ∀ k : Nat, k ≠ d → vat t.dplls k = vat s.dplls k) ∧
  (∀ s (d : Fin 4), (s.time.phase ≠ .evaluate ∨ (vat s.dplls d).unlockMet = false) → Answers (.dpllUnlock d) s fun t => t = s)

/-- The dwell of a stage, ACQ_TIMEOUT and the host watchdog run out (R226, R231, R244). -/
def Obligations.AcquisitionTimersOfADpll : Prop :=
  (∀ s (d : Fin 4) b, dpllRuns s d = true → (vat s.dplls d).loop = .acquire → (vat s.dplls d).stage < 4 → (vat s.dplls d).lockSince = some b →
    b + (fStageDwell (vat s.dplls d).stage).val s.act (dpllBase d) * ms16 ≤ s.now →
    Answers (.fastLockStage d) s fun t => EventSet t evStage ∧
      (vat t.dplls d).stage = (if (vat s.dplls d).stage + 1 < fNStages.val s.act (dpllBase d) then (vat s.dplls d).stage + 1 else 7) ∧
      ∀ k : Nat, k ≠ d → vat t.dplls k = vat s.dplls k) ∧
  (∀ s (d : Fin 4), dpllRuns s d = true → (vat s.dplls d).loop = .acquire → (vat s.dplls d).acqTimedOut = false →
    (vat s.dplls d).acqStart + fAcqTimeout.val s.act (dpllBase d) * sec16 < s.now →
    Answers (.acqTimeout d) s fun t => EventSet t evAcqTimeout ∧ (vat t.dplls d).acqTimedOut = true ∧
      ∀ k : Nat, k ≠ d → vat t.dplls k = vat s.dplls k) ∧
  (∀ s (d : Fin 4) b, s.coreOn = true → (vat s.dplls d).hostWrite = some b → b + fWdog.val s.act (dpllBase d) * ms16 ≤ s.now →
    Answers (.hostWdog d) s fun t => EventSet t evHostWdog ∧ (vat t.dplls d).hostWrite = none ∧ hostUsable t d = false ∧
      ∀ k : Nat, k ≠ d → vat t.dplls k = vat s.dplls k)

/-- External feedback is lost, frozen and found again (R243, R253). -/
def Obligations.ExternalFeedbackState : Prop :=
  (∀ s (d : Fin 4), fbWatched s d = true → fbSilent s d 4 = true → Answers (.fbLost d) s fun t => EventSet t evFbLost ∧ (vat t.dplls d).fb = .lost ∧
      (vat t.dplls d).fbFaultTick = some s.time.tickSeq ∧ (vat t.dplls d).loop = (vat s.dplls d).loop ∧
      ∀ k : Nat, k ≠ d → vat t.dplls k = vat s.dplls k) ∧
  (∀ s (d : Fin 4), fbWatched s d = true → fbStuck s d = true → Answers (.fbFrozen d) s fun t => EventSet t evFbFrozen ∧ (vat t.dplls d).fb = .frozen ∧
      (vat t.dplls d).fbFaultTick = some s.time.tickSeq ∧ (vat t.dplls d).loop = (vat s.dplls d).loop ∧
      ∀ k : Nat, k ≠ d → vat t.dplls k = vat s.dplls k) ∧
  (∀ s (d : Fin 4), fbJustLost s d = true → fbSilent s d 4 = true → Answers (.fbLost d) s fun t => EventSet t evFbLost ∧ (vat t.dplls d).fb = .lost ∧
      (vat t.dplls d).loopCause = lcFeedback ∧ (vat t.dplls d).loop = (vat s.dplls d).loop) ∧
  (∀ s (d : Fin 4), fbSilent s d 4 = false → Answers (.fbLost d) s fun t => t = s) ∧
  (∀ s (d : Fin 4), fbStuck s d = false → Answers (.fbFrozen d) s fun t => t = s) ∧
  (∀ s (d : Fin 4), s.coreOn = true → (vat s.dplls d).fb ≠ .ok → 64 ≤ (vat s.dplls d).fbGood → (vat s.dplls d).fbVaried = true →
    Answers (.fbOk d) s fun t => EventSet t evFbOk ∧ (vat t.dplls d).fb = .ok ∧
      (vat t.dplls d).fbFaultTick = (vat s.dplls d).fbFaultTick ∧ ∀ k : Nat, k ≠ d → vat t.dplls k = vat s.dplls k)

/-- HOST_FREQ, STEP and HALT write the words of their DPLL, or are discarded outside their range (R16, R222, R244, R246, R254). -/
def Obligations.HostWordsOfADpll : Prop :=
  (∀ s m (d : Fin 4) v, s.servedCore = true → ((signedN 48 v.toNat).natAbs : Int) ≤ hostFreqMax →
    Answers (.hostFreqWrite m d v) s fun t => (vat t.dplls d).hostFreq = signedN 48 v.toNat ∧ (vat t.dplls d).hostWrite = some s.now ∧
      ∀ k : Nat, k ≠ d → vat t.dplls k = vat s.dplls k) ∧
  (∀ s m (d : Fin 4) v, s.servedCore = true → hostFreqMax < ((signedN 48 v.toNat).natAbs : Int) →
    Answers (.hostFreqWrite m d v) s fun t => t.dplls = s.dplls ∧ EventSet t evBadValue) ∧
  (∀ s m (d : Fin 4) v, s.servedCore = true → pmWithin s d (signedN 48 v.toNat) →
    Answers (.step m d v) s fun t => (vat t.dplls d).pmT = (vat s.dplls d).pmT + signedN 48 v.toNat ∧
      ∀ k : Nat, k ≠ d → vat t.dplls k = vat s.dplls k) ∧
  (∀ s m (d : Fin 4) v, s.servedCore = true → ¬ pmWithin s d (signedN 48 v.toNat) →
    Answers (.step m d v) s fun t => t.dplls = s.dplls ∧ EventSet t evBadValue) ∧
  (∀ s m (d : Fin 4), s.servedCore = true → Answers (.halt m d) s fun t =>
    let x := vat s.dplls d
    (if x.pmArriveAt = some s.time.bench ∧ x.pmState = .idle then (vat t.dplls d).pmAbort = true ∧ (vat t.dplls d).pmT = x.pmT
     else (vat t.dplls d).pmT * pUnit + (vat t.dplls d).pmTfrac =
       x.pmP + x.pmV.sign * quotFree 34 (x.pmV * x.pmV) (2 * (moverA s d).toNat)) ∧
    ∀ k : Nat, k ≠ d → vat t.dplls k = vat s.dplls k)

/-- TICKNUM_ADOPT moves bench time by whole ticks, and PHASE_HIT records a hit (R190, R237, R241, R260, R317). -/
def Obligations.TickNumberAdoptionAndPhaseHits : Prop :=
  (∀ s, s.coreOn = true → (vat s.dplls 0).adoptDue = true → fTicknum.val s.act (dpllBase 0) = 2 → secondsDue s = false →
    Answers .ticknumAdopt s fun t =>
      t.time.bench = wrapBench s.time.bench (signedN 24 (vat s.dplls 0).tickDiff * (tickLenB s.time.period : Int)) ∧
      (vat t.dplls 0).adoptDue = false ∧ (vat t.aplls 0).aligned = false ∧ EventSet t evJump) ∧
  (∀ s, s.coreOn = true → (vat s.dplls 0).adoptDue = true → fTicknum.val s.act (dpllBase 0) = 2 → secondsDue s = true →
    Answers .ticknumAdopt s fun t => t.time = s.time ∧ (vat t.dplls 0).adoptDue = false) ∧
  (∀ s (n : Fin 12) span gap k, hitFound s n span gap = false → Answers (.phaseHit n span gap k) s fun t => t = s) ∧
  (∀ s (n : Fin 12) span gap k, hitFound s n span gap = true → Answers (.phaseHit n span gap k) s fun t =>
    (vat t.srcs n).hitClean = 0 ∧ (vat t.srcs n).hitAlarm = ((vat s.srcs n).hitAlarm || decide (fHitAction.val s.act (srcBase n) = 0)) ∧
    EventSet t evPhaseHit ∧ ∀ k : Nat, k ≠ n → vat t.srcs k = vat s.srcs k)

/-- Temperature measurements and learning minutes (R270, R274, R275, R278, R280, R281, R288). -/
def Obligations.TemperatureAndLearning : Prop :=
  (∀ s ts die settled, s.coreOn = true → Answers (.tsenseMeasure ts die settled) s fun t =>
    t.model.samples = (tsReading s.act ts, die) :: s.model.samples ∧
    (fTsEn.on s.act modelBase = true →
      (settled = false ∨ tsReading s.act ts < -6000 ∨ 16000 < tsReading s.act ts) → t.model.tsState = .fault)) ∧
  (∀ s, s.coreOn = true → s.model.samples ≠ [] → Answers .tsenseJudge s fun t =>
    t.model.tempTs = meanReading (s.model.samples.map (·.1)) ∧ t.model.tempDie = meanDie (s.model.samples.map (·.2)) ∧
    t.model.samples = [] ∧ (fTsEn.on s.act modelBase = false → t.model.tsState = .disabled)) ∧
  (∀ s, spareCycles s = true → 30 ≤ s.model.minDue.length → Answers .learningMinute s fun t =>
    t.model.minDue = [] ∧ t.model.learnedSince = true ∧ t.model.die.minutes = min (2 ^ 32 - 1) (s.model.die.minutes + 1) ∧
    t.model.die.temp1 = (decide (200 ≤ t.model.die.span) && decide (1440 ≤ t.model.die.minutes) &&
      decide (t.model.die.residual ≤ fResMax.val s.act modelBase)) ∧
    t.model.die.temp2 = (t.model.die.temp1 && decide (800 ≤ t.model.die.span)) ∧ t.model.ts.ageV = t.model.die.ageV ∧
    (t.model.flags ≠ s.model.flags → EventSet t evModelValid)) ∧
  (∀ s, s.model.minDue.length < 30 ∨ spareCycles s = false → Answers .learningMinute s fun t => t = s)

/-- A band search starts, succeeds and fails (R309, R310, R311, R328). -/
def Obligations.BandSearchesOfAnApll : Prop :=
  (∀ s m (n : Fin 2), s.servedCore = true → searchable s n = true → s.pwr.supplyLow = false → (vat s.aplls n).st ≠ .search → (vat s.aplls n).st ≠ .locking →
    Answers (.research m n) s fun t => Echoed t m (apllBase n + 0xE) 1 resAccepted ∧ (vat t.aplls n).st = .search ∧
      (vat t.aplls n).lock = false ∧ (vat t.aplls n).aligned = false ∧ ∀ k : Nat, k ≠ n → vat t.aplls k = vat s.aplls k) ∧
  (∀ s (n : Fin 2) (code : Fin 128) (vt : Fin 64), searching s n = true → Answers (.bandDone n code vt) s fun t => EventSet t evApllLock ∧
      (vat t.aplls n).band = code ∧ (vat t.aplls n).vtune = vt ∧ (vat t.aplls n).lock = true ∧
      (vat t.aplls n).st = (if unalignable s.act n then .waitEpoch else .aligning) ∧ ∀ k : Nat, k ≠ n → vat t.aplls k = vat s.aplls k) ∧
  (∀ s (n : Fin 2), searching s n = true → (vat s.aplls n).secondTry = false → Answers (.bandFail n) s fun t =>
      (vat t.aplls n).st = .search ∧ (vat t.aplls n).secondTry = true ∧ ∀ k : Nat, k ≠ n → vat t.aplls k = vat s.aplls k) ∧
  (∀ s (n : Fin 2), searching s n = true → (vat s.aplls n).secondTry = true → Answers (.bandFail n) s fun t =>
      (vat t.aplls n).st = .fault ∧ EventSet t evBandFail ∧ ∀ k : Nat, k ≠ n → vat t.aplls k = vat s.aplls k)

/-- Alignment, resynchronisation and the loss of lock of APLLs and SPLL (R311, R312, R313, R326, R333). -/
def Obligations.AlignmentAndLossOfLock : Prop :=
  (∀ s (n : Fin 2) off, (vat s.aplls n).st = .aligning → Answers (.alignDone n off) s fun t => EventSet t evAlignDone ∧
      (vat t.aplls n).aligned = true ∧ (vat t.aplls n).st = .waitEpoch ∧ (vat t.aplls n).alignOff = clampI 48 off ∧
      ∀ k : Nat, k ≠ n → vat t.aplls k = vat s.aplls k) ∧
  (∀ s m (n : Fin 2), s.servedCore = true → (vat s.aplls n).st = .run → Answers (.resync m n) s fun t =>
      Echoed t m (apllBase n + 0xE) 2 resAccepted ∧ (vat t.aplls n).aligned = false ∧
      (vat t.aplls n).st = (if unalignable s.act n then .waitEpoch else .aligning) ∧ ∀ k : Nat, k ≠ n → vat t.aplls k = vat s.aplls k) ∧
  (∀ s (n : Fin 2), ((vat s.aplls n).st = .run ∨ (vat s.aplls n).st = .aligning ∨ (vat s.aplls n).st = .waitEpoch) →
    Answers (.apllUnlock n) s fun t => EventSet t evApllUnlock ∧ (vat t.aplls n).st = .search ∧ (vat t.aplls n).lock = false ∧
      (vat t.aplls n).aligned = false ∧ (vat t.aplls n).delayDue = true ∧ ∀ k : Nat, k ≠ n → vat t.aplls k = vat s.aplls k) ∧
  (∀ s (n : Fin 2), (vat s.aplls n).delayDue = true → searchable s n = true → s.pwr.supplyLow = false →
    Answers (.apllResearchDelay n) s fun t => (vat t.aplls n).st = .search ∧ (vat t.aplls n).delayDue = false ∧
      (vat t.aplls n).lock = false ∧ ∀ k : Nat, k ≠ n → vat t.aplls k = vat s.aplls k) ∧
  (∀ s, s.spll.lock = true → Answers .spllUnlock s fun t => t.spll.lock = false ∧ EventSet t evSpllUnlock ∧
      ∀ n, (vat t.aplls n).st ≠ .run)

/-- Start epochs and divider epochs complete (R315, R318, R348, R349, R350, R351). -/
def Obligations.EpochsStartAndChangeOutputs : Prop :=
  (∀ s u, s.coreOn = false → Answers (.startEpoch u) s fun t => t = s) ∧
  (∀ s (n : Fin 2), s.coreOn = true → (vat s.aplls n).st = .waitEpoch → s.apllsRun = true → s.synOn = true → s.pwr.bor18 = false →
    tsInTick s n (apllStartAt s n) = true →
    Answers (.startEpoch (.apll n)) s fun t => (vat t.aplls n).st = .run ∧ EventSet t evEpoch ∧
      (∀ k : Nat, k ≠ n → vat t.aplls k = vat s.aplls k) ∧
      (inService s.act (apllBase n) = true → s.underTest 3 n = false → ∀ k : Nat, (cfgSet s.act k).sel = n → outDrives s k = true →
        s.underTest 4 k = false → k < 24 → (vat t.outs k).run = .running)) ∧
  (∀ s (n : Fin 2) (k a : Nat), s.coreOn = true → (vat s.aplls n).st = .run → s.apllsRun = true → s.synOn = true → s.pwr.bor18 = false →
    k < 24 → (cfgSet s.act k).sel = n → mayStart s k = true → (vat s.outs k).startAt = some a →
    (∀ j : Nat, j < 24 → (cfgSet s.act j).sel = n → mayStart s j = true → a ≤ ((vat s.outs j).startAt).getD 0) → tsInTick s n a = true →
    Answers (.startEpoch (.apll n)) s fun t => (vat t.outs k).run = .running ∧ (vat t.outs k).cur = cfgSet s.act k ∧ EventSet t evEpoch) ∧
  (∀ s (n : Fin 2), ((vat s.aplls n).st ≠ .waitEpoch ∧ (vat s.aplls n).st ≠ .run) ∨ s.apllsRun = false ∨ s.synOn = false ∨ s.pwr.bor18 = true →
    Answers (.startEpoch (.apll n)) s fun t => t = s) ∧
  (∀ s (d : Fin 2) (k : Nat), s.coreOn = true → k < 8 → fFodDpll.val s.act (fodBase k) = d → fodCanRun s k = true → (vat s.fods k).run = false →
    tsInTick s (2 + d.val) (fodsStartAt s d) = true → fodStartAt s k ≤ fodsStartAt s d →
    Answers (.startEpoch (.fods d)) s fun t => (vat t.fods k).run = true ∧ (vat t.fods k).curFreq = cfgFod s.act k ∧
      (vat t.fods k).curDpll = d ∧ EventSet t evEpoch) ∧
  (∀ s (d : Fin 2), tsInTick s (2 + d.val) (fodsStartAt s d) = false → Answers (.startEpoch (.fods d)) s fun t => t = s) ∧
  (∀ s (n : Fin 24), s.coreOn = true → mayStart s n = true →
    tsInTick s (outTs s (cfgSet s.act n)) (((vat s.outs n).startAt).getD 0) = true → Answers (.startEpoch (.output n)) s fun t =>
      (vat t.outs n).run = .running ∧ (vat t.outs n).cur = cfgSet s.act n ∧ (vat t.outs n).squelched = false ∧
      ∀ k : Nat, k ≠ n → vat t.outs k = vat s.outs k) ∧
  (∀ s (n : Fin 24), mayStart s n = false → Answers (.startEpoch (.output n)) s fun t => t = s) ∧
  (∀ s u, s.coreOn = false → Answers (.dividerEpoch u) s fun t => t = s) ∧
  (∀ s (n : Fin 2) (a f : Nat), s.coreOn = true → apllEpochDue s n = true → apllEpoch s n = some (a, f) →
    Answers (.dividerEpoch (.apll n)) s fun t => (vat t.aplls n).epochTime = a ∧ (vat t.aplls n).epochTick = f ∧ EventSet t evEpoch ∧
      (∀ k : Nat, k ≠ n → vat t.aplls k = vat s.aplls k) ∧
      ∀ k : Nat, (vat s.outs k).changePending = true → (vat s.outs k).cur.sel = n → (vat s.outs k).epochAt = some a →
        (vat s.outs k).epochFor = f → (vat t.outs k).epochAt = none ∧
          ((vat s.outs k).ownReload = false → (vat t.outs k).changePending = false)) ∧
  (∀ s (n : Fin 2), apllEpochDue s n = false → Answers (.dividerEpoch (.apll n)) s fun t => t = s) ∧
  (∀ s (d : Fin 2) (a : Nat), s.coreOn = true → fodsEpochDue s d = true → fodsEpoch s d = some a → Answers (.dividerEpoch (.fods d)) s fun t =>
      EventSet t evEpoch ∧ ∀ k, k < 8 → fodOn s d k = true → (vat s.fods k).epochAt = some a →
        (vat t.fods k).curFreq = cfgFod s.act k ∧ (vat t.fods k).epochAt = none) ∧
  (∀ s (d : Fin 2), fodsEpochDue s d = false → Answers (.dividerEpoch (.fods d)) s fun t => t = s) ∧
  (∀ s (n : Fin 24), s.coreOn = true → (vat s.outs n).changePending = true → (vat s.outs n).epochAt = none →
    (3 ≤ (vat s.outs n).cur.sel ∨ (vat s.outs n).ownReload = true) →
    Answers (.dividerEpoch (.output n)) s fun t => (vat t.outs n).changePending = false ∧
      ∀ k : Nat, k ≠ n → vat t.outs k = vat s.outs k) ∧
  (∀ s (n : Fin 24), (vat s.outs n).changePending = false ∨ (vat s.outs n).epochAt.isSome = true ∨
      ((vat s.outs n).cur.sel < 3 ∧ (vat s.outs n).ownReload = false) →
    Answers (.dividerEpoch (.output n)) s fun t => t = s)

/-- XO_CFG can be written without a transaction while CORE is not ON (R298, R299, R302, R541). -/
def Obligations.XoCfgWrittenBeforeCore : Prop :=
  (∀ s m v, BlockInv s → s.writable = true → s.coreOn = false →
    Answers (.xoCfgWrite m 0 v) s fun t =>
      let c : View := fun a => if a = spllBase then v.toNat &&& cfgMask spllBase else s.act a
      if xoCfgOk c then (∀ a, t.act a = c a) ∧ t.spll.cfgLoaded = true else t.cfg = s.cfg) ∧
  (∀ s m v, BlockInv s → s.writable = true → s.coreOn = false →
    Answers (.xoCfgWrite m 1 v) s fun t => sget 0 (t.host m).wrHold (spllBase + 1) = v ∧ t.cfg = s.cfg) ∧
  (∀ s m v, BlockInv s → s.writable = true → s.coreOn = false →
    Answers (.xoCfgWrite m 2 v) s fun t =>
      let c : View := fun a => if a = spllBase + 2 then v.toNat &&& cfgMask (spllBase + 2)
        else if a = spllBase + 1 then (sget 0 (s.host m).wrHold (spllBase + 1)).toNat &&& cfgMask (spllBase + 1) else s.act a
      if xoCfgOk c then (∀ a, t.act a = c a) ∧ t.spll.cfgLoaded = true else t.cfg = s.cfg)

/-- A received Lace cell for this hub is counted and waits for its processing (R76, R388, R391, R393, R400, R401, R419). -/
def Obligations.ReceivedCellWaitsForEvaluate : Prop :=
  (∀ s p c sub i, i ∈ cellRows p c sub → cellAccepted s p c = true → (vat s.ports p).rxq.length < 16 → Answers i s fun t =>
    let at_ := if c.typ = ctTime then arriveTime s sub else s.now
    (vat t.ports p).rxq = (vat s.ports p).rxq ++ [{ cell := c, arrival := at_, clk := s.safe.p.clk }] ∧ (vat t.ports p).failRun = 0 ∧
    vat (vat t.ports p).cnts cnRx = stick 32 (vat (vat s.ports p).cnts cnRx) ∧
    (c.typ = ctTime → (vat t.ports p).lastTime = some (c.seq, at_))) ∧
  (∀ s p c sub i, i ∈ cellRows p c sub → cellAccepted s p c = true → 16 ≤ (vat s.ports p).rxq.length → Answers i s fun t =>
    (vat t.ports p).rxq = (vat s.ports p).rxq ∧ vat (vat t.ports p).cnts cnOvf = stick 32 (vat (vat s.ports p).cnts cnOvf))

/-- A SAFE cell is handed to channel P where the port carries safety, and a cell of the other network is a wiring fault (R71, R395, R401,
R412, R413). -/
def Obligations.SafeCellGoesToChannelP : Prop :=
  (∀ s (p : Fin 4) c, cellAccepted s p c = true → c.typ = ctSafe → carries s p = true → Answers (.safeCell p c) s fun t =>
    t.safe.inbox = s.safe.inbox ++ [(portNet p, c)] ∧ (vat t.ports p).rxq = (vat s.ports p).rxq) ∧
  (∀ s (p : Fin 4) c, cellAccepted s p c = true → c.typ = ctSafe → carries s p = false → Answers (.safeCell p c) s fun t =>
    t.safe.inbox = s.safe.inbox ∧ vat (vat t.ports p).cnts cnDiscard = stick 32 (vat (vat s.ports p).cnts cnDiscard) ∧
    ∀ k, (vat t.ports k).safeq = (vat s.ports k).safeq) ∧
  (∀ s p c sub i, (i = .safeCell p c ∨ i ∈ cellRows p c sub) → s.coreOn = true → (vat s.ports p).cellLock = true → portServes s p = true →
    headerOk c = true → c.net ≠ portNet p → Answers i s fun t =>
      (vat t.ports p).rxq = (vat s.ports p).rxq ∧ t.safe.inbox = s.safe.inbox ∧ (vat t.ports p).wiringUntil = some (s.time.tickSeq + 64))

/-- A cell slot, cell lock gained and lost, and failing cells (R385, R392, R402, R407, R411, R419, R423). -/
def Obligations.PortSlotAndLock : Prop :=
  (∀ s, s.servedCore = true → Answers .cellSlot s fun t => ∀ p, p < 4 →
    (portServes s p = false → (vat t.ports p).slot = idleCell ∧ (vat t.ports p).txq = (vat s.ports p).txq) ∧
    (∀ e q, portServes s p = true → carries s p = true → (vat s.ports p).safeq = e :: q → e.cell.typ = ctSafe →
      (vat t.ports p).slot = e.cell ∧ (vat t.ports p).safeq = q) ∧
    (∀ e, portServes s p = true → (carries s p = false ∨ (vat s.ports p).safeq = []) → txFirst s (vat s.ports p).txq = some e →
      (vat t.ports p).slot = (if e.cell.typ = ctTime then { e.cell with payload := timePayload s p } else e.cell) ∧
      (vat t.ports p).txq = (vat s.ports p).txq.erase e) ∧
    (portServes s p = true → (vat s.ports p).safeq = [] → (vat s.ports p).txq = [] →
      (vat t.ports p).slot = { idleCell with txPort := portTx p, net := portNet p, src := laceAddr s.act })) ∧
  (∀ s, s.servedCore = false → Answers .cellSlot s fun t => ∀ p, p < 4 → vat t.ports p = { vat s.ports p with slot := idleCell }) ∧
  (∀ s (p : Fin 4), s.coreOn = true → (vat s.ports p).cellLock = false → Answers (.cellLock p) s fun t =>
    (vat t.ports p).cellLock = true ∧ (vat t.ports p).cdrLock = true ∧ (vat t.ports p).measures = 0 ∧ EventSet t evCellLock ∧
      ∀ k : Nat, k ≠ p → vat t.ports k = vat s.ports k) ∧
  (∀ s (p : Fin 4), s.coreOn = false ∨ (vat s.ports p).cellLock = true → Answers (.cellLock p) s fun t => t = s) ∧
  (∀ s (p : Fin 4) cdr, s.coreOn = true → (vat s.ports p).cellLock = true → Answers (.cellLockLost p cdr) s fun t =>
    (vat t.ports p).cellLock = false ∧ (vat t.ports p).cdrLock = (!cdr && (vat s.ports p).cdrLock) ∧
      (vat t.ports p).rtts = [] ∧ (vat t.ports p).measures = 0 ∧ (vat t.ports p).window = some s.now ∧
      vat (vat t.ports p).cnts cnLock = stick 32 (vat (vat s.ports p).cnts cnLock) ∧
      EventSet t evCellLockLost ∧ ∀ k : Nat, k ≠ p → vat t.ports k = vat s.ports k) ∧
  (∀ s (p : Fin 4), s.coreOn = true → (vat s.ports p).cellLock = false → Answers (.cellLockLost p true) s fun t =>
    vat t.ports p = { vat s.ports p with cdrLock := false } ∧ ∀ k : Nat, k ≠ p → vat t.ports k = vat s.ports k) ∧
  (∀ s (p : Fin 4) cdr, s.coreOn = false ∨ ((vat s.ports p).cellLock = false ∧ cdr = false) → Answers (.cellLockLost p cdr) s fun t => t = s) ∧
  (∀ s (p : Fin 4) (codeErrs : Fin 33), s.coreOn = true → (vat s.ports p).cellLock = true → Answers (.cellCrcError p codeErrs) s fun t =>
    (vat (vat t.ports p).cnts cnCrc = if codeErrs.val = 0 then stick 32 (vat (vat s.ports p).cnts cnCrc) else vat (vat s.ports p).cnts cnCrc) ∧
    (vat (vat s.ports p).cnts cnCode < 2 ^ 32 →
      vat (vat t.ports p).cnts cnCode = min (2 ^ 32 - 1) (vat (vat s.ports p).cnts cnCode + codeErrs.val)) ∧
    (vat t.ports p).cellLock = decide ((vat s.ports p).failRun < 3) ∧ ∀ k : Nat, k ≠ p → vat t.ports k = vat s.ports k) ∧
  (∀ s (p : Fin 4) (codeErrs : Fin 33), s.coreOn = false ∨ (vat s.ports p).cellLock = false → Answers (.cellCrcError p codeErrs) s fun t => t = s)

/-- The timers of a port run out, its counters clear, and adopted seconds take effect (R43, R401, R410, R411, R413, R419). -/
def Obligations.PortTimersAndCounters : Prop :=
  (∀ s (p : Fin 4) b, s.coreOn = true → (vat s.ports p).window = some b → b + sec16 ≤ s.now → Answers (.portWindowExpire p) s fun t =>
    (vat t.ports p).window = none ∧ vat t.opers.ports p = portOper (windowExpire s p) p) ∧
  (∀ s (p : Fin 4) b, s.coreOn = true → (vat s.ports p).window = some b → s.now < b + sec16 → Answers (.portWindowExpire p) s fun t =>
    (vat t.ports p).window = some b ∧ vat t.opers.ports p = portOper s p) ∧
  (∀ s (p : Fin 4) b, s.coreOn = true → (vat s.ports p).reportTick = some b → b + 64 ≤ s.time.tickSeq → Answers (.peerReportTimeout p) s fun t =>
    (vat t.ports p).reported = none ∧ ∀ k : Nat, k ≠ p → vat t.ports k = vat s.ports k) ∧
  (∀ s (p : Fin 4), (∀ b, (vat s.ports p).reportTick = some b → s.time.tickSeq < b + 64) → Answers (.peerReportTimeout p) s fun t =>
    ∀ k : Nat, vat t.ports k = vat s.ports k) ∧
  (∀ s (p : Fin 4) b, s.coreOn = true → (vat s.ports p).wiringUntil = some b → b ≤ s.time.tickSeq →
    Answers (.portCauseExpire p) s fun t => (vat t.ports p).wiringUntil = none ∧ ∀ k : Nat, k ≠ p → vat t.ports k = vat s.ports k) ∧
  (∀ s (p : Fin 4) b, s.coreOn = true → (vat s.ports p).conflictUntil = some b → b ≤ s.time.tickSeq →
    Answers (.portCauseExpire p) s fun t => (vat t.ports p).conflictUntil = none ∧ ∀ k : Nat, k ≠ p → vat t.ports k = vat s.ports k) ∧
  (∀ s (p : Fin 4), (∀ b, (vat s.ports p).wiringUntil = some b ∨ (vat s.ports p).conflictUntil = some b → s.time.tickSeq < b) →
    Answers (.portCauseExpire p) s fun t => ∀ k : Nat, vat t.ports k = vat s.ports k) ∧
  (∀ s b, s.coreOn = true → s.lace.mismatchA = some b → Answers (.tickMismatchExpire 0) s fun t =>
    t.lace.mismatchA = (if b ≤ s.time.tickSeq then none else some b) ∧ t.lace.mismatchB = s.lace.mismatchB) ∧
  (∀ s b, s.coreOn = true → s.lace.mismatchB = some b → Answers (.tickMismatchExpire 1) s fun t =>
    t.lace.mismatchB = (if b ≤ s.time.tickSeq then none else some b) ∧ t.lace.mismatchA = s.lace.mismatchA) ∧
  (∀ s n b, s.coreOn = true → s.lace.adoptSec = some (n, b) → b < s.benchSec → Answers .secondsAdopt s fun t =>
    t.time.bench = wrapBench s.time.bench (-(n * secB)) ∧ t.lace.secValid = true ∧ t.lace.adoptSec = none ∧ EventSet t evJump) ∧
  (∀ s, s.coreOn = false ∨ (∀ n b, s.lace.adoptSec = some (n, b) → s.benchSec ≤ b) → Answers .secondsAdopt s fun t => t = s) ∧
  (∀ s m (p : Fin 4), s.servedCore = true → Answers (.cntClr m p) s fun t => (∀ i, vat (vat t.ports p).cnts i = 0) ∧
    Echoed t m (laceBase p + 0x78) 1 resAccepted ∧ ∀ k : Nat, k ≠ p → vat t.ports k = vat s.ports k) ∧
  (∀ s m p x, s.coreOn = false → ∀ i ∈ [.portWindowExpire p, .peerReportTimeout p, .portCauseExpire p, .cntClr m p, .tickMismatchExpire x],
    Answers i s fun t => t.ports = s.ports ∧ t.lace = s.lace)

/-- BEGIN, DISARM, KEEPALIVE and ROLLBACK of the owner (R545, R546, R555, R556). -/
def Obligations.TransactionOpensAndCloses : Prop :=
  (∀ s m, s.servedCore = true → s.pwr.shut = .none → s.txn.st = .idle → Answers (.begin m) s fun t =>
    t.txn.st = .opened ∧ t.txn.owner = some m ∧ t.txn.staged = [] ∧ t.txn.touchAt = some s.safe.p.clk ∧ Echoed t m 0x18 1 resAccepted) ∧
  (∀ s m, s.writable = true → s.coreOn = true → s.txn.st ≠ .idle → Answers (.begin m) s fun t => t.txn = s.txn ∧ Echoed t m 0x18 1 ccBusy) ∧
  (∀ s m, s.writable = true → s.txn.owner = some m → s.txn.st = .armed → Answers (.disarm m) s fun t =>
    t.txn = { s.txn with st := .opened, touchAt := some s.safe.p.clk, spent := s.txn.spent.map fun _ => 0 } ∧ Echoed t m 0x18 7 resAccepted) ∧
  (∀ s m, s.writable = true → s.txn.owner = some m → s.txn.st ≠ .idle → Answers (.keepalive m) s fun t =>
    t.txn = { s.txn with touchAt := some s.safe.p.clk, spent := s.txn.spent.map fun _ => 0 } ∧ Echoed t m 0x18 9 resAccepted) ∧
  (∀ s m, s.writable = true → s.txn.owner = some m → s.txn.st ≠ .idle → (s.txn.st = .agreed → s.lace.role ≠ .originator) →
    Answers (.rollback m) s fun t => t.txn.st = .idle ∧ t.txn.owner = none ∧ t.txn.staged = [] ∧ t.txn.result = trRolledBack ∧
      t.cfg = s.cfg ∧ Echoed t m 0x18 8 resAccepted)

/-- The four commit commands and ARM_DC of the owner (R546, R547, R553). -/
def Obligations.CommitCommandsSetTheBoundary : Prop :=
  (∀ s m, s.writable = true → s.coreOn = true → s.txn.owner = some m → s.txn.st = .opened → Answers (.commitNext m) s fun t =>
    t.txn.st = .pending ∧ t.txn.kind = .next ∧ t.txn.commitTick = s.curTick + (if evaluateBegun s then 2 else 1) ∧
    Echoed t m 0x18 2 resAccepted) ∧
  (∀ s m, s.writable = true → s.coreOn = true → s.txn.owner = some m → s.txn.st = .opened →
    extendTick s.txn.at_ s.curTick ≤ s.curTick + 2 ^ 31 → (extendTick s.txn.at_ s.curTick = s.curTick + 1 → evaluateBegun s = false) →
    Answers (.commitAtTick m) s fun t => t.txn.st = .pending ∧ t.txn.kind = .atTick ∧
      t.txn.commitTick % 2 ^ 32 = s.txn.at_ % 2 ^ 32 ∧ s.curTick < t.txn.commitTick ∧ Echoed t m 0x18 3 resAccepted) ∧
  (∀ s m, s.writable = true → s.coreOn = true → s.txn.owner = some m → s.txn.st = .opened → s.curTick < atTimeTick s →
    atTimeTick s ≤ s.curTick + 2 ^ 31 → (atTimeTick s = s.curTick + 1 → evaluateBegun s = false) →
    Answers (.commitAtTime m) s fun t => t.txn.st = .pending ∧ t.txn.kind = .atTime ∧ t.txn.commitTick = atTimeTick s ∧
      Echoed t m 0x18 4 resAccepted) ∧
  (∀ s m, s.writable = true → s.coreOn = true → s.txn.owner = some m → s.txn.st = .opened → Answers (.commitDist m) s fun t =>
    t.txn.st = .pending ∧ t.txn.kind = .dist ∧ t.txn.commitTick % 2 ^ 32 = s.txn.at_ % 2 ^ 32 ∧ s.curTick < t.txn.commitTick ∧
    Echoed t m 0x18 5 resAccepted) ∧
  (∀ s m, s.writable = true → s.txn.owner = some m → s.txn.st = .opened → Answers (.armDc m) s fun t =>
    t.txn.st = .armed ∧ t.txn.armId = s.txn.dcId ∧ t.txn.staged = s.txn.staged ∧ Echoed t m 0x18 6 resAccepted) ∧
  (∀ s m, s.writable = true → s.coreOn = true → s.txn.owner ≠ some m → ∀ p ∈ [(Instr.commitNext m, 2), (.commitAtTick m, 3), (.commitAtTime m, 4), (.commitDist m, 5)],
    Answers p.1 s fun t => t.txn = s.txn ∧ Echoed t m 0x18 p.2 ccNotOwner)

/-- The timeout of a transaction and the deadlines of a distributed commit (R416, R417, R554, R555, R565). -/
def Obligations.TransactionDeadlines : Prop :=
  (∀ s, s.coreOn = true → timeoutRuns s = true → timeoutOver s = true → Answers .txnTimeout s fun t =>
    t.txn.st = .idle ∧ t.txn.owner = none ∧ t.txn.result = trTimedOut ∧ t.cfg = s.cfg ∧ EventSet t evTxnTimeout) ∧
  (∀ s, s.coreOn = false ∨ timeoutRuns s = false ∨ timeoutOver s = false → Answers .txnTimeout s fun t => t = s) ∧
  (∀ s, s.coreOn = true → s.time.phase = .evaluate → s.txn.st = .proposed → s.lace.dcTarget ≤ s.curTick + dcGuard s.act →
    Answers .dcDeadline s fun t => t.txn.st = .opened ∧ t.txn.result = trAborted ∧ t.txn.staged = s.txn.staged ∧ t.lace.decision = dkAbort) ∧
  (∀ s, s.coreOn = true → s.time.phase = .evaluate → s.lace.role = .participant → s.txn.st = .prepared → s.lace.dcTarget ≤ s.curTick + 1 →
    Answers .dcParticipantResolve s fun t => t.txn.st = .opened ∧ t.txn.result = trNoDecision ∧ t.txn.staged = s.txn.staged ∧
      EventSet t evDcNoDecision) ∧
  (∀ s b, s.coreOn = true → s.lace.splitAt = some b → b ≤ s.curTick → Answers .dcSplitCheck s fun t => t.lace.splitAt = none ∧
    (∀ a, a < 32 → bitOf s.lace.dcMask a = true → (vat s.lace.acks a).kind ≠ akApplied → stateApplied s a = false → EventSet t evDcSplit))

/-- What a filtered change, the end of T_DISC and a test pulse do to a safety input (R444, R445, R446, R447, R448). -/
def Obligations.SafetyInputsAreJudged : Prop :=
  (∀ s c (line : Fin 16) level held, s.chanRuns c = true → filterPasses s (lineInput line) (lineIsB line) level held = true → demands s.image (line.val / 2) = true → (vat (s.chan c).ins (line.val / 2)).st ≠ .fault →
    lineLevel (vat (s.chan c).ins (line.val / 2)) line ≠ level →
    Answers (.safetyInputChange line level (whoOf c) held) s fun t =>
      let i := line.val / 2
      let x := vat (s.chan c).ins i
      let y := vat (t.chan c).ins i
      let late : Bool := match x.waitSince with
        | some b => !withinDisc s.image i b (changeAt s c i (lineIsB line) level held)
        | none => false
      lineLevel y line = level ∧ lineLevel y (line + 1 - 2 * (line % 2)) = lineLevel x (line + 1 - 2 * (line % 2)) ∧
      y.st = (if actA s.image i y != actB s.image i y then .opened else if late then .fault
        else if actA s.image i y then .closed else .opened) ∧
      t.chan (otherChan c) = s.chan (otherChan c)) ∧
  (∀ s c (line : Fin 16) level held, filterPasses s (lineInput line) (lineIsB line) level held = false →
    Answers (.safetyInputChange line level (whoOf c) held) s fun t => t = s) ∧
  (∀ s (line : Fin 16) level held, ∃ u, exec (.safetyInputChange line level .h held) s = .next u ∧
    exec (.safetyInputChange line level .both held) s = exec (.safetyInputChange line level .p held) u) ∧
  (∀ s (i : Fin 8) c b, s.chanRuns c = true → demands s.image i = true → (vat (s.chan c).ins i).waitSince = some b →
    b + pTDisc s.image i * cMs < chanNow s c → Answers (.discrepancy i c) s fun t =>
      (vat (t.chan c).ins i).st = .fault ∧ (vat (t.chan c).ins i).waitSince = none ∧
      ((vat (s.chan (otherChan c)).ins i).st ≠ .fault → EventSet t (ev 6 5)) ∧ t.chan (otherChan c) = s.chan (otherChan c)) ∧
  (∀ s (i : Fin 8) c b, s.chanRuns c = true → pType s.image i = 3 → (vat (s.chan c).ins i).waitSince = some b →
    b + pTDisc s.image i * cMs < chanNow s c → Answers (.discrepancy i c) s fun t =>
      (vat (t.chan c).ins i).ackSince = none ∧ (vat (t.chan c).ins i).st = (vat (s.chan c).ins i).st ∧ EventSet t (ev 6 5)) ∧
  (∀ s line p h, pulseDue s line = false → Answers (.testPulse line p h) s fun t => t = s) ∧
  (∀ s line p h, pulseDue s line = true → Answers (.testPulse line p h) s fun t => ∀ i, i < 8 → pTpEn s.image i = true → pType s.image i ≠ 0 →
    let x := vat s.safe.h.ins i
    let y := vat t.safe.h.ins i
    let f := pulseFails h i
    (line = .tpa → y.tpFailA = f ∧ y.tpFaultA = (f && (x.tpFailA || x.tpFaultA))) ∧
    (line = .tpb → y.tpFailB = f ∧ y.tpFaultB = (f && (x.tpFailB || x.tpFaultB))) ∧ y.st = x.st)

/-- Encoder and clock faults send the groups concerned to LOCKOUT (R31, R438, R479, R481, R510). -/
def Obligations.EncodersAndClocksAreMonitored : Prop :=
  (∀ s (e : Fin 4) c z, s.chanRuns c = true → axisUsed s.image (e.val / 2) = true →
    (∀ raw, z = some raw → pZEn s.image (e.val / 2) (encH e) = true ∧ ∃ r, (vat (s.chan c).encs e).zRef = some r ∧
      2 < turnGap (encCpr s.image e) (if pDir s.image (e.val / 2) (encH e) then -raw else raw) r) →
    Answers (.encFault e c z) s fun t => (vat (t.chan c).encs e).fault = true ∧ EventSet t (ev 6 19) ∧
      ∀ n, n < 4 → s.grpUsed n = true → pAxis s.image n = e.val / 2 + 1 → (vat (t.chan c).grps n).st = .lockout) ∧
  (∀ s (e : Fin 4) c raw, s.chanRuns c = true → pZEn s.image (e.val / 2) (encH e) = true → (vat (s.chan c).encs e).zRef = none →
    (vat (s.chan c).encs e).fault = false → Answers (.encFault e c (some raw)) s fun t =>
      (vat (t.chan c).encs e).zRef = some (if pDir s.image (e.val / 2) (encH e) then -raw else raw) ∧ (vat (t.chan c).encs e).fault = false) ∧
  (∀ s (k : Fin 2) c b, s.chanRuns c = true → axisUsed s.image k = true → axisApart s.image (s.chan c) k = true → vat (s.chan c).axDiff k = some b →
    b + pTDiff s.image k * cMs < (s.chan c).clk → Answers (.encDisagree k c) s fun t =>
      encDisagree t.image (t.chan c) k = true ∧
      ∀ n, n < 4 → s.grpUsed n = true → pAxis s.image n = k.val + 1 → (vat (t.chan c).grps n).st = .lockout) ∧
  (∀ s (k : Fin 2) c, s.chanRuns c = true → axisUsed s.image k = true → axisApart s.image (s.chan c) k = false → Answers (.encDisagree k c) s fun t =>
    vat (t.chan c).axDiff k = none) ∧
  (∀ s, Answers (.clockFault .xo) s fun t => t.safe.clockXo = true ∧ t.pwr.xoValid = false ∧
    ∀ n, n < 4 → s.grpUsed n = true → (vat s.safe.h.grps n).st.active = true → (vat t.safe.h.grps n).st = .lockout) ∧
  (∀ s, Answers (.clockFault .coreClk) s fun t => t.safe.clockCore = judgesCore s ∧ t.safe.clockXo = s.safe.clockXo ∧ t.pwr.xoValid = s.pwr.xoValid) ∧
  (∀ s, Answers (.clockFault .rc) s fun t => t.safe.clockH = s.coreOn ∧ t.safe.clockXo = s.safe.clockXo ∧ t.pwr.xoValid = s.pwr.xoValid)

/-- A channel H evaluation, a missing update and a disagreement (R301, R433, R437, R438, R439, R440, R441, R443, R510). -/
def Obligations.ChannelsCheckEachOther : Prop :=
  (∀ s smp, Answers (.channelHEvaluation smp) s fun t =>
    t.safe.h.clk = s.safe.h.clk + hCycle t ∧ t.safe.h.word.seq = (s.safe.h.word.seq + 1) % 65536 ∧ t.safe.h.srst = filtered 1000 smp.srst s.safe.h.srst ∧
    t.safe.clockXo = !xoJudged s smp.xo ∧ t.pwr.xoValid = xoJudged s smp.xo ∧
    t.safe.calib = (match smp.rcHz with
      | some hz => if xoJudged s smp.xo && rng 31040000 32960000 hz then hz else s.safe.calib
      | none => s.safe.calib) ∧
    ∀ n, n < 4 → vat t.safe.h.word.states n = (vat t.safe.h.grps n).st) ∧
  (∀ s c, s.chanRuns c = true → updatesDue s c = true → (s.chan (otherChan c)).word.seq = (s.chan c).seenSeq → (s.chan c).xchkBad = false →
    (s.chan c).seenAt + (if c = .p then 600 * cUs else updateLimit s) < (s.chan c).clk →
    Answers (.xchkTimeout c) s fun t => (t.chan c).xchkBad = true ∧ EventSet t (ev 6 10) ∧
      ∀ n, n < 4 → s.grpUsed n = true → (vat (s.chan c).grps n).st.active = true → (vat (t.chan c).grps n).st = .lockout) ∧
  (∀ s c groups, s.chanRuns c = true → Answers (.xchkDisagree c groups) s fun t => ∀ n, n < 4 →
    if groups.getLsbD n && s.grpUsed n then
      (vat (t.chan c).grps n).st = .lockout ∧ bitOf (vat (t.chan c).grps n).latched caXchkDisagree = true ∧
        (c = .p → pArch s.image n = 2 → t.safe.kill = true)
    else groups.getLsbD n = false → vat (t.chan c).grps n = vat (s.chan c).grps n)

/-- The ends of the stop functions, readback and EDM faults, and the degraded time (R483, R486, R488, R494, R509, R510). -/
def Obligations.StopsEndInSafeOff : Prop :=
  (∀ s (g : Fin 4) c, s.chanRuns c = true → (vat (s.chan c).grps g).st = .stopping → (vat (s.chan c).grps g).fn = .ss1r →
    (vat (s.chan c).grps g).tStart + pTMax s.image g * cMs ≤ (s.chan c).clk → Answers (.ss1Tmax g c) s fun t =>
      (vat (t.chan c).grps g).st = .safeOff ∧
      (bitOf (vat (t.chan c).grps g).latched caSs1Tmax || bitOf (vat (t.chan c).grps g).latched caSs1Violation) = true) ∧
  (∀ s (g : Fin 4) c b, s.chanRuns c = true → (vat (s.chan c).grps g).st = .stopping → (vat (s.chan c).grps g).fn = .ss1r →
    groupSpeed s c g < pVSs s.image g → (vat (s.chan c).grps g).belowSince = some b → b + pTSs s.image g * cMs ≤ (s.chan c).clk →
    (s.chan c).clk - (vat (s.chan c).grps g).tStart < pTMax s.image g * cMs → Answers (.ss1Done g c) s fun t =>
      (vat (t.chan c).grps g).st = .safeOff ∧ bitOf (vat (t.chan c).grps g).latched caSs1Done = true) ∧
  (∀ s (g : Fin 4) c, s.chanRuns c = true → (vat (s.chan c).grps g).st = .stopping → (vat (s.chan c).grps g).fn = .ss1t →
    (vat (s.chan c).grps g).tStart + pTSs1t s.image g * cMs ≤ (s.chan c).clk → Answers (.ss1tDone g c) s fun t =>
      (vat (t.chan c).grps g).st = .safeOff ∧ bitOf (vat (t.chan c).grps g).latched caSs1tDone = true) ∧
  (∀ s (g : Fin 4) lineB c sight, s.chanRuns c = true → s.grpUsed g = true → stoWrong s c g lineB sight = true → Answers (.stoReadback g lineB c sight) s fun t =>
    (vat (t.chan c).grps g).st = .lockout ∧ bitOf (vat (t.chan c).grps g).latched caReadback = true ∧
      bitOf t.safe.stoFault (2 * g.val + b2n lineB) = true) ∧
  (∀ s (g : Fin 4) lineB c sight, stoWrong s c g lineB sight = false → Answers (.stoReadback g lineB c sight) s fun t => t = s) ∧
  (∀ s (g : Fin 4) c w, s.chanRuns c = true → s.grpUsed g = true → pEdmEn s.image g = true → (vat (s.chan c).grps g).wasToggling = stoToggles s g →
    (vat (s.chan c).grps g).edmWin = some w → (vat (s.chan c).grps g).edm = stoToggles s g →
    w.start + (if w.kindOn then pTEdmOn s.image g else pTEdmOff s.image g) * cMs < (s.chan c).clk →
    Answers (.edmWindowExpire g c) s fun t =>
      (vat (t.chan c).grps g).st = .lockout ∧ bitOf (vat (t.chan c).grps g).latched caEdm = true ∧ (vat (t.chan c).grps g).edmWin = none) ∧
  (∀ s (g : Fin 4), s.grpUsed g = true → (vat s.safe.h.grps g).st = .degraded → pTDeg s.image g * cS ≤ (vat s.safe.h.grps g).degTime →
    causesOf s .h g &&& (maskLock ||| maskDemand ||| maskTelStop) = 0 → followInto s .h g = none → modeClass s ≠ .hold →
    Answers (.degExpired g) s fun t => (vat t.safe.h.grps g).st = .stopping ∧ (vat t.safe.h.grps g).fn = telFn s.image g ∧
      bitOf (vat t.safe.h.grps g).latched caDegExpired = true)

/-- SRST_N pulses, the end of the self-tests, and the copies and paths of a receiver (R153, R437, R457, R495, R496, R504, R506). -/
def Obligations.LockoutClearAndTelegramPaths : Prop :=
  (∀ s lenP lenH highUs, s.served = true → srstReady s lenH highUs = true → s.pRuns = true → s.lockout = true → s.safe.clearing = false → rng 101000 2970000 lenP = true →
    rng 101000 2970000 lenH = true → Answers (.srstPulse lenP lenH highUs) s fun t => t.safe.clearing = true ∧ EventSet t (ev 6 22)) ∧
  (∀ s lenP lenH highUs, s.served = true → srstReady s lenH highUs = true → lenH < 99000 → Answers (.srstPulse lenP lenH highUs) s fun t =>
    t.safe.clearing = s.safe.clearing ∧ EventSet t (ev 6 24)) ∧
  (∀ s lenP lenH highUs, srstReady s lenH highUs = false → Answers (.srstPulse lenP lenH highUs) s fun t =>
    t.safe.clearing = s.safe.clearing ∧ t.evt = s.evt) ∧
  (∀ s who, s.served = true → s.safe.srstStuck = false → (who = .p → s.pRuns = true) → Answers (.srstStuck who) s fun t =>
    t.safe.srstStuck = true ∧ EventSet t (ev 6 23)) ∧
  (∀ s stoOk, s.pRuns = true → s.safe.clearing = true → Answers (.selftestDone true true stoOk) s fun t =>
    t.safe.clearing = false ∧ t.safe.p.selftestOk = true ∧ t.safe.h.selftestOk = true ∧ (stoOk = true → t.safe.stoFault = 0 ∧ t.safe.kill = false) ∧
    ∀ n, n < 4 → s.grpState n = .lockout →
      t.grpState n = .lockout ∨ (t.grpState n = .startupPending ∧ bitOf s.safe.clearOk n = true)) ∧
  (∀ s passP passH stoOk, s.pRuns = true → s.safe.clearing = true → (passP && passH) = false → Answers (.selftestDone passP passH stoOk) s fun t =>
    t.safe.clearing = false ∧ EventSet t (ev 6 4) ∧ ∀ n, n < 4 → t.grpState n = s.grpState n) ∧
  (∀ s passP passH stoOk, s.safe.clearing = false → Answers (.selftestDone passP passH stoOk) s fun t =>
    t.safe.clearing = false ∧ t.safe.h.selftestOk = passH ∧
    (passH = false → ∀ n, n < 4 → s.grpUsed n = true → (vat t.safe.h.grps n).st = .lockout)) ∧
  (∀ s (r : Fin 8), s.pRuns = true → Answers (.telCompareWindow r) s fun t =>
    (∀ w ∈ (vat t.safe.rx r).waiting, s.time.tickSeq < w.tick + pWin s.image r) ∧
    ∀ k : Nat, k ≠ r → vat t.safe.rx k = vat s.safe.rx k) ∧
  (∀ s (r : Fin 8) (net : Fin 2), s.pRuns = true → pRxEn s.image r = true → ((vat s.safe.rx r).path net).lost = false →
    ((vat s.safe.rx r).path net).lastTick + pathWdog s.image r (vat s.safe.rx r) net ≤ s.time.tickSeq →
    Answers (.telPathLost r net) s fun t => ((vat t.safe.rx r).path net).lost = true ∧ EventSet t (ev 6 25) ∧
      (vat t.safe.rx r).path (1 - net.val) = (vat s.safe.rx r).path (1 - net.val) ∧ ∀ k : Nat, k ≠ r → vat t.safe.rx k = vat s.safe.rx k)

/-- Direct registers, MP frames, malformed accesses and write conflicts (R17, R162, R526, R529, R530, R531, R532, R543, R578, R694). -/
def Obligations.DirectRegistersAndFrames : Prop :=
  (∀ s (a : Fin 128) v, exec (.writeReg (BitVec.ofNat 24 a) [v]) s = exec (.registerWrite .mp (.direct a) v none) s) ∧
  (∀ s v w, s.writable = true → Answers (.writeReg 0x21 [v, w]) s fun t => t.mp.arg0 = v ∧ t.mp.arg1 = w ∧ t.hb = s.hb) ∧
  (∀ s a ws, s.writable = true → 0x7F < a.toNat → Answers (.writeReg a ws) s fun t =>
    t.cfg = s.cfg ∧ t.txn = s.txn ∧ t.hb = s.hb ∧ t.mp = s.mp ∧ EventSet t evSpiFrame) ∧
  (∀ s a n late, s.inReset = false → a.toNat ≤ 0x7F → Answers (.readReg a n late) s fun t => t.mp.readData.length = n ∧
    (s.pwr.booting = true → 7 < a.toNat → t.mp.readData = List.replicate n 0)) ∧
  (∀ s, s.served = true → Answers (.readReg 0x21 2 []) s fun t => t.mp.readData = [s.mp.arg0, s.mp.arg1]) ∧
  (∀ s a n late k, s.inReset = false → s.coreOn = false → a.toNat ≤ 0x7F → k < n → k ∈ late → Answers (.readReg a n late) s fun t =>
    t.mp.readData[k]? = some 0) ∧
  (∀ s, Answers .spiFrame s fun t => t.cfg = s.cfg ∧ t.txn = s.txn ∧ t.hb = s.hb ∧ t.mp = s.mp ∧ (s.inReset = false → EventSet t evSpiFrame)) ∧
  (∀ s, s.inReset = false → Answers (.hbAccessTimeout .read) s fun t => t.hb.readData = [0] ∧ EventSet t evAccessTimeout) ∧
  (∀ s v, s.inReset = false → Answers (.hbAccessTimeout (.write v)) s fun t => t.hb = s.hb ∧ t.cfg = s.cfg ∧ t.txn = s.txn ∧ EventSet t evAccessTimeout) ∧
  (∀ s, Answers .hbStrobeConflict s fun t => t = s) ∧
  (∀ s m v, s.writable = true → Answers (.registerWrite m (.direct 0x21) v none) s fun t => (t.host m).arg0 = v ∧
    t.host (otherMaster m) = s.host (otherMaster m)) ∧
  (∀ s m (a : Fin 128) v, s.writable = true → dirListed a = false → Answers (.registerWrite m (.direct a) v none) s fun t =>
    t.cfg = s.cfg ∧ t.txn = s.txn ∧ t.hb = s.hb ∧ t.mp = s.mp ∧ EventSet t evBadAddr) ∧
  (∀ s m (a : Fin 128) v r, s.writable = true → dirListed a = true → a.val ≠ 0x12 → a.val ≠ 0x13 → ownRegister a = false →
    Answers (.registerWrite m (.direct a) v (some (.direct a, r))) s fun t => ∃ c, t.conflicts.head? = some c ∧ c.target = a.val ∧
      c.winner = (if s.prioMp then .mp else .hb) ∧ c.winVal = (if c.winner = m then v else r) ∧
      c.loseVal = (if c.winner = m then r else v) ∧ EventSet t evConflict) ∧
  (∀ s m (g : Fin 8) v r, s.writable = true → s.evt.grpSel = g.val →
    Answers (.registerWrite m (.direct 0x2A) v (some (.map (Fin.ofNat 16777216 (0x090000 + 2 * g.val)), r))) s fun t =>
      ∃ c, t.conflicts.head? = some c ∧ c.winner = (if s.prioMp then .mp else .hb) ∧ EventSet t evConflict) ∧
  (∀ s m, s.writable = true → Answers (.conflictClr m) s fun t => t.conflicts = [] ∧ t.conflictCnt = 0 ∧ Echoed t m 0x440 1 resAccepted)

/-- Both masters write MASTER_PRIO in the same cycle (R573). -/
def Obligations.MasterPrioWrittenByBoth : Prop :=
  ∀ s m v r, s.writable = true → Answers (.registerWrite m (.direct 0x40) v (some (.direct 0x40, r))) s fun t =>
    t.prioMp = (if m = (if s.prioMp then .mp else .hb) then v else r).getLsbD 0

/-- DEV_ID reads 0x4E58 in BOOT and wherever the host is served (R712). -/
def Obligations.DevIdIsReadable : Prop :=
  ∀ s, s.inReset = false → Answers (.readReg 0 1 []) s fun t => t.mp.readData = [0x4E58]

/-- An RWS write by a master that does not own an open transaction is discarded (R14). -/
def Obligations.RwsWriteNeedsTheOpenTransaction : Prop :=
  ∀ s m (a : Fin 16777216) v, s.writable = true → isRws a = true → (s.coreOn = true ∨ a.val < spllBase ∨ spllBase + 3 ≤ a.val) →
    (s.txn.owner ≠ some m ∨ s.txn.st = .idle) → Answers (.stagedWrite m a v) s fun t =>
      t.txn = s.txn ∧ (∀ b, t.act b = s.act b) ∧ EventSet t evNoTxn

/-- Staging and reading a configuration word by STAGED_WRITE, the window registers and the map frames (R16, R531, R535, R536, R544, R545,
R548, R555, R694). -/
def Obligations.ConfigurationWordsThroughTheWindow : Prop :=
  (∀ s m (a : Fin 16777216) v, Stageable s m a → Answers (.stagedWrite m a v) s (Staged s a v)) ∧
  (∀ s m (a : Fin 16777216) v, Stageable s m a → (s.host m).winAddr = a.val → Answers (.winData m (.write v)) s fun t => Staged s a v t ∧
    (t.host m).winAddr = a.val) ∧
  (∀ s m (a : Fin 16777216) v, Stageable s m a → (s.host m).winAddr = a.val → Answers (.winDataInc m (.write v)) s fun t => Staged s a v t ∧
    (t.host m).winAddr = (a.val + 1) % 2 ^ 24) ∧
  (∀ s (a : Fin 16777216) v, Stageable s .mp a → Answers (.writeMap (BitVec.ofNat 24 a) [v]) s fun t => Staged s a v t ∧ t.mp.winAddr = (a.val + 1) % 2 ^ 24) ∧
  (∀ s m (a : Fin 16777216) v, s.writable = true → isRws a = true → (s.coreOn = true ∨ a.val < spllBase ∨ spllBase + 3 ≤ a.val) →
    s.txn.owner = some m → s.txn.st ≠ .idle → s.txn.st ≠ .opened → s.txn.st ≠ .armed → Answers (.stagedWrite m a v) s fun t =>
      t.txn = s.txn ∧ t.cfg = s.cfg ∧ EventSet t evTxnHeld) ∧
  (∀ s m, s.served = true → isRws (s.host m).winAddr = true → Answers (.winData m .read) s fun t =>
    (t.host m).readData = [seenWord s m (s.host m).winAddr] ∧ (t.host m).winAddr = (s.host m).winAddr ∧ t.txn = s.txn) ∧
  (∀ s m, s.served = true → isRws (s.host m).winAddr = true → Answers (.winDataInc m .read) s fun t =>
    (t.host m).readData = [seenWord s m (s.host m).winAddr] ∧ (t.host m).winAddr = ((s.host m).winAddr + 1) % 2 ^ 24) ∧
  (∀ s a, s.served = true → isRws a.toNat = true → Answers (.readMap a 1 []) s fun t =>
    t.mp.readData = [seenWord s .mp a.toNat] ∧ t.mp.winAddr = (a.toNat + 1) % 2 ^ 24) ∧
  (∀ s a n late, s.served = true → Answers (.readMap a n late) s fun t => t.mp.readData.length = n ∧
    t.mp.winAddr = (a.toNat + n) % 2 ^ 24 ∧ (s.coreOn = false → ∀ k, k < n → k ∈ late → t.mp.readData[k]? = some 0))

/-- Opening a latched group, a stale read, the holding register of a multiword write, and TS_HEAD (R81, R539, R540, R541, R544, R570,
R622). -/
def Obligations.ReadLatchesAndHoldingRegisters : Prop :=
  (∀ s m (a : Fin 16777216) i, BlockInv s → s.served = true → groupAt (access s m) a = some i → i.base = a.val → i.on = true →
    Answers (.rolGroupOpen m (.map a)) s fun t => (t.host m).readData = [Word.ofN (openWord s m i 0)] ∧ (t.host m).latched = some a.val ∧
      (t.host m).stale = false ∧ ∀ k, k < i.len → rolWord t m (a.val + k) = openWord s m i k % 65536) ∧
  (∀ s m (a : Fin 16777216) i, s.served = true → groupAt (access s m) a = some i → i.base ≠ a.val → (s.host m).latched ≠ some i.base →
    i.on = true → Answers (.stale m (.map a)) s fun t => (t.host m).readData = [Word.ofN (rolWord s m a)] ∧ (t.host m).stale = true ∧
      (t.host m).latched = (s.host m).latched ∧ EventSet t evStale) ∧
  (∀ s m (a : Fin 16777216) v, BlockInv s → s.writable = true → a ∈ [0x1A, 0x305, 0x306, 0x307, 0x308, 0x30B] →
    Answers (.holdingWrite m (.map a) v) s fun t => heldVal t m a 1 = v.toNat ∧ t.txn = s.txn) ∧
  (∀ s m v, s.writable = true → Answers (.holdingWrite m (.map 0x1B) v) s fun t => t.txn.at_ = heldVal s m 0x1A 1 + 65536 * v.toNat) ∧
  (∀ s m v, s.writable = true → Answers (.holdingWrite m (.map 0x30C) v) s fun t => t.txn.dcMask = heldVal s m 0x30B 1 + 65536 * v.toNat) ∧
  (∀ s m (pin : Fin 16), s.servedCore = true → (s.host m).latched = some (tioBase pin + 8) → (vat s.tios pin).fifo ≠ [] →
    ((List.range 7).map fun k => rolWord s m (tioBase pin + 8 + k)) = headWords (vat s.tios pin).fifo →
    Answers (.tsHeadRead m pin) s fun t => (vat t.tios pin).fifo = (vat s.tios pin).fifo.drop 1 ∧ (t.host m).latched = none ∧
      (t.host m).readData = [Word.ofN (rolWord s m (tioBase pin + 0x0E))] ∧ ∀ k : Nat, k ≠ pin → vat t.tios k = vat s.tios k) ∧
  (∀ s m (pin : Fin 16), s.servedCore = true → (s.host m).latched ≠ some (tioBase pin + 8) → Answers (.tsHeadRead m pin) s fun t =>
    t.tios = s.tios ∧ (t.host m).stale = true)

/-- The thirteen operations of OP_CMD join the queue of four, or are refused at a full queue (R137, R557, R558, R559, R602, R730). -/
def Obligations.LongOperationsJoinTheQueue : Prop :=
  (∀ s m, ∀ p ∈ longRows m, s.writable = true → s.opq.length < 4 → Answers p.1 s fun t => ∃ o, t.opq = s.opq ++ [o] ∧
    o.code = p.2 ∧ o.ticket = s.ticket ∧ o.issuer = some m ∧ o.arg0 = (s.host m).arg0 ∧ o.arg1 = (s.host m).arg1 ∧
    o.st = (if s.pwr.supplyLow && opWrites p.2 then .held else .queued) ∧ t.ticket = (s.ticket + 1) % 256 ∧ Echoed t m 0x20 p.2 resAccepted) ∧
  (∀ s m, ∀ p ∈ longRows m, s.writable = true → 4 ≤ s.opq.length → Answers p.1 s fun t => t.opq = s.opq ∧ t.ticket = s.ticket ∧
    Echoed t m 0x20 p.2 resQueueFull ∧ EventSet t evQueueFull)

/-- OP_START starts the operation whose turn it is or ends it at once, and ABORT names a ticket (R72, R558, R559, R560, R561, R569). -/
def Obligations.OperationsStartAndAbort : Prop :=
  (∀ s vddOk o, s.writable = true → opCycles s = true → s.runningOp = none → nextOp s vddOk = some o → (o.data = [] → opNeeds s o = none) →
    Answers (.opStart vddOk) s fun t => t.runningOp.map (·.ticket) = some o.ticket ∧ t.oph = s.oph) ∧
  (∀ s vddOk o r c, s.writable = true → opCycles s = true → s.runningOp = none → nextOp s vddOk = some o → o.data = [] → opNeeds s o = some (r, c) →
    Answers (.opStart vddOk) s fun t => EventSet t evOpFail ∧ t.runningOp = none ∧ ∃ e, t.oph.head? = some e ∧ e.ticket = o.ticket ∧ e.st = .done ∧
      e.result = r ∧ e.cause = c) ∧
  (∀ s vddOk, (nextOp s vddOk = none ∨ opCycles s = false) → Answers (.opStart vddOk) s fun t => t = s) ∧
  (∀ s m o, s.writable = true → s.pwr.shut = .none → s.opq.find? (fun x => x.ticket == (s.host m).arg0.toNat % 256) = some o →
    o.issuer = some m → o.st ≠ .running → Answers (.abort m) s fun t => Echoed t m 0x20 0xF0 resAccepted ∧ EventSet t evOpFail ∧
      (∀ x ∈ t.opq, x.ticket ≠ o.ticket) ∧ ∃ e, t.oph.head? = some e ∧ e.ticket = o.ticket ∧ e.st = .aborted) ∧
  (∀ s m o, s.writable = true → s.opq.find? (fun x => x.ticket == (s.host m).arg0.toNat % 256) = some o →
    o.issuer = some m → o.st = .running → Answers (.abort m) s fun t => Echoed t m 0x20 0xF0 resAccepted ∧
      { o with aborting := true } ∈ t.opq ∧ t.oph = s.oph) ∧
  (∀ s m o, s.writable = true → s.opq.find? (fun x => x.ticket == (s.host m).arg0.toNat % 256) = some o →
    o.issuer ≠ some m → Answers (.abort m) s fun t => Echoed t m 0x20 0xF0 ccNotOwner ∧ t.opq = s.opq ∧ t.oph = s.oph) ∧
  (∀ s m, s.writable = true → s.opq.find? (fun x => x.ticket == (s.host m).arg0.toNat % 256) = none →
    s.oph.any (doneNow s m ((s.host m).arg0.toNat % 256)) = false → Answers (.abort m) s fun t =>
      Echoed t m 0x20 0xF0 resNotFound ∧ t.opq = s.opq ∧ t.oph = s.oph) ∧
  (∀ s m, s.writable = true → s.opq.find? (fun x => x.ticket == (s.host m).arg0.toNat % 256) = none →
    s.oph.any (doneNow s m ((s.host m).arg0.toNat % 256)) = true → Answers (.abort m) s fun t => Echoed t m 0x20 0xF0 resAccepted ∧
      t.oph = s.oph.map fun o => if doneNow s m ((s.host m).arg0.toNat % 256) o then { o with abortIgnored := true } else o)

/-- OP_DONE ends the running operation (R72, R286, R453, R560, R561, R591, R594). -/
def Obligations.OperationsEnd : Prop :=
  (∀ s rep o r, opCycles s = true → s.opq.find? (fun o => o.st == .running || o.aborting) = some o → o.aborting = false → opRecord o = some r →
    rep.verifyOk = true → Answers (.opDone rep) s fun t => EndedAs t o orDone ∧ EventSet t evOpDone ∧ t.nvm.busy = none ∧
      (r = 4 → t.model.learnedSince = false ∧ t.model.retryAt = none ∧ EventSet t evModelSaved) ∧
      (r = 5 → t.safe.confirmed = some (imageOf o.data))) ∧
  (∀ s rep o r, opCycles s = true → s.opq.find? (fun o => o.st == .running || o.aborting) = some o → o.aborting = false → opRecord o = some r →
    rep.verifyOk = false → Answers (.opDone rep) s fun t => EndedAs t o orNvmFail ∧ EventSet t evOpFail ∧ EventSet t evNvmFail ∧
      t.nvm.busy = none ∧ t.nvm.mem = s.nvm.mem) ∧
  (∀ s rep o, opCycles s = true → s.opq.find? (fun o => o.st == .running || o.aborting) = some o → o.aborting = false → o.code = 0x08 → rep.verifyOk = true →
    Answers (.opDone rep) s fun t => EndedAs t o orDone ∧ t.log.nextSeq = 0 ∧ t.log.slot = 0 ∧
      ∀ r ∈ s.log.buf, r ∈ t.log.buf) ∧
  (∀ s rep o, opCycles s = true → s.opq.find? (fun o => o.st == .running || o.aborting) = some o → o.aborting = false →
    (o.code = 0x06 ∧ rep.testOk = true ∨ o.code = 0x07) → Answers (.opDone rep) s fun t => EndedAs t o orDone ∧ EventSet t evOpDone) ∧
  (∀ s rep o, opCycles s = true → s.opq.find? (fun o => o.st == .running || o.aborting) = some o → o.aborting = true → opBurns o.code = false →
    Answers (.opDone rep) s fun t => EventSet t evOpFail ∧ ∃ e, t.oph.head? = some e ∧ e.ticket = o.ticket ∧ e.st = .aborted) ∧
  (∀ s rep, (s.opq.find? (fun o => o.st == .running || o.aborting) = none ∨ opCycles s = false) → Answers (.opDone rep) s fun t => t = s)

/-- The ends of the authentication steps and of the OTP operations (R622, R624, R626, R627, R628, R629, R634). -/
def Obligations.AuthenticationAndOtpEnd : Prop :=
  (∀ s rep o m, Ends s o 0x10 → o.issuer = some m → rep.rngOk = true → opCycles s = true → Answers (.opDone rep) s fun t => EndedAs t o orDone ∧
    t.sec.challenge = some m ∧ t.sec.chalOctets = octetsBE 16 (Config.randomBits s.draws).toNat ∧ t.draws = s.draws + 1) ∧
  (∀ s rep o m, Ends s o 0x11 → o.issuer = some m → s.sec.challenge = some m → opCycles s = true → Answers (.opDone rep) s fun t =>
    t.sec.challenge = none ∧ (∀ i, vat t.sec.buf i = 0) ∧
    (if bufOctets s = authResponse s m then EndedAs t o orDone ∧ t.sec.session = some m ∧ t.sec.failCnt = 0 ∧ EventSet t evAuthOk
     else EndedAs t o orAuthFail ∧ t.sec.session = s.sec.session ∧ t.sec.failCnt = min 255 (s.sec.failCnt + 1) ∧ EventSet t evAuthFail)) ∧
  (∀ s rep o m, Ends s o 0x11 → o.issuer = some m → s.sec.challenge ≠ some m → opCycles s = true → Answers (.opDone rep) s fun t =>
    EndedAs t o orNoChallenge ∧ t.sec.session = s.sec.session ∧ t.sec.failCnt = s.sec.failCnt) ∧
  (∀ s rep o, Ends s o 0x12 → rep.verifyOk = true → opCycles s = true → Answers (.opDone rep) s fun t => EndedAs t o orDone ∧ t.otp.keySet = true ∧
    t.otp.key = octetsOfWords (o.data.map fun w => w.rotateLeft 8) ∧ t.sec.field = true ∧ t.sec.session = none ∧ (∀ i, vat t.sec.buf i = 0)) ∧
  (∀ s rep o, Ends s o 0x13 → rep.verifyOk = true → (policyArgs o).1 ≤ noSessMax s → (policyArgs o).2 ≤ sessMax s → opCycles s = true →
    Answers (.opDone rep) s fun t => EndedAs t o orDone ∧ noSessMax t = (policyArgs o).1 ∧ sessMax t = (policyArgs o).2) ∧
  (∀ s rep o, Ends s o 0x14 → rep.verifyOk = true → o.arg0.toNat < 4 → fuseCount (vat s.otp.lock o.arg0.toNat) < 16 → opCycles s = true →
    Answers (.opDone rep) s fun t => EndedAs t o orDone ∧ profileLocked t o.arg0.toNat = !profileLocked s o.arg0.toNat)

/-- The device's own model saves, the programming of the fault log, and the page program a reset waits for (R138, R144, R284, R286, R593,
R595). -/
def Obligations.NvmWorkOfTheDevice : Prop :=
  (∀ s, s.served = true → s.pwr.shut = .none → saveDue s = true → saveQueued s = false → s.opq.length < 4 →
    Answers .modelSaveDue s fun t => ∃ o, t.opq = s.opq ++ [o] ∧ o.code = 0x03 ∧ o.issuer = none) ∧
  (∀ s a, s.served = true → s.pwr.shut = .none → s.model.retryAt = some a → a ≤ s.model.xoAge → saveQueued s = false → s.opq.length < 4 →
    Answers .modelSaveRetry s fun t => t.model.retryAt = none ∧ ∃ o, t.opq = s.opq ++ [o] ∧ o.code = 0x03 ∧ o.issuer = none) ∧
  (∀ s vddOk r rest, BlockInv s → s.log.buf = r :: rest → s.served = true → nvmMay s vddOk = true → s.nvm.busy = none → s.pwr.shut = .none →
    Answers (.logRecordProgram vddOk) s fun t => t.log.buf = rest ∧ t.log.nextSeq = (s.log.nextSeq + 1) % 2 ^ 32 ∧
      t.log.slot = (s.log.slot + 1) % 512 ∧
      (∀ i, i < 32 → nvmOctet t (0xC000 + 32 * s.log.slot + i) = (logOctets s.log.nextSeq r).getD i 0) ∧
      ∀ a, (a < 0xC000 + 32 * s.log.slot ∨ 0xC000 + 32 * s.log.slot + 32 ≤ a) → nvmOctet t a =
        if s.log.slot % 128 = 0 ∧ 0xC000 + 32 * s.log.slot ≤ a ∧ a < 0xC000 + 32 * s.log.slot + 4096 then 0xFF else nvmOctet s a) ∧
  (∀ s, s.pwr.resetWaits = true → Answers .pageProgramEnd s fun t => t.pwr.resetWaits = false ∧ t.nvm.busy = none ∧ t.nvm.mem = s.nvm.mem ∧
    (s.runningOp = none → t.otp = s.otp)) ∧
  (∀ s, s.pwr.resetWaits = false → Answers .pageProgramEnd s fun t => t = s)

/-- Clearing sticky bits and counters, a counter at its maximum, and the snapshot commands (R577, R579, R600, R601, R604, R606, R608,
R611, R735). -/
def Obligations.EventsCountersAndSnapshots : Prop :=
  (∀ s m hi v, s.servedCore = true → Answers (.evtStatusWrite m hi v) s fun t => ∀ i, i < 256 →
    t.evt.sticky.getLsbD i = (s.evt.sticky.getLsbD i && !(decide (i / 16 = 2 * s.evt.grpSel + b2n hi) && v.getLsbD (i % 16) && !(setNewly s).getLsbD i))) ∧
  (∀ s m (c : Fin 16), s.servedCore = true → Answers (.clear m c) s fun t => vat t.cnts c = clearedCounter s c ∧ Echoed t m (cntBase c + 8) 1 resAccepted ∧
    ∀ k : Nat, k ≠ c → vat t.cnts k = vat s.cnts k) ∧
  (∀ s m mask, s.servedCore = true → Answers (.cntCmdClear m mask) s fun t => Echoed t m 0x090030 mask.toNat resAccepted ∧
    ∀ k, k < 16 → vat t.cnts k = if mask.getLsbD k then clearedCounter s k else vat s.cnts k) ∧
  (∀ s m, s.servedCore = true → Answers (.req m) s fun t => Echoed t m 0x34 1 resAccepted ∧
    t.snap.reqDue = (s.snap.reqDue || !evaluateBegun s) ∧ t.snap.reqNext = (s.snap.reqNext || evaluateBegun s) ∧ t.snap.image = s.snap.image) ∧
  (∀ s m, s.servedCore = true → Answers (.release m) s fun t => Echoed t m 0x34 8 resAccepted ∧
    t.snap.released = (s.snap.hold && s.snap.valid) ∧ t.snap.missed = 0 ∧ t.snap.image = s.snap.image) ∧
  (∀ s (c : Fin 16), s.coreOn = true → (fCntSrc.val s.act (cntBase c) = 0x100 ∨ rng 0x110 0x157 (fCntSrc.val s.act (cntBase c)) = true) →
    (vat s.cnts c).value = 2 ^ 48 - 1 → (vat s.cnts c).sat = false → gateOpen s c = true → (vat s.cntCyc c).at_ ≠ some s.time.bench → Answers (.hwCounterOverflow c) s fun t =>
      EventSet t evCntOvf ∧ (∀ k : Nat, k ≠ c → vat t.cnts k = vat s.cnts k) ∧
      vat t.cnts c = if fCntOvf.on s.act (cntBase c) then { vat s.cnts c with value := 0, wraps := stick 8 (vat s.cnts c).wraps }
        else { vat s.cnts c with sat := true })

/-- END_SESSION, DBG_SET, BUF_CLEAR, SEC_DATA, and the timers of the session and of authentication (R473, R622, R623, R624, R626, R627,
R633, R634, R642, R645, R744, R754). -/
def Obligations.SecurityCommandsAndTimers : Prop :=
  (∀ s m, s.servedCore = true → s.sec.session = some m → Answers (.endSession m) s fun t => t.sec.session = none ∧ t.sec.endCause = 1 ∧
    EventSet t evSessionEnd ∧ Echoed t m 0x3D 1 resAccepted) ∧
  (∀ s m, s.servedCore = true → s.sec.session ≠ some m → Answers (.endSession m) s fun t => t.sec = s.sec ∧ Echoed t m 0x3D 1 resNotHolder) ∧
  (∀ s m l, s.servedCore = true → l ≠ 3 → levelPermitted s m l.toNat = true → Answers (.dbgSet m l) s fun t => t.sec.dbg = l.toNat ∧
    t.sec.session = s.sec.session ∧ Echoed t m 0x3D 2 resAccepted ∧
    (l = 2 → s.sec.dbg ≠ 2 → ∀ n, n < 4 → s.grpUsed n = true → (vat t.safe.h.grps n).st = .lockout)) ∧
  (∀ s m l, s.servedCore = true → l ≠ 3 → levelPermitted s m l.toNat = false → Answers (.dbgSet m l) s fun t => t.sec.dbg = s.sec.dbg ∧
    EventSet t evDebugDenied ∧ Echoed t m 0x3D 2 resDebugDenied) ∧
  (∀ s m, s.servedCore = true → Answers (.dbgSet m 3) s fun t => t.sec.dbg = s.sec.dbg ∧ t.sec.level = s.sec.level ∧ t.sec.ptr = s.sec.ptr ∧
    EventSet t evBadValue ∧ Echoed t m 0x3D 2 ccBadValue) ∧
  (∀ s m, s.servedCore = true → Answers (.bufClear m) s fun t => (∀ i, vat t.sec.buf i = 0) ∧ Echoed t m 0x3D 3 resAccepted) ∧
  (∀ s m v, s.servedCore = true → s.sec.ptr < 16 → bufDenied s m = false → bufBefore s = none → Answers (.secData m (.write v)) s fun t =>
    vat t.sec.buf s.sec.ptr = v ∧ t.sec.ptr = (s.sec.ptr + 1) % 16 ∧ ∀ k : Nat, k ≠ s.sec.ptr → vat t.sec.buf k = vat s.sec.buf k) ∧
  (∀ s m v b, s.servedCore = true → bufDenied s m = false → bufBefore s = some b → Answers (.secData m (.write v)) s fun t =>
    t.sec.buf = s.sec.buf ∧ t.sec.ptr = (s.sec.ptr + 1) % 16) ∧
  (∀ s m v, s.servedCore = true → bufDenied s m = true → Answers (.secData m (.write v)) s fun t =>
    t.sec.buf = s.sec.buf ∧ t.sec.ptr = (s.sec.ptr + 1) % 16 ∧ EventSet t evSecDenied) ∧
  (∀ s m, s.servedCore = true → Answers (.secData m .read) s fun t =>
    (t.host m).readData = [Word.ofN ((beforeWrite s m 0x3E).getD (vat ((bufBefore s).getD s.sec.buf) s.sec.ptr).toNat)] ∧ t.sec.buf = s.sec.buf ∧ t.sec.ptr = (s.sec.ptr + 1) % 16) ∧
  (∀ s m, s.sec.session = some m → s.sec.lastAccess + sessionTicks < s.safe.p.clk → Answers .sessionIdle s fun t =>
    t.sec.session = none ∧ t.sec.endCause = 2 ∧ EventSet t evSessionEnd) ∧
  (∀ s, s.safe.p.clk ≤ s.sec.lastAccess + sessionTicks → Answers .sessionIdle s fun t => t = s) ∧
  (∀ s, s.sec.chalEnd < s.safe.p.clk → Answers .challengeExpire s fun t => t.sec.challenge = none ∧ t.sec.buf = s.sec.buf) ∧
  (∀ s, s.safe.p.clk ≤ s.sec.chalEnd → Answers .challengeExpire s fun t => t = s) ∧
  (∀ s b, s.sec.delay = some b → b ≤ s.safe.h.clk → Answers .authDelayExpire s fun t => t.sec.delay = none ∧ t.sec.failCnt = s.sec.failCnt) ∧
  (∀ s b, s.sec.delay = some b → s.safe.h.clk < b → Answers .authDelayExpire s fun t => t = s)

/-- The instructions of the TAP (R635, R637, R638, R639, R650). -/
def Obligations.TapInstructions : Prop :=
  (∀ s cells, nearEnergy s = false → Answers (.extest cells) s fun t => t.tap.instr = .extest ∧ t.tap.cells = cells) ∧
  (∀ s cells, nearEnergy s = true → Answers (.extest cells) s fun t => t.tap.instr = .bypass ∧ t.tap.cells = s.tap.cells ∧ EventSet t evDebugDenied) ∧
  (∀ s cells, Answers (.samplePreload cells) s fun t => t.tap.instr = .samplePreload ∧ t.tap.cells = cells) ∧
  (∀ s, Answers .idcode s fun t => t.tap.instr = .idcode ∧ t.sec = s.sec) ∧
  (∀ s, Answers .bypassInstruction s fun t => t.tap.instr = .bypass ∧ t.sec = s.sec) ∧
  (∀ s, s.sec.dbg = 2 → s.coreOn = true → Answers .haltP s fun t => t.sec.haltP = true ∧ t.pRuns = false ∧ t.tap.instr = .dbgCtrl) ∧
  (∀ s, s.sec.dbg = 2 → s.coreOn = true → Answers .resumeP s fun t => t.sec.haltP = false ∧ t.tap.instr = .dbgCtrl) ∧
  (∀ s, s.sec.dbg ≠ 2 → Answers .haltP s fun t => t.sec = s.sec ∧ t.tap.instr = .bypass) ∧
  (∀ s, s.sec.dbg ≠ 2 → Answers .resumeP s fun t => t.sec = s.sec ∧ t.tap.instr = .bypass) ∧
  (∀ s a v, s.sec.dbg ≠ 0 → Answers (.mapAccess 1 a v) s fun t => t.tap.mapDone = true ∧ t.tap.mapAddr = a.toNat ∧
    t.tap.mapData = Word.ofN (mapWord s none s.act a.toNat) ∧ t.hb = s.hb ∧ t.mp = s.mp) ∧
  (∀ s a v, s.sec.dbg = 0 → Answers (.mapAccess 1 a v) s fun t => t.tap.mapDone = false ∧ EventSet t evDebugDenied) ∧
  (∀ s a v, s.sec.dbg < 2 → Answers (.mapAccess 2 a v) s fun t => t.tap.mapDone = false ∧ t.cfg = s.cfg ∧ EventSet t evDebugDenied) ∧
  (∀ s a v, 2 ≤ s.sec.dbg → a.toNat / 65536 ≠ 0x0F → Answers (.mapAccess 2 a v) s fun t => t.tap.mapDone = true ∧ t.cfg = s.cfg)

/-- A step takes the command at the front of the queue and runs it (R8, R13). -/
def Obligations.StepRunsTheFrontCommand : Prop :=
  (∀ (s : State) c cs, step { s with pending := c :: cs } = exec c { s with pending := cs }) ∧
  (∀ s, s.pending = [] → ∃ t, step s = .next t ∧ t.pending = [] ∧
    t.time.bench = (s.time.bench + if s.coreOn then s.time.inc else s.xoInc) % benchMod)

/-- No command ends in a fault or a refusal (R13, R16, R17). -/
def Obligations.NoCommandStops : Prop :=
  ∀ i s, ∃ t, exec i s = .next t

/-- The machine after a power-on reset (R57, R111, R122, R123, R125, R455, R577, R773). -/
def Obligations.ResetState : Prop :=
  State.reset.inReset = true ∧ State.reset.pwr.resetCause = 1 ∧ State.reset.mode.mode = .reset ∧ State.reset.coreOn = false ∧
  State.reset.time.bench = 0 ∧ (∀ a, State.reset.act a = (resetWordW a).toNat) ∧
  (∀ e, e < 256 → State.reset.evt.mask.getLsbD e = true ∧ State.reset.evt.sticky.getLsbD e = false) ∧ State.reset.evt.route = 0 ∧
  State.reset.txn.st = .idle ∧ State.reset.txn.owner = none ∧
  (∀ n, n < 4 → (vat State.reset.safe.p.grps n).st = .init ∧ (vat State.reset.safe.h.grps n).st = .init) ∧ State.reset.pending = []

/-- The invariant holds after reset (R80, R158, R543, R557, R758, R783). -/
def Obligations.InvariantHoldsAtReset : Prop :=
  BlockInv State.reset

/-- Every step keeps the stores canonical and the queues within their length (R80, R158, R541, R543, R557, R758, R783). -/
def Obligations.EveryStepKeepsTheInvariant : Prop :=
  ∀ s t, BlockInv s → step s = .next t → BlockInv t

/-- What every command leaves unchanged (R13, R17, R111, R537, R545, R628). -/
def Obligations.FrameOfEveryCommand : Prop :=
  ∀ i s t, exec i s = .next t → ∀ p, p ∉ touches i → p.same s t

/-- A command leaves the queue's rest, fuses stay burned (R13, R628, R638). -/
def Obligations.QueueIsOnlyConsumed : Prop :=
  ∀ i s t, exec i s = .next t → t.pending = s.pending ∧ (s.otp.keySet = true → t.otp.keySet = true) ∧
    (∀ b, b < 4 → bitOf s.otp.policy b = true → bitOf t.otp.policy b = true) ∧
    (∀ p b, p < 4 → b < 16 → bitOf (vat s.otp.lock p) b = true → bitOf (vat t.otp.lock p) b = true)

/-- PWR_CTRL cannot clear CORE_EN in MAINTENANCE (R165). -/
def Obligations.CoreClearsInMaintenanceAreRefused : Prop :=
  ∀ s m v, s.served = true → s.pwr.shut ≠ .ended → s.mode.opmode = .maintenance → bitOf s.pwr.ctrl 0 = true → v.getLsbD 0 = false →
    Answers (.pwrCtrlWrite m v) s fun t => t.pwr.ctrl = s.pwr.ctrl ∧ (∀ d, domainState t.pwr d = domainState s.pwr d) ∧ EventSet t evCtrlRefused
end

