-- ==== Sys2Proof/Laws/Within.lean ====
section
/-! SUPPORT. What a state update can touch. `Within m s t` says that t agrees with s in every part of the state (`Part`, Safety.lean)
but those whose place is set in the mask m; one rule per field of State says which part an update of that field touches, so that no
later proof unfolds a record update. -/

namespace Sys2Proof.Machine


/-- The place of a part in a mask of parts. -/
def Part.bit : Part → Nat
  | .bench => 1
  | .inc => 2
  | .tick => 3
  | .time => 4
  | .eyes => 5
  | .wins => 6
  | .gates => 7
  | .tios => 8
  | .pend => 9
  | .hold => 10
  | .domains => 11
  | .rails => 12
  | .boot => 13
  | .pwr => 14
  | .hist => 15
  | .mode => 16
  | .srcs => 17
  | .dplls => 18
  | .hos => 19
  | .model => 20
  | .aplls => 21
  | .spll => 22
  | .outs => 23
  | .fods => 24
  | .lockPin => 25
  | .lastJump => 26
  | .ports => 27
  | .lace => 28
  | .params => 29
  | .chanP => 30
  | .chanH => 31
  | .near => 32
  | .safe => 33
  | .hb => 34
  | .mp => 35
  | .prioMp => 36
  | .conflicts => 37
  | .wrote => 38
  | .conflictCnt => 39
  | .echoes => 40
  | .echoSeq => 41
  | .txn => 42
  | .opq => 43
  | .oph => 44
  | .ticket => 45
  | .raised => 46
  | .evt => 47
  | .cnts => 48
  | .cntCyc => 49
  | .log => 50
  | .snap => 51
  | .nvm => 52
  | .nvmBusy => 53
  | .otp => 54
  | .lastAccess => 55
  | .session => 56
  | .sec => 57
  | .tap => 58
  | .active => 59
  | .intern => 60
  | .before => 61
  | .opers => 62
  | .undo => 63
  | .draws => 64
  | .pending => 65

/-- Every part of the mask a is in the mask m. -/
@[simp] abbrev Covers (a m : Nat) : Prop := a &&& m = a

/-- The second state agrees with the first in every part outside a mask of parts. -/
def Within (m : Nat) (s t : State) : Prop := ∀ p : Part, m.testBit p.bit = false → p.same s t

@[simp, simp ↓] theorem Within.refl (m : Nat) (s : State) : Within m s s := fun p _ => by cases p <;> rfl

theorem Within.trans {m : Nat} {s t u : State} (h : Within m s t) (k : Within m t u) : Within m s u := fun p hp => by
  have a := h p hp
  have b := k p hp
  cases p <;> exact b.trans a

theorem Within.symm {m : Nat} {s t : State} (h : Within m s t) : Within m t s := fun p hp => by
  have a := h p hp
  cases p <;> exact a.symm

theorem Within.mono {m n : Nat} {s t : State} (h : Within m s t) (hm : m &&& n = m) : Within n s t := fun p hp =>
  h p (by rw [← hm, Nat.testBit_and, hp, Bool.and_false])

/-- A state that differs only inside the mask may stand for another. -/
theorem Within.over {m n : Nat} {s0 s t : State} (k : Within m s t) (hm : m &&& n = m) : Within n s0 t ↔ Within n s0 s :=
  ⟨fun h => h.trans (k.mono hm).symm, fun h => h.trans (k.mono hm)⟩

@[simp, simp ↓] theorem Within.ite {m : Nat} {s a b : State} {c : Prop} [Decidable c] :
    Within m s (if c then a else b) ↔ if c then Within m s a else Within m s b := by split <;> rfl

theorem Within.fold {α : Type} {m : Nat} {l : List α} {f : State → α → State} (hf : ∀ t a, Within m t (f t a)) :
    ∀ s : State, Within m s (l.foldl f s) := by
  induction l with
  | nil => exact fun s => .refl m s
  | cons a l ih => exact fun s => (hf s a).trans (ih (f s a))

@[simp, simp ↓] theorem Within.foldl {α : Type} {m : Nat} {s0 s : State} {l : List α} {f : State → α → State}
    (hf : ∀ t a, Within m t (f t a)) : Within m s0 (l.foldl f s) ↔ Within m s0 s := (Within.fold hf s).over (Nat.and_self m)

@[simp, simp ↓] theorem Within.forN {m : Nat} {s0 s : State} {n : Nat} {f : Nat → State → State}
    (hf : ∀ i t, Within m t (f i t)) : Within m s0 (forN n f s) ↔ Within m s0 s :=
  (Within.fold (fun t i => hf i t) s).over (Nat.and_self m)

theorem Part.outside {a m i : Nat} (h : a &&& m = a) (hi : m.testBit i = false) : a.testBit i = false := by
  rw [← h, Nat.testBit_and, hi, Bool.and_false]

@[simp, simp ↓] theorem Within.time {m : Nat} {s t : State} {v_time : TimeUnit} (h_bench : Covers 0x2 m ∨ v_time.bench = t.time.bench)
    (h_inc : Covers 0x4 m ∨ v_time.inc = t.time.inc) (h_tick : Covers 0x8 m ∨ (v_time.period, v_time.running, v_time.phase, v_time.tickEdge,
    v_time.tickSeq) = (t.time.period, t.time.running, t.time.phase, t.time.tickEdge, t.time.tickSeq)) (h_time : Covers 0x10 m ∨
    { v_time with bench := 0, inc := 0, period := 0, running := false, phase := default, tickEdge := 0, tickSeq := 0 } =
    { t.time with bench := 0, inc := 0, period := 0, running := false, phase := default, tickEdge := 0, tickSeq := 0 }) :
    Within m s { t with time := v_time } ↔ Within m s t := by
  refine Within.over (m := m) (fun p hn => ?_) (Nat.and_self m)
  cases p <;> first
    | rfl
    | exact h_bench.elim (fun h => absurd (Part.outside h hn) (by decide)) id
    | exact h_inc.elim (fun h => absurd (Part.outside h hn) (by decide)) id
    | exact h_tick.elim (fun h => absurd (Part.outside h hn) (by decide)) id
    | exact h_time.elim (fun h => absurd (Part.outside h hn) (by decide)) id

@[simp, simp ↓] theorem Within.eyes {m : Nat} {s t : State} {v_eyes : Vector Eyelet 32} (h : Covers 0x20 m) :
    Within m s { t with eyes := v_eyes } ↔ Within m s t := by
  refine Within.over (m := m) (fun p hn => ?_) (Nat.and_self m)
  cases p <;> first
    | rfl
    | exact absurd (Part.outside h hn) (by decide)

@[simp, simp ↓] theorem Within.wins {m : Nat} {s t : State} {v_wins : Vector Window 8} (h : Covers 0x40 m) :
    Within m s { t with wins := v_wins } ↔ Within m s t := by
  refine Within.over (m := m) (fun p hn => ?_) (Nat.and_self m)
  cases p <;> first
    | rfl
    | exact absurd (Part.outside h hn) (by decide)

@[simp, simp ↓] theorem Within.gates {m : Nat} {s t : State} {v_gates : Vector Bool 8} (h : Covers 0x80 m) :
    Within m s { t with gates := v_gates } ↔ Within m s t := by
  refine Within.over (m := m) (fun p hn => ?_) (Nat.and_self m)
  cases p <;> first
    | rfl
    | exact absurd (Part.outside h hn) (by decide)

@[simp, simp ↓] theorem Within.tios {m : Nat} {s t : State} {v_tios : Vector TioPin 16} (h : Covers 0x100 m) :
    Within m s { t with tios := v_tios } ↔ Within m s t := by
  refine Within.over (m := m) (fun p hn => ?_) (Nat.and_self m)
  cases p <;> first
    | rfl
    | exact absurd (Part.outside h hn) (by decide)

@[simp, simp ↓] theorem Within.pwr {m : Nat} {s t : State} {v_pwr : PowerUnit} (h_pend : Covers 0x200 m ∨ (v_pwr.pwrPend, v_pwr.safePend) =
    (t.pwr.pwrPend, t.pwr.safePend)) (h_hold : Covers 0x400 m ∨ (v_pwr.resetHeld, v_pwr.resetCause, v_pwr.resetClass, v_pwr.resetWaits) =
    (t.pwr.resetHeld, t.pwr.resetCause, t.pwr.resetClass, t.pwr.resetWaits)) (h_domains : Covers 0x800 m ∨ (v_pwr.ctrl, v_pwr.core,
    v_pwr.syn, v_pwr.outl, v_pwr.outh, v_pwr.upQueue, v_pwr.downQueue, v_pwr.coreOffByWrite) = (t.pwr.ctrl, t.pwr.core, t.pwr.syn,
    t.pwr.outl, t.pwr.outh, t.pwr.upQueue, t.pwr.downQueue, t.pwr.coreOffByWrite)) (h_rails : Covers 0x1000 m ∨ (v_pwr.warn33,
    v_pwr.warnAon, v_pwr.warn09, v_pwr.warn18, v_pwr.bor09, v_pwr.bor18, v_pwr.bor33, v_pwr.vddoBor, v_pwr.vddoOvr, v_pwr.supplyLow) =
    (t.pwr.warn33, t.pwr.warnAon, t.pwr.warn09, t.pwr.warn18, t.pwr.bor09, t.pwr.bor18, t.pwr.bor33, t.pwr.vddoBor, t.pwr.vddoOvr,
    t.pwr.supplyLow)) (h_boot : Covers 0x2000 m ∨ (v_pwr.booting, v_pwr.bootWait, v_pwr.bootDone, v_pwr.shut) = (t.pwr.booting,
    t.pwr.bootWait, t.pwr.bootDone, t.pwr.shut)) (h_pwr : Covers 0x4000 m ∨
    { v_pwr with pwrPend := 0, safePend := 0, resetHeld := 0, resetCause := 0, resetClass := 0, resetWaits := false, ctrl := 0, core := default, syn := default, outl := default, outh := default, upQueue := [], downQueue := [], coreOffByWrite := false, warn33 := false, warnAon := false, warn09 := false, warn18 := false, bor09 := false, bor18 := false, bor33 := false, vddoBor := default, vddoOvr := default, supplyLow := false, booting := false, bootWait := false, bootDone := false, shut := default }
    =
    { t.pwr with pwrPend := 0, safePend := 0, resetHeld := 0, resetCause := 0, resetClass := 0, resetWaits := false, ctrl := 0, core := default, syn := default, outl := default, outh := default, upQueue := [], downQueue := [], coreOffByWrite := false, warn33 := false, warnAon := false, warn09 := false, warn18 := false, bor09 := false, bor18 := false, bor33 := false, vddoBor := default, vddoOvr := default, supplyLow := false, booting := false, bootWait := false, bootDone := false, shut := default })
    :
    Within m s { t with pwr := v_pwr } ↔ Within m s t := by
  refine Within.over (m := m) (fun p hn => ?_) (Nat.and_self m)
  cases p <;> first
    | rfl
    | exact h_pend.elim (fun h => absurd (Part.outside h hn) (by decide)) id
    | exact h_hold.elim (fun h => absurd (Part.outside h hn) (by decide)) id
    | exact h_domains.elim (fun h => absurd (Part.outside h hn) (by decide)) id
    | exact h_rails.elim (fun h => absurd (Part.outside h hn) (by decide)) id
    | exact h_boot.elim (fun h => absurd (Part.outside h hn) (by decide)) id
    | exact h_pwr.elim (fun h => absurd (Part.outside h hn) (by decide)) id

@[simp, simp ↓] theorem Within.mode {m : Nat} {s t : State} {v_mode : ModeUnit} (h_hist : Covers 0x8000 m ∨ v_mode.hist = t.mode.hist)
    (h_mode : Covers 0x10000 m ∨ { v_mode with hist := [] } = { t.mode with hist := [] }) :
    Within m s { t with mode := v_mode } ↔ Within m s t := by
  refine Within.over (m := m) (fun p hn => ?_) (Nat.and_self m)
  cases p <;> first
    | rfl
    | exact h_hist.elim (fun h => absurd (Part.outside h hn) (by decide)) id
    | exact h_mode.elim (fun h => absurd (Part.outside h hn) (by decide)) id

@[simp, simp ↓] theorem Within.srcs {m : Nat} {s t : State} {v_srcs : Vector Source 12} (h : Covers 0x20000 m) :
    Within m s { t with srcs := v_srcs } ↔ Within m s t := by
  refine Within.over (m := m) (fun p hn => ?_) (Nat.and_self m)
  cases p <;> first
    | rfl
    | exact absurd (Part.outside h hn) (by decide)

@[simp, simp ↓] theorem Within.dplls {m : Nat} {s t : State} {v_dplls : Vector Dpll 4} (h : Covers 0x40000 m) :
    Within m s { t with dplls := v_dplls } ↔ Within m s t := by
  refine Within.over (m := m) (fun p hn => ?_) (Nat.and_self m)
  cases p <;> first
    | rfl
    | exact absurd (Part.outside h hn) (by decide)

@[simp, simp ↓] theorem Within.hos {m : Nat} {s t : State} {v_hos : Vector Holdover 4} (h : Covers 0x80000 m) :
    Within m s { t with hos := v_hos } ↔ Within m s t := by
  refine Within.over (m := m) (fun p hn => ?_) (Nat.and_self m)
  cases p <;> first
    | rfl
    | exact absurd (Part.outside h hn) (by decide)

@[simp, simp ↓] theorem Within.model {m : Nat} {s t : State} {v_model : Model} (h : Covers 0x100000 m) :
    Within m s { t with model := v_model } ↔ Within m s t := by
  refine Within.over (m := m) (fun p hn => ?_) (Nat.and_self m)
  cases p <;> first
    | rfl
    | exact absurd (Part.outside h hn) (by decide)

@[simp, simp ↓] theorem Within.aplls {m : Nat} {s t : State} {v_aplls : Vector Apll 2} (h : Covers 0x200000 m) :
    Within m s { t with aplls := v_aplls } ↔ Within m s t := by
  refine Within.over (m := m) (fun p hn => ?_) (Nat.and_self m)
  cases p <;> first
    | rfl
    | exact absurd (Part.outside h hn) (by decide)

@[simp, simp ↓] theorem Within.spll {m : Nat} {s t : State} {v_spll : Spll} (h : Covers 0x400000 m) :
    Within m s { t with spll := v_spll } ↔ Within m s t := by
  refine Within.over (m := m) (fun p hn => ?_) (Nat.and_self m)
  cases p <;> first
    | rfl
    | exact absurd (Part.outside h hn) (by decide)

@[simp, simp ↓] theorem Within.outs {m : Nat} {s t : State} {v_outs : Vector Output 24} (h : Covers 0x800000 m) :
    Within m s { t with outs := v_outs } ↔ Within m s t := by
  refine Within.over (m := m) (fun p hn => ?_) (Nat.and_self m)
  cases p <;> first
    | rfl
    | exact absurd (Part.outside h hn) (by decide)

@[simp, simp ↓] theorem Within.fods {m : Nat} {s t : State} {v_fods : Vector Fod 8} (h : Covers 0x1000000 m) :
    Within m s { t with fods := v_fods } ↔ Within m s t := by
  refine Within.over (m := m) (fun p hn => ?_) (Nat.and_self m)
  cases p <;> first
    | rfl
    | exact absurd (Part.outside h hn) (by decide)

@[simp, simp ↓] theorem Within.lockPin {m : Nat} {s t : State} {v_lockPin : Bool} (h : Covers 0x2000000 m) :
    Within m s { t with lockPin := v_lockPin } ↔ Within m s t := by
  refine Within.over (m := m) (fun p hn => ?_) (Nat.and_self m)
  cases p <;> first
    | rfl
    | exact absurd (Part.outside h hn) (by decide)

@[simp, simp ↓] theorem Within.lastJump {m : Nat} {s t : State} {v_lastJump : Option Nat} (h : Covers 0x4000000 m) :
    Within m s { t with lastJump := v_lastJump } ↔ Within m s t := by
  refine Within.over (m := m) (fun p hn => ?_) (Nat.and_self m)
  cases p <;> first
    | rfl
    | exact absurd (Part.outside h hn) (by decide)

@[simp, simp ↓] theorem Within.ports {m : Nat} {s t : State} {v_ports : Vector LacePort 4} (h : Covers 0x8000000 m) :
    Within m s { t with ports := v_ports } ↔ Within m s t := by
  refine Within.over (m := m) (fun p hn => ?_) (Nat.and_self m)
  cases p <;> first
    | rfl
    | exact absurd (Part.outside h hn) (by decide)

@[simp, simp ↓] theorem Within.lace {m : Nat} {s t : State} {v_lace : LaceDev} (h : Covers 0x10000000 m) :
    Within m s { t with lace := v_lace } ↔ Within m s t := by
  refine Within.over (m := m) (fun p hn => ?_) (Nat.and_self m)
  cases p <;> first
    | rfl
    | exact absurd (Part.outside h hn) (by decide)

@[simp, simp ↓] theorem Within.safe {m : Nat} {s t : State} {v_safe : Safety} (h_params : Covers 0x20000000 m ∨ (v_safe.par, v_safe.stg,
    v_safe.confirmed, v_safe.hasPar) = (t.safe.par, t.safe.stg, t.safe.confirmed, t.safe.hasPar)) (h_chanP : Covers 0x40000000 m ∨ v_safe.p
    = t.safe.p) (h_chanH : Covers 0x80000000 m ∨ v_safe.h = t.safe.h) (h_near : Covers 0x100000000 m ∨ v_safe.nearFrom = t.safe.nearFrom)
    (h_safe : Covers 0x200000000 m ∨
    { v_safe with par := [], stg := [], confirmed := none, hasPar := false, p := default, h := default, nearFrom := none } =
    { t.safe with par := [], stg := [], confirmed := none, hasPar := false, p := default, h := default, nearFrom := none }) :
    Within m s { t with safe := v_safe } ↔ Within m s t := by
  refine Within.over (m := m) (fun p hn => ?_) (Nat.and_self m)
  cases p <;> first
    | rfl
    | exact h_params.elim (fun h => absurd (Part.outside h hn) (by decide)) id
    | exact h_chanP.elim (fun h => absurd (Part.outside h hn) (by decide)) id
    | exact h_chanH.elim (fun h => absurd (Part.outside h hn) (by decide)) id
    | exact h_near.elim (fun h => absurd (Part.outside h hn) (by decide)) id
    | exact h_safe.elim (fun h => absurd (Part.outside h hn) (by decide)) id

@[simp, simp ↓] theorem Within.hb {m : Nat} {s t : State} {v_hb : HostPort} (h : Covers 0x400000000 m) :
    Within m s { t with hb := v_hb } ↔ Within m s t := by
  refine Within.over (m := m) (fun p hn => ?_) (Nat.and_self m)
  cases p <;> first
    | rfl
    | exact absurd (Part.outside h hn) (by decide)

@[simp, simp ↓] theorem Within.mp {m : Nat} {s t : State} {v_mp : HostPort} (h : Covers 0x800000000 m) :
    Within m s { t with mp := v_mp } ↔ Within m s t := by
  refine Within.over (m := m) (fun p hn => ?_) (Nat.and_self m)
  cases p <;> first
    | rfl
    | exact absurd (Part.outside h hn) (by decide)

@[simp, simp ↓] theorem Within.prioMp {m : Nat} {s t : State} {v_prioMp : Bool} (h : Covers 0x1000000000 m) :
    Within m s { t with prioMp := v_prioMp } ↔ Within m s t := by
  refine Within.over (m := m) (fun p hn => ?_) (Nat.and_self m)
  cases p <;> first
    | rfl
    | exact absurd (Part.outside h hn) (by decide)

@[simp, simp ↓] theorem Within.conflicts {m : Nat} {s t : State} {v_conflicts : List Conflict} (h : Covers 0x2000000000 m) :
    Within m s { t with conflicts := v_conflicts } ↔ Within m s t := by
  refine Within.over (m := m) (fun p hn => ?_) (Nat.and_self m)
  cases p <;> first
    | rfl
    | exact absurd (Part.outside h hn) (by decide)

@[simp, simp ↓] theorem Within.wrote {m : Nat} {s t : State} {v_wrote : Option Wrote} (h : Covers 0x4000000000 m) :
    Within m s { t with wrote := v_wrote } ↔ Within m s t := by
  refine Within.over (m := m) (fun p hn => ?_) (Nat.and_self m)
  cases p <;> first
    | rfl
    | exact absurd (Part.outside h hn) (by decide)

@[simp, simp ↓] theorem Within.conflictCnt {m : Nat} {s t : State} {v_conflictCnt : Nat} (h : Covers 0x8000000000 m) :
    Within m s { t with conflictCnt := v_conflictCnt } ↔ Within m s t := by
  refine Within.over (m := m) (fun p hn => ?_) (Nat.and_self m)
  cases p <;> first
    | rfl
    | exact absurd (Part.outside h hn) (by decide)

@[simp, simp ↓] theorem Within.echoes {m : Nat} {s t : State} {v_echoes : List Echo} (h : Covers 0x10000000000 m) :
    Within m s { t with echoes := v_echoes } ↔ Within m s t := by
  refine Within.over (m := m) (fun p hn => ?_) (Nat.and_self m)
  cases p <;> first
    | rfl
    | exact absurd (Part.outside h hn) (by decide)

@[simp, simp ↓] theorem Within.echoSeq {m : Nat} {s t : State} {v_echoSeq : Nat} (h : Covers 0x20000000000 m) :
    Within m s { t with echoSeq := v_echoSeq } ↔ Within m s t := by
  refine Within.over (m := m) (fun p hn => ?_) (Nat.and_self m)
  cases p <;> first
    | rfl
    | exact absurd (Part.outside h hn) (by decide)

@[simp, simp ↓] theorem Within.txn {m : Nat} {s t : State} {v_txn : Txn} (h : Covers 0x40000000000 m) :
    Within m s { t with txn := v_txn } ↔ Within m s t := by
  refine Within.over (m := m) (fun p hn => ?_) (Nat.and_self m)
  cases p <;> first
    | rfl
    | exact absurd (Part.outside h hn) (by decide)

@[simp, simp ↓] theorem Within.opq {m : Nat} {s t : State} {v_opq : List LongOp} (h : Covers 0x80000000000 m) :
    Within m s { t with opq := v_opq } ↔ Within m s t := by
  refine Within.over (m := m) (fun p hn => ?_) (Nat.and_self m)
  cases p <;> first
    | rfl
    | exact absurd (Part.outside h hn) (by decide)

@[simp, simp ↓] theorem Within.oph {m : Nat} {s t : State} {v_oph : List LongOp} (h : Covers 0x100000000000 m) :
    Within m s { t with oph := v_oph } ↔ Within m s t := by
  refine Within.over (m := m) (fun p hn => ?_) (Nat.and_self m)
  cases p <;> first
    | rfl
    | exact absurd (Part.outside h hn) (by decide)

@[simp, simp ↓] theorem Within.ticket {m : Nat} {s t : State} {v_ticket : Nat} (h : Covers 0x200000000000 m) :
    Within m s { t with ticket := v_ticket } ↔ Within m s t := by
  refine Within.over (m := m) (fun p hn => ?_) (Nat.and_self m)
  cases p <;> first
    | rfl
    | exact absurd (Part.outside h hn) (by decide)

@[simp, simp ↓] theorem Within.evt {m : Nat} {s t : State} {v_evt : Events} (h_raised : Covers 0x400000000000 m ∨ v_evt.raised =
    t.evt.raised) (h_evt : Covers 0x800000000000 m ∨ { v_evt with raised := 0 } = { t.evt with raised := 0 }) :
    Within m s { t with evt := v_evt } ↔ Within m s t := by
  refine Within.over (m := m) (fun p hn => ?_) (Nat.and_self m)
  cases p <;> first
    | rfl
    | exact h_raised.elim (fun h => absurd (Part.outside h hn) (by decide)) id
    | exact h_evt.elim (fun h => absurd (Part.outside h hn) (by decide)) id

@[simp, simp ↓] theorem Within.cnts {m : Nat} {s t : State} {v_cnts : Vector Counter 16} (h : Covers 0x1000000000000 m) :
    Within m s { t with cnts := v_cnts } ↔ Within m s t := by
  refine Within.over (m := m) (fun p hn => ?_) (Nat.and_self m)
  cases p <;> first
    | rfl
    | exact absurd (Part.outside h hn) (by decide)

@[simp, simp ↓] theorem Within.cntCyc {m : Nat} {s t : State} {v_cntCyc : Vector CntCycle 16} (h : Covers 0x2000000000000 m) :
    Within m s { t with cntCyc := v_cntCyc } ↔ Within m s t := by
  refine Within.over (m := m) (fun p hn => ?_) (Nat.and_self m)
  cases p <;> first
    | rfl
    | exact absurd (Part.outside h hn) (by decide)

@[simp, simp ↓] theorem Within.log {m : Nat} {s t : State} {v_log : FaultLog} (h : Covers 0x4000000000000 m) :
    Within m s { t with log := v_log } ↔ Within m s t := by
  refine Within.over (m := m) (fun p hn => ?_) (Nat.and_self m)
  cases p <;> first
    | rfl
    | exact absurd (Part.outside h hn) (by decide)

@[simp, simp ↓] theorem Within.snap {m : Nat} {s t : State} {v_snap : Snapshot} (h : Covers 0x8000000000000 m) :
    Within m s { t with snap := v_snap } ↔ Within m s t := by
  refine Within.over (m := m) (fun p hn => ?_) (Nat.and_self m)
  cases p <;> first
    | rfl
    | exact absurd (Part.outside h hn) (by decide)

@[simp, simp ↓] theorem Within.nvm {m : Nat} {s t : State} {v_nvm : Nvm} (h_nvm : Covers 0x10000000000000 m ∨ v_nvm.mem = t.nvm.mem)
    (h_nvmBusy : Covers 0x20000000000000 m ∨ v_nvm.busy = t.nvm.busy) :
    Within m s { t with nvm := v_nvm } ↔ Within m s t := by
  refine Within.over (m := m) (fun p hn => ?_) (Nat.and_self m)
  cases p <;> first
    | rfl
    | exact h_nvm.elim (fun h => absurd (Part.outside h hn) (by decide)) id
    | exact h_nvmBusy.elim (fun h => absurd (Part.outside h hn) (by decide)) id

@[simp, simp ↓] theorem Within.otp {m : Nat} {s t : State} {v_otp : Otp} (h : Covers 0x40000000000000 m) :
    Within m s { t with otp := v_otp } ↔ Within m s t := by
  refine Within.over (m := m) (fun p hn => ?_) (Nat.and_self m)
  cases p <;> first
    | rfl
    | exact absurd (Part.outside h hn) (by decide)

@[simp, simp ↓] theorem Within.sec {m : Nat} {s t : State} {v_sec : Security} (h_lastAccess : Covers 0x80000000000000 m ∨ v_sec.lastAccess =
    t.sec.lastAccess) (h_session : Covers 0x100000000000000 m ∨ v_sec.session = t.sec.session) (h_sec : Covers 0x200000000000000 m ∨
    { v_sec with lastAccess := 0, session := none } = { t.sec with lastAccess := 0, session := none }) :
    Within m s { t with sec := v_sec } ↔ Within m s t := by
  refine Within.over (m := m) (fun p hn => ?_) (Nat.and_self m)
  cases p <;> first
    | rfl
    | exact h_lastAccess.elim (fun h => absurd (Part.outside h hn) (by decide)) id
    | exact h_session.elim (fun h => absurd (Part.outside h hn) (by decide)) id
    | exact h_sec.elim (fun h => absurd (Part.outside h hn) (by decide)) id

@[simp, simp ↓] theorem Within.tap {m : Nat} {s t : State} {v_tap : Tap} (h : Covers 0x400000000000000 m) :
    Within m s { t with tap := v_tap } ↔ Within m s t := by
  refine Within.over (m := m) (fun p hn => ?_) (Nat.and_self m)
  cases p <;> first
    | rfl
    | exact absurd (Part.outside h hn) (by decide)

@[simp, simp ↓] theorem Within.cfg {m : Nat} {s t : State} {v_cfg : CfgStore} (h_active : Covers 0x800000000000000 m ∨ v_cfg.active =
    t.cfg.active) (h_intern : Covers 0x1000000000000000 m ∨ v_cfg.intern = t.cfg.intern) (h_before : Covers 0x2000000000000000 m ∨
    (v_cfg.before, v_cfg.beforeAt) = (t.cfg.before, t.cfg.beforeAt)) :
    Within m s { t with cfg := v_cfg } ↔ Within m s t := by
  refine Within.over (m := m) (fun p hn => ?_) (Nat.and_self m)
  cases p <;> first
    | rfl
    | exact h_active.elim (fun h => absurd (Part.outside h hn) (by decide)) id
    | exact h_intern.elim (fun h => absurd (Part.outside h hn) (by decide)) id
    | exact h_before.elim (fun h => absurd (Part.outside h hn) (by decide)) id

@[simp, simp ↓] theorem Within.opers {m : Nat} {s t : State} {v_opers : OperTable} (h : Covers 0x4000000000000000 m) :
    Within m s { t with opers := v_opers } ↔ Within m s t := by
  refine Within.over (m := m) (fun p hn => ?_) (Nat.and_self m)
  cases p <;> first
    | rfl
    | exact absurd (Part.outside h hn) (by decide)

@[simp, simp ↓] theorem Within.undo {m : Nat} {s t : State} {v_undo : Option Undo} (h : Covers 0x8000000000000000 m) :
    Within m s { t with undo := v_undo } ↔ Within m s t := by
  refine Within.over (m := m) (fun p hn => ?_) (Nat.and_self m)
  cases p <;> first
    | rfl
    | exact absurd (Part.outside h hn) (by decide)

@[simp, simp ↓] theorem Within.draws {m : Nat} {s t : State} {v_draws : Nat} (h : Covers 0x10000000000000000 m) :
    Within m s { t with draws := v_draws } ↔ Within m s t := by
  refine Within.over (m := m) (fun p hn => ?_) (Nat.and_self m)
  cases p <;> first
    | rfl
    | exact absurd (Part.outside h hn) (by decide)

@[simp, simp ↓] theorem Within.pending {m : Nat} {s t : State} {v_pending : List Instr} (h : Covers 0x20000000000000000 m) :
    Within m s { t with pending := v_pending } ↔ Within m s t := by
  refine Within.over (m := m) (fun p hn => ?_) (Nat.and_self m)
  cases p <;> first
    | rfl
    | exact absurd (Part.outside h hn) (by decide)

@[simp, simp ↓] theorem Within.aplls_outs {m : Nat} {s t : State} {v_aplls : Vector Apll 2} {v_outs : Vector Output 24} (h : Covers 0xa00000
    m) :
    Within m s { t with aplls := v_aplls, outs := v_outs } ↔ Within m s t := by
  refine Within.over (m := m) (fun p hn => ?_) (Nat.and_self m)
  cases p <;> first
    | rfl
    | exact absurd (Part.outside h hn) (by decide)

@[simp, simp ↓] theorem Within.aplls_spll {m : Nat} {s t : State} {v_aplls : Vector Apll 2} {v_spll : Spll} (h : Covers 0x600000 m) :
    Within m s { t with aplls := v_aplls, spll := v_spll } ↔ Within m s t := by
  refine Within.over (m := m) (fun p hn => ?_) (Nat.and_self m)
  cases p <;> first
    | rfl
    | exact absurd (Part.outside h hn) (by decide)

@[simp, simp ↓] theorem Within.conflicts_conflictCnt {m : Nat} {s t : State} {v_conflicts : List Conflict} {v_conflictCnt : Nat} (h : Covers
    0xa000000000 m) :
    Within m s { t with conflicts := v_conflicts, conflictCnt := v_conflictCnt } ↔ Within m s t := by
  refine Within.over (m := m) (fun p hn => ?_) (Nat.and_self m)
  cases p <;> first
    | rfl
    | exact absurd (Part.outside h hn) (by decide)

@[simp, simp ↓] theorem Within.dplls_hos_model {m : Nat} {s t : State} {v_dplls : Vector Dpll 4} {v_hos : Vector Holdover 4}
    {v_model : Model} (h : Covers 0x1c0000 m) :
    Within m s { t with dplls := v_dplls, hos := v_hos, model := v_model } ↔ Within m s t := by
  refine Within.over (m := m) (fun p hn => ?_) (Nat.and_self m)
  cases p <;> first
    | rfl
    | exact absurd (Part.outside h hn) (by decide)

@[simp, simp ↓] theorem Within.echoes_echoSeq {m : Nat} {s t : State} {v_echoes : List Echo} {v_echoSeq : Nat} (h : Covers 0x30000000000 m)
    :
    Within m s { t with echoes := v_echoes, echoSeq := v_echoSeq } ↔ Within m s t := by
  refine Within.over (m := m) (fun p hn => ?_) (Nat.and_self m)
  cases p <;> first
    | rfl
    | exact absurd (Part.outside h hn) (by decide)

@[simp, simp ↓] theorem Within.eyes_wins_gates_tios {m : Nat} {s t : State} {v_eyes : Vector Eyelet 32} {v_wins : Vector Window 8}
    {v_gates : Vector Bool 8} {v_tios : Vector TioPin 16} (h : Covers 0x1e0 m) :
    Within m s { t with eyes := v_eyes, wins := v_wins, gates := v_gates, tios := v_tios } ↔ Within m s t := by
  refine Within.over (m := m) (fun p hn => ?_) (Nat.and_self m)
  cases p <;> first
    | rfl
    | exact absurd (Part.outside h hn) (by decide)

@[simp, simp ↓] theorem Within.hb_mp {m : Nat} {s t : State} {v_hb : HostPort} {v_mp : HostPort} (h : Covers 0xc00000000 m) :
    Within m s { t with hb := v_hb, mp := v_mp } ↔ Within m s t := by
  refine Within.over (m := m) (fun p hn => ?_) (Nat.and_self m)
  cases p <;> first
    | rfl
    | exact absurd (Part.outside h hn) (by decide)

@[simp, simp ↓] theorem Within.opq_oph {m : Nat} {s t : State} {v_opq : List LongOp} {v_oph : List LongOp} (h : Covers 0x180000000000 m) :
    Within m s { t with opq := v_opq, oph := v_oph } ↔ Within m s t := by
  refine Within.over (m := m) (fun p hn => ?_) (Nat.and_self m)
  cases p <;> first
    | rfl
    | exact absurd (Part.outside h hn) (by decide)

@[simp, simp ↓] theorem Within.opq_ticket {m : Nat} {s t : State} {v_opq : List LongOp} {v_ticket : Nat} (h : Covers 0x280000000000 m) :
    Within m s { t with opq := v_opq, ticket := v_ticket } ↔ Within m s t := by
  refine Within.over (m := m) (fun p hn => ?_) (Nat.and_self m)
  cases p <;> first
    | rfl
    | exact absurd (Part.outside h hn) (by decide)

@[simp, simp ↓] theorem Within.outs_fods {m : Nat} {s t : State} {v_outs : Vector Output 24} {v_fods : Vector Fod 8} (h : Covers 0x1800000
    m) :
    Within m s { t with outs := v_outs, fods := v_fods } ↔ Within m s t := by
  refine Within.over (m := m) (fun p hn => ?_) (Nat.and_self m)
  cases p <;> first
    | rfl
    | exact absurd (Part.outside h hn) (by decide)

@[simp, simp ↓] theorem Within.ports_lace {m : Nat} {s t : State} {v_ports : Vector LacePort 4} {v_lace : LaceDev} (h : Covers 0x18000000 m)
    :
    Within m s { t with ports := v_ports, lace := v_lace } ↔ Within m s t := by
  refine Within.over (m := m) (fun p hn => ?_) (Nat.and_self m)
  cases p <;> first
    | rfl
    | exact absurd (Part.outside h hn) (by decide)

@[simp, simp ↓] theorem Within.pwr_log_nvm_etc6 {m : Nat} {s t : State} {v_pwr : PowerUnit} {v_log : FaultLog} {v_nvm : Nvm} {v_otp : Otp}
    {v_draws : Nat} {v_pending : List Instr} (h : Covers 0x30044000000000000 m) (h_pend : Covers 0x200 m ∨ (v_pwr.pwrPend, v_pwr.safePend) =
    (t.pwr.pwrPend, t.pwr.safePend)) (h_hold : Covers 0x400 m ∨ (v_pwr.resetHeld, v_pwr.resetCause, v_pwr.resetClass, v_pwr.resetWaits) =
    (t.pwr.resetHeld, t.pwr.resetCause, t.pwr.resetClass, t.pwr.resetWaits)) (h_domains : Covers 0x800 m ∨ (v_pwr.ctrl, v_pwr.core,
    v_pwr.syn, v_pwr.outl, v_pwr.outh, v_pwr.upQueue, v_pwr.downQueue, v_pwr.coreOffByWrite) = (t.pwr.ctrl, t.pwr.core, t.pwr.syn,
    t.pwr.outl, t.pwr.outh, t.pwr.upQueue, t.pwr.downQueue, t.pwr.coreOffByWrite)) (h_rails : Covers 0x1000 m ∨ (v_pwr.warn33,
    v_pwr.warnAon, v_pwr.warn09, v_pwr.warn18, v_pwr.bor09, v_pwr.bor18, v_pwr.bor33, v_pwr.vddoBor, v_pwr.vddoOvr, v_pwr.supplyLow) =
    (t.pwr.warn33, t.pwr.warnAon, t.pwr.warn09, t.pwr.warn18, t.pwr.bor09, t.pwr.bor18, t.pwr.bor33, t.pwr.vddoBor, t.pwr.vddoOvr,
    t.pwr.supplyLow)) (h_boot : Covers 0x2000 m ∨ (v_pwr.booting, v_pwr.bootWait, v_pwr.bootDone, v_pwr.shut) = (t.pwr.booting,
    t.pwr.bootWait, t.pwr.bootDone, t.pwr.shut)) (h_pwr : Covers 0x4000 m ∨
    { v_pwr with pwrPend := 0, safePend := 0, resetHeld := 0, resetCause := 0, resetClass := 0, resetWaits := false, ctrl := 0, core := default, syn := default, outl := default, outh := default, upQueue := [], downQueue := [], coreOffByWrite := false, warn33 := false, warnAon := false, warn09 := false, warn18 := false, bor09 := false, bor18 := false, bor33 := false, vddoBor := default, vddoOvr := default, supplyLow := false, booting := false, bootWait := false, bootDone := false, shut := default }
    =
    { t.pwr with pwrPend := 0, safePend := 0, resetHeld := 0, resetCause := 0, resetClass := 0, resetWaits := false, ctrl := 0, core := default, syn := default, outl := default, outh := default, upQueue := [], downQueue := [], coreOffByWrite := false, warn33 := false, warnAon := false, warn09 := false, warn18 := false, bor09 := false, bor18 := false, bor33 := false, vddoBor := default, vddoOvr := default, supplyLow := false, booting := false, bootWait := false, bootDone := false, shut := default })
    (h_nvm : Covers 0x10000000000000 m ∨ v_nvm.mem = t.nvm.mem) (h_nvmBusy : Covers 0x20000000000000 m ∨ v_nvm.busy = t.nvm.busy) :
    Within m s { t with pwr := v_pwr, log := v_log, nvm := v_nvm, otp := v_otp, draws := v_draws, pending := v_pending } ↔ Within m s t :=
        by
  refine Within.over (m := m) (fun p hn => ?_) (Nat.and_self m)
  cases p <;> first
    | rfl
    | exact absurd (Part.outside h hn) (by decide)
    | exact h_pend.elim (fun h => absurd (Part.outside h hn) (by decide)) id
    | exact h_hold.elim (fun h => absurd (Part.outside h hn) (by decide)) id
    | exact h_domains.elim (fun h => absurd (Part.outside h hn) (by decide)) id
    | exact h_rails.elim (fun h => absurd (Part.outside h hn) (by decide)) id
    | exact h_boot.elim (fun h => absurd (Part.outside h hn) (by decide)) id
    | exact h_pwr.elim (fun h => absurd (Part.outside h hn) (by decide)) id
    | exact h_nvm.elim (fun h => absurd (Part.outside h hn) (by decide)) id
    | exact h_nvmBusy.elim (fun h => absurd (Part.outside h hn) (by decide)) id

@[simp, simp ↓] theorem Within.pwr_mode_log_undo {m : Nat} {s t : State} {v_pwr : PowerUnit} {v_mode : ModeUnit} {v_log : FaultLog}
    {v_undo : Option Undo} (h : Covers 0x8004000000000000 m) (h_pend : Covers 0x200 m ∨ (v_pwr.pwrPend, v_pwr.safePend) = (t.pwr.pwrPend,
    t.pwr.safePend)) (h_hold : Covers 0x400 m ∨ (v_pwr.resetHeld, v_pwr.resetCause, v_pwr.resetClass, v_pwr.resetWaits) = (t.pwr.resetHeld,
    t.pwr.resetCause, t.pwr.resetClass, t.pwr.resetWaits)) (h_domains : Covers 0x800 m ∨ (v_pwr.ctrl, v_pwr.core, v_pwr.syn, v_pwr.outl,
    v_pwr.outh, v_pwr.upQueue, v_pwr.downQueue, v_pwr.coreOffByWrite) = (t.pwr.ctrl, t.pwr.core, t.pwr.syn, t.pwr.outl, t.pwr.outh,
    t.pwr.upQueue, t.pwr.downQueue, t.pwr.coreOffByWrite)) (h_rails : Covers 0x1000 m ∨ (v_pwr.warn33, v_pwr.warnAon, v_pwr.warn09,
    v_pwr.warn18, v_pwr.bor09, v_pwr.bor18, v_pwr.bor33, v_pwr.vddoBor, v_pwr.vddoOvr, v_pwr.supplyLow) = (t.pwr.warn33, t.pwr.warnAon,
    t.pwr.warn09, t.pwr.warn18, t.pwr.bor09, t.pwr.bor18, t.pwr.bor33, t.pwr.vddoBor, t.pwr.vddoOvr, t.pwr.supplyLow)) (h_boot : Covers
    0x2000 m ∨ (v_pwr.booting, v_pwr.bootWait, v_pwr.bootDone, v_pwr.shut) = (t.pwr.booting, t.pwr.bootWait, t.pwr.bootDone, t.pwr.shut))
    (h_pwr : Covers 0x4000 m ∨
    { v_pwr with pwrPend := 0, safePend := 0, resetHeld := 0, resetCause := 0, resetClass := 0, resetWaits := false, ctrl := 0, core := default, syn := default, outl := default, outh := default, upQueue := [], downQueue := [], coreOffByWrite := false, warn33 := false, warnAon := false, warn09 := false, warn18 := false, bor09 := false, bor18 := false, bor33 := false, vddoBor := default, vddoOvr := default, supplyLow := false, booting := false, bootWait := false, bootDone := false, shut := default }
    =
    { t.pwr with pwrPend := 0, safePend := 0, resetHeld := 0, resetCause := 0, resetClass := 0, resetWaits := false, ctrl := 0, core := default, syn := default, outl := default, outh := default, upQueue := [], downQueue := [], coreOffByWrite := false, warn33 := false, warnAon := false, warn09 := false, warn18 := false, bor09 := false, bor18 := false, bor33 := false, vddoBor := default, vddoOvr := default, supplyLow := false, booting := false, bootWait := false, bootDone := false, shut := default })
    (h_hist : Covers 0x8000 m ∨ v_mode.hist = t.mode.hist) (h_mode : Covers 0x10000 m ∨ { v_mode with hist := [] } =
    { t.mode with hist := [] }) :
    Within m s { t with pwr := v_pwr, mode := v_mode, log := v_log, undo := v_undo } ↔ Within m s t := by
  refine Within.over (m := m) (fun p hn => ?_) (Nat.and_self m)
  cases p <;> first
    | rfl
    | exact absurd (Part.outside h hn) (by decide)
    | exact h_pend.elim (fun h => absurd (Part.outside h hn) (by decide)) id
    | exact h_hold.elim (fun h => absurd (Part.outside h hn) (by decide)) id
    | exact h_domains.elim (fun h => absurd (Part.outside h hn) (by decide)) id
    | exact h_rails.elim (fun h => absurd (Part.outside h hn) (by decide)) id
    | exact h_boot.elim (fun h => absurd (Part.outside h hn) (by decide)) id
    | exact h_pwr.elim (fun h => absurd (Part.outside h hn) (by decide)) id
    | exact h_hist.elim (fun h => absurd (Part.outside h hn) (by decide)) id
    | exact h_mode.elim (fun h => absurd (Part.outside h hn) (by decide)) id

@[simp, simp ↓] theorem Within.pwr_mode_srcs_spll {m : Nat} {s t : State} {v_pwr : PowerUnit} {v_mode : ModeUnit}
    {v_srcs : Vector Source 12} {v_spll : Spll} (h : Covers 0x420000 m) (h_pend : Covers 0x200 m ∨ (v_pwr.pwrPend, v_pwr.safePend) =
    (t.pwr.pwrPend, t.pwr.safePend)) (h_hold : Covers 0x400 m ∨ (v_pwr.resetHeld, v_pwr.resetCause, v_pwr.resetClass, v_pwr.resetWaits) =
    (t.pwr.resetHeld, t.pwr.resetCause, t.pwr.resetClass, t.pwr.resetWaits)) (h_domains : Covers 0x800 m ∨ (v_pwr.ctrl, v_pwr.core,
    v_pwr.syn, v_pwr.outl, v_pwr.outh, v_pwr.upQueue, v_pwr.downQueue, v_pwr.coreOffByWrite) = (t.pwr.ctrl, t.pwr.core, t.pwr.syn,
    t.pwr.outl, t.pwr.outh, t.pwr.upQueue, t.pwr.downQueue, t.pwr.coreOffByWrite)) (h_rails : Covers 0x1000 m ∨ (v_pwr.warn33,
    v_pwr.warnAon, v_pwr.warn09, v_pwr.warn18, v_pwr.bor09, v_pwr.bor18, v_pwr.bor33, v_pwr.vddoBor, v_pwr.vddoOvr, v_pwr.supplyLow) =
    (t.pwr.warn33, t.pwr.warnAon, t.pwr.warn09, t.pwr.warn18, t.pwr.bor09, t.pwr.bor18, t.pwr.bor33, t.pwr.vddoBor, t.pwr.vddoOvr,
    t.pwr.supplyLow)) (h_boot : Covers 0x2000 m ∨ (v_pwr.booting, v_pwr.bootWait, v_pwr.bootDone, v_pwr.shut) = (t.pwr.booting,
    t.pwr.bootWait, t.pwr.bootDone, t.pwr.shut)) (h_pwr : Covers 0x4000 m ∨
    { v_pwr with pwrPend := 0, safePend := 0, resetHeld := 0, resetCause := 0, resetClass := 0, resetWaits := false, ctrl := 0, core := default, syn := default, outl := default, outh := default, upQueue := [], downQueue := [], coreOffByWrite := false, warn33 := false, warnAon := false, warn09 := false, warn18 := false, bor09 := false, bor18 := false, bor33 := false, vddoBor := default, vddoOvr := default, supplyLow := false, booting := false, bootWait := false, bootDone := false, shut := default }
    =
    { t.pwr with pwrPend := 0, safePend := 0, resetHeld := 0, resetCause := 0, resetClass := 0, resetWaits := false, ctrl := 0, core := default, syn := default, outl := default, outh := default, upQueue := [], downQueue := [], coreOffByWrite := false, warn33 := false, warnAon := false, warn09 := false, warn18 := false, bor09 := false, bor18 := false, bor33 := false, vddoBor := default, vddoOvr := default, supplyLow := false, booting := false, bootWait := false, bootDone := false, shut := default })
    (h_hist : Covers 0x8000 m ∨ v_mode.hist = t.mode.hist) (h_mode : Covers 0x10000 m ∨ { v_mode with hist := [] } =
    { t.mode with hist := [] }) :
    Within m s { t with pwr := v_pwr, mode := v_mode, srcs := v_srcs, spll := v_spll } ↔ Within m s t := by
  refine Within.over (m := m) (fun p hn => ?_) (Nat.and_self m)
  cases p <;> first
    | rfl
    | exact absurd (Part.outside h hn) (by decide)
    | exact h_pend.elim (fun h => absurd (Part.outside h hn) (by decide)) id
    | exact h_hold.elim (fun h => absurd (Part.outside h hn) (by decide)) id
    | exact h_domains.elim (fun h => absurd (Part.outside h hn) (by decide)) id
    | exact h_rails.elim (fun h => absurd (Part.outside h hn) (by decide)) id
    | exact h_boot.elim (fun h => absurd (Part.outside h hn) (by decide)) id
    | exact h_pwr.elim (fun h => absurd (Part.outside h hn) (by decide)) id
    | exact h_hist.elim (fun h => absurd (Part.outside h hn) (by decide)) id
    | exact h_mode.elim (fun h => absurd (Part.outside h hn) (by decide)) id

@[simp, simp ↓] theorem Within.srcs_dplls {m : Nat} {s t : State} {v_srcs : Vector Source 12} {v_dplls : Vector Dpll 4} (h : Covers 0x60000
    m) :
    Within m s { t with srcs := v_srcs, dplls := v_dplls } ↔ Within m s t := by
  refine Within.over (m := m) (fun p hn => ?_) (Nat.and_self m)
  cases p <;> first
    | rfl
    | exact absurd (Part.outside h hn) (by decide)

@[simp, simp ↓] theorem Within.time_pwr_mode_etc14 {m : Nat} {s t : State} {v_time : TimeUnit} {v_pwr : PowerUnit} {v_mode : ModeUnit}
    {v_model : Model} {v_spll : Spll} {v_lace : LaceDev} {v_safe : Safety} {v_log : FaultLog} {v_nvm : Nvm} {v_otp : Otp} {v_sec : Security}
    {v_tap : Tap} {v_draws : Nat} {v_pending : List Instr} (h : Covers 0x30444000010500000 m) (h_bench : Covers 0x2 m ∨ v_time.bench =
    t.time.bench) (h_inc : Covers 0x4 m ∨ v_time.inc = t.time.inc) (h_tick : Covers 0x8 m ∨ (v_time.period, v_time.running, v_time.phase,
    v_time.tickEdge, v_time.tickSeq) = (t.time.period, t.time.running, t.time.phase, t.time.tickEdge, t.time.tickSeq)) (h_time : Covers 0x10
    m ∨ { v_time with bench := 0, inc := 0, period := 0, running := false, phase := default, tickEdge := 0, tickSeq := 0 } =
    { t.time with bench := 0, inc := 0, period := 0, running := false, phase := default, tickEdge := 0, tickSeq := 0 }) (h_pend : Covers
    0x200 m ∨ (v_pwr.pwrPend, v_pwr.safePend) = (t.pwr.pwrPend, t.pwr.safePend)) (h_hold : Covers 0x400 m ∨ (v_pwr.resetHeld,
    v_pwr.resetCause, v_pwr.resetClass, v_pwr.resetWaits) = (t.pwr.resetHeld, t.pwr.resetCause, t.pwr.resetClass, t.pwr.resetWaits))
    (h_domains : Covers 0x800 m ∨ (v_pwr.ctrl, v_pwr.core, v_pwr.syn, v_pwr.outl, v_pwr.outh, v_pwr.upQueue, v_pwr.downQueue,
    v_pwr.coreOffByWrite) = (t.pwr.ctrl, t.pwr.core, t.pwr.syn, t.pwr.outl, t.pwr.outh, t.pwr.upQueue, t.pwr.downQueue,
    t.pwr.coreOffByWrite)) (h_rails : Covers 0x1000 m ∨ (v_pwr.warn33, v_pwr.warnAon, v_pwr.warn09, v_pwr.warn18, v_pwr.bor09, v_pwr.bor18,
    v_pwr.bor33, v_pwr.vddoBor, v_pwr.vddoOvr, v_pwr.supplyLow) = (t.pwr.warn33, t.pwr.warnAon, t.pwr.warn09, t.pwr.warn18, t.pwr.bor09,
    t.pwr.bor18, t.pwr.bor33, t.pwr.vddoBor, t.pwr.vddoOvr, t.pwr.supplyLow)) (h_boot : Covers 0x2000 m ∨ (v_pwr.booting, v_pwr.bootWait,
    v_pwr.bootDone, v_pwr.shut) = (t.pwr.booting, t.pwr.bootWait, t.pwr.bootDone, t.pwr.shut)) (h_pwr : Covers 0x4000 m ∨
    { v_pwr with pwrPend := 0, safePend := 0, resetHeld := 0, resetCause := 0, resetClass := 0, resetWaits := false, ctrl := 0, core := default, syn := default, outl := default, outh := default, upQueue := [], downQueue := [], coreOffByWrite := false, warn33 := false, warnAon := false, warn09 := false, warn18 := false, bor09 := false, bor18 := false, bor33 := false, vddoBor := default, vddoOvr := default, supplyLow := false, booting := false, bootWait := false, bootDone := false, shut := default }
    =
    { t.pwr with pwrPend := 0, safePend := 0, resetHeld := 0, resetCause := 0, resetClass := 0, resetWaits := false, ctrl := 0, core := default, syn := default, outl := default, outh := default, upQueue := [], downQueue := [], coreOffByWrite := false, warn33 := false, warnAon := false, warn09 := false, warn18 := false, bor09 := false, bor18 := false, bor33 := false, vddoBor := default, vddoOvr := default, supplyLow := false, booting := false, bootWait := false, bootDone := false, shut := default })
    (h_hist : Covers 0x8000 m ∨ v_mode.hist = t.mode.hist) (h_mode : Covers 0x10000 m ∨ { v_mode with hist := [] } =
    { t.mode with hist := [] }) (h_params : Covers 0x20000000 m ∨ (v_safe.par, v_safe.stg, v_safe.confirmed, v_safe.hasPar) = (t.safe.par,
    t.safe.stg, t.safe.confirmed, t.safe.hasPar)) (h_chanP : Covers 0x40000000 m ∨ v_safe.p = t.safe.p) (h_chanH : Covers 0x80000000 m ∨
    v_safe.h = t.safe.h) (h_near : Covers 0x100000000 m ∨ v_safe.nearFrom = t.safe.nearFrom) (h_safe : Covers 0x200000000 m ∨
    { v_safe with par := [], stg := [], confirmed := none, hasPar := false, p := default, h := default, nearFrom := none } =
    { t.safe with par := [], stg := [], confirmed := none, hasPar := false, p := default, h := default, nearFrom := none }) (h_nvm : Covers
    0x10000000000000 m ∨ v_nvm.mem = t.nvm.mem) (h_nvmBusy : Covers 0x20000000000000 m ∨ v_nvm.busy = t.nvm.busy) (h_lastAccess : Covers
    0x80000000000000 m ∨ v_sec.lastAccess = t.sec.lastAccess) (h_session : Covers 0x100000000000000 m ∨ v_sec.session = t.sec.session)
    (h_sec : Covers 0x200000000000000 m ∨ { v_sec with lastAccess := 0, session := none } = { t.sec with lastAccess := 0, session := none })
    :
    Within m s
        { t with time := v_time, pwr := v_pwr, mode := v_mode, model := v_model, spll := v_spll, lace := v_lace, safe := v_safe, log := v_log, nvm := v_nvm, otp := v_otp, sec := v_sec, tap := v_tap, draws := v_draws, pending := v_pending }
        ↔ Within m s t := by
  refine Within.over (m := m) (fun p hn => ?_) (Nat.and_self m)
  cases p <;> first
    | rfl
    | exact absurd (Part.outside h hn) (by decide)
    | exact h_bench.elim (fun h => absurd (Part.outside h hn) (by decide)) id
    | exact h_inc.elim (fun h => absurd (Part.outside h hn) (by decide)) id
    | exact h_tick.elim (fun h => absurd (Part.outside h hn) (by decide)) id
    | exact h_time.elim (fun h => absurd (Part.outside h hn) (by decide)) id
    | exact h_pend.elim (fun h => absurd (Part.outside h hn) (by decide)) id
    | exact h_hold.elim (fun h => absurd (Part.outside h hn) (by decide)) id
    | exact h_domains.elim (fun h => absurd (Part.outside h hn) (by decide)) id
    | exact h_rails.elim (fun h => absurd (Part.outside h hn) (by decide)) id
    | exact h_boot.elim (fun h => absurd (Part.outside h hn) (by decide)) id
    | exact h_pwr.elim (fun h => absurd (Part.outside h hn) (by decide)) id
    | exact h_hist.elim (fun h => absurd (Part.outside h hn) (by decide)) id
    | exact h_mode.elim (fun h => absurd (Part.outside h hn) (by decide)) id
    | exact h_params.elim (fun h => absurd (Part.outside h hn) (by decide)) id
    | exact h_chanP.elim (fun h => absurd (Part.outside h hn) (by decide)) id
    | exact h_chanH.elim (fun h => absurd (Part.outside h hn) (by decide)) id
    | exact h_near.elim (fun h => absurd (Part.outside h hn) (by decide)) id
    | exact h_safe.elim (fun h => absurd (Part.outside h hn) (by decide)) id
    | exact h_nvm.elim (fun h => absurd (Part.outside h hn) (by decide)) id
    | exact h_nvmBusy.elim (fun h => absurd (Part.outside h hn) (by decide)) id
    | exact h_lastAccess.elim (fun h => absurd (Part.outside h hn) (by decide)) id
    | exact h_session.elim (fun h => absurd (Part.outside h hn) (by decide)) id
    | exact h_sec.elim (fun h => absurd (Part.outside h hn) (by decide)) id

@[simp, simp ↓] theorem Within.time_pwr_mode_etc12 {m : Nat} {s t : State} {v_time : TimeUnit} {v_pwr : PowerUnit} {v_mode : ModeUnit}
    {v_srcs : Vector Source 12} {v_lockPin : Bool} {v_lastJump : Option Nat} {v_echoes : List Echo} {v_evt : Events}
    {v_cnts : Vector Counter 16} {v_cntCyc : Vector CntCycle 16} {v_snap : Snapshot} {v_opers : OperTable} (h : Covers 0x400b010006020000 m)
    (h_bench : Covers 0x2 m ∨ v_time.bench = t.time.bench) (h_inc : Covers 0x4 m ∨ v_time.inc = t.time.inc) (h_tick : Covers 0x8 m ∨
    (v_time.period, v_time.running, v_time.phase, v_time.tickEdge, v_time.tickSeq) = (t.time.period, t.time.running, t.time.phase,
    t.time.tickEdge, t.time.tickSeq)) (h_time : Covers 0x10 m ∨
    { v_time with bench := 0, inc := 0, period := 0, running := false, phase := default, tickEdge := 0, tickSeq := 0 } =
    { t.time with bench := 0, inc := 0, period := 0, running := false, phase := default, tickEdge := 0, tickSeq := 0 }) (h_pend : Covers
    0x200 m ∨ (v_pwr.pwrPend, v_pwr.safePend) = (t.pwr.pwrPend, t.pwr.safePend)) (h_hold : Covers 0x400 m ∨ (v_pwr.resetHeld,
    v_pwr.resetCause, v_pwr.resetClass, v_pwr.resetWaits) = (t.pwr.resetHeld, t.pwr.resetCause, t.pwr.resetClass, t.pwr.resetWaits))
    (h_domains : Covers 0x800 m ∨ (v_pwr.ctrl, v_pwr.core, v_pwr.syn, v_pwr.outl, v_pwr.outh, v_pwr.upQueue, v_pwr.downQueue,
    v_pwr.coreOffByWrite) = (t.pwr.ctrl, t.pwr.core, t.pwr.syn, t.pwr.outl, t.pwr.outh, t.pwr.upQueue, t.pwr.downQueue,
    t.pwr.coreOffByWrite)) (h_rails : Covers 0x1000 m ∨ (v_pwr.warn33, v_pwr.warnAon, v_pwr.warn09, v_pwr.warn18, v_pwr.bor09, v_pwr.bor18,
    v_pwr.bor33, v_pwr.vddoBor, v_pwr.vddoOvr, v_pwr.supplyLow) = (t.pwr.warn33, t.pwr.warnAon, t.pwr.warn09, t.pwr.warn18, t.pwr.bor09,
    t.pwr.bor18, t.pwr.bor33, t.pwr.vddoBor, t.pwr.vddoOvr, t.pwr.supplyLow)) (h_boot : Covers 0x2000 m ∨ (v_pwr.booting, v_pwr.bootWait,
    v_pwr.bootDone, v_pwr.shut) = (t.pwr.booting, t.pwr.bootWait, t.pwr.bootDone, t.pwr.shut)) (h_pwr : Covers 0x4000 m ∨
    { v_pwr with pwrPend := 0, safePend := 0, resetHeld := 0, resetCause := 0, resetClass := 0, resetWaits := false, ctrl := 0, core := default, syn := default, outl := default, outh := default, upQueue := [], downQueue := [], coreOffByWrite := false, warn33 := false, warnAon := false, warn09 := false, warn18 := false, bor09 := false, bor18 := false, bor33 := false, vddoBor := default, vddoOvr := default, supplyLow := false, booting := false, bootWait := false, bootDone := false, shut := default }
    =
    { t.pwr with pwrPend := 0, safePend := 0, resetHeld := 0, resetCause := 0, resetClass := 0, resetWaits := false, ctrl := 0, core := default, syn := default, outl := default, outh := default, upQueue := [], downQueue := [], coreOffByWrite := false, warn33 := false, warnAon := false, warn09 := false, warn18 := false, bor09 := false, bor18 := false, bor33 := false, vddoBor := default, vddoOvr := default, supplyLow := false, booting := false, bootWait := false, bootDone := false, shut := default })
    (h_hist : Covers 0x8000 m ∨ v_mode.hist = t.mode.hist) (h_mode : Covers 0x10000 m ∨ { v_mode with hist := [] } =
    { t.mode with hist := [] }) (h_raised : Covers 0x400000000000 m ∨ v_evt.raised = t.evt.raised) (h_evt : Covers 0x800000000000 m ∨
    { v_evt with raised := 0 } = { t.evt with raised := 0 }) :
    Within m s
        { t with time := v_time, pwr := v_pwr, mode := v_mode, srcs := v_srcs, lockPin := v_lockPin, lastJump := v_lastJump, echoes := v_echoes, evt := v_evt, cnts := v_cnts, cntCyc := v_cntCyc, snap := v_snap, opers := v_opers }
        ↔ Within m s t := by
  refine Within.over (m := m) (fun p hn => ?_) (Nat.and_self m)
  cases p <;> first
    | rfl
    | exact absurd (Part.outside h hn) (by decide)
    | exact h_bench.elim (fun h => absurd (Part.outside h hn) (by decide)) id
    | exact h_inc.elim (fun h => absurd (Part.outside h hn) (by decide)) id
    | exact h_tick.elim (fun h => absurd (Part.outside h hn) (by decide)) id
    | exact h_time.elim (fun h => absurd (Part.outside h hn) (by decide)) id
    | exact h_pend.elim (fun h => absurd (Part.outside h hn) (by decide)) id
    | exact h_hold.elim (fun h => absurd (Part.outside h hn) (by decide)) id
    | exact h_domains.elim (fun h => absurd (Part.outside h hn) (by decide)) id
    | exact h_rails.elim (fun h => absurd (Part.outside h hn) (by decide)) id
    | exact h_boot.elim (fun h => absurd (Part.outside h hn) (by decide)) id
    | exact h_pwr.elim (fun h => absurd (Part.outside h hn) (by decide)) id
    | exact h_hist.elim (fun h => absurd (Part.outside h hn) (by decide)) id
    | exact h_mode.elim (fun h => absurd (Part.outside h hn) (by decide)) id
    | exact h_raised.elim (fun h => absurd (Part.outside h hn) (by decide)) id
    | exact h_evt.elim (fun h => absurd (Part.outside h hn) (by decide)) id

@[simp high, simp ↓ high] theorem Within.onMode {m : Nat} {s t : State} {f : ModeUnit → ModeUnit} (h_hist : Covers 0x8000 m ∨ ∀ x, (f
    x).hist = x.hist) (h_mode : Covers 0x10000 m ∨ ∀ x, { (f x) with hist := [] } = { x with hist := [] }) :
    Within m s (t.onMode f) ↔ Within m s t := Within.mode (h_hist.imp id fun h => h _) (h_mode.imp id fun h => h _)

@[simp high, simp ↓ high] theorem Within.onTime {m : Nat} {s t : State} {f : TimeUnit → TimeUnit} (h_bench : Covers 0x2 m ∨ ∀ x, (f x).bench
    = x.bench) (h_inc : Covers 0x4 m ∨ ∀ x, (f x).inc = x.inc) (h_tick : Covers 0x8 m ∨ ∀ x, ((f x).period, (f x).running, (f x).phase, (f
    x).tickEdge, (f x).tickSeq) = (x.period, x.running, x.phase, x.tickEdge, x.tickSeq)) (h_time : Covers 0x10 m ∨ ∀ x,
    { (f x) with bench := 0, inc := 0, period := 0, running := false, phase := default, tickEdge := 0, tickSeq := 0 } =
    { x with bench := 0, inc := 0, period := 0, running := false, phase := default, tickEdge := 0, tickSeq := 0 }) :
    Within m s (t.onTime f) ↔ Within m s t := Within.time (h_bench.imp id fun h => h _) (h_inc.imp id fun h => h _) (h_tick.imp id fun h =>
        h _) (h_time.imp id fun h => h _)

@[simp high, simp ↓ high] theorem Within.onPwr {m : Nat} {s t : State} {f : PowerUnit → PowerUnit} (h_pend : Covers 0x200 m ∨ ∀ x, ((f
    x).pwrPend, (f x).safePend) = (x.pwrPend, x.safePend)) (h_hold : Covers 0x400 m ∨ ∀ x, ((f x).resetHeld, (f x).resetCause, (f
    x).resetClass, (f x).resetWaits) = (x.resetHeld, x.resetCause, x.resetClass, x.resetWaits)) (h_domains : Covers 0x800 m ∨ ∀ x, ((f
    x).ctrl, (f x).core, (f x).syn, (f x).outl, (f x).outh, (f x).upQueue, (f x).downQueue, (f x).coreOffByWrite) = (x.ctrl, x.core, x.syn,
    x.outl, x.outh, x.upQueue, x.downQueue, x.coreOffByWrite)) (h_rails : Covers 0x1000 m ∨ ∀ x, ((f x).warn33, (f x).warnAon, (f x).warn09,
    (f x).warn18, (f x).bor09, (f x).bor18, (f x).bor33, (f x).vddoBor, (f x).vddoOvr, (f x).supplyLow) = (x.warn33, x.warnAon, x.warn09,
    x.warn18, x.bor09, x.bor18, x.bor33, x.vddoBor, x.vddoOvr, x.supplyLow)) (h_boot : Covers 0x2000 m ∨ ∀ x, ((f x).booting, (f
    x).bootWait, (f x).bootDone, (f x).shut) = (x.booting, x.bootWait, x.bootDone, x.shut)) (h_pwr : Covers 0x4000 m ∨ ∀ x,
    { (f x) with pwrPend := 0, safePend := 0, resetHeld := 0, resetCause := 0, resetClass := 0, resetWaits := false, ctrl := 0, core := default, syn := default, outl := default, outh := default, upQueue := [], downQueue := [], coreOffByWrite := false, warn33 := false, warnAon := false, warn09 := false, warn18 := false, bor09 := false, bor18 := false, bor33 := false, vddoBor := default, vddoOvr := default, supplyLow := false, booting := false, bootWait := false, bootDone := false, shut := default }
    =
    { x with pwrPend := 0, safePend := 0, resetHeld := 0, resetCause := 0, resetClass := 0, resetWaits := false, ctrl := 0, core := default, syn := default, outl := default, outh := default, upQueue := [], downQueue := [], coreOffByWrite := false, warn33 := false, warnAon := false, warn09 := false, warn18 := false, bor09 := false, bor18 := false, bor33 := false, vddoBor := default, vddoOvr := default, supplyLow := false, booting := false, bootWait := false, bootDone := false, shut := default })
    :
    Within m s (t.onPwr f) ↔ Within m s t := Within.pwr (h_pend.imp id fun h => h _) (h_hold.imp id fun h => h _) (h_domains.imp id fun h =>
        h _) (h_rails.imp id fun h => h _) (h_boot.imp id fun h => h _) (h_pwr.imp id fun h => h _)

@[simp high, simp ↓ high] theorem Within.onEvt {m : Nat} {s t : State} {f : Events → Events} (h_raised : Covers 0x400000000000 m ∨ ∀ x, (f
    x).raised = x.raised) (h_evt : Covers 0x800000000000 m ∨ ∀ x, { (f x) with raised := 0 } = { x with raised := 0 }) :
    Within m s (t.onEvt f) ↔ Within m s t := Within.evt (h_raised.imp id fun h => h _) (h_evt.imp id fun h => h _)

@[simp high, simp ↓ high] theorem Within.onSec {m : Nat} {s t : State} {f : Security → Security} (h_lastAccess : Covers 0x80000000000000 m ∨
    ∀ x, (f x).lastAccess = x.lastAccess) (h_session : Covers 0x100000000000000 m ∨ ∀ x, (f x).session = x.session) (h_sec : Covers
    0x200000000000000 m ∨ ∀ x, { (f x) with lastAccess := 0, session := none } = { x with lastAccess := 0, session := none }) :
    Within m s (t.onSec f) ↔ Within m s t := Within.sec (h_lastAccess.imp id fun h => h _) (h_session.imp id fun h => h _) (h_sec.imp id fun
        h => h _)

@[simp high, simp ↓ high] theorem Within.onSafe {m : Nat} {s t : State} {f : Safety → Safety} (h_params : Covers 0x20000000 m ∨ ∀ x, ((f
    x).par, (f x).stg, (f x).confirmed, (f x).hasPar) = (x.par, x.stg, x.confirmed, x.hasPar)) (h_chanP : Covers 0x40000000 m ∨ ∀ x, (f x).p
    = x.p) (h_chanH : Covers 0x80000000 m ∨ ∀ x, (f x).h = x.h) (h_near : Covers 0x100000000 m ∨ ∀ x, (f x).nearFrom = x.nearFrom) (h_safe :
    Covers 0x200000000 m ∨ ∀ x,
    { (f x) with par := [], stg := [], confirmed := none, hasPar := false, p := default, h := default, nearFrom := none } =
    { x with par := [], stg := [], confirmed := none, hasPar := false, p := default, h := default, nearFrom := none }) :
    Within m s (t.onSafe f) ↔ Within m s t := Within.safe (h_params.imp id fun h => h _) (h_chanP.imp id fun h => h _) (h_chanH.imp id fun h
        => h _) (h_near.imp id fun h => h _) (h_safe.imp id fun h => h _)

@[simp high, simp ↓ high] theorem Within.onNvm {m : Nat} {s t : State} {f : Nvm → Nvm} (h_nvm : Covers 0x10000000000000 m ∨ ∀ x, (f x).mem =
    x.mem) (h_nvmBusy : Covers 0x20000000000000 m ∨ ∀ x, (f x).busy = x.busy) :
    Within m s (t.onNvm f) ↔ Within m s t := Within.nvm (h_nvm.imp id fun h => h _) (h_nvmBusy.imp id fun h => h _)

/-- A state written out whole, where no smaller rule applies. -/
@[simp low] theorem Within.mk {m : Nat} {s : State} {v_time : TimeUnit} {v_eyes : Vector Eyelet 32} {v_wins : Vector Window 8}
    {v_gates : Vector Bool 8} {v_tios : Vector TioPin 16} {v_pwr : PowerUnit} {v_mode : ModeUnit} {v_srcs : Vector Source 12}
    {v_dplls : Vector Dpll 4} {v_hos : Vector Holdover 4} {v_model : Model} {v_aplls : Vector Apll 2} {v_spll : Spll}
    {v_outs : Vector Output 24} {v_fods : Vector Fod 8} {v_lockPin : Bool} {v_lastJump : Option Nat} {v_ports : Vector LacePort 4}
    {v_lace : LaceDev} {v_safe : Safety} {v_hb : HostPort} {v_mp : HostPort} {v_prioMp : Bool} {v_conflicts : List Conflict}
    {v_wrote : Option Wrote} {v_conflictCnt : Nat} {v_echoes : List Echo} {v_echoSeq : Nat} {v_txn : Txn} {v_opq : List LongOp}
    {v_oph : List LongOp} {v_ticket : Nat} {v_evt : Events} {v_cnts : Vector Counter 16} {v_cntCyc : Vector CntCycle 16} {v_log : FaultLog}
    {v_snap : Snapshot} {v_nvm : Nvm} {v_otp : Otp} {v_sec : Security} {v_tap : Tap} {v_cfg : CfgStore} {v_opers : OperTable}
    {v_undo : Option Undo} {v_draws : Nat} {v_pending : List Instr} :
    Within m s ⟨v_time, v_eyes, v_wins, v_gates, v_tios, v_pwr, v_mode, v_srcs, v_dplls, v_hos, v_model, v_aplls, v_spll, v_outs, v_fods,
        v_lockPin, v_lastJump, v_ports, v_lace, v_safe, v_hb, v_mp, v_prioMp, v_conflicts, v_wrote, v_conflictCnt, v_echoes, v_echoSeq,
        v_txn, v_opq, v_oph, v_ticket, v_evt, v_cnts, v_cntCyc, v_log, v_snap, v_nvm, v_otp, v_sec, v_tap, v_cfg, v_opers, v_undo, v_draws,
        v_pending⟩ ↔
    (m / 2 % 2 = 0 → v_time.bench = s.time.bench) ∧
    (m / 4 % 2 = 0 → v_time.inc = s.time.inc) ∧
    (m / 8 % 2 = 0 → (v_time.period, v_time.running, v_time.phase, v_time.tickEdge, v_time.tickSeq) = (s.time.period, s.time.running,
        s.time.phase, s.time.tickEdge, s.time.tickSeq)) ∧
    (m / 16 % 2 = 0 → { v_time with bench := 0, inc := 0, period := 0, running := false, phase := default, tickEdge := 0, tickSeq := 0 } =
        { s.time with bench := 0, inc := 0, period := 0, running := false, phase := default, tickEdge := 0, tickSeq := 0 }) ∧
    (m / 32 % 2 = 0 → v_eyes = s.eyes) ∧
    (m / 64 % 2 = 0 → v_wins = s.wins) ∧
    (m / 128 % 2 = 0 → v_gates = s.gates) ∧
    (m / 256 % 2 = 0 → v_tios = s.tios) ∧
    (m / 512 % 2 = 0 → (v_pwr.pwrPend, v_pwr.safePend) = (s.pwr.pwrPend, s.pwr.safePend)) ∧
    (m / 1024 % 2 = 0 → (v_pwr.resetHeld, v_pwr.resetCause, v_pwr.resetClass, v_pwr.resetWaits) = (s.pwr.resetHeld, s.pwr.resetCause,
        s.pwr.resetClass, s.pwr.resetWaits)) ∧
    (m / 2048 % 2 = 0 → (v_pwr.ctrl, v_pwr.core, v_pwr.syn, v_pwr.outl, v_pwr.outh, v_pwr.upQueue, v_pwr.downQueue, v_pwr.coreOffByWrite) =
        (s.pwr.ctrl, s.pwr.core, s.pwr.syn, s.pwr.outl, s.pwr.outh, s.pwr.upQueue, s.pwr.downQueue, s.pwr.coreOffByWrite)) ∧
    (m / 4096 % 2 = 0 → (v_pwr.warn33, v_pwr.warnAon, v_pwr.warn09, v_pwr.warn18, v_pwr.bor09, v_pwr.bor18, v_pwr.bor33, v_pwr.vddoBor,
        v_pwr.vddoOvr, v_pwr.supplyLow) = (s.pwr.warn33, s.pwr.warnAon, s.pwr.warn09, s.pwr.warn18, s.pwr.bor09, s.pwr.bor18, s.pwr.bor33,
        s.pwr.vddoBor, s.pwr.vddoOvr, s.pwr.supplyLow)) ∧
    (m / 8192 % 2 = 0 → (v_pwr.booting, v_pwr.bootWait, v_pwr.bootDone, v_pwr.shut) = (s.pwr.booting, s.pwr.bootWait, s.pwr.bootDone,
        s.pwr.shut)) ∧
    (m / 16384 % 2 = 0 →
        { v_pwr with pwrPend := 0, safePend := 0, resetHeld := 0, resetCause := 0, resetClass := 0, resetWaits := false, ctrl := 0, core := default, syn := default, outl := default, outh := default, upQueue := [], downQueue := [], coreOffByWrite := false, warn33 := false, warnAon := false, warn09 := false, warn18 := false, bor09 := false, bor18 := false, bor33 := false, vddoBor := default, vddoOvr := default, supplyLow := false, booting := false, bootWait := false, bootDone := false, shut := default }
        =
        { s.pwr with pwrPend := 0, safePend := 0, resetHeld := 0, resetCause := 0, resetClass := 0, resetWaits := false, ctrl := 0, core := default, syn := default, outl := default, outh := default, upQueue := [], downQueue := [], coreOffByWrite := false, warn33 := false, warnAon := false, warn09 := false, warn18 := false, bor09 := false, bor18 := false, bor33 := false, vddoBor := default, vddoOvr := default, supplyLow := false, booting := false, bootWait := false, bootDone := false, shut := default })
        ∧
    (m / 32768 % 2 = 0 → v_mode.hist = s.mode.hist) ∧
    (m / 65536 % 2 = 0 → { v_mode with hist := [] } = { s.mode with hist := [] }) ∧
    (m / 131072 % 2 = 0 → v_srcs = s.srcs) ∧
    (m / 262144 % 2 = 0 → v_dplls = s.dplls) ∧
    (m / 524288 % 2 = 0 → v_hos = s.hos) ∧
    (m / 1048576 % 2 = 0 → v_model = s.model) ∧
    (m / 2097152 % 2 = 0 → v_aplls = s.aplls) ∧
    (m / 4194304 % 2 = 0 → v_spll = s.spll) ∧
    (m / 8388608 % 2 = 0 → v_outs = s.outs) ∧
    (m / 16777216 % 2 = 0 → v_fods = s.fods) ∧
    (m / 33554432 % 2 = 0 → v_lockPin = s.lockPin) ∧
    (m / 67108864 % 2 = 0 → v_lastJump = s.lastJump) ∧
    (m / 134217728 % 2 = 0 → v_ports = s.ports) ∧
    (m / 268435456 % 2 = 0 → v_lace = s.lace) ∧
    (m / 536870912 % 2 = 0 → (v_safe.par, v_safe.stg, v_safe.confirmed, v_safe.hasPar) = (s.safe.par, s.safe.stg, s.safe.confirmed,
        s.safe.hasPar)) ∧
    (m / 1073741824 % 2 = 0 → v_safe.p = s.safe.p) ∧
    (m / 2147483648 % 2 = 0 → v_safe.h = s.safe.h) ∧
    (m / 4294967296 % 2 = 0 → v_safe.nearFrom = s.safe.nearFrom) ∧
    (m / 8589934592 % 2 = 0 →
        { v_safe with par := [], stg := [], confirmed := none, hasPar := false, p := default, h := default, nearFrom := none } =
        { s.safe with par := [], stg := [], confirmed := none, hasPar := false, p := default, h := default, nearFrom := none }) ∧
    (m / 17179869184 % 2 = 0 → v_hb = s.hb) ∧
    (m / 34359738368 % 2 = 0 → v_mp = s.mp) ∧
    (m / 68719476736 % 2 = 0 → v_prioMp = s.prioMp) ∧
    (m / 137438953472 % 2 = 0 → v_conflicts = s.conflicts) ∧
    (m / 274877906944 % 2 = 0 → v_wrote = s.wrote) ∧
    (m / 549755813888 % 2 = 0 → v_conflictCnt = s.conflictCnt) ∧
    (m / 1099511627776 % 2 = 0 → v_echoes = s.echoes) ∧
    (m / 2199023255552 % 2 = 0 → v_echoSeq = s.echoSeq) ∧
    (m / 4398046511104 % 2 = 0 → v_txn = s.txn) ∧
    (m / 8796093022208 % 2 = 0 → v_opq = s.opq) ∧
    (m / 17592186044416 % 2 = 0 → v_oph = s.oph) ∧
    (m / 35184372088832 % 2 = 0 → v_ticket = s.ticket) ∧
    (m / 70368744177664 % 2 = 0 → v_evt.raised = s.evt.raised) ∧
    (m / 140737488355328 % 2 = 0 → { v_evt with raised := 0 } = { s.evt with raised := 0 }) ∧
    (m / 281474976710656 % 2 = 0 → v_cnts = s.cnts) ∧
    (m / 562949953421312 % 2 = 0 → v_cntCyc = s.cntCyc) ∧
    (m / 1125899906842624 % 2 = 0 → v_log = s.log) ∧
    (m / 2251799813685248 % 2 = 0 → v_snap = s.snap) ∧
    (m / 4503599627370496 % 2 = 0 → v_nvm.mem = s.nvm.mem) ∧
    (m / 9007199254740992 % 2 = 0 → v_nvm.busy = s.nvm.busy) ∧
    (m / 18014398509481984 % 2 = 0 → v_otp = s.otp) ∧
    (m / 36028797018963968 % 2 = 0 → v_sec.lastAccess = s.sec.lastAccess) ∧
    (m / 72057594037927936 % 2 = 0 → v_sec.session = s.sec.session) ∧
    (m / 144115188075855872 % 2 = 0 → { v_sec with lastAccess := 0, session := none } = { s.sec with lastAccess := 0, session := none }) ∧
    (m / 288230376151711744 % 2 = 0 → v_tap = s.tap) ∧
    (m / 576460752303423488 % 2 = 0 → v_cfg.active = s.cfg.active) ∧
    (m / 1152921504606846976 % 2 = 0 → v_cfg.intern = s.cfg.intern) ∧
    (m / 2305843009213693952 % 2 = 0 → (v_cfg.before, v_cfg.beforeAt) = (s.cfg.before, s.cfg.beforeAt)) ∧
    (m / 4611686018427387904 % 2 = 0 → v_opers = s.opers) ∧
    (m / 9223372036854775808 % 2 = 0 → v_undo = s.undo) ∧
    (m / 18446744073709551616 % 2 = 0 → v_draws = s.draws) ∧
    (m / 36893488147419103232 % 2 = 0 → v_pending = s.pending) := by
  have e : ∀ i : Nat, m / 2 ^ i % 2 = 0 ↔ m.testBit i = false := fun i => by rw [Nat.testBit_eq_decide_div_mod_eq, decide_eq_false_iff_not]; omega
  constructor
  · intro h
    exact ⟨fun q => h .bench ((e 1).mp q), fun q => h .inc ((e 2).mp q), fun q => h .tick ((e 3).mp q), fun q => h .time ((e 4).mp q), fun q
        => h .eyes ((e 5).mp q), fun q => h .wins ((e 6).mp q), fun q => h .gates ((e 7).mp q), fun q => h .tios ((e 8).mp q), fun q => h
        .pend ((e 9).mp q), fun q => h .hold ((e 10).mp q), fun q => h .domains ((e 11).mp q), fun q => h .rails ((e 12).mp q), fun q => h
        .boot ((e 13).mp q), fun q => h .pwr ((e 14).mp q), fun q => h .hist ((e 15).mp q), fun q => h .mode ((e 16).mp q), fun q => h .srcs
        ((e 17).mp q), fun q => h .dplls ((e 18).mp q), fun q => h .hos ((e 19).mp q), fun q => h .model ((e 20).mp q), fun q => h .aplls
        ((e 21).mp q), fun q => h .spll ((e 22).mp q), fun q => h .outs ((e 23).mp q), fun q => h .fods ((e 24).mp q), fun q => h .lockPin
        ((e 25).mp q), fun q => h .lastJump ((e 26).mp q), fun q => h .ports ((e 27).mp q), fun q => h .lace ((e 28).mp q), fun q => h
        .params ((e 29).mp q), fun q => h .chanP ((e 30).mp q), fun q => h .chanH ((e 31).mp q), fun q => h .near ((e 32).mp q), fun q => h
        .safe ((e 33).mp q), fun q => h .hb ((e 34).mp q), fun q => h .mp ((e 35).mp q), fun q => h .prioMp ((e 36).mp q), fun q => h
        .conflicts ((e 37).mp q), fun q => h .wrote ((e 38).mp q), fun q => h .conflictCnt ((e 39).mp q), fun q => h .echoes ((e 40).mp q),
        fun q => h .echoSeq ((e 41).mp q), fun q => h .txn ((e 42).mp q), fun q => h .opq ((e 43).mp q), fun q => h .oph ((e 44).mp q), fun
        q => h .ticket ((e 45).mp q), fun q => h .raised ((e 46).mp q), fun q => h .evt ((e 47).mp q), fun q => h .cnts ((e 48).mp q), fun q
        => h .cntCyc ((e 49).mp q), fun q => h .log ((e 50).mp q), fun q => h .snap ((e 51).mp q), fun q => h .nvm ((e 52).mp q), fun q => h
        .nvmBusy ((e 53).mp q), fun q => h .otp ((e 54).mp q), fun q => h .lastAccess ((e 55).mp q), fun q => h .session ((e 56).mp q), fun
        q => h .sec ((e 57).mp q), fun q => h .tap ((e 58).mp q), fun q => h .active ((e 59).mp q), fun q => h .intern ((e 60).mp q), fun q
        => h .before ((e 61).mp q), fun q => h .opers ((e 62).mp q), fun q => h .undo ((e 63).mp q), fun q => h .draws ((e 64).mp q), fun q
        => h .pending ((e 65).mp q)⟩
  · rintro ⟨h0, h1, h2, h3, h4, h5, h6, h7, h8, h9, h10, h11, h12, h13, h14, h15, h16, h17, h18, h19, h20, h21, h22, h23, h24, h25, h26,
      h27, h28, h29, h30, h31, h32, h33, h34, h35, h36, h37, h38, h39, h40, h41, h42, h43, h44, h45, h46, h47, h48, h49, h50, h51, h52, h53,
      h54, h55, h56, h57, h58, h59, h60, h61, h62, h63, h64⟩ p hp
    cases p
    · exact h0 ((e 1).mpr hp)
    · exact h1 ((e 2).mpr hp)
    · exact h2 ((e 3).mpr hp)
    · exact h3 ((e 4).mpr hp)
    · exact h4 ((e 5).mpr hp)
    · exact h5 ((e 6).mpr hp)
    · exact h6 ((e 7).mpr hp)
    · exact h7 ((e 8).mpr hp)
    · exact h8 ((e 9).mpr hp)
    · exact h9 ((e 10).mpr hp)
    · exact h10 ((e 11).mpr hp)
    · exact h11 ((e 12).mpr hp)
    · exact h12 ((e 13).mpr hp)
    · exact h13 ((e 14).mpr hp)
    · exact h14 ((e 15).mpr hp)
    · exact h15 ((e 16).mpr hp)
    · exact h16 ((e 17).mpr hp)
    · exact h17 ((e 18).mpr hp)
    · exact h18 ((e 19).mpr hp)
    · exact h19 ((e 20).mpr hp)
    · exact h20 ((e 21).mpr hp)
    · exact h21 ((e 22).mpr hp)
    · exact h22 ((e 23).mpr hp)
    · exact h23 ((e 24).mpr hp)
    · exact h24 ((e 25).mpr hp)
    · exact h25 ((e 26).mpr hp)
    · exact h26 ((e 27).mpr hp)
    · exact h27 ((e 28).mpr hp)
    · exact h28 ((e 29).mpr hp)
    · exact h29 ((e 30).mpr hp)
    · exact h30 ((e 31).mpr hp)
    · exact h31 ((e 32).mpr hp)
    · exact h32 ((e 33).mpr hp)
    · exact h33 ((e 34).mpr hp)
    · exact h34 ((e 35).mpr hp)
    · exact h35 ((e 36).mpr hp)
    · exact h36 ((e 37).mpr hp)
    · exact h37 ((e 38).mpr hp)
    · exact h38 ((e 39).mpr hp)
    · exact h39 ((e 40).mpr hp)
    · exact h40 ((e 41).mpr hp)
    · exact h41 ((e 42).mpr hp)
    · exact h42 ((e 43).mpr hp)
    · exact h43 ((e 44).mpr hp)
    · exact h44 ((e 45).mpr hp)
    · exact h45 ((e 46).mpr hp)
    · exact h46 ((e 47).mpr hp)
    · exact h47 ((e 48).mpr hp)
    · exact h48 ((e 49).mpr hp)
    · exact h49 ((e 50).mpr hp)
    · exact h50 ((e 51).mpr hp)
    · exact h51 ((e 52).mpr hp)
    · exact h52 ((e 53).mpr hp)
    · exact h53 ((e 54).mpr hp)
    · exact h54 ((e 55).mpr hp)
    · exact h55 ((e 56).mpr hp)
    · exact h56 ((e 57).mpr hp)
    · exact h57 ((e 58).mpr hp)
    · exact h58 ((e 59).mpr hp)
    · exact h59 ((e 60).mpr hp)
    · exact h60 ((e 61).mpr hp)
    · exact h61 ((e 62).mpr hp)
    · exact h62 ((e 63).mpr hp)
    · exact h63 ((e 64).mpr hp)
    · exact h64 ((e 65).mpr hp)

/-- The mask of every part: nothing is claimed. -/
theorem Within.all (s t : State) : Within 0x3fffffffffffffffe s t := fun p hp => by cases p <;> exact absurd hp (by decide)

end Sys2Proof.Machine
end

