-- ==== Sys2Proof/Laws/Frames.lean ====
section
/-! SUPPORT. One lemma per operation of the machine: the parts of the state it can touch (its mask), proved once from those of the
operations it calls. A command's frame is read off from its meaning's lemma and `Within.mono`. -/

namespace Sys2Proof.Machine

set_option maxErrors 100000

@[simp, simp ↓] theorem State_onHost_within {s : State} {m : Master} {f : HostPort → HostPort} {ps : Nat} {s0 : State} (hm : Covers
    0xc00000000 ps) :
    Within ps s0 (State.onHost s m f) ↔ Within ps s0 s := by
  refine Within.over ?_ hm
  unfold State.onHost
  split <;> simp (maxDischargeDepth := 6)

@[simp, simp ↓] theorem logPush_within {s : State} {r : LogRec} {ps : Nat} {s0 : State} (hm : Covers 0x4400000000000 ps) :
    Within ps s0 (logPush s r) ↔ Within ps s0 s := by
  refine Within.over ?_ hm
  unfold logPush
  simp (maxDischargeDepth := 6)

@[simp, simp ↓] theorem logRaise_within {s : State} {e origin unit cause : Nat} {ps : Nat} {s0 : State} (hm : Covers 0x4400000000000 ps) :
    Within ps s0 (logRaise s e origin unit cause) ↔ Within ps s0 s := by
  refine Within.over ?_ hm
  unfold logRaise
  simp (maxDischargeDepth := 6)

@[simp, simp ↓] theorem raiseAt_within {s : State} {e unit cause : Nat} {ps : Nat} {s0 : State} (hm : Covers 0x4400000000200 ps) :
    Within ps s0 (raiseAt s e unit cause) ↔ Within ps s0 s := by
  refine Within.over ?_ hm
  unfold raiseAt
  simp (maxDischargeDepth := 6)

@[simp, simp ↓] theorem raise_within {s : State} {e : Nat} {ps : Nat} {s0 : State} (hm : Covers 0x4400000000200 ps) :
    Within ps s0 (raise s e) ↔ Within ps s0 s := by
  refine Within.over ?_ hm
  unfold raise
  simp (maxDischargeDepth := 6)

@[simp, simp ↓] theorem raiseIf_within {c : Bool} {s : State} {e unit cause : Nat} {ps : Nat} {s0 : State} (hm : Covers 0x4400000000200 ps)
    :
    Within ps s0 (raiseIf c s e unit cause) ↔ Within ps s0 s := by
  refine Within.over ?_ hm
  unfold raiseIf
  simp (maxDischargeDepth := 6)

@[simp, simp ↓] theorem recount_within {c : Nat} {s : State} {ps : Nat} {s0 : State} (hm : Covers 0x7400000000200 ps) :
    Within ps s0 (recount c s) ↔ Within ps s0 s := by
  refine Within.over ?_ hm
  unfold recount
  simp (maxDischargeDepth := 6)

@[simp, simp ↓] theorem countInto_within {c n : Nat} {s : State} {ps : Nat} {s0 : State} (hm : Covers 0x7400000000200 ps) :
    Within ps s0 (countInto c n s) ↔ Within ps s0 s := by
  refine Within.over ?_ hm
  unfold countInto
  simp (maxDischargeDepth := 6)

@[simp, simp ↓] theorem countSrc_within {code n : Nat} {s : State} {ps : Nat} {s0 : State} (hm : Covers 0x7400000000200 ps) :
    Within ps s0 (countSrc code n s) ↔ Within ps s0 s := by
  refine Within.over ?_ hm
  unfold countSrc
  simp (maxDischargeDepth := 6)

@[simp, simp ↓] theorem recountGate_within {g : Nat} {s : State} {ps : Nat} {s0 : State} (hm : Covers 0x7400000000200 ps) :
    Within ps s0 (recountGate g s) ↔ Within ps s0 s := by
  refine Within.over ?_ hm
  unfold recountGate
  simp (maxDischargeDepth := 6)

@[simp, simp ↓] theorem echo_within {s : State} {m : Master} {addr value : Nat} {args : List Nat} {result : Nat} {ps : Nat} {s0 : State} (hm
    : Covers 0x30000000000 ps) :
    Within ps s0 (echo s m addr value args result) ↔ Within ps s0 s := by
  refine Within.over ?_ hm
  unfold echo
  simp (maxDischargeDepth := 6)

@[simp, simp ↓] theorem access_within {s : State} {m : Master} {ps : Nat} {s0 : State} (hm : Covers 0x80000000000000 ps) :
    Within ps s0 (access s m) ↔ Within ps s0 s := by
  refine Within.over ?_ hm
  unfold access
  simp (maxDischargeDepth := 6)

@[simp, simp ↓] theorem runCycles_within {n : Nat} {s : State} {ps : Nat} {s0 : State} (hm : Covers 0x7400040040202 ps) :
    Within ps s0 (runCycles n s) ↔ Within ps s0 s := by
  refine Within.over ?_ hm
  unfold runCycles
  simp (maxDischargeDepth := 6)

@[simp, simp ↓] theorem clockCycles_within {n : Nat} {s : State} {ps : Nat} {s0 : State} (hm : Covers 0x7400040040202 ps) :
    Within ps s0 (clockCycles n s) ↔ Within ps s0 s := by
  refine Within.over ?_ hm
  unfold clockCycles
  simp (maxDischargeDepth := 6)

@[simp, simp ↓] theorem idleCycle_within {s : State} {ps : Nat} {s0 : State} (hm : Covers 0x7400040040202 ps) :
    Within ps s0 (idleCycle s) ↔ Within ps s0 s := by
  refine Within.over ?_ hm
  unfold idleCycle
  simp (maxDischargeDepth := 6)

@[simp, simp ↓] theorem refreshMode_within {s : State} {cause : Nat} {ps : Nat} {s0 : State} (hm : Covers 0x4400000018200 ps) :
    Within ps s0 (refreshMode s cause) ↔ Within ps s0 s := by
  refine Within.over ?_ hm
  unfold refreshMode
  simp (maxDischargeDepth := 6)

@[simp, simp ↓] theorem driveTio_within {s : State} {pin : Nat} {lvl readOk : Bool} {ps : Nat} {s0 : State} (hm : Covers 0x100 ps) :
    Within ps s0 (driveTio s pin lvl readOk) ↔ Within ps s0 s := by
  refine Within.over ?_ hm
  unfold driveTio
  simp (maxDischargeDepth := 6)

@[simp, simp ↓] theorem followGate_within {s : State} {g : Nat} {lvl readOk : Bool} {ps : Nat} {s0 : State} (hm : Covers 0x100 ps) :
    Within ps s0 (followGate s g lvl readOk) ↔ Within ps s0 s := by
  refine Within.over ?_ hm
  unfold followGate
  simp (maxDischargeDepth := 6)

@[simp, simp ↓] theorem gateEdge_within {s : State} {g : Nat} {opening readOk : Bool} {ps : Nat} {s0 : State} (hm : Covers 0x7400000000380
    ps) :
    Within ps s0 (gateEdge s g opening readOk) ↔ Within ps s0 s := by
  refine Within.over ?_ hm
  unfold gateEdge
  simp (maxDischargeDepth := 6)

@[simp, simp ↓] theorem eyeAct_within {s : State} {n : Nat} {e : EyeEdge} {readOk : Bool} {ps : Nat} {s0 : State} (hm : Covers
    0xf400000000380 ps) :
    Within ps s0 (eyeAct s n e readOk) ↔ Within ps s0 s := by
  refine Within.over ?_ hm
  unfold eyeAct
  split <;> simp (maxDischargeDepth := 6)

@[simp, simp ↓] theorem eyeFire_within {s : State} {n : Nat} {readOk : Bool} {ps : Nat} {s0 : State} (hm : Covers 0xf4000000003a0 ps) :
    Within ps s0 (eyeFire s n readOk) ↔ Within ps s0 s := by
  refine Within.over ?_ hm
  unfold eyeFire
  dsimp -proj only
  split <;> simp (maxDischargeDepth := 6)

@[simp, simp ↓] theorem eyeActivate_within {s : State} {n : Nat} {ps : Nat} {s0 : State} (hm : Covers 0x20 ps) :
    Within ps s0 (eyeActivate s n) ↔ Within ps s0 s := by
  refine Within.over ?_ hm
  unfold eyeActivate
  simp (maxDischargeDepth := 6)

@[simp, simp ↓] theorem eyeHandover_within {s : State} {n : Nat} {ps : Nat} {s0 : State} (hm : Covers 0x20 ps) :
    Within ps s0 (eyeHandover s n) ↔ Within ps s0 s := by
  refine Within.over ?_ hm
  unfold eyeHandover
  simp (maxDischargeDepth := 6)

@[simp, simp ↓] theorem eyeLoad_within {s : State} {n hand limit : Nat} {room : Option Nat} {ps : Nat} {s0 : State} (hm : Covers
    0x4400000000220 ps) :
    Within ps s0 (eyeLoad s n hand limit room) ↔ Within ps s0 s := by
  refine Within.over ?_ hm
  unfold eyeLoad
  simp (maxDischargeDepth := 6)

@[simp, simp ↓] theorem eyeRejudge_within {s : State} {n hand : Nat} {ps : Nat} {s0 : State} (hm : Covers 0x4400000000220 ps) :
    Within ps s0 (eyeRejudge s n hand) ↔ Within ps s0 s := by
  refine Within.over ?_ hm
  unfold eyeRejudge
  simp (maxDischargeDepth := 6)

@[simp, simp ↓] theorem winFire_within {s : State} {w : Nat} {readOk : Bool} {ps : Nat} {s0 : State} (hm : Covers 0x74000000003c0 ps) :
    Within ps s0 (winFire s w readOk) ↔ Within ps s0 s := by
  refine Within.over ?_ hm
  unfold winFire
  dsimp -proj only
  split <;> simp (maxDischargeDepth := 6)

@[simp, simp ↓] theorem winActivate_within {s : State} {w : Nat} {ps : Nat} {s0 : State} (hm : Covers 0x40 ps) :
    Within ps s0 (winActivate s w) ↔ Within ps s0 s := by
  refine Within.over ?_ hm
  unfold winActivate
  simp (maxDischargeDepth := 6)

@[simp, simp ↓] theorem winHandover_within {s : State} {w : Nat} {ps : Nat} {s0 : State} (hm : Covers 0x40 ps) :
    Within ps s0 (winHandover s w) ↔ Within ps s0 s := by
  refine Within.over ?_ hm
  unfold winHandover
  simp (maxDischargeDepth := 6)

@[simp, simp ↓] theorem winLoad_within {w hand limit : Nat} {j : Nat} {s : State} {ps : Nat} {s0 : State} (hm : Covers 0x4400000000240 ps) :
    Within ps s0 (winLoad w hand limit j s) ↔ Within ps s0 s := by
  refine Within.over ?_ hm
  induction j generalizing s with
  | zero => simp [winLoad]
  | succ k ih =>
    unfold winLoad
    try dsimp -proj only
    have ih' : ∀ u v, Within 0x4400000000240 u (winLoad w hand limit k v) ↔ Within 0x4400000000240 u v := fun u v => Within.over (ih (s :=
        v)) (Nat.and_self _)
    simp [ih']

@[simp, simp ↓] theorem winJudgeStart_within {s : State} {w hand k : Nat} {ps : Nat} {s0 : State} (hm : Covers 0x4400000000240 ps) :
    Within ps s0 (winJudgeStart s w hand k) ↔ Within ps s0 s := by
  refine Within.over ?_ hm
  unfold winJudgeStart
  simp (maxDischargeDepth := 6)

@[simp, simp ↓] theorem winJudgeStops_within {s : State} {w hand : Nat} {ps : Nat} {s0 : State} (hm : Covers 0x4400000000240 ps) :
    Within ps s0 (winJudgeStops s w hand) ↔ Within ps s0 s := by
  refine Within.over ?_ hm
  unfold winJudgeStops
  simp (maxDischargeDepth := 6)

@[simp, simp ↓] theorem winRejudge_within {s : State} {w hand : Nat} {ps : Nat} {s0 : State} (hm : Covers 0x4400000000240 ps) :
    Within ps s0 (winRejudge s w hand) ↔ Within ps s0 s := by
  refine Within.over ?_ hm
  unfold winRejudge
  simp (maxDischargeDepth := 6)

@[simp, simp ↓] theorem handoverAll_within {s : State} {ps : Nat} {s0 : State} (hm : Covers 0x60 ps) :
    Within ps s0 (handoverAll s) ↔ Within ps s0 s := by
  refine Within.over ?_ hm
  unfold handoverAll
  simp (maxDischargeDepth := 6)

@[simp, simp ↓] theorem loadAll_within {s : State} {room : Option Nat} {ps : Nat} {s0 : State} (hm : Covers 0x4400000000270 ps) :
    Within ps s0 (loadAll s room) ↔ Within ps s0 s := by
  refine Within.over ?_ hm
  unfold loadAll
  simp (maxDischargeDepth := 6)

@[simp, simp ↓] theorem activateArmed_within {s : State} {ps : Nat} {s0 : State} (hm : Covers 0x60 ps) :
    Within ps s0 (activateArmed s) ↔ Within ps s0 s := by
  refine Within.over ?_ hm
  unfold activateArmed
  simp (maxDischargeDepth := 6)

@[simp, simp ↓] theorem eyesCoreOff_within {s : State} {ps : Nat} {s0 : State} (hm : Covers 0x1e0 ps) :
    Within ps s0 (eyesCoreOff s) ↔ Within ps s0 s := by
  refine Within.over ?_ hm
  unfold eyesCoreOff
  simp (maxDischargeDepth := 6)

@[simp, simp ↓] theorem armEye_within {s : State} {m : Master} {n : Nat} {ps : Nat} {s0 : State} (hm : Covers 0x800030000000020 ps) :
    Within ps s0 (armEye s m n) ↔ Within ps s0 s := by
  refine Within.over ?_ hm
  unfold armEye
  simp (maxDischargeDepth := 6)

@[simp, simp ↓] theorem cancelEye_within {s : State} {m : Master} {n : Nat} {ps : Nat} {s0 : State} (hm : Covers 0x30000000020 ps) :
    Within ps s0 (cancelEye s m n) ↔ Within ps s0 s := by
  refine Within.over ?_ hm
  unfold cancelEye
  simp (maxDischargeDepth := 6)

@[simp, simp ↓] theorem fireUnit_within {s : State} {u : Nat} {readOk : Bool} {ps : Nat} {s0 : State} (hm : Covers 0xf4000000003e0 ps) :
    Within ps s0 (fireUnit s u readOk) ↔ Within ps s0 s := by
  refine Within.over ?_ hm
  unfold fireUnit
  simp (maxDischargeDepth := 6)

@[simp, simp ↓] theorem fireUpTo_within {g : Bool × Nat} {u : Nat} {readOk : Bool} {j : Nat} {s : State} {ps : Nat} {s0 : State} (hm :
    Covers 0xf4000000003e0 ps) :
    Within ps s0 (fireUpTo g u readOk j s) ↔ Within ps s0 s := by
  refine Within.over ?_ hm
  induction j generalizing s with
  | zero => simp [fireUpTo]
  | succ k ih =>
    unfold fireUpTo
    have ih' : ∀ w v, Within 0xf4000000003e0 w (fireUpTo g u readOk k v) ↔ Within 0xf4000000003e0 w v := fun w v => Within.over (ih (s :=
        v)) (Nat.and_self _)
    split
    · split <;> simp [ih']
    · simp

@[simp, simp ↓] theorem passTo_within {s : State} {t : Nat} {ps : Nat} {s0 : State} (hm : Covers 0x7400040040202 ps) :
    Within ps s0 (passTo s t) ↔ Within ps s0 s := by
  refine Within.over ?_ hm
  unfold passTo
  simp (maxDischargeDepth := 6)

@[simp, simp ↓] theorem unitFire_within {s : State} {u t : Nat} {readOk : Bool} {ps : Nat} {s0 : State} (hm : Covers 0xf4000400403e2 ps) :
    Within ps s0 (unitFire s u t readOk) ↔ Within ps s0 s := by
  refine Within.over ?_ hm
  unfold unitFire
  dsimp -proj only
  repeat' split
  all_goals simp (maxDischargeDepth := 6)

@[simp, simp ↓] theorem eyeletFire_within {s : State} {n : Nat} {readOk : Bool} {ps : Nat} {s0 : State} (hm : Covers 0xf4000400403e2 ps) :
    Within ps s0 (eyeletFire s n readOk) ↔ Within ps s0 s := by
  refine Within.over ?_ hm
  unfold eyeletFire
  split <;> simp (maxDischargeDepth := 6)

@[simp, simp ↓] theorem windowFire_within {s : State} {w : Nat} {readOk : Bool} {ps : Nat} {s0 : State} (hm : Covers 0xf4000400403e2 ps) :
    Within ps s0 (windowFire s w readOk) ↔ Within ps s0 s := by
  refine Within.over ?_ hm
  unfold windowFire
  split <;> simp (maxDischargeDepth := 6)

@[simp, simp ↓] theorem pulseEnd_within {s : State} {pin : Nat} {readOk : Bool} {ps : Nat} {s0 : State} (hm : Covers 0x7400040040302 ps) :
    Within ps s0 (pulseEnd s pin readOk) ↔ Within ps s0 s := by
  refine Within.over ?_ hm
  unfold pulseEnd
  split <;> simp (maxDischargeDepth := 6)

@[simp, simp ↓] theorem storeStamp_within {s : State} {pin : Nat} {rising : Bool} {at_ : Nat} {ps : Nat} {s0 : State} (hm : Covers
    0x4400000000300 ps) :
    Within ps s0 (storeStamp s pin rising at_) ↔ Within ps s0 s := by
  refine Within.over ?_ hm
  unfold storeStamp
  simp (maxDischargeDepth := 6)

@[simp, simp ↓] theorem tioEdge_within {s : State} {pin : Nat} {rising : Bool} {sub : Nat} {ps : Nat} {s0 : State} (hm : Covers
    0x7400000000300 ps) :
    Within ps s0 (tioEdge s pin rising sub) ↔ Within ps s0 s := by
  refine Within.over ?_ hm
  unfold tioEdge
  simp (maxDischargeDepth := 6)

@[simp, simp ↓] theorem hwmClr_within {s : State} {m : Master} {ps : Nat} {s0 : State} (hm : Covers 0x30000000010 ps) :
    Within ps s0 (hwmClr s m) ↔ Within ps s0 s := by
  refine Within.over ?_ hm
  unfold hwmClr
  simp (maxDischargeDepth := 6)

@[simp, simp ↓] theorem gateComplete_within {s : State} {n edges span : Nat} {ps : Nat} {s0 : State} (hm : Covers 0x4400000020200 ps) :
    Within ps s0 (gateComplete s n edges span) ↔ Within ps s0 s := by
  refine Within.over ?_ hm
  unfold gateComplete
  simp (maxDischargeDepth := 6)

@[simp, simp ↓] theorem actAlarm_within {s : State} {n edges : Nat} {ps : Nat} {s0 : State} (hm : Covers 0x4400000020200 ps) :
    Within ps s0 (actAlarm s n edges) ↔ Within ps s0 s := by
  refine Within.over ?_ hm
  unfold actAlarm
  simp (maxDischargeDepth := 6)

@[simp, simp ↓] theorem actClear_within {s : State} {n : Nat} {ps : Nat} {s0 : State} (hm : Covers 0x20000 ps) :
    Within ps s0 (actClear s n) ↔ Within ps s0 s := by
  refine Within.over ?_ hm
  unfold actClear
  simp (maxDischargeDepth := 6)

@[simp, simp ↓] theorem phaseHit_within {s : State} {n edges : Nat} {ps : Nat} {s0 : State} (hm : Covers 0x4400000020200 ps) :
    Within ps s0 (phaseHit s n edges) ↔ Within ps s0 s := by
  refine Within.over ?_ hm
  unfold phaseHit
  simp (maxDischargeDepth := 6)

@[simp, simp ↓] theorem srcEdges_within {s : State} {n edges : Nat} {age : Option Nat} {ps : Nat} {s0 : State} (hm : Covers 0x7400000020200
    ps) :
    Within ps s0 (srcEdges s n edges age) ↔ Within ps s0 s := by
  refine Within.over ?_ hm
  unfold srcEdges
  simp (maxDischargeDepth := 6)

@[simp, simp ↓] theorem disqualify_within {s : State} {n : Nat} {ps : Nat} {s0 : State} (hm : Covers 0x4400000060200 ps) :
    Within ps s0 (disqualify s n) ↔ Within ps s0 s := by
  refine Within.over ?_ hm
  unfold disqualify
  simp (maxDischargeDepth := 6)

@[simp, simp ↓] theorem enterHoldOff_within {s : State} {n : Nat} {ret : Bool} {ps : Nat} {s0 : State} (hm : Covers 0x20000 ps) :
    Within ps s0 (enterHoldOff s n ret) ↔ Within ps s0 s := by
  refine Within.over ?_ hm
  unfold enterHoldOff
  simp (maxDischargeDepth := 6)

@[simp, simp ↓] theorem qualify_within {s : State} {n : Nat} {ps : Nat} {s0 : State} (hm : Covers 0x4400000060200 ps) :
    Within ps s0 (qualify s n) ↔ Within ps s0 s := by
  refine Within.over ?_ hm
  unfold qualify
  simp (maxDischargeDepth := 6)

@[simp, simp ↓] theorem evalSource_within {s : State} {n : Nat} {ps : Nat} {s0 : State} (hm : Covers 0x4400000060200 ps) :
    Within ps s0 (evalSource s n) ↔ Within ps s0 s := by
  refine Within.over ?_ hm
  unfold evalSource
  dsimp -proj only
  repeat' split
  all_goals simp (maxDischargeDepth := 6)

@[simp, simp ↓] theorem activityCheck_within {s : State} {room : Option Nat} {ps : Nat} {s0 : State} (hm : Covers 0x4400000060200 ps) :
    Within ps s0 (activityCheck s room) ↔ Within ps s0 s := by
  refine Within.over ?_ hm
  unfold activityCheck
  simp (maxDischargeDepth := 6)

@[simp, simp ↓] theorem wtrExpire_within {s : State} {d n : Nat} {ps : Nat} {s0 : State} (hm : Covers 0x4400000040200 ps) :
    Within ps s0 (wtrExpire s d n) ↔ Within ps s0 s := by
  refine Within.over ?_ hm
  unfold wtrExpire
  split <;> simp (maxDischargeDepth := 6)

@[simp, simp ↓] theorem qlTimeout_within {s : State} {n : Nat} {ps : Nat} {s0 : State} (hm : Covers 0x4400000020200 ps) :
    Within ps s0 (qlTimeout s n) ↔ Within ps s0 s := by
  refine Within.over ?_ hm
  unfold qlTimeout
  simp (maxDischargeDepth := 6)

@[simp, simp ↓] theorem qlUpdate_within {s : State} {n : Nat} {ps : Nat} {s0 : State} (hm : Covers 0x4400000020200 ps) :
    Within ps s0 (qlUpdate s n) ↔ Within ps s0 s := by
  refine Within.over ?_ hm
  unfold qlUpdate
  simp (maxDischargeDepth := 6)

@[simp, simp ↓] theorem inbandQl_within {s : State} {n code : Nat} {ps : Nat} {s0 : State} (hm : Covers 0x4400000020200 ps) :
    Within ps s0 (inbandQl s n code) ↔ Within ps s0 s := by
  refine Within.over ?_ hm
  unfold inbandQl
  simp (maxDischargeDepth := 6)

@[simp, simp ↓] theorem noteMismatch_within {s : State} {e : Nat} {count : Nat} {dis : Nat → Bool} {was : Nat} {ps : Nat} {s0 : State} (hm :
    Covers 0x4400000000200 ps) :
    Within ps s0 (noteMismatch s e count dis was).2 ↔ Within ps s0 s := by
  refine Within.over ?_ hm
  unfold noteMismatch
  simp (maxDischargeDepth := 6)

@[simp, simp ↓] theorem deriveSrcOpers_within {s : State} {ps : Nat} {s0 : State} (hm : Covers 0x4004400000000200 ps) :
    Within ps s0 (deriveSrcOpers s) ↔ Within ps s0 s := by
  refine Within.over ?_ hm
  unfold deriveSrcOpers
  simp (maxDischargeDepth := 6)

@[simp, simp ↓] theorem evalSources_within {s : State} {room : Option Nat} {ps : Nat} {s0 : State} (hm : Covers 0x4004400000060210 ps) :
    Within ps s0 (evalSources s room) ↔ Within ps s0 s := by
  refine Within.over ?_ hm
  unfold evalSources
  simp (maxDischargeDepth := 6)

@[simp, simp ↓] theorem tickNumCheck_within {s : State} {n payload : Nat} {ps : Nat} {s0 : State} (hm : Covers 0x4400000040200 ps) :
    Within ps s0 (tickNumCheck s n payload) ↔ Within ps s0 s := by
  refine Within.over ?_ hm
  unfold tickNumCheck
  simp (maxDischargeDepth := 6)

@[simp, simp ↓] theorem wmLose_within {s : State} {n : Nat} {ps : Nat} {s0 : State} (hm : Covers 0x4400000020200 ps) :
    Within ps s0 (wmLose s n) ↔ Within ps s0 s := by
  refine Within.over ?_ hm
  unfold wmLose
  simp (maxDischargeDepth := 6)

@[simp, simp ↓] theorem wmReceived_within {s : State} {n payload : Nat} {shapeOk onTime : Bool} {age : Nat} {ps : Nat} {s0 : State} (hm :
    Covers 0x4400000060200 ps) :
    Within ps s0 (wmReceived s n payload shapeOk onTime age) ↔ Within ps s0 s := by
  refine Within.over ?_ hm
  unfold wmReceived
  simp (maxDischargeDepth := 6)

@[simp, simp ↓] theorem wmMissing_within {s : State} {n : Nat} {ps : Nat} {s0 : State} (hm : Covers 0x4400000020200 ps) :
    Within ps s0 (wmMissing s n) ↔ Within ps s0 s := by
  refine Within.over ?_ hm
  unfold wmMissing
  simp (maxDischargeDepth := 6)

@[simp, simp ↓] theorem holdoffElapsed_within {s : State} {n : Nat} {ps : Nat} {s0 : State} (hm : Covers 0x7400040040202 ps) :
    Within ps s0 (holdoffElapsed s n) ↔ Within ps s0 s := by
  refine Within.over ?_ hm
  unfold holdoffElapsed
  simp (maxDischargeDepth := 6)

@[simp, simp ↓] theorem retarget_within {s : State} {d : Nat} {ps : Nat} {s0 : State} (hm : Covers 0x80000 ps) :
    Within ps s0 (retarget s d) ↔ Within ps s0 s := by
  refine Within.over ?_ hm
  unfold retarget
  simp (maxDischargeDepth := 6)

@[simp, simp ↓] theorem takeSet_within {s : State} {d : Nat} {ps : Nat} {s0 : State} (hm : Covers 0x80000 ps) :
    Within ps s0 (takeSet s d) ↔ Within ps s0 s := by
  refine Within.over ?_ hm
  unfold takeSet
  simp (maxDischargeDepth := 6)

@[simp, simp ↓] theorem freezeEntry_within {s : State} {d : Nat} {basis : HoBasis} {m : HistMean} {ps : Nat} {s0 : State} (hm : Covers
    0x80000 ps) :
    Within ps s0 (freezeEntry s d basis m) ↔ Within ps s0 s := by
  refine Within.over ?_ hm
  unfold freezeEntry
  simp (maxDischargeDepth := 6)

@[simp, simp ↓] theorem hoTick_within {s : State} {d : Nat} {ps : Nat} {s0 : State} (hm : Covers 0xc0000 ps) :
    Within ps s0 (hoTick s d) ↔ Within ps s0 s := by
  refine Within.over ?_ hm
  unfold hoTick
  simp (maxDischargeDepth := 6)

@[simp, simp ↓] theorem resetB0_within {s : State} {ps : Nat} {s0 : State} (hm : Covers 0x100000 ps) :
    Within ps s0 (resetB0 s) ↔ Within ps s0 s := by
  refine Within.over ?_ hm
  unfold resetB0
  simp (maxDischargeDepth := 6)

@[simp, simp ↓] theorem flagEvent_within {was : Model} {s : State} {ps : Nat} {s0 : State} (hm : Covers 0x4400000000200 ps) :
    Within ps s0 (flagEvent was s) ↔ Within ps s0 s := by
  refine Within.over ?_ hm
  unfold flagEvent
  simp (maxDischargeDepth := 6)

@[simp, simp ↓] theorem learnMinute_within {s : State} {ps : Nat} {s0 : State} (hm : Covers 0x4400000100200 ps) :
    Within ps s0 (learnMinute s) ↔ Within ps s0 s := by
  refine Within.over ?_ hm
  unfold learnMinute
  simp (maxDischargeDepth := 6)

@[simp, simp ↓] theorem learnTick_within {s : State} {ps : Nat} {s0 : State} (hm : Covers 0x100000 ps) :
    Within ps s0 (learnTick s) ↔ Within ps s0 s := by
  refine Within.over ?_ hm
  unfold learnTick
  simp (maxDischargeDepth := 6)

@[simp, simp ↓] theorem learnSecond_within {s : State} {valid : Bool} {binVal : Rat} {ps : Nat} {s0 : State} (hm : Covers 0x100000 ps) :
    Within ps s0 (learnSecond s valid binVal) ↔ Within ps s0 s := by
  refine Within.over ?_ hm
  unfold learnSecond
  simp (maxDischargeDepth := 6)

@[simp, simp ↓] theorem learnMinuteEnd_within {s : State} {ps : Nat} {s0 : State} (hm : Covers 0x100000 ps) :
    Within ps s0 (learnMinuteEnd s) ↔ Within ps s0 s := by
  refine Within.over ?_ hm
  unfold learnMinuteEnd
  simp (maxDischargeDepth := 6)

@[simp, simp ↓] theorem closeBin_within {s : State} {d sec : Nat} {ps : Nat} {s0 : State} (hm : Covers 0x180000 ps) :
    Within ps s0 (closeBin s d sec) ↔ Within ps s0 s := by
  refine Within.over ?_ hm
  unfold closeBin
  simp (maxDischargeDepth := 6)

@[simp, simp ↓] theorem historyTick_within {s : State} {ps : Nat} {s0 : State} (hm : Covers 0x180000 ps) :
    Within ps s0 (historyTick s) ↔ Within ps s0 s := by
  refine Within.over ?_ hm
  unfold historyTick
  simp (maxDischargeDepth := 6)

@[simp, simp ↓] theorem gatherBin_within {s : State} {d : Nat} {ps : Nat} {s0 : State} (hm : Covers 0x80000 ps) :
    Within ps s0 (gatherBin s d) ↔ Within ps s0 s := by
  refine Within.over ?_ hm
  unfold gatherBin
  simp (maxDischargeDepth := 6)

@[simp, simp ↓] theorem setTs_within {s : State} {t : TsState} {ps : Nat} {s0 : State} (hm : Covers 0x4400000100200 ps) :
    Within ps s0 (setTs s t) ↔ Within ps s0 s := by
  refine Within.over ?_ hm
  unfold setTs
  repeat' split
  all_goals simp (maxDischargeDepth := 6)

@[simp, simp ↓] theorem tsEnable_within {s : State} {ps : Nat} {s0 : State} (hm : Covers 0x4400000100200 ps) :
    Within ps s0 (tsEnable s) ↔ Within ps s0 s := by
  refine Within.over ?_ hm
  unfold tsEnable
  simp (maxDischargeDepth := 6)

@[simp, simp ↓] theorem tsMeasure_within {s : State} {ts die : Int} {settled : Bool} {ps : Nat} {s0 : State} (hm : Covers 0x4400000100200
    ps) :
    Within ps s0 (tsMeasure s ts die settled) ↔ Within ps s0 s := by
  refine Within.over ?_ hm
  unfold tsMeasure
  simp (maxDischargeDepth := 6)

@[simp, simp ↓] theorem tsJudge_within {s : State} {ps : Nat} {s0 : State} (hm : Covers 0x4400000100200 ps) :
    Within ps s0 (tsJudge s) ↔ Within ps s0 s := by
  refine Within.over ?_ hm
  unfold tsJudge
  dsimp -proj only
  repeat' split
  all_goals simp (maxDischargeDepth := 6)

@[simp, simp ↓] theorem noteJump_within {s : State} {ps : Nat} {s0 : State} (hm : Covers 0x4440004000210 ps) :
    Within ps s0 (noteJump s) ↔ Within ps s0 s := by
  refine Within.over ?_ hm
  unfold noteJump
  simp (maxDischargeDepth := 6)

@[simp, simp ↓] theorem moveInstants_within {s : State} {delta : Int} {ps : Nat} {s0 : State} (hm : Covers 0xa00000 ps) :
    Within ps s0 (moveInstants s delta) ↔ Within ps s0 s := by
  refine Within.over ?_ hm
  unfold moveInstants
  simp (maxDischargeDepth := 6)

@[simp, simp ↓] theorem stepBench_within {s : State} {delta : Int} {ps : Nat} {s0 : State} (hm : Covers 0x4440004a0021a ps) :
    Within ps s0 (stepBench s delta) ↔ Within ps s0 s := by
  refine Within.over ?_ hm
  unfold stepBench
  simp (maxDischargeDepth := 6)

@[simp, simp ↓] theorem passTs_within {s : State} {d t : Nat} {ps : Nat} {s0 : State} (hm : Covers 0x7400040040202 ps) :
    Within ps s0 (passTs s d t) ↔ Within ps s0 s := by
  refine Within.over ?_ hm
  unfold passTs
  simp (maxDischargeDepth := 6)

@[simp, simp ↓] theorem realignApll_within {s : State} {n : Nat} {ps : Nat} {s0 : State} (hm : Covers 0x200000 ps) :
    Within ps s0 (realignApll s n) ↔ Within ps s0 s := by
  refine Within.over ?_ hm
  unfold realignApll
  simp (maxDischargeDepth := 6)

@[simp, simp ↓] theorem stepTimescale_within {s : State} {d : Nat} {delta : Int} {ps : Nat} {s0 : State} (hm : Covers 0x4440004a4021a ps) :
    Within ps s0 (stepTimescale s d delta) ↔ Within ps s0 s := by
  refine Within.over ?_ hm
  unfold stepTimescale
  simp (maxDischargeDepth := 6)

@[simp, simp ↓] theorem pmHaltLoses_within {s : State} {d : Nat} {ps : Nat} {s0 : State} (hm : Covers 0x40000 ps) :
    Within ps s0 (pmHaltLoses s d) ↔ Within ps s0 s := by
  refine Within.over ?_ hm
  unfold pmHaltLoses
  split <;> simp (maxDischargeDepth := 6)

@[simp, simp ↓] theorem pmStep_within {s : State} {d : Nat} {ps : Nat} {s0 : State} (hm : Covers 0x4400000040200 ps) :
    Within ps s0 (pmStep s d) ↔ Within ps s0 s := by
  refine Within.over ?_ hm
  unfold pmStep
  simp (maxDischargeDepth := 6)

@[simp, simp ↓] theorem realign_within {s : State} {d : Nat} {ps : Nat} {s0 : State} (hm : Covers 0x40000 ps) :
    Within ps s0 (realign s d) ↔ Within ps s0 s := by
  refine Within.over ?_ hm
  unfold realign
  simp (maxDischargeDepth := 6)

@[simp, simp ↓] theorem fbLatch_within {s : State} {d : Nat} {fb : Vector (List Nat) 2} {ps : Nat} {s0 : State} (hm : Covers 0x40000 ps) :
    Within ps s0 (fbLatch s d fb).2 ↔ Within ps s0 s := by
  refine Within.over ?_ hm
  unfold fbLatch
  repeat' first
    | (simp (maxDischargeDepth := 6) [apply_ite Prod.snd]; done)
    | split
    | (simp (maxDischargeDepth := 6) [apply_ite Prod.snd]; intros)

@[simp, simp ↓] theorem tdcLatch_within {s : State} {d : Nat} {edges : List Nat} {fb : Vector (List Nat) 2} {ps : Nat} {s0 : State} (hm :
    Covers 0x40000 ps) :
    Within ps s0 (tdcLatch s d edges fb) ↔ Within ps s0 s := by
  refine Within.over ?_ hm
  unfold tdcLatch
  have e : Within 0x40000 s (fbLatch s d fb).2 := by simp
  generalize fbLatch s d fb = r at e ⊢
  obtain ⟨fbs, t⟩ := r
  refine e.trans ?_
  dsimp -proj only
  repeat' first | (simp (maxDischargeDepth := 6); done) | split

@[simp, simp ↓] theorem tdcClear_within {s : State} {d : Nat} {ps : Nat} {s0 : State} (hm : Covers 0x40000 ps) :
    Within ps s0 (tdcClear s d) ↔ Within ps s0 s := by
  refine Within.over ?_ hm
  unfold tdcClear
  simp (maxDischargeDepth := 6)

@[simp, simp ↓] theorem filterUpdate_within {s : State} {d : Nat} {bo : Int} {ps : Nat} {s0 : State} (hm : Covers 0x40000 ps) :
    Within ps s0 (filterUpdate s d bo) ↔ Within ps s0 s := by
  refine Within.over ?_ hm
  unfold filterUpdate
  simp (maxDischargeDepth := 6)

@[simp, simp ↓] theorem buildOut_within {s : State} {d : Nat} {ps : Nat} {s0 : State} (hm : Covers 0x4440004a4021a ps) :
    Within ps s0 (buildOut s d) ↔ Within ps s0 s := by
  refine Within.over ?_ hm
  unfold buildOut
  simp (maxDischargeDepth := 6)

@[simp, simp ↓] theorem loopFilter_within {s : State} {disq : Nat → Bool} {d : Nat} {ps : Nat} {s0 : State} (hm : Covers 0x4440004a4021a ps)
    :
    Within ps s0 (loopFilter s disq d) ↔ Within ps s0 s := by
  refine Within.over ?_ hm
  unfold loopFilter
  dsimp -proj only
  split <;> simp (maxDischargeDepth := 6)

@[simp, simp ↓] theorem setLoop_within {s : State} {d : Nat} {l : LoopState} {cause : Nat} {ps : Nat} {s0 : State} (hm : Covers
    0x44000000d8200 ps) :
    Within ps s0 (setLoop s d l cause) ↔ Within ps s0 s := by
  refine Within.over ?_ hm
  unfold setLoop
  simp (maxDischargeDepth := 6)

@[simp, simp ↓] theorem toFreerun_within {s : State} {d cause : Nat} {ps : Nat} {s0 : State} (hm : Covers 0x44000000d8200 ps) :
    Within ps s0 (toFreerun s d cause) ↔ Within ps s0 s := by
  refine Within.over ?_ hm
  unfold toFreerun
  simp (maxDischargeDepth := 6)

@[simp, simp ↓] theorem toHoldover_within {s : State} {d cause : Nat} {ps : Nat} {s0 : State} (hm : Covers 0x44000000d8200 ps) :
    Within ps s0 (toHoldover s d cause) ↔ Within ps s0 s := by
  refine Within.over ?_ hm
  unfold toHoldover
  dsimp -proj only
  split <;> simp (maxDischargeDepth := 6)

@[simp, simp ↓] theorem acquire_within {s : State} {d n : Nat} {ps : Nat} {s0 : State} (hm : Covers 0x44000000d8200 ps) :
    Within ps s0 (acquire s d n) ↔ Within ps s0 s := by
  refine Within.over ?_ hm
  unfold acquire
  simp (maxDischargeDepth := 6)

@[simp, simp ↓] theorem hostLoop_within {s : State} {d : Nat} {ps : Nat} {s0 : State} (hm : Covers 0x44000000d8200 ps) :
    Within ps s0 (hostLoop s d) ↔ Within ps s0 s := by
  refine Within.over ?_ hm
  unfold hostLoop
  simp (maxDischargeDepth := 6)

@[simp, simp ↓] theorem hostWord_within {s : State} {d : Nat} {ps : Nat} {s0 : State} (hm : Covers 0x40000 ps) :
    Within ps s0 (hostWord s d) ↔ Within ps s0 s := by
  refine Within.over ?_ hm
  unfold hostWord
  simp (maxDischargeDepth := 6)

@[simp, simp ↓] theorem switchTo_within {s : State} {d n : Nat} {ps : Nat} {s0 : State} (hm : Covers 0x4400000140200 ps) :
    Within ps s0 (switchTo s d n) ↔ Within ps s0 s := by
  refine Within.over ?_ hm
  unfold switchTo
  simp (maxDischargeDepth := 6)

@[simp, simp ↓] theorem actOnSelection_within {s : State} {d : Nat} {old r : Option Nat} {ps : Nat} {s0 : State} (hm : Covers
    0x44000001d8200 ps) :
    Within ps s0 (actOnSelection s d old r) ↔ Within ps s0 s := by
  refine Within.over ?_ hm
  unfold actOnSelection
  repeat' split
  all_goals simp (maxDischargeDepth := 6)

@[simp, simp ↓] theorem deriveDpllOpers_within {s : State} {ps : Nat} {s0 : State} (hm : Covers 0x4004400000000200 ps) :
    Within ps s0 (deriveDpllOpers s) ↔ Within ps s0 s := by
  refine Within.over ?_ hm
  unfold deriveDpllOpers
  simp (maxDischargeDepth := 6)

@[simp, simp ↓] theorem selectAndAct_within {s : State} {d : Nat} {ps : Nat} {s0 : State} (hm : Covers 0x44000001d8200 ps) :
    Within ps s0 (selectAndAct s d) ↔ Within ps s0 s := by
  refine Within.over ?_ hm
  unfold selectAndAct
  simp (maxDischargeDepth := 6)

@[simp, simp ↓] theorem acqTimeout_within {s : State} {d : Nat} {ps : Nat} {s0 : State} (hm : Covers 0x4400000040200 ps) :
    Within ps s0 (acqTimeout s d) ↔ Within ps s0 s := by
  refine Within.over ?_ hm
  unfold acqTimeout
  simp (maxDischargeDepth := 6)

@[simp, simp ↓] theorem fastLock_within {s : State} {d : Nat} {ps : Nat} {s0 : State} (hm : Covers 0x4400000040200 ps) :
    Within ps s0 (fastLock s d) ↔ Within ps s0 s := by
  refine Within.over ?_ hm
  unfold fastLock
  dsimp -proj only
  repeat' split
  all_goals simp (maxDischargeDepth := 6)

@[simp, simp ↓] theorem hostWdog_within {s : State} {d : Nat} {ps : Nat} {s0 : State} (hm : Covers 0x4400000040200 ps) :
    Within ps s0 (hostWdog s d) ↔ Within ps s0 s := by
  refine Within.over ?_ hm
  unfold hostWdog
  split <;> simp (maxDischargeDepth := 6)

@[simp, simp ↓] theorem loopJob_within {s : State} {room : Option Nat} {ps : Nat} {s0 : State} (hm : Covers 0x4004440004be021a ps) :
    Within ps s0 (loopJob s room) ↔ Within ps s0 s := by
  refine Within.over ?_ hm
  unfold loopJob
  simp (maxDischargeDepth := 6)

@[simp, simp ↓] theorem moverJob_within {s : State} {room : Option Nat} {ps : Nat} {s0 : State} (hm : Covers 0x4400000040200 ps) :
    Within ps s0 (moverJob s room) ↔ Within ps s0 s := by
  refine Within.over ?_ hm
  unfold moverJob
  simp (maxDischargeDepth := 6)

@[simp, simp ↓] theorem selectJob_within {s : State} {room : Option Nat} {ps : Nat} {s0 : State} (hm : Covers 0x40044000001d8200 ps) :
    Within ps s0 (selectJob s room) ↔ Within ps s0 s := by
  refine Within.over ?_ hm
  unfold selectJob
  simp (maxDischargeDepth := 6)

@[simp, simp ↓] theorem openLoops_within {s : State} {ps : Nat} {s0 : State} (hm : Covers 0x44000000d8200 ps) :
    Within ps s0 (openLoops s) ↔ Within ps s0 s := by
  refine Within.over ?_ hm
  unfold openLoops
  simp (maxDischargeDepth := 6)

@[simp, simp ↓] theorem startLoops_within {s : State} {ps : Nat} {s0 : State} (hm : Covers 0x40000 ps) :
    Within ps s0 (startLoops s) ↔ Within ps s0 s := by
  refine Within.over ?_ hm
  unfold startLoops
  simp (maxDischargeDepth := 6)

@[simp, simp ↓] theorem dpllsCoreOff_within {s : State} {ps : Nat} {s0 : State} (hm : Covers 0x1c0000 ps) :
    Within ps s0 (dpllsCoreOff s) ↔ Within ps s0 s := by
  refine Within.over ?_ hm
  unfold dpllsCoreOff
  simp (maxDischargeDepth := 6)

@[simp, simp ↓] theorem declareLock_within {s : State} {d : Nat} {ps : Nat} {s0 : State} (hm : Covers 0x44000000d8200 ps) :
    Within ps s0 (declareLock s d) ↔ Within ps s0 s := by
  refine Within.over ?_ hm
  unfold declareLock
  simp (maxDischargeDepth := 6)

@[simp, simp ↓] theorem declareUnlock_within {s : State} {d : Nat} {ps : Nat} {s0 : State} (hm : Covers 0x44000000d8200 ps) :
    Within ps s0 (declareUnlock s d) ↔ Within ps s0 s := by
  refine Within.over ?_ hm
  unfold declareUnlock
  simp (maxDischargeDepth := 6)

@[simp, simp ↓] theorem feedbackFault_within {s : State} {d : Nat} {f : FbState} {e : Nat} {ps : Nat} {s0 : State} (hm : Covers
    0x4400000040200 ps) :
    Within ps s0 (feedbackFault s d f e) ↔ Within ps s0 s := by
  refine Within.over ?_ hm
  unfold feedbackFault
  simp (maxDischargeDepth := 6)

@[simp, simp ↓] theorem feedbackOk_within {s : State} {d : Nat} {ps : Nat} {s0 : State} (hm : Covers 0x4400000040200 ps) :
    Within ps s0 (feedbackOk s d) ↔ Within ps s0 s := by
  refine Within.over ?_ hm
  unfold feedbackOk
  simp (maxDischargeDepth := 6)

@[simp, simp ↓] theorem hostFreqWrite_within {s : State} {d : Nat} {v : Nat} {ps : Nat} {s0 : State} (hm : Covers 0x4400000040200 ps) :
    Within ps s0 (hostFreqWrite s d v) ↔ Within ps s0 s := by
  refine Within.over ?_ hm
  unfold hostFreqWrite
  simp (maxDischargeDepth := 6)

@[simp, simp ↓] theorem pmEcho_within {s : State} {m : Master} {d v code result : Nat} {ps : Nat} {s0 : State} (hm : Covers 0x30000000000
    ps) :
    Within ps s0 (pmEcho s m d v code result) ↔ Within ps s0 s := by
  refine Within.over ?_ hm
  unfold pmEcho
  simp (maxDischargeDepth := 6)

@[simp, simp ↓] theorem pmStepCmd_within {s : State} {m : Master} {d v : Nat} {ps : Nat} {s0 : State} (hm : Covers 0x4430000040200 ps) :
    Within ps s0 (pmStepCmd s m d v) ↔ Within ps s0 s := by
  refine Within.over ?_ hm
  unfold pmStepCmd
  simp (maxDischargeDepth := 6)

@[simp, simp ↓] theorem pmHaltCmd_within {s : State} {m : Master} {d v : Nat} {ps : Nat} {s0 : State} (hm : Covers 0x30000040000 ps) :
    Within ps s0 (pmHaltCmd s m d v) ↔ Within ps s0 s := by
  refine Within.over ?_ hm
  unfold pmHaltCmd
  simp (maxDischargeDepth := 6)

@[simp, simp ↓] theorem adoptTicknum_within {s : State} {ps : Nat} {s0 : State} (hm : Covers 0x4440004a4021a ps) :
    Within ps s0 (adoptTicknum s) ↔ Within ps s0 s := by
  refine Within.over ?_ hm
  unfold adoptTicknum
  simp (maxDischargeDepth := 6)

@[simp, simp ↓] theorem hitBuildOut_within {s : State} {n : Nat} {ps : Nat} {s0 : State} (hm : Covers 0x140000 ps) :
    Within ps s0 (hitBuildOut s n) ↔ Within ps s0 s := by
  refine Within.over ?_ hm
  unfold hitBuildOut
  simp (maxDischargeDepth := 6)

@[simp, simp ↓] theorem wmCompose_within {s : State} {ps : Nat} {s0 : State} (hm : Covers 0x800000 ps) :
    Within ps s0 (wmCompose s) ↔ Within ps s0 s := by
  refine Within.over ?_ hm
  unfold wmCompose
  simp (maxDischargeDepth := 6)

@[simp, simp ↓] theorem wmBoundary_within {s : State} {ps : Nat} {s0 : State} (hm : Covers 0x4400000800200 ps) :
    Within ps s0 (wmBoundary s) ↔ Within ps s0 s := by
  refine Within.over ?_ hm
  unfold wmBoundary
  simp (maxDischargeDepth := 6)

@[simp, simp ↓] theorem disturbOut_within {s : State} {n : Nat} {ps : Nat} {s0 : State} (hm : Covers 0x4400000800200 ps) :
    Within ps s0 (disturbOut s n) ↔ Within ps s0 s := by
  refine Within.over ?_ hm
  unfold disturbOut
  simp (maxDischargeDepth := 6)

@[simp, simp ↓] theorem stopOut_within {s : State} {n : Nat} {r : OutRun} {ps : Nat} {s0 : State} (hm : Covers 0x4400000800200 ps) :
    Within ps s0 (stopOut s n r) ↔ Within ps s0 s := by
  refine Within.over ?_ hm
  unfold stopOut
  simp (maxDischargeDepth := 6)

@[simp, simp ↓] theorem squelchOut_within {s : State} {n : Nat} {ps : Nat} {s0 : State} (hm : Covers 0x4400000800200 ps) :
    Within ps s0 (squelchOut s n) ↔ Within ps s0 s := by
  refine Within.over ?_ hm
  unfold squelchOut
  simp (maxDischargeDepth := 6)

@[simp, simp ↓] theorem startOut_within {s : State} {n : Nat} {ps : Nat} {s0 : State} (hm : Covers 0x4400000800200 ps) :
    Within ps s0 (startOut s n) ↔ Within ps s0 s := by
  refine Within.over ?_ hm
  unfold startOut
  simp (maxDischargeDepth := 6)

@[simp, simp ↓] theorem waitFrom_within {s : State} {n t : Nat} {ps : Nat} {s0 : State} (hm : Covers 0x800000 ps) :
    Within ps s0 (waitFrom s n t) ↔ Within ps s0 s := by
  refine Within.over ?_ hm
  unfold waitFrom
  simp (maxDischargeDepth := 6)

@[simp, simp ↓] theorem waitNow_within {s : State} {n : Nat} {ps : Nat} {s0 : State} (hm : Covers 0x4400000800200 ps) :
    Within ps s0 (waitNow s n) ↔ Within ps s0 s := by
  refine Within.over ?_ hm
  unfold waitNow
  simp (maxDischargeDepth := 6)

@[simp, simp ↓] theorem bypassOut0_within {s : State} {ps : Nat} {s0 : State} (hm : Covers 0x800000 ps) :
    Within ps s0 (bypassOut0 s) ↔ Within ps s0 s := by
  refine Within.over ?_ hm
  unfold bypassOut0
  simp (maxDischargeDepth := 6)

@[simp, simp ↓] theorem settleOut_within {s : State} {n : Nat} {ps : Nat} {s0 : State} (hm : Covers 0x4400000800200 ps) :
    Within ps s0 (settleOut s n) ↔ Within ps s0 s := by
  refine Within.over ?_ hm
  unfold settleOut
  simp (maxDischargeDepth := 6)

@[simp, simp ↓] theorem fodsSettle_within {s : State} {ps : Nat} {s0 : State} (hm : Covers 0x1000000 ps) :
    Within ps s0 (fodsSettle s) ↔ Within ps s0 s := by
  refine Within.over ?_ hm
  unfold fodsSettle
  simp (maxDischargeDepth := 6)

@[simp, simp ↓] theorem settleOuts_within {s : State} {ps : Nat} {s0 : State} (hm : Covers 0x4400001800200 ps) :
    Within ps s0 (settleOuts s) ↔ Within ps s0 s := by
  refine Within.over ?_ hm
  unfold settleOuts
  simp (maxDischargeDepth := 6)

@[simp, simp ↓] theorem epochOut_within {s : State} {n : Nat} {ps : Nat} {s0 : State} (hm : Covers 0x4400000804200 ps) :
    Within ps s0 (epochOut s n) ↔ Within ps s0 s := by
  refine Within.over ?_ hm
  unfold epochOut
  simp (maxDischargeDepth := 6)

@[simp, simp ↓] theorem fineSlew_within {s : State} {ps : Nat} {s0 : State} (hm : Covers 0x800000 ps) :
    Within ps s0 (fineSlew s) ↔ Within ps s0 s := by
  refine Within.over ?_ hm
  unfold fineSlew
  simp (maxDischargeDepth := 6)

@[simp, simp ↓] theorem fodCommit_within {s : State} {ps : Nat} {s0 : State} (hm : Covers 0x1000000 ps) :
    Within ps s0 (fodCommit s) ↔ Within ps s0 s := by
  refine Within.over ?_ hm
  unfold fodCommit
  simp (maxDischargeDepth := 6)

@[simp, simp ↓] theorem outCommit_within {s : State} {n : Nat} {ps : Nat} {s0 : State} (hm : Covers 0x4400000800200 ps) :
    Within ps s0 (outCommit s n) ↔ Within ps s0 s := by
  refine Within.over ?_ hm
  unfold outCommit
  simp (maxDischargeDepth := 6)

@[simp, simp ↓] theorem epochAsk_within {s : State} {d : Nat} {p : OutSet → Bool} {ks : List Nat} {ps : Nat} {s0 : State} (hm : Covers
    0x1800000 ps) :
    Within ps s0 (epochAsk s d p ks) ↔ Within ps s0 s := by
  refine Within.over ?_ hm
  unfold epochAsk
  simp (maxDischargeDepth := 6)

@[simp, simp ↓] theorem epochsAsk_within {s : State} {ps : Nat} {s0 : State} (hm : Covers 0x1800000 ps) :
    Within ps s0 (epochsAsk s) ↔ Within ps s0 s := by
  refine Within.over ?_ hm
  unfold epochsAsk
  simp (maxDischargeDepth := 6)

@[simp, simp ↓] theorem outsCommit_within {s : State} {ps : Nat} {s0 : State} (hm : Covers 0x4400001800200 ps) :
    Within ps s0 (outsCommit s) ↔ Within ps s0 s := by
  refine Within.over ?_ hm
  unfold outsCommit
  simp (maxDischargeDepth := 6)

@[simp, simp ↓] theorem senseLatch_within {s : State} {v : Vector SenseSample 24} {ps : Nat} {s0 : State} (hm : Covers 0x7400000800200 ps) :
    Within ps s0 (senseLatch s v) ↔ Within ps s0 s := by
  refine Within.over ?_ hm
  unfold senseLatch
  simp (maxDischargeDepth := 6)

@[simp, simp ↓] theorem senseJudge_within {s : State} {n : Nat} {ps : Nat} {s0 : State} (hm : Covers 0x4400000800200 ps) :
    Within ps s0 (senseJudge s n) ↔ Within ps s0 s := by
  refine Within.over ?_ hm
  unfold senseJudge
  simp (maxDischargeDepth := 6)

@[simp, simp ↓] theorem deriveSynOpers_within {s : State} {ps : Nat} {s0 : State} (hm : Covers 0x4004400000000200 ps) :
    Within ps s0 (deriveSynOpers s) ↔ Within ps s0 s := by
  refine Within.over ?_ hm
  unfold deriveSynOpers
  simp (maxDischargeDepth := 6)

@[simp, simp ↓] theorem outputsJob_within {s : State} {ps : Nat} {s0 : State} (hm : Covers 0x4004400001800200 ps) :
    Within ps s0 (outputsJob s) ↔ Within ps s0 s := by
  refine Within.over ?_ hm
  unfold outputsJob
  simp (maxDischargeDepth := 6)

@[simp, simp ↓] theorem outsDomainOff_within {s : State} {ps : Nat} {s0 : State} (hm : Covers 0x1800000 ps) :
    Within ps s0 (outsDomainOff s) ↔ Within ps s0 s := by
  refine Within.over ?_ hm
  unfold outsDomainOff
  simp (maxDischargeDepth := 6)

@[simp, simp ↓] theorem out0Bypass_within {s : State} {on : Bool} {ps : Nat} {s0 : State} (hm : Covers 0x804000 ps) :
    Within ps s0 (out0Bypass s on) ↔ Within ps s0 s := by
  refine Within.over ?_ hm
  unfold out0Bypass
  simp (maxDischargeDepth := 6)

@[simp, simp ↓] theorem bypassEnds_within {s : State} {ps : Nat} {s0 : State} (hm : Covers 0x800000 ps) :
    Within ps s0 (bypassEnds s) ↔ Within ps s0 s := by
  refine Within.over ?_ hm
  unfold bypassEnds
  simp (maxDischargeDepth := 6)

@[simp, simp ↓] theorem fodsStop_within {s : State} {n : Nat} {ps : Nat} {s0 : State} (hm : Covers 0x1000000 ps) :
    Within ps s0 (fodsStop s n) ↔ Within ps s0 s := by
  refine Within.over ?_ hm
  unfold fodsStop
  simp (maxDischargeDepth := 6)

@[simp, simp ↓] theorem searchStart_within {s : State} {n : Nat} {ps : Nat} {s0 : State} (hm : Covers 0x4400001a00200 ps) :
    Within ps s0 (searchStart s n) ↔ Within ps s0 s := by
  refine Within.over ?_ hm
  unfold searchStart
  simp (maxDischargeDepth := 6)

@[simp, simp ↓] theorem searchAll_within {s : State} {ps : Nat} {s0 : State} (hm : Covers 0x4400001a00200 ps) :
    Within ps s0 (searchAll s) ↔ Within ps s0 s := by
  refine Within.over ?_ hm
  unfold searchAll
  simp (maxDischargeDepth := 6)

@[simp, simp ↓] theorem searchOwed_within {s : State} {ps : Nat} {s0 : State} (hm : Covers 0x4400001a00200 ps) :
    Within ps s0 (searchOwed s) ↔ Within ps s0 s := by
  refine Within.over ?_ hm
  unfold searchOwed
  simp (maxDischargeDepth := 6)

@[simp, simp ↓] theorem apllStop_within {s : State} {n : Nat} {ps : Nat} {s0 : State} (hm : Covers 0x4400001a00200 ps) :
    Within ps s0 (apllStop s n) ↔ Within ps s0 s := by
  refine Within.over ?_ hm
  unfold apllStop
  simp (maxDischargeDepth := 6)

@[simp, simp ↓] theorem apllsStop_within {s : State} {ps : Nat} {s0 : State} (hm : Covers 0x4400001a00200 ps) :
    Within ps s0 (apllsStop s) ↔ Within ps s0 s := by
  refine Within.over ?_ hm
  unfold apllsStop
  simp (maxDischargeDepth := 6)

@[simp, simp ↓] theorem apllsLost_within {s : State} {owed : Bool} {ps : Nat} {s0 : State} (hm : Covers 0x4400001a00200 ps) :
    Within ps s0 (apllsLost s owed) ↔ Within ps s0 s := by
  refine Within.over ?_ hm
  unfold apllsLost
  simp (maxDischargeDepth := 6)

@[simp, simp ↓] theorem synCoreOff_within {s : State} {ps : Nat} {s0 : State} (hm : Covers 0x600000 ps) :
    Within ps s0 (synCoreOff s) ↔ Within ps s0 s := by
  refine Within.over ?_ hm
  unfold synCoreOff
  simp (maxDischargeDepth := 6)

@[simp, simp ↓] theorem lockingStart_within {s : State} {n : Nat} {ps : Nat} {s0 : State} (hm : Covers 0x200000 ps) :
    Within ps s0 (lockingStart s n) ↔ Within ps s0 s := by
  refine Within.over ?_ hm
  unfold lockingStart
  simp (maxDischargeDepth := 6)

@[simp, simp ↓] theorem alignStart_within {s : State} {n : Nat} {ps : Nat} {s0 : State} (hm : Covers 0x4400001a00200 ps) :
    Within ps s0 (alignStart s n) ↔ Within ps s0 s := by
  refine Within.over ?_ hm
  unfold alignStart
  simp (maxDischargeDepth := 6)

@[simp, simp ↓] theorem bandDone_within {s : State} {n code vtune : Nat} {ps : Nat} {s0 : State} (hm : Covers 0x4400001a00200 ps) :
    Within ps s0 (bandDone s n code vtune) ↔ Within ps s0 s := by
  refine Within.over ?_ hm
  unfold bandDone
  simp (maxDischargeDepth := 6)

@[simp, simp ↓] theorem bandFail_within {s : State} {n : Nat} {ps : Nat} {s0 : State} (hm : Covers 0x4400001a00200 ps) :
    Within ps s0 (bandFail s n) ↔ Within ps s0 s := by
  refine Within.over ?_ hm
  unfold bandFail
  simp (maxDischargeDepth := 6)

@[simp, simp ↓] theorem alignDone_within {s : State} {n : Nat} {off : Int} {ps : Nat} {s0 : State} (hm : Covers 0x4400001a00200 ps) :
    Within ps s0 (alignDone s n off) ↔ Within ps s0 s := by
  refine Within.over ?_ hm
  unfold alignDone
  simp (maxDischargeDepth := 6)

@[simp, simp ↓] theorem alignSlew_within {s : State} {n : Nat} {ps : Nat} {s0 : State} (hm : Covers 0x200000 ps) :
    Within ps s0 (alignSlew s n) ↔ Within ps s0 s := by
  refine Within.over ?_ hm
  unfold alignSlew
  simp (maxDischargeDepth := 6)

@[simp, simp ↓] theorem apllUnlock_within {s : State} {n : Nat} {ps : Nat} {s0 : State} (hm : Covers 0x4400001a00200 ps) :
    Within ps s0 (apllUnlock s n) ↔ Within ps s0 s := by
  refine Within.over ?_ hm
  unfold apllUnlock
  simp (maxDischargeDepth := 6)

@[simp, simp ↓] theorem spllUnlock_within {s : State} {ps : Nat} {s0 : State} (hm : Covers 0x4400001e00200 ps) :
    Within ps s0 (spllUnlock s) ↔ Within ps s0 s := by
  refine Within.over ?_ hm
  unfold spllUnlock
  simp (maxDischargeDepth := 6)

@[simp, simp ↓] theorem researchCmd_within {s : State} {m : Master} {n : Nat} {ps : Nat} {s0 : State} (hm : Covers 0x4430001a00200 ps) :
    Within ps s0 (researchCmd s m n) ↔ Within ps s0 s := by
  refine Within.over ?_ hm
  unfold researchCmd
  simp (maxDischargeDepth := 6)

@[simp, simp ↓] theorem startOuts_within {s : State} {ns : List Nat} {ps : Nat} {s0 : State} (hm : Covers 0x4400000800200 ps) :
    Within ps s0 (startOuts s ns).1 ↔ Within ps s0 s := by
  suffices H : ∀ (ns : List Nat) (k : Nat) (s : State),
      Within 0x4400000800200 s (ns.foldl (fun (p : State × Nat) n => if mayStart p.1 n then (startOut p.1 n, p.2 + 1) else p) (s, k)).1 from
          Within.over (H ns 0 s) hm
  intro ns
  induction ns with
  | nil => exact fun k s => Within.refl _ _
  | cons a l ih =>
    intro k s
    rw [List.foldl_cons]
    split
    · exact (Within.over (ih _ _) (Nat.and_self _)).mpr (by simp)
    · exact ih _ _

@[simp, simp ↓] theorem epochKept_within {s : State} {n : Nat} {ns : List Nat} {ps : Nat} {s0 : State} (hm : Covers 0x200000 ps) :
    Within ps s0 (epochKept s n ns) ↔ Within ps s0 s := by
  refine Within.over ?_ hm
  unfold epochKept
  split <;> simp (maxDischargeDepth := 6)

@[simp, simp ↓] theorem apllStartEpoch_within {s : State} {n : Nat} {ps : Nat} {s0 : State} (hm : Covers 0x7400040a40202 ps) :
    Within ps s0 (apllStartEpoch s n) ↔ Within ps s0 s := by
  refine Within.over ?_ hm
  unfold apllStartEpoch
  simp (maxDischargeDepth := 6)

@[simp, simp ↓] theorem fodsStartEpoch_within {s : State} {i : Nat} {ps : Nat} {s0 : State} (hm : Covers 0x7400041840202 ps) :
    Within ps s0 (fodsStartEpoch s i) ↔ Within ps s0 s := by
  refine Within.over ?_ hm
  unfold fodsStartEpoch
  simp (maxDischargeDepth := 6)

@[simp, simp ↓] theorem outStartEpoch_within {s : State} {n : Nat} {ps : Nat} {s0 : State} (hm : Covers 0x7400040840202 ps) :
    Within ps s0 (outStartEpoch s n) ↔ Within ps s0 s := by
  refine Within.over ?_ hm
  unfold outStartEpoch
  simp (maxDischargeDepth := 6)

@[simp, simp ↓] theorem startEpoch_within {s : State} {u : EpochUnit} {ps : Nat} {s0 : State} (hm : Covers 0x7400041a40202 ps) :
    Within ps s0 (startEpoch s u) ↔ Within ps s0 s := by
  refine Within.over ?_ hm
  unfold startEpoch
  split <;> simp (maxDischargeDepth := 6)

@[simp, simp ↓] theorem epochOuts_within {s : State} {ns : List Nat} {ps : Nat} {s0 : State} (hm : Covers 0x4400000804200 ps) :
    Within ps s0 (epochOuts s ns) ↔ Within ps s0 s := by
  refine Within.over ?_ hm
  unfold epochOuts
  simp (maxDischargeDepth := 6)

@[simp, simp ↓] theorem apllDividerEpoch_within {s : State} {n : Nat} {ps : Nat} {s0 : State} (hm : Covers 0x7400041a44202 ps) :
    Within ps s0 (apllDividerEpoch s n) ↔ Within ps s0 s := by
  refine Within.over ?_ hm
  unfold apllDividerEpoch
  split <;> simp (maxDischargeDepth := 6)

@[simp, simp ↓] theorem fodsDividerEpoch_within {s : State} {i : Nat} {ps : Nat} {s0 : State} (hm : Covers 0x7400041844202 ps) :
    Within ps s0 (fodsDividerEpoch s i) ↔ Within ps s0 s := by
  refine Within.over ?_ hm
  unfold fodsDividerEpoch
  split <;> simp (maxDischargeDepth := 6)

@[simp, simp ↓] theorem outDividerEpoch_within {s : State} {n : Nat} {ps : Nat} {s0 : State} (hm : Covers 0x4400001804200 ps) :
    Within ps s0 (outDividerEpoch s n) ↔ Within ps s0 s := by
  refine Within.over ?_ hm
  unfold outDividerEpoch
  simp (maxDischargeDepth := 6)

@[simp, simp ↓] theorem dividerEpoch_within {s : State} {u : EpochUnit} {ps : Nat} {s0 : State} (hm : Covers 0x7400041a44202 ps) :
    Within ps s0 (dividerEpoch s u) ↔ Within ps s0 s := by
  refine Within.over ?_ hm
  unfold dividerEpoch
  split <;> simp (maxDischargeDepth := 6)

@[simp, simp ↓] theorem resyncCmd_within {s : State} {m : Master} {n : Nat} {ps : Nat} {s0 : State} (hm : Covers 0x7430041a44202 ps) :
    Within ps s0 (resyncCmd s m n) ↔ Within ps s0 s := by
  refine Within.over ?_ hm
  unfold resyncCmd
  simp (maxDischargeDepth := 6)

@[simp, simp ↓] theorem freqWords_within {s : State} {ps : Nat} {s0 : State} (hm : Covers 0x4400003240204 ps) :
    Within ps s0 (freqWords s) ↔ Within ps s0 s := by
  refine Within.over ?_ hm
  unfold freqWords
  simp (maxDischargeDepth := 6)

@[simp, simp ↓] theorem timescalesSet_within {s : State} {ps : Nat} {s0 : State} (hm : Covers 0x40000 ps) :
    Within ps s0 (timescalesSet s) ↔ Within ps s0 s := by
  refine Within.over ?_ hm
  unfold timescalesSet
  simp (maxDischargeDepth := 6)

@[simp, simp ↓] theorem apllCommit_within {written : List Nat} {n : Nat} {s : State} {ps : Nat} {s0 : State} (hm : Covers 0x4400001a00200
    ps) :
    Within ps s0 (apllCommit written n s) ↔ Within ps s0 s := by
  refine Within.over ?_ hm
  unfold apllCommit
  simp (maxDischargeDepth := 6)

@[simp, simp ↓] theorem xoCfgWrite_within {s : State} {m : Master} {off : Nat} {v : Nat} {ps : Nat} {s0 : State} (hm : Covers
    0x800000c00400000 ps) :
    Within ps s0 (xoCfgWrite s m off v) ↔ Within ps s0 s := by
  refine Within.over ?_ hm
  unfold xoCfgWrite
  simp (maxDischargeDepth := 6)

@[simp, simp ↓] theorem portCount_within {s : State} {p i : Nat} {ps : Nat} {s0 : State} (hm : Covers 0x8000000 ps) :
    Within ps s0 (portCount s p i) ↔ Within ps s0 s := by
  refine Within.over ?_ hm
  unfold portCount
  simp (maxDischargeDepth := 6)

@[simp, simp ↓] theorem clearPortCounts_within {s : State} {p : Nat} {ps : Nat} {s0 : State} (hm : Covers 0x8000000 ps) :
    Within ps s0 (clearPortCounts s p) ↔ Within ps s0 s := by
  refine Within.over ?_ hm
  unfold clearPortCounts
  simp (maxDischargeDepth := 6)

@[simp, simp ↓] theorem enqueueTx_within {s : State} {p : Nat} {c : Cell} {fwd : Bool} {ps : Nat} {s0 : State} (hm : Covers 0x8000000 ps) :
    Within ps s0 (enqueueTx s p c fwd) ↔ Within ps s0 s := by
  refine Within.over ?_ hm
  unfold enqueueTx
  simp (maxDischargeDepth := 6)

@[simp, simp ↓] theorem forwardCell_within {s : State} {p : Nat} {c : Cell} {ps : Nat} {s0 : State} (hm : Covers 0x8000000 ps) :
    Within ps s0 (forwardCell s p c) ↔ Within ps s0 s := by
  refine Within.over ?_ hm
  unfold forwardCell
  simp (maxDischargeDepth := 6)

@[simp, simp ↓] theorem sendLink_within {s : State} {p typ : Nat} {payload : List Byte} {ps : Nat} {s0 : State} (hm : Covers 0x8000000 ps) :
    Within ps s0 (sendLink s p typ payload) ↔ Within ps s0 s := by
  refine Within.over ?_ hm
  unfold sendLink
  simp (maxDischargeDepth := 6)

@[simp, simp ↓] theorem sendNet_within {s : State} {x typ : Nat} {scope : Scope} {src dst : Nat} {payload : List Byte} {ports : List Nat}
    {ps : Nat} {s0 : State} (hm : Covers 0x18000000 ps) :
    Within ps s0 (sendNet s x typ scope src dst payload ports) ↔ Within ps s0 s := by
  refine Within.over ?_ hm
  unfold sendNet
  simp (maxDischargeDepth := 6)

@[simp, simp ↓] theorem departCell_within {s : State} {p : Nat} {c : Cell} {ps : Nat} {s0 : State} (hm : Covers 0x8000000 ps) :
    Within ps s0 (departCell s p c) ↔ Within ps s0 s := by
  refine Within.over ?_ hm
  unfold departCell
  simp (maxDischargeDepth := 6)

@[simp, simp ↓] theorem slotPort_within {s : State} {p : Nat} {ps : Nat} {s0 : State} (hm : Covers 0x8000000 ps) :
    Within ps s0 (slotPort s p) ↔ Within ps s0 s := by
  refine Within.over ?_ hm
  unfold slotPort
  dsimp -proj only
  repeat' split
  all_goals simp (maxDischargeDepth := 6)

@[simp, simp ↓] theorem dropQueued_within {s : State} {p : Nat} {ps : Nat} {s0 : State} (hm : Covers 0x8000000 ps) :
    Within ps s0 (dropQueued s p) ↔ Within ps s0 s := by
  refine Within.over ?_ hm
  unfold dropQueued
  simp (maxDischargeDepth := 6)

@[simp, simp ↓] theorem gainLock_within {s : State} {p : Nat} {ps : Nat} {s0 : State} (hm : Covers 0x4400008000200 ps) :
    Within ps s0 (gainLock s p) ↔ Within ps s0 s := by
  refine Within.over ?_ hm
  unfold gainLock
  simp (maxDischargeDepth := 6)

@[simp, simp ↓] theorem loseLock_within {s : State} {p : Nat} {cdr : Bool} {ps : Nat} {s0 : State} (hm : Covers 0x4400008000200 ps) :
    Within ps s0 (loseLock s p cdr) ↔ Within ps s0 s := by
  refine Within.over ?_ hm
  unfold loseLock
  simp (maxDischargeDepth := 6)

@[simp, simp ↓] theorem badCell_within {s : State} {p codeErrs : Nat} {ps : Nat} {s0 : State} (hm : Covers 0x7400008000200 ps) :
    Within ps s0 (badCell s p codeErrs) ↔ Within ps s0 s := by
  refine Within.over ?_ hm
  unfold badCell
  simp (maxDischargeDepth := 6)

@[simp, simp ↓] theorem sdSecond_within {s : State} {p : Nat} {ps : Nat} {s0 : State} (hm : Covers 0x8000000 ps) :
    Within ps s0 (sdSecond s p) ↔ Within ps s0 s := by
  refine Within.over ?_ hm
  unfold sdSecond
  simp (maxDischargeDepth := 6)

@[simp, simp ↓] theorem wiringFault_within {s : State} {p : Nat} {ps : Nat} {s0 : State} (hm : Covers 0x4400008000200 ps) :
    Within ps s0 (wiringFault s p) ↔ Within ps s0 s := by
  refine Within.over ?_ hm
  unfold wiringFault
  simp (maxDischargeDepth := 6)

@[simp, simp ↓] theorem addrConflict_within {s : State} {p : Nat} {ps : Nat} {s0 : State} (hm : Covers 0x4400008000200 ps) :
    Within ps s0 (addrConflict s p) ↔ Within ps s0 s := by
  refine Within.over ?_ hm
  unfold addrConflict
  simp (maxDischargeDepth := 6)

@[simp, simp ↓] theorem takeCell_within {s : State} {p : Nat} {c : Cell} {at_ : Nat} {ps : Nat} {s0 : State} (hm : Covers 0x4400208000200
    ps) :
    Within ps s0 (takeCell s p c at_) ↔ Within ps s0 s := by
  refine Within.over ?_ hm
  unfold takeCell
  simp (maxDischargeDepth := 6)

@[simp, simp ↓] theorem receiveCell_within {s : State} {p : Nat} {c : Cell} {at_ : Nat} {ps : Nat} {s0 : State} (hm : Covers 0x7400208000200
    ps) :
    Within ps s0 (receiveCell s p c at_) ↔ Within ps s0 s := by
  refine Within.over ?_ hm
  unfold receiveCell
  repeat' split
  all_goals simp (maxDischargeDepth := 6)

@[simp, simp ↓] theorem measureRtt_within {s : State} {p : Nat} {rtt : Int} {ps : Nat} {s0 : State} (hm : Covers 0x4400008000200 ps) :
    Within ps s0 (measureRtt s p rtt) ↔ Within ps s0 s := by
  refine Within.over ?_ hm
  unfold measureRtt
  simp (maxDischargeDepth := 6)

@[simp, simp ↓] theorem judgeSeconds_within {s : State} {p : Nat} {o : Int} {secValid : Bool} {ps : Nat} {s0 : State} (hm : Covers
    0x18000000 ps) :
    Within ps s0 (judgeSeconds s p o secValid) ↔ Within ps s0 s := by
  refine Within.over ?_ hm
  unfold judgeSeconds
  simp (maxDischargeDepth := 6)

@[simp, simp ↓] theorem processTime_within {s : State} {p : Nat} {r : RxCell} {ps : Nat} {s0 : State} (hm : Covers 0x4400018000200 ps) :
    Within ps s0 (processTime s p r) ↔ Within ps s0 s := by
  refine Within.over ?_ hm
  unfold processTime
  dsimp -proj only
  split <;> simp (maxDischargeDepth := 6)

@[simp, simp ↓] theorem adoptSeconds_within {s : State} {ps : Nat} {s0 : State} (hm : Covers 0x4440014a0021a ps) :
    Within ps s0 (adoptSeconds s) ↔ Within ps s0 s := by
  refine Within.over ?_ hm
  unfold adoptSeconds
  split <;> simp (maxDischargeDepth := 6)

@[simp, simp ↓] theorem processQl_within {s : State} {p : Nat} {c : Cell} {ps : Nat} {s0 : State} (hm : Covers 0x4400008020200 ps) :
    Within ps s0 (processQl s p c) ↔ Within ps s0 s := by
  refine Within.over ?_ hm
  unfold processQl
  simp (maxDischargeDepth := 6)

@[simp, simp ↓] theorem tickMismatch_within {s : State} {x p : Nat} {ps : Nat} {s0 : State} (hm : Covers 0x4400010000200 ps) :
    Within ps s0 (tickMismatch s x p) ↔ Within ps s0 s := by
  refine Within.over ?_ hm
  unfold tickMismatch
  simp (maxDischargeDepth := 6)

@[simp, simp ↓] theorem processState_within {s : State} {p : Nat} {c : Cell} {ps : Nat} {s0 : State} (hm : Covers 0x4400018000200 ps) :
    Within ps s0 (processState s p c) ↔ Within ps s0 s := by
  refine Within.over ?_ hm
  unfold processState
  simp (maxDischargeDepth := 6)

@[simp, simp ↓] theorem processEye_within {s : State} {c : Cell} {ps : Nat} {s0 : State} (hm : Covers 0x4400000000220 ps) :
    Within ps s0 (processEye s c) ↔ Within ps s0 s := by
  refine Within.over ?_ hm
  unfold processEye
  simp (maxDischargeDepth := 6)

@[simp, simp ↓] theorem composeQl_within {s : State} {ps : Nat} {s0 : State} (hm : Covers 0x18000000 ps) :
    Within ps s0 (composeQl s) ↔ Within ps s0 s := by
  refine Within.over ?_ hm
  unfold composeQl
  simp (maxDischargeDepth := 6)

@[simp, simp ↓] theorem composeState_within {s : State} {ps : Nat} {s0 : State} (hm : Covers 0x18000000 ps) :
    Within ps s0 (composeState s) ↔ Within ps s0 s := by
  refine Within.over ?_ hm
  unfold composeState
  simp (maxDischargeDepth := 6)

@[simp, simp ↓] theorem composeEye_within {s : State} {n : Nat} {ps : Nat} {s0 : State} (hm : Covers 0x18000020 ps) :
    Within ps s0 (composeEye s n) ↔ Within ps s0 s := by
  refine Within.over ?_ hm
  unfold composeEye
  simp (maxDischargeDepth := 6)

@[simp, simp ↓] theorem composeTime_within {s : State} {ps : Nat} {s0 : State} (hm : Covers 0x8000000 ps) :
    Within ps s0 (composeTime s) ↔ Within ps s0 s := by
  refine Within.over ?_ hm
  unfold composeTime
  simp (maxDischargeDepth := 6)

@[simp, simp ↓] theorem composeCells_within {s : State} {ps : Nat} {s0 : State} (hm : Covers 0x18000020 ps) :
    Within ps s0 (composeCells s) ↔ Within ps s0 s := by
  refine Within.over ?_ hm
  unfold composeCells
  simp (maxDischargeDepth := 6)

@[simp, simp ↓] theorem windowExpire_within {s : State} {p : Nat} {ps : Nat} {s0 : State} (hm : Covers 0x8000000 ps) :
    Within ps s0 (windowExpire s p) ↔ Within ps s0 s := by
  refine Within.over ?_ hm
  unfold windowExpire
  simp (maxDischargeDepth := 6)

@[simp, simp ↓] theorem causeExpire_within {s : State} {p : Nat} {ps : Nat} {s0 : State} (hm : Covers 0x8000000 ps) :
    Within ps s0 (causeExpire s p) ↔ Within ps s0 s := by
  refine Within.over ?_ hm
  unfold causeExpire
  simp (maxDischargeDepth := 6)

@[simp, simp ↓] theorem reportExpire_within {s : State} {p : Nat} {ps : Nat} {s0 : State} (hm : Covers 0x8000000 ps) :
    Within ps s0 (reportExpire s p) ↔ Within ps s0 s := by
  refine Within.over ?_ hm
  unfold reportExpire
  simp (maxDischargeDepth := 6)

@[simp, simp ↓] theorem mismatchExpire_within {s : State} {x : Nat} {ps : Nat} {s0 : State} (hm : Covers 0x10000000 ps) :
    Within ps s0 (mismatchExpire s x) ↔ Within ps s0 s := by
  refine Within.over ?_ hm
  unfold mismatchExpire
  simp (maxDischargeDepth := 6)

@[simp, simp ↓] theorem derivePortOpers_within {s : State} {ps : Nat} {s0 : State} (hm : Covers 0x4004400008000200 ps) :
    Within ps s0 (derivePortOpers s) ↔ Within ps s0 s := by
  refine Within.over ?_ hm
  unfold derivePortOpers
  simp (maxDischargeDepth := 6)

@[simp, simp ↓] theorem portsJob_within {s : State} {ps : Nat} {s0 : State} (hm : Covers 0x4004400018000200 ps) :
    Within ps s0 (portsJob s) ↔ Within ps s0 s := by
  refine Within.over ?_ hm
  unfold portsJob
  simp (maxDischargeDepth := 6)

@[simp, simp ↓] theorem lacesCoreOn_within {s : State} {ps : Nat} {s0 : State} (hm : Covers 0x18000000 ps) :
    Within ps s0 (lacesCoreOn s) ↔ Within ps s0 s := by
  refine Within.over ?_ hm
  unfold lacesCoreOn
  simp (maxDischargeDepth := 6)

@[simp, simp ↓] theorem lacesCoreOff_within {s : State} {ps : Nat} {s0 : State} (hm : Covers 0x18000000 ps) :
    Within ps s0 (lacesCoreOff s) ↔ Within ps s0 s := by
  refine Within.over ?_ hm
  unfold lacesCoreOff
  simp (maxDischargeDepth := 6)

@[simp, simp ↓] theorem lacesCommit_within {s : State} {ps : Nat} {s0 : State} (hm : Covers 0x8000000 ps) :
    Within ps s0 (lacesCommit s) ↔ Within ps s0 s := by
  refine Within.over ?_ hm
  unfold lacesCommit
  simp (maxDischargeDepth := 6)

@[simp, simp ↓] theorem cntClr_within {s : State} {m : Master} {p : Nat} {ps : Nat} {s0 : State} (hm : Covers 0x30008000000 ps) :
    Within ps s0 (cntClr s m p) ↔ Within ps s0 s := by
  refine Within.over ?_ hm
  unfold cntClr
  simp (maxDischargeDepth := 6)

@[simp, simp ↓] theorem setTxnErr_within {s : State} {m : Master} {code index : Nat} {ps : Nat} {s0 : State} (hm : Covers 0xc00000000 ps) :
    Within ps s0 (setTxnErr s m code index) ↔ Within ps s0 s := by
  refine Within.over ?_ hm
  unfold setTxnErr
  simp (maxDischargeDepth := 6)

@[simp, simp ↓] theorem refuseTxn_within {s : State} {m : Master} {cmd code : Nat} {ps : Nat} {s0 : State} (hm : Covers 0x30c00000000 ps) :
    Within ps s0 (refuseTxn s m cmd code) ↔ Within ps s0 s := by
  refine Within.over ?_ hm
  unfold refuseTxn
  simp (maxDischargeDepth := 6)

@[simp, simp ↓] theorem acceptTxn_within {s : State} {m : Master} {cmd : Nat} {ps : Nat} {s0 : State} (hm : Covers 0x30000000000 ps) :
    Within ps s0 (acceptTxn s m cmd) ↔ Within ps s0 s := by
  refine Within.over ?_ hm
  unfold acceptTxn
  simp (maxDischargeDepth := 6)

@[simp, simp ↓] theorem touchTxn_within {s : State} {ps : Nat} {s0 : State} (hm : Covers 0x40000000000 ps) :
    Within ps s0 (touchTxn s) ↔ Within ps s0 s := by
  refine Within.over ?_ hm
  unfold touchTxn
  simp (maxDischargeDepth := 6)

@[simp, simp ↓] theorem pauseTxn_within {s : State} {ps : Nat} {s0 : State} (hm : Covers 0x40000000000 ps) :
    Within ps s0 (pauseTxn s) ↔ Within ps s0 s := by
  refine Within.over ?_ hm
  unfold pauseTxn
  simp (maxDischargeDepth := 6)

@[simp, simp ↓] theorem resumeTxn_within {s : State} {ps : Nat} {s0 : State} (hm : Covers 0x40000000000 ps) :
    Within ps s0 (resumeTxn s) ↔ Within ps s0 s := by
  refine Within.over ?_ hm
  unfold resumeTxn
  split <;> simp (maxDischargeDepth := 6)

@[simp, simp ↓] theorem oweAck_within {s : State} {kind cause code tick : Nat} {ps : Nat} {s0 : State} (hm : Covers 0x10000000 ps) :
    Within ps s0 (oweAck s kind cause code tick) ↔ Within ps s0 s := by
  refine Within.over ?_ hm
  unfold oweAck
  simp (maxDischargeDepth := 6)

@[simp, simp ↓] theorem dcRollback_within {s : State} {ps : Nat} {s0 : State} (hm : Covers 0x10000000 ps) :
    Within ps s0 (dcRollback s) ↔ Within ps s0 s := by
  refine Within.over ?_ hm
  unfold dcRollback
  split <;> simp (maxDischargeDepth := 6)

@[simp, simp ↓] theorem endTxn_within {s : State} {result : Nat} {ps : Nat} {s0 : State} (hm : Covers 0x40000000000 ps) :
    Within ps s0 (endTxn s result) ↔ Within ps s0 s := by
  refine Within.over ?_ hm
  unfold endTxn
  simp (maxDischargeDepth := 6)

@[simp, simp ↓] theorem rollbackTxn_within {s : State} {result : Nat} {ps : Nat} {s0 : State} (hm : Covers 0x40010000000 ps) :
    Within ps s0 (rollbackTxn s result) ↔ Within ps s0 s := by
  refine Within.over ?_ hm
  unfold rollbackTxn
  simp (maxDischargeDepth := 6)

@[simp, simp ↓] theorem txnCoreOff_within {s : State} {ps : Nat} {s0 : State} (hm : Covers 0x40000000000 ps) :
    Within ps s0 (txnCoreOff s) ↔ Within ps s0 s := by
  refine Within.over ?_ hm
  unfold txnCoreOff
  simp (maxDischargeDepth := 6)

@[simp, simp ↓] theorem reopenTxn_within {s : State} {result : Nat} {ps : Nat} {s0 : State} (hm : Covers 0x40000000000 ps) :
    Within ps s0 (reopenTxn s result) ↔ Within ps s0 s := by
  refine Within.over ?_ hm
  unfold reopenTxn
  simp (maxDischargeDepth := 6)

@[simp, simp ↓] theorem acceptCommit_within {s : State} {m : Master} {cmd : Nat} {k : CommitKind} {tick : Nat} {ps : Nat} {s0 : State} (hm :
    Covers 0x70000000000 ps) :
    Within ps s0 (acceptCommit s m cmd k tick) ↔ Within ps s0 s := by
  refine Within.over ?_ hm
  unfold acceptCommit
  simp (maxDischargeDepth := 6)

@[simp, simp ↓] theorem txnBegin_within {s : State} {m : Master} {ps : Nat} {s0 : State} (hm : Covers 0x70c00000000 ps) :
    Within ps s0 (txnBegin s m) ↔ Within ps s0 s := by
  refine Within.over ?_ hm
  unfold txnBegin
  simp (maxDischargeDepth := 6)

@[simp, simp ↓] theorem commitNext_within {s : State} {m : Master} {ps : Nat} {s0 : State} (hm : Covers 0x70c00000000 ps) :
    Within ps s0 (commitNext s m) ↔ Within ps s0 s := by
  refine Within.over ?_ hm
  unfold commitNext
  repeat' split
  all_goals simp (maxDischargeDepth := 6)

@[simp, simp ↓] theorem commitAtTick_within {s : State} {m : Master} {ps : Nat} {s0 : State} (hm : Covers 0x70c00000000 ps) :
    Within ps s0 (commitAtTick s m) ↔ Within ps s0 s := by
  refine Within.over ?_ hm
  unfold commitAtTick
  repeat' split
  all_goals simp (maxDischargeDepth := 6)

@[simp, simp ↓] theorem commitAtTime_within {s : State} {m : Master} {ps : Nat} {s0 : State} (hm : Covers 0x70c00000000 ps) :
    Within ps s0 (commitAtTime s m) ↔ Within ps s0 s := by
  refine Within.over ?_ hm
  unfold commitAtTime
  repeat' split
  all_goals simp (maxDischargeDepth := 6)

@[simp, simp ↓] theorem commitDist_within {s : State} {m : Master} {ps : Nat} {s0 : State} (hm : Covers 0x70c00000000 ps) :
    Within ps s0 (commitDist s m) ↔ Within ps s0 s := by
  refine Within.over ?_ hm
  unfold commitDist
  repeat' split
  all_goals simp (maxDischargeDepth := 6)

@[simp, simp ↓] theorem armDc_within {s : State} {m : Master} {ps : Nat} {s0 : State} (hm : Covers 0x70c00000000 ps) :
    Within ps s0 (armDc s m) ↔ Within ps s0 s := by
  refine Within.over ?_ hm
  unfold armDc
  repeat' split
  all_goals simp (maxDischargeDepth := 6)

@[simp, simp ↓] theorem disarm_within {s : State} {m : Master} {ps : Nat} {s0 : State} (hm : Covers 0x70c00000000 ps) :
    Within ps s0 (disarm s m) ↔ Within ps s0 s := by
  refine Within.over ?_ hm
  unfold disarm
  repeat' split
  all_goals simp (maxDischargeDepth := 6)

@[simp, simp ↓] theorem rollbackCmd_within {s : State} {m : Master} {ps : Nat} {s0 : State} (hm : Covers 0x70c10000000 ps) :
    Within ps s0 (rollbackCmd s m) ↔ Within ps s0 s := by
  refine Within.over ?_ hm
  unfold rollbackCmd
  repeat' split
  all_goals simp (maxDischargeDepth := 6)

@[simp, simp ↓] theorem keepalive_within {s : State} {m : Master} {ps : Nat} {s0 : State} (hm : Covers 0x70c00000000 ps) :
    Within ps s0 (keepalive s m) ↔ Within ps s0 s := by
  refine Within.over ?_ hm
  unfold keepalive
  repeat' split
  all_goals simp (maxDischargeDepth := 6)

@[simp, simp ↓] theorem txnTimeout_within {s : State} {ps : Nat} {s0 : State} (hm : Covers 0x4440010000200 ps) :
    Within ps s0 (txnTimeout s) ↔ Within ps s0 s := by
  refine Within.over ?_ hm
  unfold txnTimeout
  simp (maxDischargeDepth := 6)

@[simp, simp ↓] theorem refuseCommit_within {s : State} {errs : List (Nat × Nat × Nat)} {result : Nat} {ps : Nat} {s0 : State} (hm : Covers
    0x4440c00000200 ps) :
    Within ps s0 (refuseCommit s errs result) ↔ Within ps s0 s := by
  refine Within.over ?_ hm
  unfold refuseCommit
  split <;> simp (maxDischargeDepth := 6)

@[simp, simp ↓] theorem proposeDc_within {s : State} {ps : Nat} {s0 : State} (hm : Covers 0x40010000000 ps) :
    Within ps s0 (proposeDc s) ↔ Within ps s0 s := by
  refine Within.over ?_ hm
  unfold proposeDc
  simp (maxDischargeDepth := 6)

@[simp, simp ↓] theorem dcFinalFail_within {s : State} {errs : List (Nat × Nat × Nat)} {ps : Nat} {s0 : State} (hm : Covers 0x4440c10000200
    ps) :
    Within ps s0 (dcFinalFail s errs) ↔ Within ps s0 s := by
  refine Within.over ?_ hm
  unfold dcFinalFail
  simp (maxDischargeDepth := 6)

@[simp, simp ↓] theorem commitValidate_within {s : State} {ps : Nat} {s0 : State} (hm : Covers 0x4440c10000200 ps) :
    Within ps s0 (commitValidate s) ↔ Within ps s0 s := by
  refine Within.over ?_ hm
  unfold commitValidate
  split <;> simp (maxDischargeDepth := 6)

@[simp, simp ↓] theorem dcApplied_within {s : State} {addr guard : Nat} {ps : Nat} {s0 : State} (hm : Covers 0x10000000 ps) :
    Within ps s0 (dcApplied s addr guard) ↔ Within ps s0 s := by
  refine Within.over ?_ hm
  unfold dcApplied
  simp (maxDischargeDepth := 6)

@[simp, simp ↓] theorem commitApply_within {s : State} {ps : Nat} {s0 : State} (hm : Covers 0x2804440010000200 ps) :
    Within ps s0 (commitApply s) ↔ Within ps s0 s := by
  refine Within.over ?_ hm
  unfold commitApply
  simp (maxDischargeDepth := 6)

@[simp, simp ↓] theorem sendCommit_within {s : State} {kind cause : Nat} {ps : Nat} {s0 : State} (hm : Covers 0x18000000 ps) :
    Within ps s0 (sendCommit s kind cause) ↔ Within ps s0 s := by
  refine Within.over ?_ hm
  unfold sendCommit
  simp (maxDischargeDepth := 6)

@[simp, simp ↓] theorem sendAck_within {s : State} {a : DueAck} {ps : Nat} {s0 : State} (hm : Covers 0x18000000 ps) :
    Within ps s0 (sendAck s a) ↔ Within ps s0 s := by
  refine Within.over ?_ hm
  unfold sendAck
  simp (maxDischargeDepth := 6)

@[simp, simp ↓] theorem composeCommit_within {s : State} {ps : Nat} {s0 : State} (hm : Covers 0x18000000 ps) :
    Within ps s0 (composeCommit s) ↔ Within ps s0 s := by
  refine Within.over ?_ hm
  unfold composeCommit
  simp (maxDischargeDepth := 6)

@[simp, simp ↓] theorem processPropose_within {s : State} {c : Cell} {ps : Nat} {s0 : State} (hm : Covers 0x4440c10000200 ps) :
    Within ps s0 (processPropose s c) ↔ Within ps s0 s := by
  refine Within.over ?_ hm
  unfold processPropose
  dsimp -proj only
  repeat' split
  all_goals simp (maxDischargeDepth := 6)

@[simp, simp ↓] theorem processDecision_within {s : State} {c : Cell} {ps : Nat} {s0 : State} (hm : Covers 0x4440010000200 ps) :
    Within ps s0 (processDecision s c) ↔ Within ps s0 s := by
  refine Within.over ?_ hm
  unfold processDecision
  simp (maxDischargeDepth := 6)

@[simp, simp ↓] theorem processCommit_within {s : State} {c : Cell} {ps : Nat} {s0 : State} (hm : Covers 0x4440c10000200 ps) :
    Within ps s0 (processCommit s c) ↔ Within ps s0 s := by
  refine Within.over ?_ hm
  unfold processCommit
  split <;> simp (maxDischargeDepth := 6)

@[simp, simp ↓] theorem decideAbort_within {s : State} {cause : Nat} {ps : Nat} {s0 : State} (hm : Covers 0x40010000000 ps) :
    Within ps s0 (decideAbort s cause) ↔ Within ps s0 s := by
  refine Within.over ?_ hm
  unfold decideAbort
  simp (maxDischargeDepth := 6)

@[simp, simp ↓] theorem processAck_within {s : State} {c : Cell} {ps : Nat} {s0 : State} (hm : Covers 0x4440010000200 ps) :
    Within ps s0 (processAck s c) ↔ Within ps s0 s := by
  refine Within.over ?_ hm
  unfold processAck
  simp (maxDischargeDepth := 6)

@[simp, simp ↓] theorem dcDeadline_within {s : State} {ps : Nat} {s0 : State} (hm : Covers 0x40010000000 ps) :
    Within ps s0 (dcDeadline s) ↔ Within ps s0 s := by
  refine Within.over ?_ hm
  unfold dcDeadline
  simp (maxDischargeDepth := 6)

@[simp, simp ↓] theorem dcResolve_within {s : State} {ps : Nat} {s0 : State} (hm : Covers 0x4440010000200 ps) :
    Within ps s0 (dcResolve s) ↔ Within ps s0 s := by
  refine Within.over ?_ hm
  unfold dcResolve
  simp (maxDischargeDepth := 6)

@[simp, simp ↓] theorem dcSplitCheck_within {s : State} {ps : Nat} {s0 : State} (hm : Covers 0x4400010000200 ps) :
    Within ps s0 (dcSplitCheck s) ↔ Within ps s0 s := by
  refine Within.over ?_ hm
  unfold dcSplitCheck
  split <;> simp (maxDischargeDepth := 6)

@[simp, simp ↓] theorem processCell_within {s : State} {p : Nat} {r : RxCell} {ps : Nat} {s0 : State} (hm : Covers 0x4440c18020220 ps) :
    Within ps s0 (processCell s p r) ↔ Within ps s0 s := by
  refine Within.over ?_ hm
  unfold processCell
  split <;> simp (maxDischargeDepth := 6)

@[simp, simp ↓] theorem processCells_within {s : State} {p k : Nat} {ps : Nat} {s0 : State} (hm : Covers 0x4440c18020220 ps) :
    Within ps s0 (processCells s p k) ↔ Within ps s0 s := by
  refine Within.over ?_ hm
  unfold processCells
  simp (maxDischargeDepth := 6)

@[simp, simp ↓] theorem cellsTurn_within {k p : Nat} {t : State × Option Nat} {ps : Nat} {s0 : State} (hm : Covers 0x4440c18020220 ps) :
    Within ps s0 (cellsTurn k t p).1 ↔ Within ps s0 t.1 := by
  unfold cellsTurn
  simp [hm]

@[simp, simp ↓] theorem cellsJob_within {s : State} {room : Option Nat} {ps : Nat} {s0 : State} (hm : Covers 0x4440c18020220 ps) :
    Within ps s0 (cellsJob s room) ↔ Within ps s0 s := by
  refine Within.over ?_ hm
  have h : ∀ (l : List Nat) (t : State × Option Nat), Within 0x4440c18020220 t.1 (l.foldl (cellsTurn (rxLimit s.time.period)) t).1 := by
    intro l
    induction l with
    | nil => exact fun t => .refl _ _
    | cons a l ih => exact fun t => .trans (by simp) (ih _)
  unfold cellsJob
  dsimp only
  refine (h (List.range 4) (s, room)).trans ?_
  split <;> simp

@[simp, simp ↓] theorem State_onChan_within {s : State} {c : Chan} {f : SafeChan → SafeChan} {ps : Nat} {s0 : State} (hm : Covers 0xc0000000
    ps) :
    Within ps s0 (State.onChan s c f) ↔ Within ps s0 s := by
  refine Within.over ?_ hm
  unfold State.onChan
  split <;> simp (maxDischargeDepth := 6)

@[simp, simp ↓] theorem discFault_within {s : State} {c : Chan} {i : Nat} {ps : Nat} {s0 : State} (hm : Covers 0x44000c0000200 ps) :
    Within ps s0 (discFault s c i) ↔ Within ps s0 s := by
  refine Within.over ?_ hm
  unfold discFault
  simp (maxDischargeDepth := 6)

@[simp, simp ↓] theorem judgeInput_within {s : State} {c : Chan} {i now : Nat} {ps : Nat} {s0 : State} (hm : Covers 0x44000c0000200 ps) :
    Within ps s0 (judgeInput s c i now) ↔ Within ps s0 s := by
  refine Within.over ?_ hm
  unfold judgeInput
  dsimp -proj only
  repeat' split
  all_goals simp (maxDischargeDepth := 6)

@[simp, simp ↓] theorem ackDisc_within {s : State} {c : Chan} {i : Nat} {ps : Nat} {s0 : State} (hm : Covers 0x44000c0000200 ps) :
    Within ps s0 (ackDisc s c i) ↔ Within ps s0 s := by
  refine Within.over ?_ hm
  unfold ackDisc
  simp (maxDischargeDepth := 6)

@[simp, simp ↓] theorem judgeAck_within {s : State} {c : Chan} {i now : Nat} {ps : Nat} {s0 : State} (hm : Covers 0x44000c0000200 ps) :
    Within ps s0 (judgeAck s c i now) ↔ Within ps s0 s := by
  refine Within.over ?_ hm
  unfold judgeAck
  simp (maxDischargeDepth := 6)

@[simp, simp ↓] theorem observe_within {s : State} {c : Chan} {n : Nat} {entry : Bool} {ps : Nat} {s0 : State} (hm : Covers 0x44000c0000200
    ps) :
    Within ps s0 (observe s c n entry) ↔ Within ps s0 s := by
  refine Within.over ?_ hm
  unfold observe
  simp (maxDischargeDepth := 6)

@[simp, simp ↓] theorem observeAll_within {s : State} {c : Chan} {ps : Nat} {s0 : State} (hm : Covers 0x44000c0000200 ps) :
    Within ps s0 (observeAll s c) ↔ Within ps s0 s := by
  refine Within.over ?_ hm
  unfold observeAll
  simp (maxDischargeDepth := 6)

@[simp, simp ↓] theorem lineChange_within {s : State} {c : Chan} {line : Nat} {level : Bool} {held : Nat} {ps : Nat} {s0 : State} (hm :
    Covers 0x44000c0000200 ps) :
    Within ps s0 (lineChange s c line level held) ↔ Within ps s0 s := by
  refine Within.over ?_ hm
  unfold lineChange
  simp (maxDischargeDepth := 6)

@[simp, simp ↓] theorem inputsJudge_within {s : State} {c : Chan} {ps : Nat} {s0 : State} (hm : Covers 0x44000c0000200 ps) :
    Within ps s0 (inputsJudge s c) ↔ Within ps s0 s := by
  refine Within.over ?_ hm
  unfold inputsJudge
  simp (maxDischargeDepth := 6)

@[simp, simp ↓] theorem pulseResult_within {s : State} {c : Chan} {i : Nat} {lineB failed : Bool} {ps : Nat} {s0 : State} (hm : Covers
    0x44000c0000200 ps) :
    Within ps s0 (pulseResult s c i lineB failed) ↔ Within ps s0 s := by
  refine Within.over ?_ hm
  unfold pulseResult
  simp (maxDischargeDepth := 6)

@[simp, simp ↓] theorem testPulse_within {s : State} {line : TpLine} {p h : PulseSight} {ps : Nat} {s0 : State} (hm : Covers 0x44002c0000200
    ps) :
    Within ps s0 (testPulse s line p h) ↔ Within ps s0 s := by
  refine Within.over ?_ hm
  unfold testPulse
  simp (maxDischargeDepth := 6)

@[simp, simp ↓] theorem encSamples_within {s : State} {c : Chan} {raw : Vector Int 4} {bench : Nat} {ps : Nat} {s0 : State} (hm : Covers
    0x44000c0000200 ps) :
    Within ps s0 (encSamples s c raw bench) ↔ Within ps s0 s := by
  refine Within.over ?_ hm
  unfold encSamples
  simp (maxDischargeDepth := 6)

@[simp, simp ↓] theorem axesJudge_within {s : State} {c : Chan} {ps : Nat} {s0 : State} (hm : Covers 0x44000c0000200 ps) :
    Within ps s0 (axesJudge s c) ↔ Within ps s0 s := by
  refine Within.over ?_ hm
  unfold axesJudge
  simp (maxDischargeDepth := 6)

@[simp, simp ↓] theorem encBad_within {s : State} {c : Chan} {e : Nat} {ps : Nat} {s0 : State} (hm : Covers 0x44000c0000200 ps) :
    Within ps s0 (encBad s c e) ↔ Within ps s0 s := by
  refine Within.over ?_ hm
  unfold encBad
  simp (maxDischargeDepth := 6)

@[simp, simp ↓] theorem encZ_within {s : State} {c : Chan} {e : Nat} {raw : Int} {ps : Nat} {s0 : State} (hm : Covers 0x44000c0000200 ps) :
    Within ps s0 (encZ s c e raw) ↔ Within ps s0 s := by
  refine Within.over ?_ hm
  unfold encZ
  split <;> simp (maxDischargeDepth := 6)

@[simp, simp ↓] theorem encFault_within {s : State} {c : Chan} {e : Nat} {z : Option Int} {ps : Nat} {s0 : State} (hm : Covers
    0x44000c0000200 ps) :
    Within ps s0 (encFault s c e z) ↔ Within ps s0 s := by
  refine Within.over ?_ hm
  unfold encFault
  repeat' split
  all_goals simp (maxDischargeDepth := 6)

@[simp, simp ↓] theorem sendTelegram_within {s : State} {t permit : Nat} {ps : Nat} {s0 : State} (hm : Covers 0x218000000 ps) :
    Within ps s0 (sendTelegram s t permit) ↔ Within ps s0 s := by
  refine Within.over ?_ hm
  unfold sendTelegram
  simp (maxDischargeDepth := 6)

@[simp, simp ↓] theorem telegramsSend_within {s : State} {ps : Nat} {s0 : State} (hm : Covers 0x218000000 ps) :
    Within ps s0 (telegramsSend s) ↔ Within ps s0 s := by
  refine Within.over ?_ hm
  unfold telegramsSend
  simp (maxDischargeDepth := 6)

@[simp, simp ↓] theorem pathRecover_within {s : State} {k net : Nat} {ps : Nat} {s0 : State} (hm : Covers 0x4400200000200 ps) :
    Within ps s0 (pathRecover s k net) ↔ Within ps s0 s := by
  refine Within.over ?_ hm
  unfold pathRecover
  simp (maxDischargeDepth := 6)

@[simp, simp ↓] theorem pairCopy_within {s : State} {k net : Nat} {bs : List Byte} {ps : Nat} {s0 : State} (hm : Covers 0x4400200000200 ps)
    :
    Within ps s0 (pairCopy s k net bs) ↔ Within ps s0 s := by
  refine Within.over ?_ hm
  unfold pairCopy
  dsimp -proj only
  split <;> simp (maxDischargeDepth := 6)

@[simp, simp ↓] theorem standAlone_within {s : State} {k : Nat} {w : WaitCopy} {ps : Nat} {s0 : State} (hm : Covers 0x200000000 ps) :
    Within ps s0 (standAlone s k w) ↔ Within ps s0 s := by
  refine Within.over ?_ hm
  unfold standAlone
  simp (maxDischargeDepth := 6)

@[simp, simp ↓] theorem windowsEnd_within {s : State} {k : Nat} {ps : Nat} {s0 : State} (hm : Covers 0x200000000 ps) :
    Within ps s0 (windowsEnd s k) ↔ Within ps s0 s := by
  refine Within.over ?_ hm
  unfold windowsEnd
  simp (maxDischargeDepth := 6)

@[simp, simp ↓] theorem telReject_within {s : State} {ps : Nat} {s0 : State} (hm : Covers 0x4400200000200 ps) :
    Within ps s0 (telReject s) ↔ Within ps s0 s := by
  refine Within.over ?_ hm
  unfold telReject
  simp (maxDischargeDepth := 6)

@[simp, simp ↓] theorem telReceive_within {s : State} {net : Nat} {c : Cell} {ps : Nat} {s0 : State} (hm : Covers 0x4400200000200 ps) :
    Within ps s0 (telReceive s net c) ↔ Within ps s0 s := by
  refine Within.over ?_ hm
  unfold telReceive
  simp (maxDischargeDepth := 6)

@[simp, simp ↓] theorem pathJudge_within {s : State} {k net : Nat} {ps : Nat} {s0 : State} (hm : Covers 0x4400200000200 ps) :
    Within ps s0 (pathJudge s k net) ↔ Within ps s0 s := by
  refine Within.over ?_ hm
  unfold pathJudge
  simp (maxDischargeDepth := 6)

@[simp, simp ↓] theorem telegramsJudge_within {s : State} {ps : Nat} {s0 : State} (hm : Covers 0x4400200000200 ps) :
    Within ps s0 (telegramsJudge s) ↔ Within ps s0 s := by
  refine Within.over ?_ hm
  unfold telegramsJudge
  simp (maxDischargeDepth := 6)

@[simp, simp ↓] theorem receiversFresh_within {s : State} {ps : Nat} {s0 : State} (hm : Covers 0x200000000 ps) :
    Within ps s0 (receiversFresh s) ↔ Within ps s0 s := by
  refine Within.over ?_ hm
  unfold receiversFresh
  simp (maxDischargeDepth := 6)

@[simp, simp ↓] theorem edmJudge_within {s : State} {c : Chan} {n : Nat} {ps : Nat} {s0 : State} (hm : Covers 0x44000c0000200 ps) :
    Within ps s0 (edmJudge s c n) ↔ Within ps s0 s := by
  refine Within.over ?_ hm
  unfold edmJudge
  simp (maxDischargeDepth := 6)

@[simp, simp ↓] theorem noteCombined_within {s : State} {n : Nat} {was : SafeState} {why : Nat} {ps : Nat} {s0 : State} (hm : Covers
    0x4400200000200 ps) :
    Within ps s0 (noteCombined s n was why) ↔ Within ps s0 s := by
  refine Within.over ?_ hm
  unfold noteCombined
  simp (maxDischargeDepth := 6)

@[simp, simp ↓] theorem noteNear_within {was : Bool} {s : State} {ps : Nat} {s0 : State} (hm : Covers 0x100000000 ps) :
    Within ps s0 (noteNear was s) ↔ Within ps s0 s := by
  refine Within.over ?_ hm
  unfold noteNear
  simp (maxDischargeDepth := 6)

@[simp, simp ↓] theorem moveGroup_within {s : State} {c : Chan} {n : Nat} {st : SafeState} {why : Nat} {ps : Nat} {s0 : State} (hm : Covers
    0x44003c0000200 ps) :
    Within ps s0 (moveGroup s c n st why) ↔ Within ps s0 s := by
  refine Within.over ?_ hm
  unfold moveGroup
  simp (maxDischargeDepth := 6)

@[simp, simp ↓] theorem beginStop_within {s : State} {c : Chan} {n : Nat} {fn : StopFn} {why : Nat} {ps : Nat} {s0 : State} (hm : Covers
    0x44003c0000200 ps) :
    Within ps s0 (beginStop s c n fn why) ↔ Within ps s0 s := by
  refine Within.over ?_ hm
  unfold beginStop
  simp (maxDischargeDepth := 6)

@[simp, simp ↓] theorem judgeStop_within {s : State} {c : Chan} {n : Nat} {ps : Nat} {s0 : State} (hm : Covers 0x44003c0000200 ps) :
    Within ps s0 (judgeStop s c n) ↔ Within ps s0 s := by
  refine Within.over ?_ hm
  unfold judgeStop
  dsimp -proj only
  split <;> simp (maxDischargeDepth := 6)

@[simp, simp ↓] theorem stepUp_within {s : State} {c : Chan} {n rq : Nat} {target : SafeState} {ps : Nat} {s0 : State} (hm : Covers
    0x44003c0000200 ps) :
    Within ps s0 (stepUp s c n rq target) ↔ Within ps s0 s := by
  refine Within.over ?_ hm
  unfold stepUp
  simp (maxDischargeDepth := 6)

@[simp, simp ↓] theorem follow_within {s : State} {c : Chan} {n : Nat} {st : SafeState} {ps : Nat} {s0 : State} (hm : Covers 0x44003c0000200
    ps) :
    Within ps s0 (follow s c n st) ↔ Within ps s0 s := by
  refine Within.over ?_ hm
  unfold follow
  simp (maxDischargeDepth := 6)

@[simp, simp ↓] theorem inSafeOff_within {s : State} {c : Chan} {n : Nat} {causes : Nat} {ps : Nat} {s0 : State} (hm : Covers
    0x44003c0000200 ps) :
    Within ps s0 (inSafeOff s c n causes) ↔ Within ps s0 s := by
  refine Within.over ?_ hm
  unfold inSafeOff
  simp (maxDischargeDepth := 6)

@[simp, simp ↓] theorem inReady_within {s : State} {c : Chan} {n : Nat} {causes : Nat} {ps : Nat} {s0 : State} (hm : Covers 0x44003c0000200
    ps) :
    Within ps s0 (inReady s c n causes) ↔ Within ps s0 s := by
  refine Within.over ?_ hm
  unfold inReady
  simp (maxDischargeDepth := 6)

@[simp, simp ↓] theorem inEnergy_within {s : State} {c : Chan} {n : Nat} {causes : Nat} {ps : Nat} {s0 : State} (hm : Covers 0x44003c0000200
    ps) :
    Within ps s0 (inEnergy s c n causes) ↔ Within ps s0 s := by
  refine Within.over ?_ hm
  unfold inEnergy
  simp (maxDischargeDepth := 6)

@[simp, simp ↓] theorem inStopping_within {s : State} {c : Chan} {n : Nat} {ps : Nat} {s0 : State} (hm : Covers 0x44003c0000200 ps) :
    Within ps s0 (inStopping s c n) ↔ Within ps s0 s := by
  refine Within.over ?_ hm
  unfold inStopping
  simp (maxDischargeDepth := 6)

@[simp, simp ↓] theorem evalGroup_within {s : State} {c : Chan} {n : Nat} {ps : Nat} {s0 : State} (hm : Covers 0x44003c0000200 ps) :
    Within ps s0 (evalGroup s c n) ↔ Within ps s0 s := by
  refine Within.over ?_ hm
  unfold evalGroup
  dsimp -proj only
  repeat' split
  all_goals simp (maxDischargeDepth := 6)

@[simp, simp ↓] theorem publish_within {s : State} {c : Chan} {ps : Nat} {s0 : State} (hm : Covers 0xc0000000 ps) :
    Within ps s0 (publish s c) ↔ Within ps s0 s := by
  refine Within.over ?_ hm
  unfold publish
  simp (maxDischargeDepth := 6)

@[simp, simp ↓] theorem watchUpdates_within {s : State} {c : Chan} {ps : Nat} {s0 : State} (hm : Covers 0x44000c0000200 ps) :
    Within ps s0 (watchUpdates s c) ↔ Within ps s0 s := by
  refine Within.over ?_ hm
  unfold watchUpdates
  simp (maxDischargeDepth := 6)

@[simp, simp ↓] theorem disagree_within {s : State} {c : Chan} {n : Nat} {ps : Nat} {s0 : State} (hm : Covers 0x44002c0000200 ps) :
    Within ps s0 (disagree s c n) ↔ Within ps s0 s := by
  refine Within.over ?_ hm
  unfold disagree
  simp (maxDischargeDepth := 6)

@[simp, simp ↓] theorem crossCheck_within {s : State} {c : Chan} {ps : Nat} {s0 : State} (hm : Covers 0x44002c0000200 ps) :
    Within ps s0 (crossCheck s c) ↔ Within ps s0 s := by
  refine Within.over ?_ hm
  unfold crossCheck
  simp (maxDischargeDepth := 6)

@[simp, simp ↓] theorem degStep_within {s : State} {c : Chan} {n : Nat} {ps : Nat} {s0 : State} (hm : Covers 0xc0000000 ps) :
    Within ps s0 (degStep s c n) ↔ Within ps s0 s := by
  refine Within.over ?_ hm
  unfold degStep
  simp (maxDischargeDepth := 6)

@[simp, simp ↓] theorem evaluateChan_within {s : State} {c : Chan} {ps : Nat} {s0 : State} (hm : Covers 0x44003c0000200 ps) :
    Within ps s0 (evaluateChan s c) ↔ Within ps s0 s := by
  refine Within.over ?_ hm
  unfold evaluateChan
  simp (maxDischargeDepth := 6)

@[simp, simp ↓] theorem warningsEnd_within {s : State} {w : Vector HeldPin 4} {ps : Nat} {s0 : State} (hm : Covers 0x1000 ps) :
    Within ps s0 (warningsEnd s w) ↔ Within ps s0 s := by
  refine Within.over ?_ hm
  unfold warningsEnd
  simp (maxDischargeDepth := 6)

@[simp, simp ↓] theorem calibrate_within {s : State} {smp : HSample} {ps : Nat} {s0 : State} (hm : Covers 0x200000000 ps) :
    Within ps s0 (calibrate s smp) ↔ Within ps s0 s := by
  refine Within.over ?_ hm
  unfold calibrate
  split <;> simp (maxDischargeDepth := 6)

@[simp, simp ↓] theorem judgeClocks_within {s : State} {xoOk coreOk rcOk : Bool} {ps : Nat} {s0 : State} (hm : Covers 0x4400200000200 ps) :
    Within ps s0 (judgeClocks s xoOk coreOk rcOk) ↔ Within ps s0 s := by
  refine Within.over ?_ hm
  unfold judgeClocks
  simp (maxDischargeDepth := 6)

@[simp, simp ↓] theorem setXoValid_within {s : State} {ok : Bool} {ps : Nat} {s0 : State} (hm : Covers 0x4400001804200 ps) :
    Within ps s0 (setXoValid s ok) ↔ Within ps s0 s := by
  refine Within.over ?_ hm
  unfold setXoValid
  simp (maxDischargeDepth := 6)

@[simp, simp ↓] theorem spllBack_within {s : State} {coreOk : Bool} {ps : Nat} {s0 : State} (hm : Covers 0x4400001e00200 ps) :
    Within ps s0 (spllBack s coreOk) ↔ Within ps s0 s := by
  refine Within.over ?_ hm
  unfold spllBack
  simp (maxDischargeDepth := 6)

@[simp, simp ↓] theorem sampleLevels_within {s : State} {c : Chan} {edm : Vector HeldPin 4} {srst : HeldPin} {ps : Nat} {s0 : State} (hm :
    Covers 0xc0000000 ps) :
    Within ps s0 (sampleLevels s c edm srst) ↔ Within ps s0 s := by
  refine Within.over ?_ hm
  unfold sampleLevels
  simp (maxDischargeDepth := 6)

@[simp, simp ↓] theorem channelH_within {s : State} {smp : HSample} {ps : Nat} {s0 : State} (hm : Covers 0x44003c1e05200 ps) :
    Within ps s0 (channelH s smp) ↔ Within ps s0 s := by
  refine Within.over ?_ hm
  unfold channelH
  simp (maxDischargeDepth := 6)

@[simp, simp ↓] theorem latchP_within {s : State} {smp : TickSample} {ps : Nat} {s0 : State} (hm : Covers 0x44000c0000200 ps) :
    Within ps s0 (latchP s smp) ↔ Within ps s0 s := by
  refine Within.over ?_ hm
  unfold latchP
  simp (maxDischargeDepth := 6)

@[simp, simp ↓] theorem pOverrun_within {s : State} {ps : Nat} {s0 : State} (hm : Covers 0xc0000000 ps) :
    Within ps s0 (pOverrun s) ↔ Within ps s0 s := by
  refine Within.over ?_ hm
  unfold pOverrun
  simp (maxDischargeDepth := 6)

@[simp, simp ↓] theorem slotP_within {s : State} {ps : Nat} {s0 : State} (hm : Covers 0x44003c0000200 ps) :
    Within ps s0 (slotP s) ↔ Within ps s0 s := by
  refine Within.over ?_ hm
  unfold slotP
  simp (maxDischargeDepth := 6)

@[simp, simp ↓] theorem setQstop_within {s : State} {v : Nat → Bool} {ps : Nat} {s0 : State} (hm : Covers 0x4400200000200 ps) :
    Within ps s0 (setQstop s v) ↔ Within ps s0 s := by
  refine Within.over ?_ hm
  unfold setQstop
  simp (maxDischargeDepth := 6)

@[simp, simp ↓] theorem dispatchP_within {s : State} {ps : Nat} {s0 : State} (hm : Covers 0x44002c0000200 ps) :
    Within ps s0 (dispatchP s) ↔ Within ps s0 s := by
  refine Within.over ?_ hm
  unfold dispatchP
  simp (maxDischargeDepth := 6)

@[simp, simp ↓] theorem readyOff_within {s : State} {ps : Nat} {s0 : State} (hm : Covers 0x44003c0000200 ps) :
    Within ps s0 (readyOff s) ↔ Within ps s0 s := by
  refine Within.over ?_ hm
  unfold readyOff
  simp (maxDischargeDepth := 6)

@[simp, simp ↓] theorem chanPStop_within {s : State} {ps : Nat} {s0 : State} (hm : Covers 0x44002c0000200 ps) :
    Within ps s0 (chanPStop s) ↔ Within ps s0 s := by
  refine Within.over ?_ hm
  unfold chanPStop
  simp (maxDischargeDepth := 6)

@[simp, simp ↓] theorem chanPStart_within {s : State} {ps : Nat} {s0 : State} (hm : Covers 0x2c0000000 ps) :
    Within ps s0 (chanPStart s) ↔ Within ps s0 s := by
  refine Within.over ?_ hm
  unfold chanPStart
  simp (maxDischargeDepth := 6)

@[simp, simp ↓] theorem safetyReset_within {s : State} {ps : Nat} {s0 : State} (hm : Covers 0x2c0000000 ps) :
    Within ps s0 (safetyReset s) ↔ Within ps s0 s := by
  refine Within.over ?_ hm
  unfold safetyReset
  simp (maxDischargeDepth := 6)

@[simp, simp ↓] theorem takeImage_within {s : State} {m : ParImage} {valid : Bool} {ps : Nat} {s0 : State} (hm : Covers 0x2e0000000 ps) :
    Within ps s0 (takeImage s m valid) ↔ Within ps s0 s := by
  refine Within.over ?_ hm
  unfold takeImage
  simp (maxDischargeDepth := 6)

@[simp, simp ↓] theorem latchAll_within {s : State} {code : Nat} {ps : Nat} {s0 : State} (hm : Covers 0xc0000000 ps) :
    Within ps s0 (latchAll s code) ↔ Within ps s0 s := by
  refine Within.over ?_ hm
  unfold latchAll
  simp (maxDischargeDepth := 6)

@[simp, simp ↓] theorem evaluateGroups_within {s : State} {ps : Nat} {s0 : State} (hm : Covers 0x44003c0000200 ps) :
    Within ps s0 (evaluateGroups s) ↔ Within ps s0 s := by
  refine Within.over ?_ hm
  unfold evaluateGroups
  simp (maxDischargeDepth := 6)

@[simp, simp ↓] theorem validPulse_within {s : State} {ps : Nat} {s0 : State} (hm : Covers 0x44002e0000200 ps) :
    Within ps s0 (validPulse s) ↔ Within ps s0 s := by
  refine Within.over ?_ hm
  unfold validPulse
  dsimp -proj only
  repeat' split
  all_goals simp (maxDischargeDepth := 6)

@[simp, simp ↓] theorem srstPulse_within {s : State} {lenP lenH highUs : Nat} {ps : Nat} {s0 : State} (hm : Covers 0x44002e0000200 ps) :
    Within ps s0 (srstPulse s lenP lenH highUs) ↔ Within ps s0 s := by
  refine Within.over ?_ hm
  unfold srstPulse
  simp (maxDischargeDepth := 6)

@[simp, simp ↓] theorem dropCauses_within {s : State} {k : Nat} {ps : Nat} {s0 : State} (hm : Covers 0xc0000000 ps) :
    Within ps s0 (dropCauses s k) ↔ Within ps s0 s := by
  refine Within.over ?_ hm
  unfold dropCauses
  simp (maxDischargeDepth := 6)

@[simp, simp ↓] theorem encClear_within {s : State} {ps : Nat} {s0 : State} (hm : Covers 0xc0000000 ps) :
    Within ps s0 (encClear s) ↔ Within ps s0 s := by
  refine Within.over ?_ hm
  unfold encClear
  simp (maxDischargeDepth := 6)

@[simp, simp ↓] theorem clearGroup_within {s : State} {n : Nat} {ps : Nat} {s0 : State} (hm : Covers 0x44003c0000200 ps) :
    Within ps s0 (clearGroup s n) ↔ Within ps s0 s := by
  refine Within.over ?_ hm
  unfold clearGroup
  simp (maxDischargeDepth := 6)

@[simp, simp ↓] theorem selftestDone_within {s : State} {passP passH stoOk : Bool} {ps : Nat} {s0 : State} (hm : Covers 0x44003c0000200 ps)
    :
    Within ps s0 (selftestDone s passP passH stoOk) ↔ Within ps s0 s := by
  refine Within.over ?_ hm
  unfold selftestDone
  simp (maxDischargeDepth := 6)

@[simp, simp ↓] theorem stoReadback_within {s : State} {c : Chan} {n : Nat} {lineB : Bool} {sight : StoSight} {ps : Nat} {s0 : State} (hm :
    Covers 0x44003c0000200 ps) :
    Within ps s0 (stoReadback s c n lineB sight) ↔ Within ps s0 s := by
  refine Within.over ?_ hm
  unfold stoReadback
  simp (maxDischargeDepth := 6)

@[simp, simp ↓] theorem nvmErase_within {s : State} {sector : Nat} {ps : Nat} {s0 : State} (hm : Covers 0x10000000000000 ps) :
    Within ps s0 (nvmErase s sector) ↔ Within ps s0 s := by
  refine Within.over ?_ hm
  unfold nvmErase
  simp (maxDischargeDepth := 6)

@[simp, simp ↓] theorem nvmProgram_within {s : State} {a : Nat} {bs : List Byte} {ps : Nat} {s0 : State} (hm : Covers 0x10000000000000 ps) :
    Within ps s0 (nvmProgram s a bs) ↔ Within ps s0 s := by
  refine Within.over ?_ hm
  unfold nvmProgram
  simp (maxDischargeDepth := 6)

@[simp, simp ↓] theorem recBegin_within {s : State} {r : Nat} {ps : Nat} {s0 : State} (hm : Covers 0x30000000000000 ps) :
    Within ps s0 (recBegin s r) ↔ Within ps s0 s := by
  refine Within.over ?_ hm
  unfold recBegin
  simp (maxDischargeDepth := 6)

@[simp, simp ↓] theorem recEnd_within {s : State} {r : Nat} {data : List Word} {ps : Nat} {s0 : State} (hm : Covers 0x30000000000000 ps) :
    Within ps s0 (recEnd s r data) ↔ Within ps s0 s := by
  refine Within.over ?_ hm
  unfold recEnd
  simp (maxDischargeDepth := 6)

@[simp, simp ↓] theorem recPages_within {s : State} {r : Nat} {data : List Word} {k : Nat} {ps : Nat} {s0 : State} (hm : Covers
    0x30000000000000 ps) :
    Within ps s0 (recPages s r data k) ↔ Within ps s0 s := by
  refine Within.over ?_ hm
  unfold recPages
  simp (maxDischargeDepth := 6)

@[simp, simp ↓] theorem recCut_within {s : State} {ps : Nat} {s0 : State} (hm : Covers 0x20000000000000 ps) :
    Within ps s0 (recCut s) ↔ Within ps s0 s := by
  refine Within.over ?_ hm
  unfold recCut
  simp (maxDischargeDepth := 6)

@[simp, simp ↓] theorem modelLoad_within {s : State} {d : List Word} {powerOn : Bool} {ps : Nat} {s0 : State} (hm : Covers 0x100000 ps) :
    Within ps s0 (modelLoad s d powerOn) ↔ Within ps s0 s := by
  refine Within.over ?_ hm
  unfold modelLoad
  simp (maxDischargeDepth := 6)

@[simp, simp ↓] theorem modelBlank_within {s : State} {ps : Nat} {s0 : State} (hm : Covers 0x100000 ps) :
    Within ps s0 (modelBlank s) ↔ Within ps s0 s := by
  refine Within.over ?_ hm
  unfold modelBlank
  simp (maxDischargeDepth := 6)

@[simp, simp ↓] theorem modelClear_within {s : State} {ps : Nat} {s0 : State} (hm : Covers 0x4400000100200 ps) :
    Within ps s0 (modelClear s) ↔ Within ps s0 s := by
  refine Within.over ?_ hm
  unfold modelClear
  simp (maxDischargeDepth := 6)

@[simp, simp ↓] theorem opPart_within {s : State} {o : LongOp} {k : Nat} {ps : Nat} {s0 : State} (hm : Covers 0x30000000000000 ps) :
    Within ps s0 (opPart s o k) ↔ Within ps s0 s := by
  refine Within.over ?_ hm
  unfold opPart
  split <;> simp (maxDischargeDepth := 6)

@[simp, simp ↓] theorem opAborted_within {s : State} {o : LongOp} {ps : Nat} {s0 : State} (hm : Covers 0x30000000000000 ps) :
    Within ps s0 (opAborted s o) ↔ Within ps s0 s := by
  refine Within.over ?_ hm
  unfold opAborted
  simp (maxDischargeDepth := 6)

@[simp, simp ↓] theorem nvmStop_within {s : State} {torn : Bool} {ps : Nat} {s0 : State} (hm : Covers 0x30000000000000 ps) :
    Within ps s0 (nvmStop s torn) ↔ Within ps s0 s := by
  refine Within.over ?_ hm
  unfold nvmStop
  split <;> simp (maxDischargeDepth := 6)

@[simp, simp ↓] theorem setDebug_within {s : State} {level : Nat} {ps : Nat} {s0 : State} (hm : Covers 0x2044003c0000200 ps) :
    Within ps s0 (setDebug s level) ↔ Within ps s0 s := by
  refine Within.over ?_ hm
  unfold setDebug
  simp (maxDischargeDepth := 6)

@[simp, simp ↓] theorem endSessionBy_within {s : State} {cause : Nat} {ps : Nat} {s0 : State} (hm : Covers 0x3044003c0000200 ps) :
    Within ps s0 (endSessionBy s cause) ↔ Within ps s0 s := by
  refine Within.over ?_ hm
  unfold endSessionBy
  simp (maxDischargeDepth := 6)

@[simp, simp ↓] theorem shown_within {s : State} {o : LongOp} {ps : Nat} {s0 : State} (hm : Covers 0xc00000000 ps) :
    Within ps s0 (shown s o) ↔ Within ps s0 s := by
  refine Within.over ?_ hm
  unfold shown
  simp (maxDischargeDepth := 6)

@[simp, simp ↓] theorem setOp_within {s : State} {o : LongOp} {ps : Nat} {s0 : State} (hm : Covers 0x80c00000000 ps) :
    Within ps s0 (setOp s o) ↔ Within ps s0 s := by
  refine Within.over ?_ hm
  unfold setOp
  simp (maxDischargeDepth := 6)

@[simp, simp ↓] theorem clearBuf_within {s : State} {ps : Nat} {s0 : State} (hm : Covers 0x200000000000000 ps) :
    Within ps s0 (clearBuf s) ↔ Within ps s0 s := by
  refine Within.over ?_ hm
  unfold clearBuf
  simp (maxDischargeDepth := 6)

@[simp, simp ↓] theorem closeOp_within {s : State} {o : LongOp} {st : OpState} {result cause : Nat} {ps : Nat} {s0 : State} (hm : Covers
    0x22c580c01800200 ps) :
    Within ps s0 (closeOp s o st result cause) ↔ Within ps s0 s := by
  refine Within.over ?_ hm
  unfold closeOp
  simp (maxDischargeDepth := 6)

@[simp, simp ↓] theorem enqueueOp_within {s : State} {issuer : Option Master} {code : Nat} {arg0 arg1 : Word} {echoSeq : Nat} {ps : Nat}
    {s0 : State} (hm : Covers 0x4680c00004200 ps) :
    Within ps s0 (enqueueOp s issuer code arg0 arg1 echoSeq) ↔ Within ps s0 s := by
  refine Within.over ?_ hm
  unfold enqueueOp
  split <;> simp (maxDischargeDepth := 6)

@[simp, simp ↓] theorem issueOp_within {s : State} {m : Master} {code : Nat} {ps : Nat} {s0 : State} (hm : Covers 0x46b0c00004200 ps) :
    Within ps s0 (issueOp s m code) ↔ Within ps s0 s := by
  refine Within.over ?_ hm
  unfold issueOp
  simp (maxDischargeDepth := 6)

@[simp, simp ↓] theorem shutdownPower_within {s : State} {ps : Nat} {s0 : State} (hm : Covers 0x2800 ps) :
    Within ps s0 (shutdownPower s) ↔ Within ps s0 s := by
  refine Within.over ?_ hm
  unfold shutdownPower
  simp (maxDischargeDepth := 6)

@[simp, simp ↓] theorem shutdownStep_within {s : State} {ps : Nat} {s0 : State} (hm : Covers 0x4680c00006a00 ps) :
    Within ps s0 (shutdownStep s) ↔ Within ps s0 s := by
  refine Within.over ?_ hm
  unfold shutdownStep
  split <;> simp (maxDischargeDepth := 6)

@[simp, simp ↓] theorem finishOp_within {s : State} {o : LongOp} {st : OpState} {result cause : Nat} {ps : Nat} {s0 : State} (hm : Covers
    0x22c780c01806a00 ps) :
    Within ps s0 (finishOp s o st result cause) ↔ Within ps s0 s := by
  refine Within.over ?_ hm
  unfold finishOp
  simp (maxDischargeDepth := 6)

@[simp, simp ↓] theorem opsCoreOff_within {s : State} {ps : Nat} {s0 : State} (hm : Covers 0x22c580c01800200 ps) :
    Within ps s0 (opsCoreOff s) ↔ Within ps s0 s := by
  refine Within.over ?_ hm
  unfold opsCoreOff
  simp (maxDischargeDepth := 6)

@[simp, simp ↓] theorem holdRaised_within {s : State} {ps : Nat} {s0 : State} (hm : Covers 0x200 ps) :
    Within ps s0 (holdRaised s) ↔ Within ps s0 s := by
  refine Within.over ?_ hm
  unfold holdRaised
  simp (maxDischargeDepth := 6)

@[simp, simp ↓] theorem secCoreOff_within {s : State} {ps : Nat} {s0 : State} (hm : Covers 0x300000000000000 ps) :
    Within ps s0 (secCoreOff s) ↔ Within ps s0 s := by
  refine Within.over ?_ hm
  unfold secCoreOff
  simp (maxDischargeDepth := 6)

@[simp, simp ↓] theorem coreLost_within {s : State} {byWrite : Bool} {ps : Nat} {s0 : State} (hm : Covers 0x432fdd0edfff4bf8 ps) :
    Within ps s0 (coreLost s byWrite) ↔ Within ps s0 s := by
  refine Within.over ?_ hm
  unfold coreLost
  simp (maxDischargeDepth := 6)

@[simp, simp ↓] theorem unitsOff_within {s : State} {d : Domain} {ps : Nat} {s0 : State} (hm : Covers 0x4400001a00200 ps) :
    Within ps s0 (unitsOff s d) ↔ Within ps s0 s := by
  refine Within.over ?_ hm
  unfold unitsOff
  split <;> simp (maxDischargeDepth := 6)

@[simp] theorem setDomain_keeps (p : PowerUnit) (d : Domain) (x : DomState) :
    (setDomain p d x).ctrl = p.ctrl ∧
    (setDomain p d x).upQueue = p.upQueue ∧
    (setDomain p d x).rampWrite = p.rampWrite ∧
    (setDomain p d x).upWrites = p.upWrites ∧
    (setDomain p d x).downQueue = p.downQueue ∧
    (setDomain p d x).coreOffByWrite = p.coreOffByWrite ∧
    (setDomain p d x).warn33 = p.warn33 ∧
    (setDomain p d x).warnAon = p.warnAon ∧
    (setDomain p d x).warn09 = p.warn09 ∧
    (setDomain p d x).warn18 = p.warn18 ∧
    (setDomain p d x).bor09 = p.bor09 ∧
    (setDomain p d x).bor18 = p.bor18 ∧
    (setDomain p d x).bor33 = p.bor33 ∧
    (setDomain p d x).vddoBor = p.vddoBor ∧
    (setDomain p d x).vddoOvr = p.vddoOvr ∧
    (setDomain p d x).supplyLow = p.supplyLow ∧
    (setDomain p d x).heldRaised = p.heldRaised ∧
    (setDomain p d x).resetHeld = p.resetHeld ∧
    (setDomain p d x).booting = p.booting ∧
    (setDomain p d x).resetWaits = p.resetWaits ∧
    (setDomain p d x).resetClass = p.resetClass ∧
    (setDomain p d x).bootWait = p.bootWait ∧
    (setDomain p d x).shut = p.shut ∧
    (setDomain p d x).resetCause = p.resetCause ∧
    (setDomain p d x).rstHeldMs = p.rstHeldMs ∧
    (setDomain p d x).rstLong = p.rstLong ∧
    (setDomain p d x).straps = p.straps ∧
    (setDomain p d x).strapEcho = p.strapEcho ∧
    (setDomain p d x).bypOut0 = p.bypOut0 ∧
    (setDomain p d x).pwrPend = p.pwrPend ∧
    (setDomain p d x).safePend = p.safePend ∧
    (setDomain p d x).pendOwed = p.pendOwed ∧
    (setDomain p d x).bootResult0 = p.bootResult0 ∧
    (setDomain p d x).bootResult1 = p.bootResult1 ∧
    (setDomain p d x).bootResult2 = p.bootResult2 ∧
    (setDomain p d x).bootProfile = p.bootProfile ∧
    (setDomain p d x).bootFallback = p.bootFallback ∧
    (setDomain p d x).bootDone = p.bootDone ∧
    (setDomain p d x).autostart = p.autostart ∧
    (setDomain p d x).bootPwr = p.bootPwr ∧
    (setDomain p d x).xoValid = p.xoValid := by
  cases d <;> simp [setDomain]

@[simp, simp ↓] theorem powerDown_within {s : State} {ds : List Domain} {byWrite : Bool} {ps : Nat} {s0 : State} (hm : Covers
    0x432fdd0edfff4bf8 ps) :
    Within ps s0 (powerDown s ds byWrite) ↔ Within ps s0 s := by
  refine Within.over ?_ hm
  unfold powerDown
  simp (maxDischargeDepth := 6)

@[simp, simp ↓] theorem bootFinish_within {s : State} {ps : Nat} {s0 : State} (hm : Covers 0x4400001b5e200 ps) :
    Within ps s0 (bootFinish s) ↔ Within ps s0 s := by
  refine Within.over ?_ hm
  unfold bootFinish
  simp (maxDischargeDepth := 6)

@[simp, simp ↓] theorem markFault_within {s : State} {d : Domain} {ps : Nat} {s0 : State} (hm : Covers 0x4400001b5ea00 ps) :
    Within ps s0 (markFault s d) ↔ Within ps s0 s := by
  refine Within.over ?_ hm
  unfold markFault
  simp (maxDischargeDepth := 6)

@[simp, simp ↓] theorem rampFault_within {s : State} {d : Domain} {ps : Nat} {s0 : State} (hm : Covers 0x4400001b5ea00 ps) :
    Within ps s0 (rampFault s d) ↔ Within ps s0 s := by
  refine Within.over ?_ hm
  unfold rampFault
  simp (maxDischargeDepth := 6)

@[simp, simp ↓] theorem rampFirst_within {s : State} {ps : Nat} {s0 : State} (hm : Covers 0x4400001b5ea00 ps) :
    Within ps s0 (rampFirst s) ↔ Within ps s0 s := by
  refine Within.over ?_ hm
  unfold rampFirst
  split <;> simp (maxDischargeDepth := 6)

@[simp, simp ↓] theorem nextRamp_within {s : State} {ps : Nat} {s0 : State} (hm : Covers 0x4400001b5ea00 ps) :
    Within ps s0 (nextRamp s) ↔ Within ps s0 s := by
  refine Within.over ?_ hm
  unfold nextRamp
  repeat' split
  all_goals simp (maxDischargeDepth := 6)

@[simp, simp ↓] theorem coreUp_within {s : State} {ps : Nat} {s0 : State} (hm : Covers 0x44002d9f7ea00 ps) :
    Within ps s0 (coreUp s) ↔ Within ps s0 s := by
  refine Within.over ?_ hm
  unfold coreUp
  simp (maxDischargeDepth := 6)

@[simp, simp ↓] theorem domainUp_within {s : State} {d : Domain} {ps : Nat} {s0 : State} (hm : Covers 0x44002d9f7ea00 ps) :
    Within ps s0 (domainUp s d) ↔ Within ps s0 s := by
  refine Within.over ?_ hm
  unfold domainUp
  simp (maxDischargeDepth := 6)

@[simp, simp ↓] theorem coreFault_within {s : State} {ps : Nat} {s0 : State} (hm : Covers 0x432fdd0edfffebf8 ps) :
    Within ps s0 (coreFault s) ↔ Within ps s0 s := by
  refine Within.over ?_ hm
  unfold coreFault
  simp (maxDischargeDepth := 6)

@[simp, simp ↓] theorem domainFault_within {s : State} {d : Domain} {ps : Nat} {s0 : State} (hm : Covers 0x432fdd0edfffebf8 ps) :
    Within ps s0 (domainFault s d) ↔ Within ps s0 s := by
  refine Within.over ?_ hm
  unfold domainFault
  split <;> simp (maxDischargeDepth := 6)

@[simp, simp ↓] theorem noteCmd_within {s : State} {ps : Nat} {s0 : State} (hm : Covers 0x8000000000000000 ps) :
    Within ps s0 (noteCmd s) ↔ Within ps s0 s := by
  refine Within.over ?_ hm
  unfold noteCmd
  split <;> simp (maxDischargeDepth := 6)

@[simp] theorem clearFaults_keeps (p : PowerUnit) (c : PowerUnit → Domain → Prop) [∀ q d, Decidable (c q d)] :
    (upOrder.foldl (fun q d => if c q d then setDomain q d .off else q) p).ctrl = p.ctrl ∧
    (upOrder.foldl (fun q d => if c q d then setDomain q d .off else q) p).upQueue = p.upQueue ∧
    (upOrder.foldl (fun q d => if c q d then setDomain q d .off else q) p).rampWrite = p.rampWrite ∧
    (upOrder.foldl (fun q d => if c q d then setDomain q d .off else q) p).upWrites = p.upWrites ∧
    (upOrder.foldl (fun q d => if c q d then setDomain q d .off else q) p).downQueue = p.downQueue ∧
    (upOrder.foldl (fun q d => if c q d then setDomain q d .off else q) p).coreOffByWrite = p.coreOffByWrite ∧
    (upOrder.foldl (fun q d => if c q d then setDomain q d .off else q) p).warn33 = p.warn33 ∧
    (upOrder.foldl (fun q d => if c q d then setDomain q d .off else q) p).warnAon = p.warnAon ∧
    (upOrder.foldl (fun q d => if c q d then setDomain q d .off else q) p).warn09 = p.warn09 ∧
    (upOrder.foldl (fun q d => if c q d then setDomain q d .off else q) p).warn18 = p.warn18 ∧
    (upOrder.foldl (fun q d => if c q d then setDomain q d .off else q) p).bor09 = p.bor09 ∧
    (upOrder.foldl (fun q d => if c q d then setDomain q d .off else q) p).bor18 = p.bor18 ∧
    (upOrder.foldl (fun q d => if c q d then setDomain q d .off else q) p).bor33 = p.bor33 ∧
    (upOrder.foldl (fun q d => if c q d then setDomain q d .off else q) p).vddoBor = p.vddoBor ∧
    (upOrder.foldl (fun q d => if c q d then setDomain q d .off else q) p).vddoOvr = p.vddoOvr ∧
    (upOrder.foldl (fun q d => if c q d then setDomain q d .off else q) p).supplyLow = p.supplyLow ∧
    (upOrder.foldl (fun q d => if c q d then setDomain q d .off else q) p).heldRaised = p.heldRaised ∧
    (upOrder.foldl (fun q d => if c q d then setDomain q d .off else q) p).resetHeld = p.resetHeld ∧
    (upOrder.foldl (fun q d => if c q d then setDomain q d .off else q) p).booting = p.booting ∧
    (upOrder.foldl (fun q d => if c q d then setDomain q d .off else q) p).resetWaits = p.resetWaits ∧
    (upOrder.foldl (fun q d => if c q d then setDomain q d .off else q) p).resetClass = p.resetClass ∧
    (upOrder.foldl (fun q d => if c q d then setDomain q d .off else q) p).bootWait = p.bootWait ∧
    (upOrder.foldl (fun q d => if c q d then setDomain q d .off else q) p).shut = p.shut ∧
    (upOrder.foldl (fun q d => if c q d then setDomain q d .off else q) p).resetCause = p.resetCause ∧
    (upOrder.foldl (fun q d => if c q d then setDomain q d .off else q) p).rstHeldMs = p.rstHeldMs ∧
    (upOrder.foldl (fun q d => if c q d then setDomain q d .off else q) p).rstLong = p.rstLong ∧
    (upOrder.foldl (fun q d => if c q d then setDomain q d .off else q) p).straps = p.straps ∧
    (upOrder.foldl (fun q d => if c q d then setDomain q d .off else q) p).strapEcho = p.strapEcho ∧
    (upOrder.foldl (fun q d => if c q d then setDomain q d .off else q) p).bypOut0 = p.bypOut0 ∧
    (upOrder.foldl (fun q d => if c q d then setDomain q d .off else q) p).pwrPend = p.pwrPend ∧
    (upOrder.foldl (fun q d => if c q d then setDomain q d .off else q) p).safePend = p.safePend ∧
    (upOrder.foldl (fun q d => if c q d then setDomain q d .off else q) p).pendOwed = p.pendOwed ∧
    (upOrder.foldl (fun q d => if c q d then setDomain q d .off else q) p).bootResult0 = p.bootResult0 ∧
    (upOrder.foldl (fun q d => if c q d then setDomain q d .off else q) p).bootResult1 = p.bootResult1 ∧
    (upOrder.foldl (fun q d => if c q d then setDomain q d .off else q) p).bootResult2 = p.bootResult2 ∧
    (upOrder.foldl (fun q d => if c q d then setDomain q d .off else q) p).bootProfile = p.bootProfile ∧
    (upOrder.foldl (fun q d => if c q d then setDomain q d .off else q) p).bootFallback = p.bootFallback ∧
    (upOrder.foldl (fun q d => if c q d then setDomain q d .off else q) p).bootDone = p.bootDone ∧
    (upOrder.foldl (fun q d => if c q d then setDomain q d .off else q) p).autostart = p.autostart ∧
    (upOrder.foldl (fun q d => if c q d then setDomain q d .off else q) p).bootPwr = p.bootPwr ∧
    (upOrder.foldl (fun q d => if c q d then setDomain q d .off else q) p).xoValid = p.xoValid := by
  have h : ∀ (l : List Domain) (p : PowerUnit), (l.foldl (fun q d => if c q d then setDomain q d .off else q) p).ctrl = p.ctrl ∧
    (l.foldl (fun q d => if c q d then setDomain q d .off else q) p).upQueue = p.upQueue ∧
    (l.foldl (fun q d => if c q d then setDomain q d .off else q) p).rampWrite = p.rampWrite ∧
    (l.foldl (fun q d => if c q d then setDomain q d .off else q) p).upWrites = p.upWrites ∧
    (l.foldl (fun q d => if c q d then setDomain q d .off else q) p).downQueue = p.downQueue ∧
    (l.foldl (fun q d => if c q d then setDomain q d .off else q) p).coreOffByWrite = p.coreOffByWrite ∧
    (l.foldl (fun q d => if c q d then setDomain q d .off else q) p).warn33 = p.warn33 ∧
    (l.foldl (fun q d => if c q d then setDomain q d .off else q) p).warnAon = p.warnAon ∧
    (l.foldl (fun q d => if c q d then setDomain q d .off else q) p).warn09 = p.warn09 ∧
    (l.foldl (fun q d => if c q d then setDomain q d .off else q) p).warn18 = p.warn18 ∧
    (l.foldl (fun q d => if c q d then setDomain q d .off else q) p).bor09 = p.bor09 ∧
    (l.foldl (fun q d => if c q d then setDomain q d .off else q) p).bor18 = p.bor18 ∧
    (l.foldl (fun q d => if c q d then setDomain q d .off else q) p).bor33 = p.bor33 ∧
    (l.foldl (fun q d => if c q d then setDomain q d .off else q) p).vddoBor = p.vddoBor ∧
    (l.foldl (fun q d => if c q d then setDomain q d .off else q) p).vddoOvr = p.vddoOvr ∧
    (l.foldl (fun q d => if c q d then setDomain q d .off else q) p).supplyLow = p.supplyLow ∧
    (l.foldl (fun q d => if c q d then setDomain q d .off else q) p).heldRaised = p.heldRaised ∧
    (l.foldl (fun q d => if c q d then setDomain q d .off else q) p).resetHeld = p.resetHeld ∧
    (l.foldl (fun q d => if c q d then setDomain q d .off else q) p).booting = p.booting ∧
    (l.foldl (fun q d => if c q d then setDomain q d .off else q) p).resetWaits = p.resetWaits ∧
    (l.foldl (fun q d => if c q d then setDomain q d .off else q) p).resetClass = p.resetClass ∧
    (l.foldl (fun q d => if c q d then setDomain q d .off else q) p).bootWait = p.bootWait ∧
    (l.foldl (fun q d => if c q d then setDomain q d .off else q) p).shut = p.shut ∧
    (l.foldl (fun q d => if c q d then setDomain q d .off else q) p).resetCause = p.resetCause ∧
    (l.foldl (fun q d => if c q d then setDomain q d .off else q) p).rstHeldMs = p.rstHeldMs ∧
    (l.foldl (fun q d => if c q d then setDomain q d .off else q) p).rstLong = p.rstLong ∧
    (l.foldl (fun q d => if c q d then setDomain q d .off else q) p).straps = p.straps ∧
    (l.foldl (fun q d => if c q d then setDomain q d .off else q) p).strapEcho = p.strapEcho ∧
    (l.foldl (fun q d => if c q d then setDomain q d .off else q) p).bypOut0 = p.bypOut0 ∧
    (l.foldl (fun q d => if c q d then setDomain q d .off else q) p).pwrPend = p.pwrPend ∧
    (l.foldl (fun q d => if c q d then setDomain q d .off else q) p).safePend = p.safePend ∧
    (l.foldl (fun q d => if c q d then setDomain q d .off else q) p).pendOwed = p.pendOwed ∧
    (l.foldl (fun q d => if c q d then setDomain q d .off else q) p).bootResult0 = p.bootResult0 ∧
    (l.foldl (fun q d => if c q d then setDomain q d .off else q) p).bootResult1 = p.bootResult1 ∧
    (l.foldl (fun q d => if c q d then setDomain q d .off else q) p).bootResult2 = p.bootResult2 ∧
    (l.foldl (fun q d => if c q d then setDomain q d .off else q) p).bootProfile = p.bootProfile ∧
    (l.foldl (fun q d => if c q d then setDomain q d .off else q) p).bootFallback = p.bootFallback ∧
    (l.foldl (fun q d => if c q d then setDomain q d .off else q) p).bootDone = p.bootDone ∧
    (l.foldl (fun q d => if c q d then setDomain q d .off else q) p).autostart = p.autostart ∧
    (l.foldl (fun q d => if c q d then setDomain q d .off else q) p).bootPwr = p.bootPwr ∧
    (l.foldl (fun q d => if c q d then setDomain q d .off else q) p).xoValid = p.xoValid := by
    intro l
    induction l with
    | nil => simp
    | cons a l ih =>
      intro p
      rw [List.foldl_cons]
      split
      · have := ih (setDomain p a .off)
        simpa using this
      · exact ih p
  exact h upOrder p

@[simp, simp ↓] theorem pwrCtrlWrite_within {s : State} {w : Nat} {ps : Nat} {s0 : State} (hm : Covers 0xc32fdd0edfffebf8 ps) :
    Within ps s0 (pwrCtrlWrite s w) ↔ Within ps s0 s := by
  refine Within.over ?_ hm
  unfold pwrCtrlWrite
  simp (maxDischargeDepth := 6)

@[simp, simp ↓] theorem domainPowerDown_within {s : State} {ps : Nat} {s0 : State} (hm : Covers 0x432fdd0fdfffebf8 ps) :
    Within ps s0 (domainPowerDown s) ↔ Within ps s0 s := by
  refine Within.over ?_ hm
  unfold domainPowerDown
  simp (maxDischargeDepth := 6)

@[simp, simp ↓] theorem strapBypass_within {s : State} {ps : Nat} {s0 : State} (hm : Covers 0x804000 ps) :
    Within ps s0 (strapBypass s) ↔ Within ps s0 s := by
  refine Within.over ?_ hm
  unfold strapBypass
  simp (maxDischargeDepth := 6)

@[simp, simp ↓] theorem applyPowerOn_within {s : State} {ps : Nat} {s0 : State} (hm : Covers 0xffabfffffffffffe ps) :
    Within ps s0 (applyPowerOn s) ↔ Within ps s0 s := by
  refine Within.over ?_ hm
  unfold applyPowerOn
  simp [State.reset, keepRails]

@[simp, simp ↓] theorem applyWarm_within {s : State} {ps : Nat} {s0 : State} (hm : Covers 0xfbabffffffffedf8 ps) :
    Within ps s0 (applyWarm s) ↔ Within ps s0 s := by
  refine Within.over ?_ hm
  unfold applyWarm
  simp [State.reset, keepRails, safetyReset]

@[simp, simp ↓] theorem bootLog_within {s : State} {ps : Nat} {s0 : State} (hm : Covers 0x4000000000000 ps) :
    Within ps s0 (bootLog s) ↔ Within ps s0 s := by
  refine Within.over ?_ hm
  unfold bootLog
  split <;> simp (maxDischargeDepth := 6)

@[simp, simp ↓] theorem bootCopy_within {s : State} {r : Nat} {ps : Nat} {s0 : State} (hm : Covers 0x4400000000200 ps) :
    Within ps s0 (bootCopy s r) ↔ Within ps s0 s := by
  refine Within.over ?_ hm
  unfold bootCopy
  simp (maxDischargeDepth := 6)

@[simp, simp ↓] theorem bootSafety_within {s : State} {ps : Nat} {s0 : State} (hm : Covers 0x44003e0004200 ps) :
    Within ps s0 (bootSafety s) ↔ Within ps s0 s := by
  refine Within.over ?_ hm
  unfold bootSafety
  split <;> simp (maxDischargeDepth := 6)

@[simp, simp ↓] theorem bootProfile_within {s : State} {ps : Nat} {s0 : State} (hm : Covers 0x804400000404200 ps) :
    Within ps s0 (bootProfile s) ↔ Within ps s0 s := by
  refine Within.over ?_ hm
  unfold bootProfile
  dsimp -proj only
  repeat' split
  all_goals simp (maxDischargeDepth := 6)

@[simp, simp ↓] theorem bootFollow_within {s : State} {ps : Nat} {s0 : State} (hm : Covers 0x400008 ps) :
    Within ps s0 (bootFollow s) ↔ Within ps s0 s := by
  refine Within.over ?_ hm
  unfold bootFollow
  simp (maxDischargeDepth := 6)

@[simp, simp ↓] theorem bootModel_within {s : State} {ps : Nat} {s0 : State} (hm : Covers 0x4400000104200 ps) :
    Within ps s0 (bootModel s) ↔ Within ps s0 s := by
  refine Within.over ?_ hm
  unfold bootModel
  split <;> simp (maxDischargeDepth := 6)

@[simp, simp ↓] theorem bootPower_within {s : State} {ps : Nat} {s0 : State} (hm : Covers 0x4400001b5ea00 ps) :
    Within ps s0 (bootPower s) ↔ Within ps s0 s := by
  refine Within.over ?_ hm
  unfold bootPower
  simp (maxDischargeDepth := 6)

@[simp, simp ↓] theorem bootGoesOn_within {s : State} {ps : Nat} {s0 : State} (hm : Covers 0x4400001b5ea00 ps) :
    Within ps s0 (bootGoesOn s) ↔ Within ps s0 s := by
  refine Within.over ?_ hm
  unfold bootGoesOn
  simp (maxDischargeDepth := 6)

@[simp, simp ↓] theorem supplyLowShow_within {s : State} {unit : Nat} {waits : List LongOp} {ps : Nat} {s0 : State} (hm : Covers
    0x4480c0001d200 ps) :
    Within ps s0 (supplyLowShow s unit waits) ↔ Within ps s0 s := by
  refine Within.over ?_ hm
  unfold supplyLowShow
  simp (maxDischargeDepth := 6)

@[simp, simp ↓] theorem supplyLowEnter_within {s : State} {unit : Nat} {ps : Nat} {s0 : State} (hm : Covers 0x34480c0001d200 ps) :
    Within ps s0 (supplyLowEnter s unit) ↔ Within ps s0 s := by
  refine Within.over ?_ hm
  unfold supplyLowEnter
  simp (maxDischargeDepth := 6)

@[simp, simp ↓] theorem release_within {s : State} {ps : Nat} {s0 : State} (hm : Covers 0xa04481fe1f5fa08 ps) :
    Within ps s0 (release s) ↔ Within ps s0 s := by
  refine Within.over ?_ hm
  unfold release
  simp (maxDischargeDepth := 6)

@[simp, simp ↓] theorem tryRelease_within {s : State} {ps : Nat} {s0 : State} (hm : Covers 0xa04481fe1f5fa08 ps) :
    Within ps s0 (tryRelease s) ↔ Within ps s0 s := by
  refine Within.over ?_ hm
  unfold tryRelease
  simp (maxDischargeDepth := 6)

@[simp, simp ↓] theorem assertReset_within {s : State} {bit cls : Nat} {ps : Nat} {s0 : State} (hm : Covers 0xffbffffffffffffe ps) :
    Within ps s0 (assertReset s bit cls) ↔ Within ps s0 s := by
  refine Within.over ?_ hm
  unfold assertReset
  simp (maxDischargeDepth := 6)

@[simp, simp ↓] theorem undoCmd_within {s : State} {ps : Nat} {s0 : State} (hm : Covers 0x8004000000018600 ps) :
    Within ps s0 (undoCmd s) ↔ Within ps s0 s := by
  refine Within.over ?_ hm
  unfold undoCmd
  split <;> simp (maxDischargeDepth := 6)

@[simp, simp ↓] theorem endReset_within {s : State} {bits : List Nat} {straps : BitVec 4} {ps : Nat} {s0 : State} (hm : Covers
    0xa04481fe1f5fe08 ps) :
    Within ps s0 (endReset s bits straps) ↔ Within ps s0 s := by
  refine Within.over ?_ hm
  unfold endReset
  simp (maxDischargeDepth := 6)

@[simp, simp ↓] theorem bypassSettle_within {s : State} {ps : Nat} {s0 : State} (hm : Covers 0x804000 ps) :
    Within ps s0 (bypassSettle s) ↔ Within ps s0 s := by
  refine Within.over ?_ hm
  unfold bypassSettle
  simp (maxDischargeDepth := 6)

@[simp, simp ↓] theorem pwrPendClear_within {s : State} {v : Nat} {ps : Nat} {s0 : State} (hm : Covers 0x200 ps) :
    Within ps s0 (pwrPendClear s v) ↔ Within ps s0 s := by
  refine Within.over ?_ hm
  unfold pwrPendClear
  simp (maxDischargeDepth := 6)

@[simp, simp ↓] theorem resetCauseClear_within {s : State} {v : Nat} {ps : Nat} {s0 : State} (hm : Covers 0x400 ps) :
    Within ps s0 (resetCauseClear s v) ↔ Within ps s0 s := by
  refine Within.over ?_ hm
  unfold resetCauseClear
  simp (maxDischargeDepth := 6)

@[simp, simp ↓] theorem modeRequest_within {s : State} {m : Master} {op : OpMode} {ps : Nat} {s0 : State} (hm : Covers 0x8004430000010200
    ps) :
    Within ps s0 (modeRequest s m op) ↔ Within ps s0 s := by
  refine Within.over ?_ hm
  unfold modeRequest
  dsimp -proj only
  repeat' split
  all_goals simp (maxDischargeDepth := 6)

@[simp, simp ↓] theorem modeActions_within {s : State} {op base : OpMode} {ps : Nat} {s0 : State} (hm : Covers 0x4400001ad8200 ps) :
    Within ps s0 (modeActions s op base) ↔ Within ps s0 s := by
  refine Within.over ?_ hm
  unfold modeActions
  split <;> simp (maxDischargeDepth := 6)

@[simp, simp ↓] theorem opmodeChange_within {s : State} {ps : Nat} {s0 : State} (hm : Covers 0x4400001ad8200 ps) :
    Within ps s0 (opmodeChange s) ↔ Within ps s0 s := by
  refine Within.over ?_ hm
  unfold opmodeChange
  split <;> simp (maxDischargeDepth := 6)

@[simp, simp ↓] theorem softReset_within {s : State} {m : Master} {ps : Nat} {s0 : State} (hm : Covers 0xffbffffffffffffe ps) :
    Within ps s0 (softReset s m) ↔ Within ps s0 s := by
  refine Within.over ?_ hm
  unfold softReset
  simp (maxDischargeDepth := 6)

@[simp, simp ↓] theorem shutdownBegin_within {s : State} {ps : Nat} {s0 : State} (hm : Covers 0x22c7c0c11816a00 ps) :
    Within ps s0 (shutdownBegin s) ↔ Within ps s0 s := by
  refine Within.over ?_ hm
  unfold shutdownBegin
  simp (maxDischargeDepth := 6)

@[simp, simp ↓] theorem shutdown_within {s : State} {m : Master} {ps : Nat} {s0 : State} (hm : Covers 0x822c7f0c11816a00 ps) :
    Within ps s0 (shutdown s m) ↔ Within ps s0 s := by
  refine Within.over ?_ hm
  unfold shutdown
  dsimp -proj only
  repeat' split
  all_goals simp (maxDischargeDepth := 6)

@[simp, simp ↓] theorem shutdownComplete_within {s : State} {ps : Nat} {s0 : State} (hm : Covers 0x440000001a200 ps) :
    Within ps s0 (shutdownComplete s) ↔ Within ps s0 s := by
  refine Within.over ?_ hm
  unfold shutdownComplete
  simp (maxDischargeDepth := 6)

@[simp, simp ↓] theorem eventsLatch_within {s : State} {ps : Nat} {s0 : State} (hm : Covers 0xc00000000000 ps) :
    Within ps s0 (eventsLatch s) ↔ Within ps s0 s := by
  refine Within.over ?_ hm
  unfold eventsLatch
  simp (maxDischargeDepth := 6)

@[simp, simp ↓] theorem stickyJob_within {s : State} {ps : Nat} {s0 : State} (hm : Covers 0x7c00000000200 ps) :
    Within ps s0 (stickyJob s) ↔ Within ps s0 s := by
  refine Within.over ?_ hm
  unfold stickyJob
  simp (maxDischargeDepth := 6)

@[simp, simp ↓] theorem irqUpdate_within {s : State} {ps : Nat} {s0 : State} (hm : Covers 0x800000000000 ps) :
    Within ps s0 (irqUpdate s) ↔ Within ps s0 s := by
  refine Within.over ?_ hm
  unfold irqUpdate
  simp (maxDischargeDepth := 6)

@[simp, simp ↓] theorem irqRelease_within {s : State} {ps : Nat} {s0 : State} (hm : Covers 0x800000000000 ps) :
    Within ps s0 (irqRelease s) ↔ Within ps s0 s := by
  refine Within.over ?_ hm
  unfold irqRelease
  simp (maxDischargeDepth := 6)

@[simp, simp ↓] theorem stickyClear_within {s : State} {g : Nat} {hi : Bool} {v : Nat} {ps : Nat} {s0 : State} (hm : Covers 0x800000000000
    ps) :
    Within ps s0 (stickyClear s g hi v) ↔ Within ps s0 s := by
  refine Within.over ?_ hm
  unfold stickyClear
  simp (maxDischargeDepth := 6)

@[simp, simp ↓] theorem maskWrite_within {s : State} {g : Nat} {hi : Bool} {v : Nat} {ps : Nat} {s0 : State} (hm : Covers 0x800000000000 ps)
    :
    Within ps s0 (maskWrite s g hi v) ↔ Within ps s0 s := by
  refine Within.over ?_ hm
  unfold maskWrite
  simp (maxDischargeDepth := 6)

@[simp, simp ↓] theorem routeWrite_within {s : State} {v : Nat} {ps : Nat} {s0 : State} (hm : Covers 0x800000000000 ps) :
    Within ps s0 (routeWrite s v) ↔ Within ps s0 s := by
  refine Within.over ?_ hm
  unfold routeWrite
  simp (maxDischargeDepth := 6)

@[simp, simp ↓] theorem cntZero_within {s : State} {c : Nat} {ps : Nat} {s0 : State} (hm : Covers 0x7400000000200 ps) :
    Within ps s0 (cntZero s c) ↔ Within ps s0 s := by
  refine Within.over ?_ hm
  unfold cntZero
  simp (maxDischargeDepth := 6)

@[simp, simp ↓] theorem cntRestart_within {s : State} {c : Nat} {ps : Nat} {s0 : State} (hm : Covers 0x3000000000000 ps) :
    Within ps s0 (cntRestart s c) ↔ Within ps s0 s := by
  refine Within.over ?_ hm
  unfold cntRestart
  simp (maxDischargeDepth := 6)

@[simp, simp ↓] theorem cntClear_within {s : State} {m : Master} {c : Nat} {ps : Nat} {s0 : State} (hm : Covers 0x7430000000200 ps) :
    Within ps s0 (cntClear s m c) ↔ Within ps s0 s := by
  refine Within.over ?_ hm
  unfold cntClear
  simp (maxDischargeDepth := 6)

@[simp, simp ↓] theorem cntCmdClear_within {s : State} {m : Master} {mask : Nat} {ps : Nat} {s0 : State} (hm : Covers 0x7430000000200 ps) :
    Within ps s0 (cntCmdClear s m mask) ↔ Within ps s0 s := by
  refine Within.over ?_ hm
  unfold cntCmdClear
  simp (maxDischargeDepth := 6)

@[simp, simp ↓] theorem cntsCommit_within {s : State} {ps : Nat} {s0 : State} (hm : Covers 0x3000000000000 ps) :
    Within ps s0 (cntsCommit s) ↔ Within ps s0 s := by
  refine Within.over ?_ hm
  unfold cntsCommit
  simp (maxDischargeDepth := 6)

@[simp, simp ↓] theorem counterOverflow_within {s : State} {c : Nat} {ps : Nat} {s0 : State} (hm : Covers 0x7400000000200 ps) :
    Within ps s0 (counterOverflow s c) ↔ Within ps s0 s := by
  refine Within.over ?_ hm
  unfold counterOverflow
  simp (maxDischargeDepth := 6)

@[simp, simp ↓] theorem logRecordProgram_within {s : State} {vddOk : Bool} {ps : Nat} {s0 : State} (hm : Covers 0x14680c00006a00 ps) :
    Within ps s0 (logRecordProgram s vddOk) ↔ Within ps s0 s := by
  refine Within.over ?_ hm
  unfold logRecordProgram
  split <;> simp (maxDischargeDepth := 6)

@[simp, simp ↓] theorem bufWrite_within {s : State} {m : Master} {i v : Nat} {ps : Nat} {s0 : State} (hm : Covers 0x204400000000200 ps) :
    Within ps s0 (bufWrite s m i v) ↔ Within ps s0 s := by
  refine Within.over ?_ hm
  unfold bufWrite
  simp (maxDischargeDepth := 6)

@[simp, simp ↓] theorem ptrNext_within {s : State} {ps : Nat} {s0 : State} (hm : Covers 0x200000000000000 ps) :
    Within ps s0 (ptrNext s) ↔ Within ps s0 s := by
  refine Within.over ?_ hm
  unfold ptrNext
  simp (maxDischargeDepth := 6)

@[simp, simp ↓] theorem secDataWrite_within {s : State} {m : Master} {v : Nat} {ps : Nat} {s0 : State} (hm : Covers 0x204400000000200 ps) :
    Within ps s0 (secDataWrite s m v) ↔ Within ps s0 s := by
  refine Within.over ?_ hm
  unfold secDataWrite
  simp (maxDischargeDepth := 6)

@[simp, simp ↓] theorem secDataRead_within {s : State} {ps : Nat} {s0 : State} (hm : Covers 0x200000000000000 ps) :
    Within ps s0 (secDataRead s).2 ↔ Within ps s0 s := by
  refine Within.over ?_ hm
  unfold secDataRead
  simp (maxDischargeDepth := 6) [apply_ite Prod.snd]

@[simp, simp ↓] theorem dbgSet_within {s : State} {m : Master} {ps : Nat} {s0 : State} (hm : Covers 0x2044303c0000200 ps) :
    Within ps s0 (dbgSet s m) ↔ Within ps s0 s := by
  refine Within.over ?_ hm
  unfold dbgSet
  simp (maxDischargeDepth := 6)

@[simp, simp ↓] theorem sessionEndCmd_within {s : State} {m : Master} {ps : Nat} {s0 : State} (hm : Covers 0x3044303c0000200 ps) :
    Within ps s0 (sessionEndCmd s m) ↔ Within ps s0 s := by
  refine Within.over ?_ hm
  unfold sessionEndCmd
  simp (maxDischargeDepth := 6)

@[simp, simp ↓] theorem bufClear_within {s : State} {m : Master} {ps : Nat} {s0 : State} (hm : Covers 0x200030000000000 ps) :
    Within ps s0 (bufClear s m) ↔ Within ps s0 s := by
  refine Within.over ?_ hm
  unfold bufClear
  simp (maxDischargeDepth := 6)

@[simp, simp ↓] theorem secCtrlWrite_within {s : State} {m : Master} {v : Nat} {ps : Nat} {s0 : State} (hm : Covers 0x3044303c0000200 ps) :
    Within ps s0 (secCtrlWrite s m v) ↔ Within ps s0 s := by
  refine Within.over ?_ hm
  unfold secCtrlWrite
  dsimp -proj only
  repeat' split
  all_goals simp (maxDischargeDepth := 6)

@[simp, simp ↓] theorem sessionIdle_within {s : State} {ps : Nat} {s0 : State} (hm : Covers 0x3044003c0000200 ps) :
    Within ps s0 (sessionIdle s) ↔ Within ps s0 s := by
  refine Within.over ?_ hm
  unfold sessionIdle
  simp (maxDischargeDepth := 6)

@[simp, simp ↓] theorem challengeExpire_within {s : State} {ps : Nat} {s0 : State} (hm : Covers 0x200000000000000 ps) :
    Within ps s0 (challengeExpire s) ↔ Within ps s0 s := by
  refine Within.over ?_ hm
  unfold challengeExpire
  simp (maxDischargeDepth := 6)

@[simp, simp ↓] theorem authDelayExpire_within {s : State} {ps : Nat} {s0 : State} (hm : Covers 0x200000000000000 ps) :
    Within ps s0 (authDelayExpire s) ↔ Within ps s0 s := by
  refine Within.over ?_ hm
  unfold authDelayExpire
  split <;> simp (maxDischargeDepth := 6)

@[simp, simp ↓] theorem tapReset_within {s : State} {ps : Nat} {s0 : State} (hm : Covers 0x400000000000400 ps) :
    Within ps s0 (tapReset s) ↔ Within ps s0 s := by
  refine Within.over ?_ hm
  unfold tapReset
  simp (maxDischargeDepth := 6)

@[simp, simp ↓] theorem extestLoad_within {s : State} {cells : Nat} {ps : Nat} {s0 : State} (hm : Covers 0x404400000000200 ps) :
    Within ps s0 (extestLoad s cells) ↔ Within ps s0 s := by
  refine Within.over ?_ hm
  unfold extestLoad
  simp (maxDischargeDepth := 6)

@[simp, simp ↓] theorem dbgCtrl_within {s : State} {halt : Bool} {ps : Nat} {s0 : State} (hm : Covers 0x6000002c0000000 ps) :
    Within ps s0 (dbgCtrl s halt) ↔ Within ps s0 s := by
  refine Within.over ?_ hm
  unfold dbgCtrl
  simp (maxDischargeDepth := 6)

@[simp, simp ↓] theorem opBegin_within {s : State} {o : LongOp} {ps : Nat} {s0 : State} (hm : Covers 0x3c480c01900200 ps) :
    Within ps s0 (opBegin s o) ↔ Within ps s0 s := by
  refine Within.over ?_ hm
  unfold opBegin
  repeat' split
  all_goals simp (maxDischargeDepth := 6)

@[simp, simp ↓] theorem opStart_within {s : State} {vddOk : Bool} {ps : Nat} {s0 : State} (hm : Covers 0x23c780c01906a00 ps) :
    Within ps s0 (opStart s vddOk) ↔ Within ps s0 s := by
  refine Within.over ?_ hm
  unfold opStart
  repeat' split
  all_goals simp (maxDischargeDepth := 6)

@[simp, simp ↓] theorem stagePut_within {s : State} {a : Nat} {v : Word} {ps : Nat} {s0 : State} (hm : Covers 0x40000000000 ps) :
    Within ps s0 (stagePut s a v) ↔ Within ps s0 s := by
  refine Within.over ?_ hm
  unfold stagePut
  simp (maxDischargeDepth := 6)

@[simp, simp ↓] theorem echoSkips_within {s : State} {o : LongOp} {n : Nat} {ps : Nat} {s0 : State} (hm : Covers 0x10000000000 ps) :
    Within ps s0 (echoSkips s o n) ↔ Within ps s0 s := by
  refine Within.over ?_ hm
  unfold echoSkips
  simp (maxDischargeDepth := 6)

@[simp, simp ↓] theorem loadDone_within {s : State} {o : LongOp} {ps : Nat} {s0 : State} (hm : Covers 0x22c7d0c01806a00 ps) :
    Within ps s0 (loadDone s o) ↔ Within ps s0 s := by
  refine Within.over ?_ hm
  unfold loadDone
  dsimp -proj only
  repeat' split
  all_goals simp (maxDischargeDepth := 6)

@[simp, simp ↓] theorem recordEnds_within {s : State} {o : LongOp} {r : Nat} {ok : Bool} {ps : Nat} {s0 : State} (hm : Covers
    0x23c780fe1906a00 ps) :
    Within ps s0 (recordEnds s o r ok) ↔ Within ps s0 s := by
  refine Within.over ?_ hm
  unfold recordEnds
  simp (maxDischargeDepth := 6)

@[simp, simp ↓] theorem logClear_within {s : State} {ps : Nat} {s0 : State} (hm : Covers 0x34000000000000 ps) :
    Within ps s0 (logClear s) ↔ Within ps s0 s := by
  refine Within.over ?_ hm
  unfold logClear
  simp (maxDischargeDepth := 6)

@[simp, simp ↓] theorem exportDone_within {s : State} {ps : Nat} {s0 : State} (hm : Covers 0x8000000000000 ps) :
    Within ps s0 (exportDone s) ↔ Within ps s0 s := by
  refine Within.over ?_ hm
  unfold exportDone
  simp (maxDischargeDepth := 6)

@[simp, simp ↓] theorem challengeDone_within {s : State} {o : LongOp} {m : Master} {rngOk : Bool} {ps : Nat} {s0 : State} (hm : Covers
    0x1022c780c01806a00 ps) :
    Within ps s0 (challengeDone s o m rngOk) ↔ Within ps s0 s := by
  refine Within.over ?_ hm
  unfold challengeDone
  simp (maxDischargeDepth := 6)

@[simp, simp ↓] theorem responseDone_within {s : State} {o : LongOp} {m : Master} {ps : Nat} {s0 : State} (hm : Covers 0x3ac780c21806a00 ps)
    :
    Within ps s0 (responseDone s o m) ↔ Within ps s0 s := by
  refine Within.over ?_ hm
  unfold responseDone
  simp (maxDischargeDepth := 6)

@[simp, simp ↓] theorem otpBurn_within {s : State} {o : LongOp} {ok : Bool} {ps : Nat} {s0 : State} (hm : Covers 0x40000000000000 ps) :
    Within ps s0 (otpBurn s o ok) ↔ Within ps s0 s := by
  refine Within.over ?_ hm
  unfold otpBurn
  dsimp -proj only
  split <;> simp (maxDischargeDepth := 6)

@[simp, simp ↓] theorem otpDone_within {s : State} {o : LongOp} {ok : Bool} {ps : Nat} {s0 : State} (hm : Covers 0x36c780fc1806a00 ps) :
    Within ps s0 (otpDone s o ok) ↔ Within ps s0 s := by
  refine Within.over ?_ hm
  unfold otpDone
  dsimp -proj only
  split <;> simp (maxDischargeDepth := 6)

@[simp, simp ↓] theorem opDone_within {s : State} {rep : OpReport} {ps : Nat} {s0 : State} (hm : Covers 0x103fc7d0fe1906a00 ps) :
    Within ps s0 (opDone s rep) ↔ Within ps s0 s := by
  refine Within.over ?_ hm
  unfold opDone
  dsimp -proj only
  repeat' split
  all_goals simp (maxDischargeDepth := 6)

@[simp, simp ↓] theorem abortOp_within {s : State} {m : Master} {ps : Nat} {s0 : State} (hm : Covers 0x22c7b0c01806a00 ps) :
    Within ps s0 (abortOp s m) ↔ Within ps s0 s := by
  refine Within.over ?_ hm
  unfold abortOp
  dsimp -proj only
  repeat' split
  all_goals simp (maxDischargeDepth := 6)

@[simp, simp ↓] theorem queueSave_within {s : State} {seq : Nat} {ps : Nat} {s0 : State} (hm : Covers 0x4680c00004200 ps) :
    Within ps s0 (queueSave s seq) ↔ Within ps s0 s := by
  refine Within.over ?_ hm
  unfold queueSave
  simp (maxDischargeDepth := 6)

@[simp, simp ↓] theorem modelSaveDue_within {s : State} {ps : Nat} {s0 : State} (hm : Covers 0x4680c00004200 ps) :
    Within ps s0 (modelSaveDue s) ↔ Within ps s0 s := by
  refine Within.over ?_ hm
  unfold modelSaveDue
  simp (maxDischargeDepth := 6)

@[simp, simp ↓] theorem modelSaveRetry_within {s : State} {ps : Nat} {s0 : State} (hm : Covers 0x4680c00104200 ps) :
    Within ps s0 (modelSaveRetry s) ↔ Within ps s0 s := by
  refine Within.over ?_ hm
  unfold modelSaveRetry
  split <;> simp (maxDischargeDepth := 6)

@[simp, simp ↓] theorem programEnd_within {s : State} {ps : Nat} {s0 : State} (hm : Covers 0xfbeffffffffffff8 ps) :
    Within ps s0 (programEnd s) ↔ Within ps s0 s := by
  refine Within.over ?_ hm
  unfold programEnd
  repeat' split
  all_goals simp (maxDischargeDepth := 6)

@[simp, simp ↓] theorem snapMark_within {s : State} {overrun : Bool} {ps : Nat} {s0 : State} (hm : Covers 0xc400000000200 ps) :
    Within ps s0 (snapMark s overrun) ↔ Within ps s0 s := by
  refine Within.over ?_ hm
  unfold snapMark
  simp (maxDischargeDepth := 6)

@[simp, simp ↓] theorem snapCommand_within {s : State} {m : Master} {rel req : Bool} {ps : Nat} {s0 : State} (hm : Covers 0x8030000000000
    ps) :
    Within ps s0 (snapCommand s m rel req) ↔ Within ps s0 s := by
  refine Within.over ?_ hm
  unfold snapCommand
  simp (maxDischargeDepth := 6)

@[simp, simp ↓] theorem snapCtrlWrite_within {s : State} {m : Master} {v : Nat} {ps : Nat} {s0 : State} (hm : Covers 0x8030000000000 ps) :
    Within ps s0 (snapCtrlWrite s m v) ↔ Within ps s0 s := by
  refine Within.over ?_ hm
  unfold snapCtrlWrite
  simp (maxDischargeDepth := 6)

@[simp, simp ↓] theorem noted_within {s : State} {m : Master} {a : Nat} {t : State} {ps : Nat} {s0 : State} (hm : Covers 0x4000000000 ps) :
    Within ps s0 (noted s m a t) ↔ Within ps s0 t := by
  refine Within.over ?_ hm
  unfold noted
  simp (maxDischargeDepth := 6)

@[simp, simp ↓] theorem openGroup_within {s : State} {m : Master} {i : Item} {ps : Nat} {s0 : State} (hm : Covers 0xc00000000 ps) :
    Within ps s0 (openGroup s m i) ↔ Within ps s0 s := by
  refine Within.over ?_ hm
  unfold openGroup
  simp (maxDischargeDepth := 6)

@[simp, simp ↓] theorem dropHead_within {s : State} {m : Master} {i : Item} {ps : Nat} {s0 : State} (hm : Covers 0x4400000000300 ps) :
    Within ps s0 (dropHead s m i) ↔ Within ps s0 s := by
  refine Within.over ?_ hm
  unfold dropHead
  simp (maxDischargeDepth := 6)

@[simp, simp ↓] theorem groupRead_within {s : State} {m : Master} {i : Item} {a : Nat} {ps : Nat} {s0 : State} (hm : Covers 0x4400c00000300
    ps) :
    Within ps s0 (groupRead s m i a).2 ↔ Within ps s0 s := by
  refine Within.over ?_ hm
  unfold groupRead
  simp (maxDischargeDepth := 6) [apply_ite Prod.snd]

@[simp, simp ↓] theorem mapRead_within {s : State} {m : Master} {a : Nat} {ps : Nat} {s0 : State} (hm : Covers 0x204400c00000300 ps) :
    Within ps s0 (mapRead s m a).2 ↔ Within ps s0 s := by
  refine Within.over ?_ hm
  unfold mapRead
  split <;> simp (maxDischargeDepth := 6) [apply_ite Prod.snd]

@[simp, simp ↓] theorem windowNext_within {s : State} {m : Master} {ps : Nat} {s0 : State} (hm : Covers 0xc00000000 ps) :
    Within ps s0 (windowNext s m) ↔ Within ps s0 s := by
  refine Within.over ?_ hm
  unfold windowNext
  simp (maxDischargeDepth := 6)

@[simp, simp ↓] theorem directRead_within {s : State} {m : Master} {a : Nat} {ps : Nat} {s0 : State} (hm : Covers 0x204400c00000300 ps) :
    Within ps s0 (directRead s m a).2 ↔ Within ps s0 s := by
  refine Within.over ?_ hm
  unfold directRead
  simp (maxDischargeDepth := 6) [apply_ite Prod.snd]

@[simp, simp ↓] theorem busRead_within {s : State} {m : Master} {a : Nat} {ps : Nat} {s0 : State} (hm : Covers 0x204400c00000300 ps) :
    Within ps s0 (busRead s m a).2 ↔ Within ps s0 s := by
  refine Within.over ?_ hm
  unfold busRead
  simp (maxDischargeDepth := 6) [apply_ite Prod.snd]

@[simp, simp ↓] theorem deliver_within {s : State} {m : Master} {ws : List Nat} {ps : Nat} {s0 : State} (hm : Covers 0xc00000000 ps) :
    Within ps s0 (deliver s m ws) ↔ Within ps s0 s := by
  refine Within.over ?_ hm
  unfold deliver
  simp (maxDischargeDepth := 6)

@[simp, simp ↓] theorem holdWord_within {s : State} {m : Master} {a v : Nat} {ps : Nat} {s0 : State} (hm : Covers 0xc00000000 ps) :
    Within ps s0 (holdWord s m a v) ↔ Within ps s0 s := by
  refine Within.over ?_ hm
  unfold holdWord
  simp (maxDischargeDepth := 6)

@[simp, simp ↓] theorem badCommand_within {s : State} {m : Master} {addr code : Nat} {args : List Nat} {ps : Nat} {s0 : State} (hm : Covers
    0x4430000000200 ps) :
    Within ps s0 (badCommand s m addr code args) ↔ Within ps s0 s := by
  refine Within.over ?_ hm
  unfold badCommand
  simp (maxDischargeDepth := 6)

@[simp, simp ↓] theorem writeIf_within {ok : Bool} {s : State} {f : State → State} {ps : Nat} {s0 : State} (hf : Within ps s (f s)) (hm :
    Covers 0x4400000000200 ps) :
    Within ps s0 (writeIf ok s f) ↔ Within ps s0 s := by
  refine Within.over (m := ps) ?_ (Nat.and_self _)
  unfold writeIf
  split
  · exact hf
  · simp [hm]

@[simp, simp ↓] theorem devCmdWrite_within {s : State} {m : Master} {v : Nat} {ps : Nat} {s0 : State} (hm : Covers 0xffbffffffffffffe ps) :
    Within ps s0 (devCmdWrite s m v) ↔ Within ps s0 s := by
  refine Within.over ?_ hm
  unfold devCmdWrite
  dsimp -proj only
  repeat' split
  all_goals simp (maxDischargeDepth := 6)

@[simp, simp ↓] theorem txnCtrlWrite_within {s : State} {m : Master} {v : Nat} {ps : Nat} {s0 : State} (hm : Covers 0x4470c10000200 ps) :
    Within ps s0 (txnCtrlWrite s m v) ↔ Within ps s0 s := by
  refine Within.over ?_ hm
  unfold txnCtrlWrite
  split <;> simp (maxDischargeDepth := 6)

@[simp, simp ↓] theorem opCmdWrite_within {s : State} {m : Master} {v : Nat} {ps : Nat} {s0 : State} (hm : Covers 0x22c7b0c01806a00 ps) :
    Within ps s0 (opCmdWrite s m v) ↔ Within ps s0 s := by
  refine Within.over ?_ hm
  unfold opCmdWrite
  simp (maxDischargeDepth := 6)

@[simp, simp ↓] theorem conflictClr_within {s : State} {m : Master} {ps : Nat} {s0 : State} (hm : Covers 0x3a000000000 ps) :
    Within ps s0 (conflictClr s m) ↔ Within ps s0 s := by
  refine Within.over ?_ hm
  unfold conflictClr
  simp (maxDischargeDepth := 6)

@[simp, simp ↓] theorem regWrite_within {s : State} {m : Master} {a v : Nat} {ps : Nat} {s0 : State} (hm : Covers 0xffbffffffffffffe ps) :
    Within ps s0 (regWrite s m a v) ↔ Within ps s0 s := by
  refine Within.over ?_ hm
  unfold regWrite
  repeat' split
  all_goals simp (maxDischargeDepth := 6)

@[simp, simp ↓] theorem stagedWrite_within {s : State} {m : Master} {a v : Nat} {ps : Nat} {s0 : State} (hm : Covers 0x4440000000200 ps) :
    Within ps s0 (stagedWrite s m a v) ↔ Within ps s0 s := by
  refine Within.over ?_ hm
  unfold stagedWrite
  repeat' split
  all_goals simp (maxDischargeDepth := 6)

@[simp, simp ↓] theorem rwsWrite_within {s : State} {m : Master} {a v : Nat} {ps : Nat} {s0 : State} (hm : Covers 0x804440c00400200 ps) :
    Within ps s0 (rwsWrite s m a v) ↔ Within ps s0 s := by
  refine Within.over ?_ hm
  unfold rwsWrite
  simp (maxDischargeDepth := 6)

@[simp, simp ↓] theorem qlHostWrite_within {s : State} {n v : Nat} {ps : Nat} {s0 : State} (hm : Covers 0x4400000020200 ps) :
    Within ps s0 (qlHostWrite s n v) ↔ Within ps s0 s := by
  refine Within.over ?_ hm
  unfold qlHostWrite
  simp (maxDischargeDepth := 6)

@[simp, simp ↓] theorem deviceWrite_within {s : State} {m : Master} {a v : Nat} {ps : Nat} {s0 : State} (hm : Covers 0x447ac00000610 ps) :
    Within ps s0 (deviceWrite s m a v) ↔ Within ps s0 s := by
  refine Within.over ?_ hm
  unfold deviceWrite
  split <;> simp (maxDischargeDepth := 6)

@[simp, simp ↓] theorem dpllWrite_within {s : State} {m : Master} {d o v : Nat} {ps : Nat} {s0 : State} (hm : Covers 0x4430c00040200 ps) :
    Within ps s0 (dpllWrite s m d o v) ↔ Within ps s0 s := by
  refine Within.over ?_ hm
  unfold dpllWrite
  repeat' split
  all_goals simp (maxDischargeDepth := 6)

@[simp, simp ↓] theorem eyeWrite_within {s : State} {m : Master} {n o v : Nat} {ps : Nat} {s0 : State} (hm : Covers 0x804430c00000220 ps) :
    Within ps s0 (eyeWrite s m n o v) ↔ Within ps s0 s := by
  refine Within.over ?_ hm
  unfold eyeWrite
  repeat' split
  all_goals simp (maxDischargeDepth := 6)

@[simp, simp ↓] theorem apllCmdWrite_within {s : State} {m : Master} {n v : Nat} {ps : Nat} {s0 : State} (hm : Covers 0x7430041a44202 ps) :
    Within ps s0 (apllCmdWrite s m n v) ↔ Within ps s0 s := by
  refine Within.over ?_ hm
  unfold apllCmdWrite
  split <;> simp (maxDischargeDepth := 6)

@[simp, simp ↓] theorem eventWrite_within {s : State} {m : Master} {a v : Nat} {ps : Nat} {s0 : State} (hm : Covers 0x7c30c00000200 ps) :
    Within ps s0 (eventWrite s m a v) ↔ Within ps s0 s := by
  refine Within.over ?_ hm
  unfold eventWrite
  simp (maxDischargeDepth := 6)

@[simp, simp ↓] theorem parWrite_within {s : State} {m : Master} {o v : Nat} {ps : Nat} {s0 : State} (hm : Covers 0x4400020000200 ps) :
    Within ps s0 (parWrite s m o v) ↔ Within ps s0 s := by
  refine Within.over ?_ hm
  unfold parWrite
  simp (maxDischargeDepth := 6)

@[simp, simp ↓] theorem internPut_within {s : State} {a v : Nat} {ps : Nat} {s0 : State} (hm : Covers 0x1004400000000200 ps) :
    Within ps s0 (internPut s a v) ↔ Within ps s0 s := by
  refine Within.over ?_ hm
  unfold internPut
  split <;> simp (maxDischargeDepth := 6)

@[simp, simp ↓] theorem noteConflict_within {s : State} {a : Nat} {w : Master} {loser winVal loseVal : Nat} {ps : Nat} {s0 : State} (hm :
    Covers 0x440a000000200 ps) :
    Within ps s0 (noteConflict s a w loser winVal loseVal) ↔ Within ps s0 s := by
  refine Within.over ?_ hm
  unfold noteConflict
  simp (maxDischargeDepth := 6)

@[simp, simp ↓] theorem internHost_within {s : State} {m : Master} {a v : Nat} {ps : Nat} {s0 : State} (hm : Covers 0x100440a000000200 ps) :
    Within ps s0 (internHost s m a v) ↔ Within ps s0 s := by
  refine Within.over ?_ hm
  unfold internHost
  split <;> simp (maxDischargeDepth := 6)

@[simp, simp ↓] theorem itemWrite_within {s : State} {m : Master} {a v : Nat} {ps : Nat} {s0 : State} (hm : Covers 0x1a0fc7ac69a64632 ps) :
    Within ps s0 (itemWrite s m a v) ↔ Within ps s0 s := by
  refine Within.over ?_ hm
  unfold itemWrite
  split <;> simp (maxDischargeDepth := 6)

@[simp, simp ↓] theorem mapWrite_within {s : State} {m : Master} {a v : Nat} {ps : Nat} {s0 : State} (hm : Covers 0xffbffffffffffffe ps) :
    Within ps s0 (mapWrite s m a v) ↔ Within ps s0 s := by
  refine Within.over ?_ hm
  unfold mapWrite
  repeat' split
  all_goals simp (maxDischargeDepth := 6)

@[simp, simp ↓] theorem busWrite_within {s : State} {m : Master} {a v : Nat} {ps : Nat} {s0 : State} (hm : Covers 0xffbffffffffffffe ps) :
    Within ps s0 (busWrite s m a v) ↔ Within ps s0 s := by
  refine Within.over ?_ hm
  unfold busWrite
  simp (maxDischargeDepth := 6)

@[simp, simp ↓] theorem targetRead_within {s : State} {m : Master} {t : Target} {ps : Nat} {s0 : State} (hm : Covers 0x204400c00000300 ps) :
    Within ps s0 (targetRead s m t) ↔ Within ps s0 s := by
  refine Within.over ?_ hm
  unfold targetRead
  split <;> simp (maxDischargeDepth := 6) [apply_ite Prod.snd]

@[simp, simp ↓] theorem targetWrite_within {s : State} {m : Master} {t : Target} {v : Nat} {ps : Nat} {s0 : State} (hm : Covers
    0xffbffffffffffffe ps) :
    Within ps s0 (targetWrite s m t v) ↔ Within ps s0 s := by
  refine Within.over ?_ hm
  unfold targetWrite
  split <;> simp (maxDischargeDepth := 6)

@[simp, simp ↓] theorem regAccess_within {s : State} {m : Master} {a : Nat} {x : Access} {ps : Nat} {s0 : State} (hm : Covers
    0xffbffffffffffffe ps) :
    Within ps s0 (regAccess s m a x) ↔ Within ps s0 s := by
  refine Within.over ?_ hm
  unfold regAccess
  split <;> simp (maxDischargeDepth := 6)

@[simp, simp ↓] theorem winWrite_within {s : State} {w : Master} {win : Target × Nat} {lose : Target × Nat} {ps : Nat} {s0 : State} (hm :
    Covers 0xffbffffffffffffe ps) :
    Within ps s0 (winWrite s w win lose) ↔ Within ps s0 s := by
  refine Within.over ?_ hm
  unfold winWrite
  simp (maxDischargeDepth := 6)

@[simp, simp ↓] theorem bothWrite_within {s : State} {m : Master} {x y : Target × Nat} {ps : Nat} {s0 : State} (hm : Covers
    0xffbffffffffffffe ps) :
    Within ps s0 (bothWrite s m x y) ↔ Within ps s0 s := by
  refine Within.over ?_ hm
  unfold bothWrite
  simp (maxDischargeDepth := 6)

@[simp, simp ↓] theorem badFrame_within {s : State} {ps : Nat} {s0 : State} (hm : Covers 0x4400000000200 ps) :
    Within ps s0 (badFrame s) ↔ Within ps s0 s := by
  refine Within.over ?_ hm
  unfold badFrame
  simp (maxDischargeDepth := 6)

@[simp, simp ↓] theorem writeRegs_within {m : Master} {a : Nat} {ws : List Word} {s : State} {ps : Nat} {s0 : State} (hm : Covers
    0xffbffffffffffffe ps) :
    Within ps s0 (writeRegs m a ws s) ↔ Within ps s0 s := by
  refine Within.over ?_ hm
  induction ws generalizing a s with
  | nil => simp [writeRegs]
  | cons v vs ih =>
    rw [writeRegs]
    refine (Within.over ih (Nat.and_self _)).mpr ?_
    split <;> simp

@[simp, simp ↓] theorem writeRegFrame_within {s : State} {a : Nat} {ws : List Word} {ps : Nat} {s0 : State} (hm : Covers 0xffbffffffffffffe
    ps) :
    Within ps s0 (writeRegFrame s a ws) ↔ Within ps s0 s := by
  refine Within.over ?_ hm
  unfold writeRegFrame
  simp (maxDischargeDepth := 6)

@[simp] theorem readRegs_within {m : Master} {late : List Nat} {ps : Nat} {s0 : State} (hm : Covers 0x204400c00000300 ps) (n : Nat) :
    ∀ (k a : Nat) (s : State), Within ps s0 (readRegs m late k a n s).2 ↔ Within ps s0 s := by
  suffices H : ∀ (n k a : Nat) (s : State), Within 0x204400c00000300 s (readRegs m late k a n s).2 from fun k a s => Within.over (H n k a s)
      hm
  clear n
  intro n
  induction n with
  | zero => exact fun k a s => Within.refl _ _
  | succ j ih =>
    intro k a s
    rw [readRegs]
    dsimp only
    rw [Within.over (ih _ _ _) (Nat.and_self _)]
    split <;> simp

@[simp, simp ↓] theorem readRegFrame_within {s : State} {a n : Nat} {late : List Nat} {ps : Nat} {s0 : State} (hm : Covers 0x204400c00000300
    ps) :
    Within ps s0 (readRegFrame s a n late) ↔ Within ps s0 s := by
  refine Within.over ?_ hm
  unfold readRegFrame
  split <;> simp

@[simp, simp ↓] theorem loadWindow_within {s : State} {a : Nat} {ps : Nat} {s0 : State} (hm : Covers 0xc00000000 ps) :
    Within ps s0 (loadWindow s a) ↔ Within ps s0 s := by
  refine Within.over ?_ hm
  unfold loadWindow
  simp (maxDischargeDepth := 6)

@[simp, simp ↓] theorem writeMapFrame_within {s : State} {a : Nat} {ws : List Word} {ps : Nat} {s0 : State} (hm : Covers 0xffbffffffffffffe
    ps) :
    Within ps s0 (writeMapFrame s a ws) ↔ Within ps s0 s := by
  refine Within.over ?_ hm
  unfold writeMapFrame
  simp (maxDischargeDepth := 6)

@[simp] theorem readWords_within {m : Master} {late : List Nat} {ps : Nat} {s0 : State} (hm : Covers 0x204400c00000300 ps) (n : Nat) :
    ∀ (k : Nat) (s : State), Within ps s0 (readWords m late k n s).2 ↔ Within ps s0 s := by
  suffices H : ∀ (n k : Nat) (s : State), Within 0x204400c00000300 s (readWords m late k n s).2 from fun k s => Within.over (H n k s) hm
  clear n
  intro n
  induction n with
  | zero => exact fun k s => Within.refl _ _
  | succ j ih =>
    intro k s
    rw [readWords]
    dsimp only
    rw [Within.over (ih _ _) (Nat.and_self _)]
    split
    · dsimp only
      split <;> simp
    · simp

@[simp, simp ↓] theorem readMapFrame_within {s : State} {a n : Nat} {late : List Nat} {ps : Nat} {s0 : State} (hm : Covers 0x204400c00000300
    ps) :
    Within ps s0 (readMapFrame s a n late) ↔ Within ps s0 s := by
  refine Within.over ?_ hm
  unfold readMapFrame
  dsimp only
  split <;> simp

@[simp, simp ↓] theorem jtagWrite_within {s : State} {a : Nat} {v : Word} {ps : Nat} {s0 : State} (hm : Covers 0x140440a000000200 ps) :
    Within ps s0 (jtagWrite s a v) ↔ Within ps s0 s := by
  refine Within.over ?_ hm
  unfold jtagWrite
  repeat' split
  all_goals simp (maxDischargeDepth := 6)

@[simp, simp ↓] theorem jtagAccess_within {s : State} {op a : Nat} {v : Word} {ps : Nat} {s0 : State} (hm : Covers 0x140440a000000200 ps) :
    Within ps s0 (jtagAccess s op a v) ↔ Within ps s0 s := by
  refine Within.over ?_ hm
  unfold jtagAccess
  simp (maxDischargeDepth := 6)

@[simp, simp ↓] theorem sourcesCommit_within {ws returns : List Nat} {s : State} {ps : Nat} {s0 : State} (hm : Covers 0x4400000060200 ps) :
    Within ps s0 (sourcesCommit ws returns s) ↔ Within ps s0 s := by
  refine Within.over ?_ hm
  unfold sourcesCommit
  simp (maxDischargeDepth := 6)

@[simp, simp ↓] theorem eyesCommit_within {ws : List Nat} {s : State} {ps : Nat} {s0 : State} (hm : Covers 0x20 ps) :
    Within ps s0 (eyesCommit ws s) ↔ Within ps s0 s := by
  refine Within.over ?_ hm
  unfold eyesCommit
  simp (maxDischargeDepth := 6)

@[simp, simp ↓] theorem winsCommit_within {ws : List Nat} {s : State} {ps : Nat} {s0 : State} (hm : Covers 0x40 ps) :
    Within ps s0 (winsCommit ws s) ↔ Within ps s0 s := by
  refine Within.over ?_ hm
  unfold winsCommit
  simp (maxDischargeDepth := 6)

@[simp, simp ↓] theorem tiosCommit_within {ws : List Nat} {readOk : BitVec 16} {s : State} {ps : Nat} {s0 : State} (hm : Covers 0x100 ps) :
    Within ps s0 (tiosCommit ws readOk s) ↔ Within ps s0 s := by
  refine Within.over ?_ hm
  unfold tiosCommit
  simp (maxDischargeDepth := 6)

@[simp, simp ↓] theorem commitInForce_within {s : State} {readOk : BitVec 16} {ps : Nat} {s0 : State} (hm : Covers 0x7440009b60360 ps) :
    Within ps s0 (commitInForce s readOk) ↔ Within ps s0 s := by
  refine Within.over ?_ hm
  unfold commitInForce
  split <;> simp (maxDischargeDepth := 6)

@[simp, simp ↓] theorem firstTick_within {s : State} {ps : Nat} {s0 : State} (hm : Covers 0x44000c0144200 ps) :
    Within ps s0 (firstTick s) ↔ Within ps s0 s := by
  refine Within.over ?_ hm
  unfold firstTick
  simp (maxDischargeDepth := 6)

@[simp, simp ↓] theorem latchEvents_within {s : State} {late : Bool} {ps : Nat} {s0 : State} (hm : Covers 0xc00000000000 ps) :
    Within ps s0 (latchEvents s late) ↔ Within ps s0 s := by
  refine Within.over ?_ hm
  unfold latchEvents
  simp (maxDischargeDepth := 6)

@[simp, simp ↓] theorem sampleLatch_within {s : State} {smp : TickSample} {ps : Nat} {s0 : State} (hm : Covers 0x74000c0860200 ps) :
    Within ps s0 (sampleLatch s smp) ↔ Within ps s0 s := by
  refine Within.over ?_ hm
  unfold sampleLatch
  simp (maxDischargeDepth := 6)

@[simp, simp ↓] theorem tickBoundary_within {s : State} {smp : TickSample} {ps : Nat} {s0 : State} (hm : Covers 0xfc400c9b6437a ps) :
    Within ps s0 (tickBoundary s smp) ↔ Within ps s0 s := by
  refine Within.over ?_ hm
  unfold tickBoundary
  simp (maxDischargeDepth := 6)

@[simp, simp ↓] theorem beginPhase_within {s : State} {ph : Phase} {pct : Nat} {used : List (Nat × Nat)} {ps : Nat} {s0 : State} (hm :
    Covers 0x740004004021a ps) :
    Within ps s0 (beginPhase s ph pct used) ↔ Within ps s0 s := by
  refine Within.over ?_ hm
  unfold beginPhase
  simp (maxDischargeDepth := 6)

@[simp, simp ↓] theorem deriveTimeOpers_within {s : State} {ps : Nat} {s0 : State} (hm : Covers 0x4004400000000200 ps) :
    Within ps s0 (deriveTimeOpers s) ↔ Within ps s0 s := by
  refine Within.over ?_ hm
  unfold deriveTimeOpers
  simp (maxDischargeDepth := 6)

@[simp, simp ↓] theorem whole_within {room : Option Nat} {f : State → State} {s : State} {ps : Nat} {s0 : State} (hf : Within ps s (f s)) :
    Within ps s0 (whole room f s) ↔ Within ps s0 s := by
  refine Within.over (m := ps) ?_ (Nat.and_self _)
  unfold whole
  split
  · exact hf
  · exact .refl _ _

@[simp, simp ↓] theorem evaluateJob_within {j : Nat} {room : Option Nat} {s : State} {ps : Nat} {s0 : State} (hm : Covers 0x400fc40c1dbf823a
    ps) :
    Within ps s0 (evaluateJob j room s) ↔ Within ps s0 s := by
  refine Within.over ?_ hm
  unfold evaluateJob
  split <;> simp (maxDischargeDepth := 6)

@[simp, simp ↓] theorem slotJob_within {s : State} {overrun : Bool} {ps : Nat} {s0 : State} (hm : Covers 0x44003c0000210 ps) :
    Within ps s0 (slotJob s overrun) ↔ Within ps s0 s := by
  refine Within.over ?_ hm
  unfold slotJob
  simp (maxDischargeDepth := 6)

@[simp, simp ↓] theorem evaluatePhase_within {s : State} {rep : PhaseReport} {ps : Nat} {s0 : State} (hm : Covers 0x400fc40fddbf823a ps) :
    Within ps s0 (evaluatePhase s rep) ↔ Within ps s0 s := by
  refine Within.over ?_ hm
  unfold evaluatePhase
  simp (maxDischargeDepth := 6)

@[simp, simp ↓] theorem dispatchJob_within {j : Nat} {room : Option Nat} {s : State} {ps : Nat} {s0 : State} (hm : Covers 0x2804c402dba40274
    ps) :
    Within ps s0 (dispatchJob j room s) ↔ Within ps s0 s := by
  refine Within.over ?_ hm
  unfold dispatchJob
  split <;> simp (maxDischargeDepth := 6)

@[simp, simp ↓] theorem dispatchPhase_within {s : State} {rep : PhaseReport} {ps : Nat} {s0 : State} (hm : Covers 0x2807c402dba4027e ps) :
    Within ps s0 (dispatchPhase s rep) ↔ Within ps s0 s := by
  refine Within.over ?_ hm
  unfold dispatchPhase
  simp (maxDischargeDepth := 6)

@[simp, simp ↓] theorem guardPhase_within {s : State} {ps : Nat} {s0 : State} (hm : Covers 0xf40004004021a ps) :
    Within ps s0 (guardPhase s) ↔ Within ps s0 s := by
  refine Within.over ?_ hm
  unfold guardPhase
  simp (maxDischargeDepth := 6)

@[simp, simp ↓] theorem periodChange_within {s : State} {ps : Nat} {s0 : State} (hm : Covers 0x4440000000208 ps) :
    Within ps s0 (periodChange s) ↔ Within ps s0 s := by
  refine Within.over ?_ hm
  unfold periodChange
  simp (maxDischargeDepth := 6)

@[simp, simp ↓] theorem secondsSet_within {s : State} {ps : Nat} {s0 : State} (hm : Covers 0x804440014a4021a ps) :
    Within ps s0 (secondsSet s) ↔ Within ps s0 s := by
  refine Within.over ?_ hm
  unfold secondsSet
  simp (maxDischargeDepth := 6)

@[simp, simp ↓] theorem wholeSecond_within {s : State} {ps : Nat} {s0 : State} (hm : Covers 0x80744005cb4021a ps) :
    Within ps s0 (wholeSecond s) ↔ Within ps s0 s := by
  refine Within.over ?_ hm
  unfold wholeSecond
  simp (maxDischargeDepth := 6)

end Sys2Proof.Machine
end

