-- ==== Sys2Proof/Laws/PerInstr.lean ====
section
/-! SUPPORT. Per command: the queue of waiting commands is none of the parts it may change (`touches`). -/

namespace Sys2Proof.Laws.Parts

open Sys2Proof.Machine

/-- The queue of waiting commands is none of the parts a command may change. -/
def Statement (c : Instr) : Prop := Part.pending ∉ touches c

theorem holds {c : Instr} (h : decide (Part.pending ∉ touches c) = true) : Statement c := by
  unfold Statement
  exact of_decide_eq_true h

theorem powerOnReset : Statement .powerOnReset := holds rfl
theorem porRelease (straps : BitVec 4) : Statement (.porRelease straps) := holds rfl
theorem bor33 : Statement .bor33 := holds rfl
theorem bor09 : Statement .bor09 := holds rfl
theorem brownOutRecovery (vdd33Up vdd09Up : Bool) (straps : BitVec 4) : Statement (.brownOutRecovery vdd33Up vdd09Up straps) := holds rfl
theorem rstNAssert : Statement .rstNAssert := holds rfl
theorem rstNRelease (heldMs : Nat) (straps : BitVec 4) : Statement (.rstNRelease heldMs straps) := holds rfl
theorem bypOut0StrapChange (level : Bool) : Statement (.bypOut0StrapChange level) := holds rfl
theorem tapReset : Statement .tapReset := holds rfl
theorem bootXoTimeout : Statement .bootXoTimeout := holds rfl
theorem bootEnd : Statement .bootEnd := holds rfl
theorem xoValid : Statement .xoValid := holds rfl
theorem clockFault (mon : ClockMon) : Statement (.clockFault mon) := holds rfl
theorem supplyWarn (rail : Rail) : Statement (.supplyWarn rail) := holds rfl
theorem supplyOk : Statement .supplyOk := holds rfl
theorem synInvalid : Statement .synInvalid := holds rfl
theorem synValid : Statement .synValid := holds rfl
theorem vddoLow (bank : Fin 4) : Statement (.vddoLow bank) := holds rfl
theorem vddoRecover (bank : Fin 4) : Statement (.vddoRecover bank) := holds rfl
theorem vddoLevel (bank : Fin 4) : Statement (.vddoLevel bank) := holds rfl
theorem vddoLevelRecover (bank : Fin 4) : Statement (.vddoLevelRecover bank) := holds rfl
theorem pwrCtrlWrite (m : Master) (v : Word) : Statement (.pwrCtrlWrite m v) := holds rfl
theorem domainUp (d : Domain) : Statement (.domainUp d) := holds rfl
theorem domainFault (d : Domain) : Statement (.domainFault d) := holds rfl
theorem domainPowerDown : Statement .domainPowerDown := holds rfl
theorem coreOn : Statement .coreOn := holds rfl
theorem pwrPendClear (m : Master) (v : Word) : Statement (.pwrPendClear m v) := holds rfl
theorem resetCauseClear (m : Master) (v : Word) : Statement (.resetCauseClear m v) := holds rfl
theorem start (m : Master) : Statement (.start m) := holds rfl
theorem setup (m : Master) : Statement (.setup m) := holds rfl
theorem bypass (m : Master) : Statement (.bypass m) := holds rfl
theorem maint (m : Master) : Statement (.maint m) := holds rfl
theorem softReset (m : Master) : Statement (.softReset m) := holds rfl
theorem softResetHoldEnd : Statement .softResetHoldEnd := holds rfl
theorem shutdown (m : Master) : Statement (.shutdown m) := holds rfl
theorem shutdownComplete : Statement .shutdownComplete := holds rfl
theorem opmodeChange : Statement .opmodeChange := holds rfl
theorem tickBoundary (smp : TickSample) : Statement (.tickBoundary smp) := holds rfl
theorem evaluatePhase (rep : PhaseReport) : Statement (.evaluatePhase rep) := holds rfl
theorem dispatchPhase (rep : PhaseReport) : Statement (.dispatchPhase rep) := holds rfl
theorem guardPhase : Statement .guardPhase := holds rfl
theorem wholeSecond : Statement .wholeSecond := holds rfl
theorem hwmClr (m : Master) : Statement (.hwmClr m) := holds rfl
theorem tioEdge (pin : Fin 16) (rising : Bool) (sub : Fin 160) : Statement (.tioEdge pin rising sub) := holds rfl
theorem tsHeadRead (m : Master) (pin : Fin 16) : Statement (.tsHeadRead m pin) := holds rfl
theorem arm (m : Master) (n : Fin 32) : Statement (.arm m n) := holds rfl
theorem cancel (m : Master) (n : Fin 32) : Statement (.cancel m n) := holds rfl
theorem eyeletFire (n : Fin 32) (readOk : Bool) : Statement (.eyeletFire n readOk) := holds rfl
theorem tioPulseEnd (pin : Fin 16) (readOk : Bool) : Statement (.tioPulseEnd pin readOk) := holds rfl
theorem windowEdgeFire (w : Fin 8) (readOk : Bool) : Statement (.windowEdgeFire w readOk) := holds rfl
theorem freqGateComplete (s : Fin 12) (edges span : Nat) : Statement (.freqGateComplete s edges span) := holds rfl
theorem actAlarm (s : Fin 12) (edges : Nat) : Statement (.actAlarm s edges) := holds rfl
theorem actAlarmClear (s : Fin 12) : Statement (.actAlarmClear s) := holds rfl
theorem phaseHit (s : Fin 12) (span gap edges : Nat) : Statement (.phaseHit s span gap edges) := holds rfl
theorem holdoffElapsed (s : Fin 12) : Statement (.holdoffElapsed s) := holds rfl
theorem wtrDone (d : Fin 4) (s : Fin 12) : Statement (.wtrDone d s) := holds rfl
theorem qlTimeout (s : Fin 12) : Statement (.qlTimeout s) := holds rfl
theorem wmPayloadReceived (s : Fin 8) (payload : BitVec 48) (shapeOk onTime : Bool) (age : Nat) : Statement (.wmPayloadReceived s payload shapeOk onTime age) := holds rfl
theorem dpllLock (d : Fin 4) : Statement (.dpllLock d) := holds rfl
theorem dpllUnlock (d : Fin 4) : Statement (.dpllUnlock d) := holds rfl
theorem fastLockStage (d : Fin 4) : Statement (.fastLockStage d) := holds rfl
theorem acqTimeout (d : Fin 4) : Statement (.acqTimeout d) := holds rfl
theorem fbLost (d : Fin 4) : Statement (.fbLost d) := holds rfl
theorem fbFrozen (d : Fin 4) : Statement (.fbFrozen d) := holds rfl
theorem fbOk (d : Fin 4) : Statement (.fbOk d) := holds rfl
theorem hostFreqWrite (m : Master) (d : Fin 4) (v : BitVec 48) : Statement (.hostFreqWrite m d v) := holds rfl
theorem hostWdog (d : Fin 4) : Statement (.hostWdog d) := holds rfl
theorem step (m : Master) (d : Fin 4) (v : BitVec 48) : Statement (.step m d v) := holds rfl
theorem halt (m : Master) (d : Fin 4) : Statement (.halt m d) := holds rfl
theorem ticknumAdopt : Statement .ticknumAdopt := holds rfl
theorem tsenseMeasure (ts die : Int) (settled : Bool) : Statement (.tsenseMeasure ts die settled) := holds rfl
theorem tsenseJudge : Statement .tsenseJudge := holds rfl
theorem learningMinute : Statement .learningMinute := holds rfl
theorem modelSaveDue : Statement .modelSaveDue := holds rfl
theorem modelSaveRetry : Statement .modelSaveRetry := holds rfl
theorem xoCfgWrite (m : Master) (off : Fin 3) (v : Word) : Statement (.xoCfgWrite m off v) := holds rfl
theorem research (m : Master) (n : Fin 2) : Statement (.research m n) := holds rfl
theorem resync (m : Master) (n : Fin 2) : Statement (.resync m n) := holds rfl
theorem bandDone (n : Fin 2) (code : Fin 128) (vtune : Fin 64) : Statement (.bandDone n code vtune) := holds rfl
theorem bandFail (n : Fin 2) : Statement (.bandFail n) := holds rfl
theorem alignDone (n : Fin 2) (off : Int) : Statement (.alignDone n off) := holds rfl
theorem startEpoch (u : EpochUnit) : Statement (.startEpoch u) := holds rfl
theorem apllUnlock (n : Fin 2) : Statement (.apllUnlock n) := holds rfl
theorem apllResearchDelay (n : Fin 2) : Statement (.apllResearchDelay n) := holds rfl
theorem spllUnlock : Statement .spllUnlock := holds rfl
theorem dividerEpoch (u : EpochUnit) : Statement (.dividerEpoch u) := holds rfl
theorem cellSlot : Statement .cellSlot := holds rfl
theorem cellLock (p : Fin 4) : Statement (.cellLock p) := holds rfl
theorem cellLockLost (p : Fin 4) (cdr : Bool) : Statement (.cellLockLost p cdr) := holds rfl
theorem timeCell (p : Fin 4) (c : Cell) (sub : Fin 800) : Statement (.timeCell p c sub) := holds rfl
theorem secondsAdopt : Statement .secondsAdopt := holds rfl
theorem qlCell (p : Fin 4) (c : Cell) : Statement (.qlCell p c) := holds rfl
theorem stateCell (p : Fin 4) (c : Cell) : Statement (.stateCell p c) := holds rfl
theorem safeCell (p : Fin 4) (c : Cell) : Statement (.safeCell p c) := holds rfl
theorem eyeCell (p : Fin 4) (c : Cell) : Statement (.eyeCell p c) := holds rfl
theorem propose (p : Fin 4) (c : Cell) : Statement (.propose p c) := holds rfl
theorem go (p : Fin 4) (c : Cell) : Statement (.go p c) := holds rfl
theorem abortDc (p : Fin 4) (c : Cell) : Statement (.abortDc p c) := holds rfl
theorem ready (p : Fin 4) (c : Cell) : Statement (.ready p c) := holds rfl
theorem refused (p : Fin 4) (c : Cell) : Statement (.refused p c) := holds rfl
theorem applied (p : Fin 4) (c : Cell) : Statement (.applied p c) := holds rfl
theorem notApplied (p : Fin 4) (c : Cell) : Statement (.notApplied p c) := holds rfl
theorem dcDeadline : Statement .dcDeadline := holds rfl
theorem dcParticipantResolve : Statement .dcParticipantResolve := holds rfl
theorem dcSplitCheck : Statement .dcSplitCheck := holds rfl
theorem portWindowExpire (p : Fin 4) : Statement (.portWindowExpire p) := holds rfl
theorem peerReportTimeout (p : Fin 4) : Statement (.peerReportTimeout p) := holds rfl
theorem portCauseExpire (p : Fin 4) : Statement (.portCauseExpire p) := holds rfl
theorem cntClr (m : Master) (p : Fin 4) : Statement (.cntClr m p) := holds rfl
theorem channelHEvaluation (smp : HSample) : Statement (.channelHEvaluation smp) := holds rfl
theorem xchkTimeout (c : Chan) : Statement (.xchkTimeout c) := holds rfl
theorem xchkDisagree (c : Chan) (groups : BitVec 4) : Statement (.xchkDisagree c groups) := holds rfl
theorem safetyInputChange (line : Fin 16) (level : Bool) (who : Who) (heldUs : Nat) : Statement (.safetyInputChange line level who heldUs) := holds rfl
theorem testPulse (line : TpLine) (p h : PulseSight) : Statement (.testPulse line p h) := holds rfl
theorem discrepancy (i : Fin 8) (c : Chan) : Statement (.discrepancy i c) := holds rfl
theorem srstPulse (lenP lenH highUs : Nat) : Statement (.srstPulse lenP lenH highUs) := holds rfl
theorem selftestDone (passP passH stoOk : Bool) : Statement (.selftestDone passP passH stoOk) := holds rfl
theorem srstStuck (who : Who) : Statement (.srstStuck who) := holds rfl
theorem encFault (e : Fin 4) (c : Chan) (z : Option Int) : Statement (.encFault e c z) := holds rfl
theorem encDisagree (axis : Fin 2) (c : Chan) : Statement (.encDisagree axis c) := holds rfl
theorem ss1Tmax (g : Fin 4) (c : Chan) : Statement (.ss1Tmax g c) := holds rfl
theorem ss1Done (g : Fin 4) (c : Chan) : Statement (.ss1Done g c) := holds rfl
theorem ss1tDone (g : Fin 4) (c : Chan) : Statement (.ss1tDone g c) := holds rfl
theorem stoReadback (g : Fin 4) (lineB : Bool) (c : Chan) (sight : StoSight) : Statement (.stoReadback g lineB c sight) := holds rfl
theorem edmWindowExpire (g : Fin 4) (c : Chan) : Statement (.edmWindowExpire g c) := holds rfl
theorem telCompareWindow (r : Fin 8) : Statement (.telCompareWindow r) := holds rfl
theorem telPathLost (r : Fin 8) (net : Fin 2) : Statement (.telPathLost r net) := holds rfl
theorem degExpired (g : Fin 4) : Statement (.degExpired g) := holds rfl
theorem hbAccessTimeout (a : Access) : Statement (.hbAccessTimeout a) := holds rfl
theorem hbStrobeConflict : Statement .hbStrobeConflict := holds rfl
theorem writeReg (addr : BitVec 24) (ws : List Word) : Statement (.writeReg addr ws) := holds rfl
theorem readReg (addr : BitVec 24) (n : Nat) (late : List Nat) : Statement (.readReg addr n late) := holds rfl
theorem writeMap (addr : BitVec 24) (ws : List Word) : Statement (.writeMap addr ws) := holds rfl
theorem readMap (addr : BitVec 24) (n : Nat) (late : List Nat) : Statement (.readMap addr n late) := holds rfl
theorem spiFrame : Statement .spiFrame := holds rfl
theorem winData (m : Master) (a : Access) : Statement (.winData m a) := holds rfl
theorem winDataInc (m : Master) (a : Access) : Statement (.winDataInc m a) := holds rfl
theorem rolGroupOpen (m : Master) (t : Target) : Statement (.rolGroupOpen m t) := holds rfl
theorem stale (m : Master) (t : Target) : Statement (.stale m t) := holds rfl
theorem holdingWrite (m : Master) (t : Target) (v : Word) : Statement (.holdingWrite m t v) := holds rfl
theorem stagedWrite (m : Master) (a : Fin 16777216) (v : Word) : Statement (.stagedWrite m a v) := holds rfl
theorem registerWrite (m : Master) (t : Target) (v : Word) (rival : Option (Target × Word)) : Statement (.registerWrite m t v rival) := holds rfl
theorem conflictClr (m : Master) : Statement (.conflictClr m) := holds rfl
theorem begin (m : Master) : Statement (.begin m) := holds rfl
theorem commitNext (m : Master) : Statement (.commitNext m) := holds rfl
theorem commitAtTick (m : Master) : Statement (.commitAtTick m) := holds rfl
theorem commitAtTime (m : Master) : Statement (.commitAtTime m) := holds rfl
theorem commitDist (m : Master) : Statement (.commitDist m) := holds rfl
theorem armDc (m : Master) : Statement (.armDc m) := holds rfl
theorem disarm (m : Master) : Statement (.disarm m) := holds rfl
theorem rollback (m : Master) : Statement (.rollback m) := holds rfl
theorem keepalive (m : Master) : Statement (.keepalive m) := holds rfl
theorem txnTimeout : Statement .txnTimeout := holds rfl
theorem profileSave (m : Master) : Statement (.profileSave m) := holds rfl
theorem profileLoad (m : Master) : Statement (.profileLoad m) := holds rfl
theorem modelSave (m : Master) : Statement (.modelSave m) := holds rfl
theorem modelClear (m : Master) : Statement (.modelClear m) := holds rfl
theorem safeConfirm (m : Master) : Statement (.safeConfirm m) := holds rfl
theorem selftest (m : Master) : Statement (.selftest m) := holds rfl
theorem snapExport (m : Master) : Statement (.snapExport m) := holds rfl
theorem logClear (m : Master) : Statement (.logClear m) := holds rfl
theorem authChallenge (m : Master) : Statement (.authChallenge m) := holds rfl
theorem authResponse (m : Master) : Statement (.authResponse m) := holds rfl
theorem otpKeyWrite (m : Master) : Statement (.otpKeyWrite m) := holds rfl
theorem otpDbgPolicy (m : Master) : Statement (.otpDbgPolicy m) := holds rfl
theorem otpProfileLock (m : Master) : Statement (.otpProfileLock m) := holds rfl
theorem abort (m : Master) : Statement (.abort m) := holds rfl
theorem opStart (vddOk : Bool) : Statement (.opStart vddOk) := holds rfl
theorem opDone (rep : OpReport) : Statement (.opDone rep) := holds rfl
theorem challengeExpire : Statement .challengeExpire := holds rfl
theorem authDelayExpire : Statement .authDelayExpire := holds rfl
theorem evtStatusWrite (m : Master) (hi : Bool) (v : Word) : Statement (.evtStatusWrite m hi v) := holds rfl
theorem clear (m : Master) (c : Fin 16) : Statement (.clear m c) := holds rfl
theorem cntCmdClear (m : Master) (mask : Word) : Statement (.cntCmdClear m mask) := holds rfl
theorem logRecordProgram (vddOk : Bool) : Statement (.logRecordProgram vddOk) := holds rfl
theorem req (m : Master) : Statement (.req m) := holds rfl
theorem release (m : Master) : Statement (.release m) := holds rfl
theorem endSession (m : Master) : Statement (.endSession m) := holds rfl
theorem dbgSet (m : Master) (level : BitVec 2) : Statement (.dbgSet m level) := holds rfl
theorem bufClear (m : Master) : Statement (.bufClear m) := holds rfl
theorem secData (m : Master) (a : Access) : Statement (.secData m a) := holds rfl
theorem sessionIdle : Statement .sessionIdle := holds rfl
theorem extest (cells : Nat) : Statement (.extest cells) := holds rfl
theorem samplePreload (cells : Nat) : Statement (.samplePreload cells) := holds rfl
theorem idcode : Statement .idcode := holds rfl
theorem bypassInstruction : Statement .bypassInstruction := holds rfl
theorem mapAccess (op : BitVec 2) (addr : BitVec 24) (v : Word) : Statement (.mapAccess op addr v) := holds rfl
theorem haltP : Statement .haltP := holds rfl
theorem resumeP : Statement .resumeP := holds rfl
theorem wmMarkMissing (s : Fin 8) : Statement (.wmMarkMissing s) := holds rfl
theorem cellCrcError (p : Fin 4) (codeErrs : Fin 33) : Statement (.cellCrcError p codeErrs) := holds rfl
theorem pageProgramEnd : Statement .pageProgramEnd := holds rfl
theorem hwCounterOverflow (c : Fin 16) : Statement (.hwCounterOverflow c) := holds rfl
theorem tickMismatchExpire (net : Fin 2) : Statement (.tickMismatchExpire net) := holds rfl

end Sys2Proof.Laws.Parts
end

