-- ==== Sys2Proof/Laws/Reports.lean ====
section
/-! SUPPORT. What the operations that every family shares can do: raising an event, the fault log, the echo of a command, an access, a
count. Later proofs cite these in place of unfolding the operations. -/

namespace Sys2Proof.Machine

/-! ## The fault log and events -/

/-- A record enters the buffer as it is, or is counted as lost (R137, R594). -/
theorem logPush_cases (s : State) (r : LogRec) :
    ((logPush s r).log.buf = s.log.buf ++ [r] ∧ s.log.buf.length < 16 ∧ (logPush s r).log.lost = s.log.lost) ∨
    ((logPush s r).log.buf = s.log.buf ∧ (logPush s r).log.lost = stick 16 s.log.lost) := by
  unfold logPush
  split
  · rename_i h
    exact .inl ⟨rfl, h.1, rfl⟩
  · dsimp only
    split <;> exact .inr ⟨rfl, rfl⟩

/-- The buffer of the fault log keeps its length (R137). -/
theorem logPush_length (s : State) (r : LogRec) (h : s.log.buf.length ≤ 16) : (logPush s r).log.buf.length ≤ 16 := by
  obtain ⟨e, hl, -⟩ | ⟨e, -⟩ := logPush_cases s r
  · rw [e, List.length_append, List.length_singleton]
    omega
  · rw [e]
    exact h

/-- Logging takes no event back. -/
theorem logPush_raised (s : State) (r : LogRec) {e : Nat} (h : s.evt.raised.getLsbD e = true) : (logPush s r).evt.raised.getLsbD e = true := by
  unfold logPush
  split
  · exact h
  · dsimp only
    split
    · simp [h]
    · exact h

theorem logRaise_raised (s : State) (n origin unit cause : Nat) {e : Nat} (h : s.evt.raised.getLsbD e = true) :
    (logRaise s n origin unit cause).evt.raised.getLsbD e = true := by
  unfold logRaise
  split
  · dsimp only
    split
    · exact h
    · exact logPush_raised _ _ h
  · exact h

/-- While CORE is ON an event that is raised is among those the next SAMPLE latches (R574). -/
theorem raiseAt_raises {s : State} (n unit cause : Nat) (h : s.coreOn = true) (hn : n < 256) :
    (raiseAt s n unit cause).evt.raised.getLsbD n = true := by
  unfold raiseAt
  rw [if_pos h]
  exact logRaise_raised _ _ _ _ _ (by simp [hn])

/-- Raising an event takes none back. -/
theorem raiseAt_raised (s : State) (n unit cause : Nat) {e : Nat} (h : s.evt.raised.getLsbD e = true) :
    (raiseAt s n unit cause).evt.raised.getLsbD e = true := by
  unfold raiseAt
  split
  · exact logRaise_raised _ _ _ _ _ (by simp [h])
  · split
    · exact logRaise_raised _ _ _ _ _ h
    · split
      · exact logRaise_raised _ _ _ _ _ h
      · exact h

@[simp] theorem raiseIf_true (s : State) (e unit cause : Nat) : raiseIf true s e unit cause = raiseAt s e unit cause := rfl
@[simp] theorem raiseIf_false (s : State) (e unit cause : Nat) : raiseIf false s e unit cause = s := rfl

/-! ## Echoes and accesses -/

/-- The newest echo is that of the command just answered (R602, R603). -/
theorem echo_head (s : State) (m : Master) (addr value : Nat) (args : List Nat) (result : Nat) :
    (echo s m addr value args result).echoes.head? =
      some { addr := addr, value := value, args := args, master := m, result := result, tick := s.echoTick, seq := s.echoSeq } := rfl

@[simp] theorem echo_echoSeq (s : State) (m : Master) (addr value : Nat) (args : List Nat) (result : Nat) :
    (echo s m addr value args result).echoSeq = (s.echoSeq + 1) % 65536 := rfl

/-- An access sets the idle time of its master's own session back, and does nothing else (R622). -/
theorem access_cases (s : State) (m : Master) :
    (s.sec.session = some m ∧ access s m = { s with sec := { s.sec with lastAccess := s.safe.p.clk } }) ∨
    (s.sec.session ≠ some m ∧ access s m = s) := by
  unfold access
  split
  · exact .inl ⟨‹_›, rfl⟩
  · exact .inr ⟨‹_›, rfl⟩

/-! ## Counters -/

/-- A counter stays within its 48 bits (R600). -/
theorem Counter.add_lt (wrap : Bool) (n : Nat) {c : Counter} (h : c.value < 2 ^ 48) : (c.add wrap n).1.value < 2 ^ 48 := by
  unfold Counter.add
  split
  · exact h
  · split
    · assumption
    · split
      · exact Nat.mod_lt _ (by decide)
      · exact Nat.sub_lt (by decide) (by decide)

/-- Nothing is counted while CORE is off, and a count of nothing changes nothing (R598). -/
theorem countSrc_idle {s : State} (code n : Nat) (h : n = 0 ∨ s.coreOn = false) : countSrc code n s = s := by
  unfold countSrc
  rw [if_pos h]

/-! ## The step -/

/-- With nothing waiting the step lets one clock cycle pass (log 26). -/
theorem step_idle {s : State} (h : s.pending = []) : step s = .next (idleCycle s) := by
  unfold step
  rw [h]

end Sys2Proof.Machine
end

