-- ==== Sys2Proof/Laws/State.lean ====
section
/-! SUPPORT. What each update of the state leaves: one rule per field of State and update, each true by rfl, gathered by update. -/

namespace Sys2Proof.Machine

@[simp] theorem State.onTime_fields (s : State) (f : TimeUnit → TimeUnit) :
    (s.onTime f).time = f s.time ∧ (s.onTime f).eyes = s.eyes ∧ (s.onTime f).wins = s.wins ∧ (s.onTime f).gates = s.gates ∧
    (s.onTime f).tios = s.tios ∧ (s.onTime f).pwr = s.pwr ∧ (s.onTime f).mode = s.mode ∧ (s.onTime f).srcs = s.srcs ∧
    (s.onTime f).dplls = s.dplls ∧ (s.onTime f).hos = s.hos ∧ (s.onTime f).model = s.model ∧ (s.onTime f).aplls = s.aplls ∧
    (s.onTime f).spll = s.spll ∧ (s.onTime f).outs = s.outs ∧ (s.onTime f).fods = s.fods ∧ (s.onTime f).lockPin = s.lockPin ∧
    (s.onTime f).lastJump = s.lastJump ∧ (s.onTime f).ports = s.ports ∧ (s.onTime f).lace = s.lace ∧ (s.onTime f).safe = s.safe ∧
    (s.onTime f).hb = s.hb ∧ (s.onTime f).mp = s.mp ∧ (s.onTime f).prioMp = s.prioMp ∧ (s.onTime f).conflicts = s.conflicts ∧
    (s.onTime f).wrote = s.wrote ∧ (s.onTime f).conflictCnt = s.conflictCnt ∧ (s.onTime f).echoes = s.echoes ∧
    (s.onTime f).echoSeq = s.echoSeq ∧ (s.onTime f).txn = s.txn ∧ (s.onTime f).opq = s.opq ∧ (s.onTime f).oph = s.oph ∧
    (s.onTime f).ticket = s.ticket ∧ (s.onTime f).evt = s.evt ∧ (s.onTime f).cnts = s.cnts ∧ (s.onTime f).cntCyc = s.cntCyc ∧
    (s.onTime f).log = s.log ∧ (s.onTime f).snap = s.snap ∧ (s.onTime f).nvm = s.nvm ∧ (s.onTime f).otp = s.otp ∧
    (s.onTime f).sec = s.sec ∧ (s.onTime f).tap = s.tap ∧ (s.onTime f).cfg = s.cfg ∧ (s.onTime f).opers = s.opers ∧
    (s.onTime f).undo = s.undo ∧ (s.onTime f).draws = s.draws ∧ (s.onTime f).pending = s.pending :=
  by and_intros <;> rfl

@[simp] theorem State.onPwr_fields (s : State) (f : PowerUnit → PowerUnit) :
    (s.onPwr f).time = s.time ∧ (s.onPwr f).eyes = s.eyes ∧ (s.onPwr f).wins = s.wins ∧ (s.onPwr f).gates = s.gates ∧
    (s.onPwr f).tios = s.tios ∧ (s.onPwr f).pwr = f s.pwr ∧ (s.onPwr f).mode = s.mode ∧ (s.onPwr f).srcs = s.srcs ∧
    (s.onPwr f).dplls = s.dplls ∧ (s.onPwr f).hos = s.hos ∧ (s.onPwr f).model = s.model ∧ (s.onPwr f).aplls = s.aplls ∧
    (s.onPwr f).spll = s.spll ∧ (s.onPwr f).outs = s.outs ∧ (s.onPwr f).fods = s.fods ∧ (s.onPwr f).lockPin = s.lockPin ∧
    (s.onPwr f).lastJump = s.lastJump ∧ (s.onPwr f).ports = s.ports ∧ (s.onPwr f).lace = s.lace ∧ (s.onPwr f).safe = s.safe ∧
    (s.onPwr f).hb = s.hb ∧ (s.onPwr f).mp = s.mp ∧ (s.onPwr f).prioMp = s.prioMp ∧ (s.onPwr f).conflicts = s.conflicts ∧
    (s.onPwr f).wrote = s.wrote ∧ (s.onPwr f).conflictCnt = s.conflictCnt ∧ (s.onPwr f).echoes = s.echoes ∧
    (s.onPwr f).echoSeq = s.echoSeq ∧ (s.onPwr f).txn = s.txn ∧ (s.onPwr f).opq = s.opq ∧ (s.onPwr f).oph = s.oph ∧
    (s.onPwr f).ticket = s.ticket ∧ (s.onPwr f).evt = s.evt ∧ (s.onPwr f).cnts = s.cnts ∧ (s.onPwr f).cntCyc = s.cntCyc ∧
    (s.onPwr f).log = s.log ∧ (s.onPwr f).snap = s.snap ∧ (s.onPwr f).nvm = s.nvm ∧ (s.onPwr f).otp = s.otp ∧
    (s.onPwr f).sec = s.sec ∧ (s.onPwr f).tap = s.tap ∧ (s.onPwr f).cfg = s.cfg ∧ (s.onPwr f).opers = s.opers ∧
    (s.onPwr f).undo = s.undo ∧ (s.onPwr f).draws = s.draws ∧ (s.onPwr f).pending = s.pending :=
  by and_intros <;> rfl

@[simp] theorem State.onMode_fields (s : State) (f : ModeUnit → ModeUnit) :
    (s.onMode f).time = s.time ∧ (s.onMode f).eyes = s.eyes ∧ (s.onMode f).wins = s.wins ∧ (s.onMode f).gates = s.gates ∧
    (s.onMode f).tios = s.tios ∧ (s.onMode f).pwr = s.pwr ∧ (s.onMode f).mode = f s.mode ∧ (s.onMode f).srcs = s.srcs ∧
    (s.onMode f).dplls = s.dplls ∧ (s.onMode f).hos = s.hos ∧ (s.onMode f).model = s.model ∧ (s.onMode f).aplls = s.aplls ∧
    (s.onMode f).spll = s.spll ∧ (s.onMode f).outs = s.outs ∧ (s.onMode f).fods = s.fods ∧ (s.onMode f).lockPin = s.lockPin ∧
    (s.onMode f).lastJump = s.lastJump ∧ (s.onMode f).ports = s.ports ∧ (s.onMode f).lace = s.lace ∧ (s.onMode f).safe = s.safe ∧
    (s.onMode f).hb = s.hb ∧ (s.onMode f).mp = s.mp ∧ (s.onMode f).prioMp = s.prioMp ∧ (s.onMode f).conflicts = s.conflicts ∧
    (s.onMode f).wrote = s.wrote ∧ (s.onMode f).conflictCnt = s.conflictCnt ∧ (s.onMode f).echoes = s.echoes ∧
    (s.onMode f).echoSeq = s.echoSeq ∧ (s.onMode f).txn = s.txn ∧ (s.onMode f).opq = s.opq ∧ (s.onMode f).oph = s.oph ∧
    (s.onMode f).ticket = s.ticket ∧ (s.onMode f).evt = s.evt ∧ (s.onMode f).cnts = s.cnts ∧ (s.onMode f).cntCyc = s.cntCyc ∧
    (s.onMode f).log = s.log ∧ (s.onMode f).snap = s.snap ∧ (s.onMode f).nvm = s.nvm ∧ (s.onMode f).otp = s.otp ∧
    (s.onMode f).sec = s.sec ∧ (s.onMode f).tap = s.tap ∧ (s.onMode f).cfg = s.cfg ∧ (s.onMode f).opers = s.opers ∧
    (s.onMode f).undo = s.undo ∧ (s.onMode f).draws = s.draws ∧ (s.onMode f).pending = s.pending :=
  by and_intros <;> rfl

@[simp] theorem State.onEye_fields (s : State) (n : Nat) (f : Eyelet → Eyelet) :
    (s.onEye n f).time = s.time ∧ (s.onEye n f).eyes = vupd s.eyes n f ∧ (s.onEye n f).wins = s.wins ∧
    (s.onEye n f).gates = s.gates ∧ (s.onEye n f).tios = s.tios ∧ (s.onEye n f).pwr = s.pwr ∧ (s.onEye n f).mode = s.mode ∧
    (s.onEye n f).srcs = s.srcs ∧ (s.onEye n f).dplls = s.dplls ∧ (s.onEye n f).hos = s.hos ∧ (s.onEye n f).model = s.model ∧
    (s.onEye n f).aplls = s.aplls ∧ (s.onEye n f).spll = s.spll ∧ (s.onEye n f).outs = s.outs ∧ (s.onEye n f).fods = s.fods ∧
    (s.onEye n f).lockPin = s.lockPin ∧ (s.onEye n f).lastJump = s.lastJump ∧ (s.onEye n f).ports = s.ports ∧
    (s.onEye n f).lace = s.lace ∧ (s.onEye n f).safe = s.safe ∧ (s.onEye n f).hb = s.hb ∧ (s.onEye n f).mp = s.mp ∧
    (s.onEye n f).prioMp = s.prioMp ∧ (s.onEye n f).conflicts = s.conflicts ∧ (s.onEye n f).wrote = s.wrote ∧
    (s.onEye n f).conflictCnt = s.conflictCnt ∧ (s.onEye n f).echoes = s.echoes ∧ (s.onEye n f).echoSeq = s.echoSeq ∧
    (s.onEye n f).txn = s.txn ∧ (s.onEye n f).opq = s.opq ∧ (s.onEye n f).oph = s.oph ∧ (s.onEye n f).ticket = s.ticket ∧
    (s.onEye n f).evt = s.evt ∧ (s.onEye n f).cnts = s.cnts ∧ (s.onEye n f).cntCyc = s.cntCyc ∧ (s.onEye n f).log = s.log ∧
    (s.onEye n f).snap = s.snap ∧ (s.onEye n f).nvm = s.nvm ∧ (s.onEye n f).otp = s.otp ∧ (s.onEye n f).sec = s.sec ∧
    (s.onEye n f).tap = s.tap ∧ (s.onEye n f).cfg = s.cfg ∧ (s.onEye n f).opers = s.opers ∧ (s.onEye n f).undo = s.undo ∧
    (s.onEye n f).draws = s.draws ∧ (s.onEye n f).pending = s.pending :=
  by and_intros <;> rfl

@[simp] theorem State.onWin_fields (s : State) (n : Nat) (f : Window → Window) :
    (s.onWin n f).time = s.time ∧ (s.onWin n f).eyes = s.eyes ∧ (s.onWin n f).wins = vupd s.wins n f ∧
    (s.onWin n f).gates = s.gates ∧ (s.onWin n f).tios = s.tios ∧ (s.onWin n f).pwr = s.pwr ∧ (s.onWin n f).mode = s.mode ∧
    (s.onWin n f).srcs = s.srcs ∧ (s.onWin n f).dplls = s.dplls ∧ (s.onWin n f).hos = s.hos ∧ (s.onWin n f).model = s.model ∧
    (s.onWin n f).aplls = s.aplls ∧ (s.onWin n f).spll = s.spll ∧ (s.onWin n f).outs = s.outs ∧ (s.onWin n f).fods = s.fods ∧
    (s.onWin n f).lockPin = s.lockPin ∧ (s.onWin n f).lastJump = s.lastJump ∧ (s.onWin n f).ports = s.ports ∧
    (s.onWin n f).lace = s.lace ∧ (s.onWin n f).safe = s.safe ∧ (s.onWin n f).hb = s.hb ∧ (s.onWin n f).mp = s.mp ∧
    (s.onWin n f).prioMp = s.prioMp ∧ (s.onWin n f).conflicts = s.conflicts ∧ (s.onWin n f).wrote = s.wrote ∧
    (s.onWin n f).conflictCnt = s.conflictCnt ∧ (s.onWin n f).echoes = s.echoes ∧ (s.onWin n f).echoSeq = s.echoSeq ∧
    (s.onWin n f).txn = s.txn ∧ (s.onWin n f).opq = s.opq ∧ (s.onWin n f).oph = s.oph ∧ (s.onWin n f).ticket = s.ticket ∧
    (s.onWin n f).evt = s.evt ∧ (s.onWin n f).cnts = s.cnts ∧ (s.onWin n f).cntCyc = s.cntCyc ∧ (s.onWin n f).log = s.log ∧
    (s.onWin n f).snap = s.snap ∧ (s.onWin n f).nvm = s.nvm ∧ (s.onWin n f).otp = s.otp ∧ (s.onWin n f).sec = s.sec ∧
    (s.onWin n f).tap = s.tap ∧ (s.onWin n f).cfg = s.cfg ∧ (s.onWin n f).opers = s.opers ∧ (s.onWin n f).undo = s.undo ∧
    (s.onWin n f).draws = s.draws ∧ (s.onWin n f).pending = s.pending :=
  by and_intros <;> rfl

@[simp] theorem State.onTio_fields (s : State) (n : Nat) (f : TioPin → TioPin) :
    (s.onTio n f).time = s.time ∧ (s.onTio n f).eyes = s.eyes ∧ (s.onTio n f).wins = s.wins ∧ (s.onTio n f).gates = s.gates ∧
    (s.onTio n f).tios = vupd s.tios n f ∧ (s.onTio n f).pwr = s.pwr ∧ (s.onTio n f).mode = s.mode ∧ (s.onTio n f).srcs = s.srcs ∧
    (s.onTio n f).dplls = s.dplls ∧ (s.onTio n f).hos = s.hos ∧ (s.onTio n f).model = s.model ∧ (s.onTio n f).aplls = s.aplls ∧
    (s.onTio n f).spll = s.spll ∧ (s.onTio n f).outs = s.outs ∧ (s.onTio n f).fods = s.fods ∧ (s.onTio n f).lockPin = s.lockPin ∧
    (s.onTio n f).lastJump = s.lastJump ∧ (s.onTio n f).ports = s.ports ∧ (s.onTio n f).lace = s.lace ∧
    (s.onTio n f).safe = s.safe ∧ (s.onTio n f).hb = s.hb ∧ (s.onTio n f).mp = s.mp ∧ (s.onTio n f).prioMp = s.prioMp ∧
    (s.onTio n f).conflicts = s.conflicts ∧ (s.onTio n f).wrote = s.wrote ∧ (s.onTio n f).conflictCnt = s.conflictCnt ∧
    (s.onTio n f).echoes = s.echoes ∧ (s.onTio n f).echoSeq = s.echoSeq ∧ (s.onTio n f).txn = s.txn ∧ (s.onTio n f).opq = s.opq ∧
    (s.onTio n f).oph = s.oph ∧ (s.onTio n f).ticket = s.ticket ∧ (s.onTio n f).evt = s.evt ∧ (s.onTio n f).cnts = s.cnts ∧
    (s.onTio n f).cntCyc = s.cntCyc ∧ (s.onTio n f).log = s.log ∧ (s.onTio n f).snap = s.snap ∧ (s.onTio n f).nvm = s.nvm ∧
    (s.onTio n f).otp = s.otp ∧ (s.onTio n f).sec = s.sec ∧ (s.onTio n f).tap = s.tap ∧ (s.onTio n f).cfg = s.cfg ∧
    (s.onTio n f).opers = s.opers ∧ (s.onTio n f).undo = s.undo ∧ (s.onTio n f).draws = s.draws ∧
    (s.onTio n f).pending = s.pending :=
  by and_intros <;> rfl

@[simp] theorem State.onSrc_fields (s : State) (n : Nat) (f : Source → Source) :
    (s.onSrc n f).time = s.time ∧ (s.onSrc n f).eyes = s.eyes ∧ (s.onSrc n f).wins = s.wins ∧ (s.onSrc n f).gates = s.gates ∧
    (s.onSrc n f).tios = s.tios ∧ (s.onSrc n f).pwr = s.pwr ∧ (s.onSrc n f).mode = s.mode ∧ (s.onSrc n f).srcs = vupd s.srcs n f ∧
    (s.onSrc n f).dplls = s.dplls ∧ (s.onSrc n f).hos = s.hos ∧ (s.onSrc n f).model = s.model ∧ (s.onSrc n f).aplls = s.aplls ∧
    (s.onSrc n f).spll = s.spll ∧ (s.onSrc n f).outs = s.outs ∧ (s.onSrc n f).fods = s.fods ∧ (s.onSrc n f).lockPin = s.lockPin ∧
    (s.onSrc n f).lastJump = s.lastJump ∧ (s.onSrc n f).ports = s.ports ∧ (s.onSrc n f).lace = s.lace ∧
    (s.onSrc n f).safe = s.safe ∧ (s.onSrc n f).hb = s.hb ∧ (s.onSrc n f).mp = s.mp ∧ (s.onSrc n f).prioMp = s.prioMp ∧
    (s.onSrc n f).conflicts = s.conflicts ∧ (s.onSrc n f).wrote = s.wrote ∧ (s.onSrc n f).conflictCnt = s.conflictCnt ∧
    (s.onSrc n f).echoes = s.echoes ∧ (s.onSrc n f).echoSeq = s.echoSeq ∧ (s.onSrc n f).txn = s.txn ∧ (s.onSrc n f).opq = s.opq ∧
    (s.onSrc n f).oph = s.oph ∧ (s.onSrc n f).ticket = s.ticket ∧ (s.onSrc n f).evt = s.evt ∧ (s.onSrc n f).cnts = s.cnts ∧
    (s.onSrc n f).cntCyc = s.cntCyc ∧ (s.onSrc n f).log = s.log ∧ (s.onSrc n f).snap = s.snap ∧ (s.onSrc n f).nvm = s.nvm ∧
    (s.onSrc n f).otp = s.otp ∧ (s.onSrc n f).sec = s.sec ∧ (s.onSrc n f).tap = s.tap ∧ (s.onSrc n f).cfg = s.cfg ∧
    (s.onSrc n f).opers = s.opers ∧ (s.onSrc n f).undo = s.undo ∧ (s.onSrc n f).draws = s.draws ∧
    (s.onSrc n f).pending = s.pending :=
  by and_intros <;> rfl

@[simp] theorem State.onDpll_fields (s : State) (n : Nat) (f : Dpll → Dpll) :
    (s.onDpll n f).time = s.time ∧ (s.onDpll n f).eyes = s.eyes ∧ (s.onDpll n f).wins = s.wins ∧ (s.onDpll n f).gates = s.gates ∧
    (s.onDpll n f).tios = s.tios ∧ (s.onDpll n f).pwr = s.pwr ∧ (s.onDpll n f).mode = s.mode ∧ (s.onDpll n f).srcs = s.srcs ∧
    (s.onDpll n f).dplls = vupd s.dplls n f ∧ (s.onDpll n f).hos = s.hos ∧ (s.onDpll n f).model = s.model ∧
    (s.onDpll n f).aplls = s.aplls ∧ (s.onDpll n f).spll = s.spll ∧ (s.onDpll n f).outs = s.outs ∧ (s.onDpll n f).fods = s.fods ∧
    (s.onDpll n f).lockPin = s.lockPin ∧ (s.onDpll n f).lastJump = s.lastJump ∧ (s.onDpll n f).ports = s.ports ∧
    (s.onDpll n f).lace = s.lace ∧ (s.onDpll n f).safe = s.safe ∧ (s.onDpll n f).hb = s.hb ∧ (s.onDpll n f).mp = s.mp ∧
    (s.onDpll n f).prioMp = s.prioMp ∧ (s.onDpll n f).conflicts = s.conflicts ∧ (s.onDpll n f).wrote = s.wrote ∧
    (s.onDpll n f).conflictCnt = s.conflictCnt ∧ (s.onDpll n f).echoes = s.echoes ∧ (s.onDpll n f).echoSeq = s.echoSeq ∧
    (s.onDpll n f).txn = s.txn ∧ (s.onDpll n f).opq = s.opq ∧ (s.onDpll n f).oph = s.oph ∧ (s.onDpll n f).ticket = s.ticket ∧
    (s.onDpll n f).evt = s.evt ∧ (s.onDpll n f).cnts = s.cnts ∧ (s.onDpll n f).cntCyc = s.cntCyc ∧ (s.onDpll n f).log = s.log ∧
    (s.onDpll n f).snap = s.snap ∧ (s.onDpll n f).nvm = s.nvm ∧ (s.onDpll n f).otp = s.otp ∧ (s.onDpll n f).sec = s.sec ∧
    (s.onDpll n f).tap = s.tap ∧ (s.onDpll n f).cfg = s.cfg ∧ (s.onDpll n f).opers = s.opers ∧ (s.onDpll n f).undo = s.undo ∧
    (s.onDpll n f).draws = s.draws ∧ (s.onDpll n f).pending = s.pending :=
  by and_intros <;> rfl

@[simp] theorem State.onHo_fields (s : State) (n : Nat) (f : Holdover → Holdover) :
    (s.onHo n f).time = s.time ∧ (s.onHo n f).eyes = s.eyes ∧ (s.onHo n f).wins = s.wins ∧ (s.onHo n f).gates = s.gates ∧
    (s.onHo n f).tios = s.tios ∧ (s.onHo n f).pwr = s.pwr ∧ (s.onHo n f).mode = s.mode ∧ (s.onHo n f).srcs = s.srcs ∧
    (s.onHo n f).dplls = s.dplls ∧ (s.onHo n f).hos = vupd s.hos n f ∧ (s.onHo n f).model = s.model ∧
    (s.onHo n f).aplls = s.aplls ∧ (s.onHo n f).spll = s.spll ∧ (s.onHo n f).outs = s.outs ∧ (s.onHo n f).fods = s.fods ∧
    (s.onHo n f).lockPin = s.lockPin ∧ (s.onHo n f).lastJump = s.lastJump ∧ (s.onHo n f).ports = s.ports ∧
    (s.onHo n f).lace = s.lace ∧ (s.onHo n f).safe = s.safe ∧ (s.onHo n f).hb = s.hb ∧ (s.onHo n f).mp = s.mp ∧
    (s.onHo n f).prioMp = s.prioMp ∧ (s.onHo n f).conflicts = s.conflicts ∧ (s.onHo n f).wrote = s.wrote ∧
    (s.onHo n f).conflictCnt = s.conflictCnt ∧ (s.onHo n f).echoes = s.echoes ∧ (s.onHo n f).echoSeq = s.echoSeq ∧
    (s.onHo n f).txn = s.txn ∧ (s.onHo n f).opq = s.opq ∧ (s.onHo n f).oph = s.oph ∧ (s.onHo n f).ticket = s.ticket ∧
    (s.onHo n f).evt = s.evt ∧ (s.onHo n f).cnts = s.cnts ∧ (s.onHo n f).cntCyc = s.cntCyc ∧ (s.onHo n f).log = s.log ∧
    (s.onHo n f).snap = s.snap ∧ (s.onHo n f).nvm = s.nvm ∧ (s.onHo n f).otp = s.otp ∧ (s.onHo n f).sec = s.sec ∧
    (s.onHo n f).tap = s.tap ∧ (s.onHo n f).cfg = s.cfg ∧ (s.onHo n f).opers = s.opers ∧ (s.onHo n f).undo = s.undo ∧
    (s.onHo n f).draws = s.draws ∧ (s.onHo n f).pending = s.pending :=
  by and_intros <;> rfl

@[simp] theorem State.onModel_fields (s : State) (f : Model → Model) :
    (s.onModel f).time = s.time ∧ (s.onModel f).eyes = s.eyes ∧ (s.onModel f).wins = s.wins ∧ (s.onModel f).gates = s.gates ∧
    (s.onModel f).tios = s.tios ∧ (s.onModel f).pwr = s.pwr ∧ (s.onModel f).mode = s.mode ∧ (s.onModel f).srcs = s.srcs ∧
    (s.onModel f).dplls = s.dplls ∧ (s.onModel f).hos = s.hos ∧ (s.onModel f).model = f s.model ∧ (s.onModel f).aplls = s.aplls ∧
    (s.onModel f).spll = s.spll ∧ (s.onModel f).outs = s.outs ∧ (s.onModel f).fods = s.fods ∧ (s.onModel f).lockPin = s.lockPin ∧
    (s.onModel f).lastJump = s.lastJump ∧ (s.onModel f).ports = s.ports ∧ (s.onModel f).lace = s.lace ∧
    (s.onModel f).safe = s.safe ∧ (s.onModel f).hb = s.hb ∧ (s.onModel f).mp = s.mp ∧ (s.onModel f).prioMp = s.prioMp ∧
    (s.onModel f).conflicts = s.conflicts ∧ (s.onModel f).wrote = s.wrote ∧ (s.onModel f).conflictCnt = s.conflictCnt ∧
    (s.onModel f).echoes = s.echoes ∧ (s.onModel f).echoSeq = s.echoSeq ∧ (s.onModel f).txn = s.txn ∧ (s.onModel f).opq = s.opq ∧
    (s.onModel f).oph = s.oph ∧ (s.onModel f).ticket = s.ticket ∧ (s.onModel f).evt = s.evt ∧ (s.onModel f).cnts = s.cnts ∧
    (s.onModel f).cntCyc = s.cntCyc ∧ (s.onModel f).log = s.log ∧ (s.onModel f).snap = s.snap ∧ (s.onModel f).nvm = s.nvm ∧
    (s.onModel f).otp = s.otp ∧ (s.onModel f).sec = s.sec ∧ (s.onModel f).tap = s.tap ∧ (s.onModel f).cfg = s.cfg ∧
    (s.onModel f).opers = s.opers ∧ (s.onModel f).undo = s.undo ∧ (s.onModel f).draws = s.draws ∧
    (s.onModel f).pending = s.pending :=
  by and_intros <;> rfl

@[simp] theorem State.onApll_fields (s : State) (n : Nat) (f : Apll → Apll) :
    (s.onApll n f).time = s.time ∧ (s.onApll n f).eyes = s.eyes ∧ (s.onApll n f).wins = s.wins ∧ (s.onApll n f).gates = s.gates ∧
    (s.onApll n f).tios = s.tios ∧ (s.onApll n f).pwr = s.pwr ∧ (s.onApll n f).mode = s.mode ∧ (s.onApll n f).srcs = s.srcs ∧
    (s.onApll n f).dplls = s.dplls ∧ (s.onApll n f).hos = s.hos ∧ (s.onApll n f).model = s.model ∧
    (s.onApll n f).aplls = vupd s.aplls n f ∧ (s.onApll n f).spll = s.spll ∧ (s.onApll n f).outs = s.outs ∧
    (s.onApll n f).fods = s.fods ∧ (s.onApll n f).lockPin = s.lockPin ∧ (s.onApll n f).lastJump = s.lastJump ∧
    (s.onApll n f).ports = s.ports ∧ (s.onApll n f).lace = s.lace ∧ (s.onApll n f).safe = s.safe ∧ (s.onApll n f).hb = s.hb ∧
    (s.onApll n f).mp = s.mp ∧ (s.onApll n f).prioMp = s.prioMp ∧ (s.onApll n f).conflicts = s.conflicts ∧
    (s.onApll n f).wrote = s.wrote ∧ (s.onApll n f).conflictCnt = s.conflictCnt ∧ (s.onApll n f).echoes = s.echoes ∧
    (s.onApll n f).echoSeq = s.echoSeq ∧ (s.onApll n f).txn = s.txn ∧ (s.onApll n f).opq = s.opq ∧ (s.onApll n f).oph = s.oph ∧
    (s.onApll n f).ticket = s.ticket ∧ (s.onApll n f).evt = s.evt ∧ (s.onApll n f).cnts = s.cnts ∧
    (s.onApll n f).cntCyc = s.cntCyc ∧ (s.onApll n f).log = s.log ∧ (s.onApll n f).snap = s.snap ∧ (s.onApll n f).nvm = s.nvm ∧
    (s.onApll n f).otp = s.otp ∧ (s.onApll n f).sec = s.sec ∧ (s.onApll n f).tap = s.tap ∧ (s.onApll n f).cfg = s.cfg ∧
    (s.onApll n f).opers = s.opers ∧ (s.onApll n f).undo = s.undo ∧ (s.onApll n f).draws = s.draws ∧
    (s.onApll n f).pending = s.pending :=
  by and_intros <;> rfl

@[simp] theorem State.onSpll_fields (s : State) (f : Spll → Spll) :
    (s.onSpll f).time = s.time ∧ (s.onSpll f).eyes = s.eyes ∧ (s.onSpll f).wins = s.wins ∧ (s.onSpll f).gates = s.gates ∧
    (s.onSpll f).tios = s.tios ∧ (s.onSpll f).pwr = s.pwr ∧ (s.onSpll f).mode = s.mode ∧ (s.onSpll f).srcs = s.srcs ∧
    (s.onSpll f).dplls = s.dplls ∧ (s.onSpll f).hos = s.hos ∧ (s.onSpll f).model = s.model ∧ (s.onSpll f).aplls = s.aplls ∧
    (s.onSpll f).spll = f s.spll ∧ (s.onSpll f).outs = s.outs ∧ (s.onSpll f).fods = s.fods ∧ (s.onSpll f).lockPin = s.lockPin ∧
    (s.onSpll f).lastJump = s.lastJump ∧ (s.onSpll f).ports = s.ports ∧ (s.onSpll f).lace = s.lace ∧ (s.onSpll f).safe = s.safe ∧
    (s.onSpll f).hb = s.hb ∧ (s.onSpll f).mp = s.mp ∧ (s.onSpll f).prioMp = s.prioMp ∧ (s.onSpll f).conflicts = s.conflicts ∧
    (s.onSpll f).wrote = s.wrote ∧ (s.onSpll f).conflictCnt = s.conflictCnt ∧ (s.onSpll f).echoes = s.echoes ∧
    (s.onSpll f).echoSeq = s.echoSeq ∧ (s.onSpll f).txn = s.txn ∧ (s.onSpll f).opq = s.opq ∧ (s.onSpll f).oph = s.oph ∧
    (s.onSpll f).ticket = s.ticket ∧ (s.onSpll f).evt = s.evt ∧ (s.onSpll f).cnts = s.cnts ∧ (s.onSpll f).cntCyc = s.cntCyc ∧
    (s.onSpll f).log = s.log ∧ (s.onSpll f).snap = s.snap ∧ (s.onSpll f).nvm = s.nvm ∧ (s.onSpll f).otp = s.otp ∧
    (s.onSpll f).sec = s.sec ∧ (s.onSpll f).tap = s.tap ∧ (s.onSpll f).cfg = s.cfg ∧ (s.onSpll f).opers = s.opers ∧
    (s.onSpll f).undo = s.undo ∧ (s.onSpll f).draws = s.draws ∧ (s.onSpll f).pending = s.pending :=
  by and_intros <;> rfl

@[simp] theorem State.onOut_fields (s : State) (n : Nat) (f : Output → Output) :
    (s.onOut n f).time = s.time ∧ (s.onOut n f).eyes = s.eyes ∧ (s.onOut n f).wins = s.wins ∧ (s.onOut n f).gates = s.gates ∧
    (s.onOut n f).tios = s.tios ∧ (s.onOut n f).pwr = s.pwr ∧ (s.onOut n f).mode = s.mode ∧ (s.onOut n f).srcs = s.srcs ∧
    (s.onOut n f).dplls = s.dplls ∧ (s.onOut n f).hos = s.hos ∧ (s.onOut n f).model = s.model ∧ (s.onOut n f).aplls = s.aplls ∧
    (s.onOut n f).spll = s.spll ∧ (s.onOut n f).outs = vupd s.outs n f ∧ (s.onOut n f).fods = s.fods ∧
    (s.onOut n f).lockPin = s.lockPin ∧ (s.onOut n f).lastJump = s.lastJump ∧ (s.onOut n f).ports = s.ports ∧
    (s.onOut n f).lace = s.lace ∧ (s.onOut n f).safe = s.safe ∧ (s.onOut n f).hb = s.hb ∧ (s.onOut n f).mp = s.mp ∧
    (s.onOut n f).prioMp = s.prioMp ∧ (s.onOut n f).conflicts = s.conflicts ∧ (s.onOut n f).wrote = s.wrote ∧
    (s.onOut n f).conflictCnt = s.conflictCnt ∧ (s.onOut n f).echoes = s.echoes ∧ (s.onOut n f).echoSeq = s.echoSeq ∧
    (s.onOut n f).txn = s.txn ∧ (s.onOut n f).opq = s.opq ∧ (s.onOut n f).oph = s.oph ∧ (s.onOut n f).ticket = s.ticket ∧
    (s.onOut n f).evt = s.evt ∧ (s.onOut n f).cnts = s.cnts ∧ (s.onOut n f).cntCyc = s.cntCyc ∧ (s.onOut n f).log = s.log ∧
    (s.onOut n f).snap = s.snap ∧ (s.onOut n f).nvm = s.nvm ∧ (s.onOut n f).otp = s.otp ∧ (s.onOut n f).sec = s.sec ∧
    (s.onOut n f).tap = s.tap ∧ (s.onOut n f).cfg = s.cfg ∧ (s.onOut n f).opers = s.opers ∧ (s.onOut n f).undo = s.undo ∧
    (s.onOut n f).draws = s.draws ∧ (s.onOut n f).pending = s.pending :=
  by and_intros <;> rfl

@[simp] theorem State.onFod_fields (s : State) (n : Nat) (f : Fod → Fod) :
    (s.onFod n f).time = s.time ∧ (s.onFod n f).eyes = s.eyes ∧ (s.onFod n f).wins = s.wins ∧ (s.onFod n f).gates = s.gates ∧
    (s.onFod n f).tios = s.tios ∧ (s.onFod n f).pwr = s.pwr ∧ (s.onFod n f).mode = s.mode ∧ (s.onFod n f).srcs = s.srcs ∧
    (s.onFod n f).dplls = s.dplls ∧ (s.onFod n f).hos = s.hos ∧ (s.onFod n f).model = s.model ∧ (s.onFod n f).aplls = s.aplls ∧
    (s.onFod n f).spll = s.spll ∧ (s.onFod n f).outs = s.outs ∧ (s.onFod n f).fods = vupd s.fods n f ∧
    (s.onFod n f).lockPin = s.lockPin ∧ (s.onFod n f).lastJump = s.lastJump ∧ (s.onFod n f).ports = s.ports ∧
    (s.onFod n f).lace = s.lace ∧ (s.onFod n f).safe = s.safe ∧ (s.onFod n f).hb = s.hb ∧ (s.onFod n f).mp = s.mp ∧
    (s.onFod n f).prioMp = s.prioMp ∧ (s.onFod n f).conflicts = s.conflicts ∧ (s.onFod n f).wrote = s.wrote ∧
    (s.onFod n f).conflictCnt = s.conflictCnt ∧ (s.onFod n f).echoes = s.echoes ∧ (s.onFod n f).echoSeq = s.echoSeq ∧
    (s.onFod n f).txn = s.txn ∧ (s.onFod n f).opq = s.opq ∧ (s.onFod n f).oph = s.oph ∧ (s.onFod n f).ticket = s.ticket ∧
    (s.onFod n f).evt = s.evt ∧ (s.onFod n f).cnts = s.cnts ∧ (s.onFod n f).cntCyc = s.cntCyc ∧ (s.onFod n f).log = s.log ∧
    (s.onFod n f).snap = s.snap ∧ (s.onFod n f).nvm = s.nvm ∧ (s.onFod n f).otp = s.otp ∧ (s.onFod n f).sec = s.sec ∧
    (s.onFod n f).tap = s.tap ∧ (s.onFod n f).cfg = s.cfg ∧ (s.onFod n f).opers = s.opers ∧ (s.onFod n f).undo = s.undo ∧
    (s.onFod n f).draws = s.draws ∧ (s.onFod n f).pending = s.pending :=
  by and_intros <;> rfl

@[simp] theorem State.onPort_fields (s : State) (n : Nat) (f : LacePort → LacePort) :
    (s.onPort n f).time = s.time ∧ (s.onPort n f).eyes = s.eyes ∧ (s.onPort n f).wins = s.wins ∧ (s.onPort n f).gates = s.gates ∧
    (s.onPort n f).tios = s.tios ∧ (s.onPort n f).pwr = s.pwr ∧ (s.onPort n f).mode = s.mode ∧ (s.onPort n f).srcs = s.srcs ∧
    (s.onPort n f).dplls = s.dplls ∧ (s.onPort n f).hos = s.hos ∧ (s.onPort n f).model = s.model ∧
    (s.onPort n f).aplls = s.aplls ∧ (s.onPort n f).spll = s.spll ∧ (s.onPort n f).outs = s.outs ∧ (s.onPort n f).fods = s.fods ∧
    (s.onPort n f).lockPin = s.lockPin ∧ (s.onPort n f).lastJump = s.lastJump ∧ (s.onPort n f).ports = vupd s.ports n f ∧
    (s.onPort n f).lace = s.lace ∧ (s.onPort n f).safe = s.safe ∧ (s.onPort n f).hb = s.hb ∧ (s.onPort n f).mp = s.mp ∧
    (s.onPort n f).prioMp = s.prioMp ∧ (s.onPort n f).conflicts = s.conflicts ∧ (s.onPort n f).wrote = s.wrote ∧
    (s.onPort n f).conflictCnt = s.conflictCnt ∧ (s.onPort n f).echoes = s.echoes ∧ (s.onPort n f).echoSeq = s.echoSeq ∧
    (s.onPort n f).txn = s.txn ∧ (s.onPort n f).opq = s.opq ∧ (s.onPort n f).oph = s.oph ∧ (s.onPort n f).ticket = s.ticket ∧
    (s.onPort n f).evt = s.evt ∧ (s.onPort n f).cnts = s.cnts ∧ (s.onPort n f).cntCyc = s.cntCyc ∧ (s.onPort n f).log = s.log ∧
    (s.onPort n f).snap = s.snap ∧ (s.onPort n f).nvm = s.nvm ∧ (s.onPort n f).otp = s.otp ∧ (s.onPort n f).sec = s.sec ∧
    (s.onPort n f).tap = s.tap ∧ (s.onPort n f).cfg = s.cfg ∧ (s.onPort n f).opers = s.opers ∧ (s.onPort n f).undo = s.undo ∧
    (s.onPort n f).draws = s.draws ∧ (s.onPort n f).pending = s.pending :=
  by and_intros <;> rfl

@[simp] theorem State.onLace_fields (s : State) (f : LaceDev → LaceDev) :
    (s.onLace f).time = s.time ∧ (s.onLace f).eyes = s.eyes ∧ (s.onLace f).wins = s.wins ∧ (s.onLace f).gates = s.gates ∧
    (s.onLace f).tios = s.tios ∧ (s.onLace f).pwr = s.pwr ∧ (s.onLace f).mode = s.mode ∧ (s.onLace f).srcs = s.srcs ∧
    (s.onLace f).dplls = s.dplls ∧ (s.onLace f).hos = s.hos ∧ (s.onLace f).model = s.model ∧ (s.onLace f).aplls = s.aplls ∧
    (s.onLace f).spll = s.spll ∧ (s.onLace f).outs = s.outs ∧ (s.onLace f).fods = s.fods ∧ (s.onLace f).lockPin = s.lockPin ∧
    (s.onLace f).lastJump = s.lastJump ∧ (s.onLace f).ports = s.ports ∧ (s.onLace f).lace = f s.lace ∧
    (s.onLace f).safe = s.safe ∧ (s.onLace f).hb = s.hb ∧ (s.onLace f).mp = s.mp ∧ (s.onLace f).prioMp = s.prioMp ∧
    (s.onLace f).conflicts = s.conflicts ∧ (s.onLace f).wrote = s.wrote ∧ (s.onLace f).conflictCnt = s.conflictCnt ∧
    (s.onLace f).echoes = s.echoes ∧ (s.onLace f).echoSeq = s.echoSeq ∧ (s.onLace f).txn = s.txn ∧ (s.onLace f).opq = s.opq ∧
    (s.onLace f).oph = s.oph ∧ (s.onLace f).ticket = s.ticket ∧ (s.onLace f).evt = s.evt ∧ (s.onLace f).cnts = s.cnts ∧
    (s.onLace f).cntCyc = s.cntCyc ∧ (s.onLace f).log = s.log ∧ (s.onLace f).snap = s.snap ∧ (s.onLace f).nvm = s.nvm ∧
    (s.onLace f).otp = s.otp ∧ (s.onLace f).sec = s.sec ∧ (s.onLace f).tap = s.tap ∧ (s.onLace f).cfg = s.cfg ∧
    (s.onLace f).opers = s.opers ∧ (s.onLace f).undo = s.undo ∧ (s.onLace f).draws = s.draws ∧ (s.onLace f).pending = s.pending :=
  by and_intros <;> rfl

@[simp] theorem State.onSafe_fields (s : State) (f : Safety → Safety) :
    (s.onSafe f).time = s.time ∧ (s.onSafe f).eyes = s.eyes ∧ (s.onSafe f).wins = s.wins ∧ (s.onSafe f).gates = s.gates ∧
    (s.onSafe f).tios = s.tios ∧ (s.onSafe f).pwr = s.pwr ∧ (s.onSafe f).mode = s.mode ∧ (s.onSafe f).srcs = s.srcs ∧
    (s.onSafe f).dplls = s.dplls ∧ (s.onSafe f).hos = s.hos ∧ (s.onSafe f).model = s.model ∧ (s.onSafe f).aplls = s.aplls ∧
    (s.onSafe f).spll = s.spll ∧ (s.onSafe f).outs = s.outs ∧ (s.onSafe f).fods = s.fods ∧ (s.onSafe f).lockPin = s.lockPin ∧
    (s.onSafe f).lastJump = s.lastJump ∧ (s.onSafe f).ports = s.ports ∧ (s.onSafe f).lace = s.lace ∧
    (s.onSafe f).safe = f s.safe ∧ (s.onSafe f).hb = s.hb ∧ (s.onSafe f).mp = s.mp ∧ (s.onSafe f).prioMp = s.prioMp ∧
    (s.onSafe f).conflicts = s.conflicts ∧ (s.onSafe f).wrote = s.wrote ∧ (s.onSafe f).conflictCnt = s.conflictCnt ∧
    (s.onSafe f).echoes = s.echoes ∧ (s.onSafe f).echoSeq = s.echoSeq ∧ (s.onSafe f).txn = s.txn ∧ (s.onSafe f).opq = s.opq ∧
    (s.onSafe f).oph = s.oph ∧ (s.onSafe f).ticket = s.ticket ∧ (s.onSafe f).evt = s.evt ∧ (s.onSafe f).cnts = s.cnts ∧
    (s.onSafe f).cntCyc = s.cntCyc ∧ (s.onSafe f).log = s.log ∧ (s.onSafe f).snap = s.snap ∧ (s.onSafe f).nvm = s.nvm ∧
    (s.onSafe f).otp = s.otp ∧ (s.onSafe f).sec = s.sec ∧ (s.onSafe f).tap = s.tap ∧ (s.onSafe f).cfg = s.cfg ∧
    (s.onSafe f).opers = s.opers ∧ (s.onSafe f).undo = s.undo ∧ (s.onSafe f).draws = s.draws ∧ (s.onSafe f).pending = s.pending :=
  by and_intros <;> rfl

@[simp] theorem State.onTxn_fields (s : State) (f : Txn → Txn) :
    (s.onTxn f).time = s.time ∧ (s.onTxn f).eyes = s.eyes ∧ (s.onTxn f).wins = s.wins ∧ (s.onTxn f).gates = s.gates ∧
    (s.onTxn f).tios = s.tios ∧ (s.onTxn f).pwr = s.pwr ∧ (s.onTxn f).mode = s.mode ∧ (s.onTxn f).srcs = s.srcs ∧
    (s.onTxn f).dplls = s.dplls ∧ (s.onTxn f).hos = s.hos ∧ (s.onTxn f).model = s.model ∧ (s.onTxn f).aplls = s.aplls ∧
    (s.onTxn f).spll = s.spll ∧ (s.onTxn f).outs = s.outs ∧ (s.onTxn f).fods = s.fods ∧ (s.onTxn f).lockPin = s.lockPin ∧
    (s.onTxn f).lastJump = s.lastJump ∧ (s.onTxn f).ports = s.ports ∧ (s.onTxn f).lace = s.lace ∧ (s.onTxn f).safe = s.safe ∧
    (s.onTxn f).hb = s.hb ∧ (s.onTxn f).mp = s.mp ∧ (s.onTxn f).prioMp = s.prioMp ∧ (s.onTxn f).conflicts = s.conflicts ∧
    (s.onTxn f).wrote = s.wrote ∧ (s.onTxn f).conflictCnt = s.conflictCnt ∧ (s.onTxn f).echoes = s.echoes ∧
    (s.onTxn f).echoSeq = s.echoSeq ∧ (s.onTxn f).txn = f s.txn ∧ (s.onTxn f).opq = s.opq ∧ (s.onTxn f).oph = s.oph ∧
    (s.onTxn f).ticket = s.ticket ∧ (s.onTxn f).evt = s.evt ∧ (s.onTxn f).cnts = s.cnts ∧ (s.onTxn f).cntCyc = s.cntCyc ∧
    (s.onTxn f).log = s.log ∧ (s.onTxn f).snap = s.snap ∧ (s.onTxn f).nvm = s.nvm ∧ (s.onTxn f).otp = s.otp ∧
    (s.onTxn f).sec = s.sec ∧ (s.onTxn f).tap = s.tap ∧ (s.onTxn f).cfg = s.cfg ∧ (s.onTxn f).opers = s.opers ∧
    (s.onTxn f).undo = s.undo ∧ (s.onTxn f).draws = s.draws ∧ (s.onTxn f).pending = s.pending :=
  by and_intros <;> rfl

@[simp] theorem State.onEvt_fields (s : State) (f : Events → Events) :
    (s.onEvt f).time = s.time ∧ (s.onEvt f).eyes = s.eyes ∧ (s.onEvt f).wins = s.wins ∧ (s.onEvt f).gates = s.gates ∧
    (s.onEvt f).tios = s.tios ∧ (s.onEvt f).pwr = s.pwr ∧ (s.onEvt f).mode = s.mode ∧ (s.onEvt f).srcs = s.srcs ∧
    (s.onEvt f).dplls = s.dplls ∧ (s.onEvt f).hos = s.hos ∧ (s.onEvt f).model = s.model ∧ (s.onEvt f).aplls = s.aplls ∧
    (s.onEvt f).spll = s.spll ∧ (s.onEvt f).outs = s.outs ∧ (s.onEvt f).fods = s.fods ∧ (s.onEvt f).lockPin = s.lockPin ∧
    (s.onEvt f).lastJump = s.lastJump ∧ (s.onEvt f).ports = s.ports ∧ (s.onEvt f).lace = s.lace ∧ (s.onEvt f).safe = s.safe ∧
    (s.onEvt f).hb = s.hb ∧ (s.onEvt f).mp = s.mp ∧ (s.onEvt f).prioMp = s.prioMp ∧ (s.onEvt f).conflicts = s.conflicts ∧
    (s.onEvt f).wrote = s.wrote ∧ (s.onEvt f).conflictCnt = s.conflictCnt ∧ (s.onEvt f).echoes = s.echoes ∧
    (s.onEvt f).echoSeq = s.echoSeq ∧ (s.onEvt f).txn = s.txn ∧ (s.onEvt f).opq = s.opq ∧ (s.onEvt f).oph = s.oph ∧
    (s.onEvt f).ticket = s.ticket ∧ (s.onEvt f).evt = f s.evt ∧ (s.onEvt f).cnts = s.cnts ∧ (s.onEvt f).cntCyc = s.cntCyc ∧
    (s.onEvt f).log = s.log ∧ (s.onEvt f).snap = s.snap ∧ (s.onEvt f).nvm = s.nvm ∧ (s.onEvt f).otp = s.otp ∧
    (s.onEvt f).sec = s.sec ∧ (s.onEvt f).tap = s.tap ∧ (s.onEvt f).cfg = s.cfg ∧ (s.onEvt f).opers = s.opers ∧
    (s.onEvt f).undo = s.undo ∧ (s.onEvt f).draws = s.draws ∧ (s.onEvt f).pending = s.pending :=
  by and_intros <;> rfl

@[simp] theorem State.onCnt_fields (s : State) (n : Nat) (f : Counter → Counter) :
    (s.onCnt n f).time = s.time ∧ (s.onCnt n f).eyes = s.eyes ∧ (s.onCnt n f).wins = s.wins ∧ (s.onCnt n f).gates = s.gates ∧
    (s.onCnt n f).tios = s.tios ∧ (s.onCnt n f).pwr = s.pwr ∧ (s.onCnt n f).mode = s.mode ∧ (s.onCnt n f).srcs = s.srcs ∧
    (s.onCnt n f).dplls = s.dplls ∧ (s.onCnt n f).hos = s.hos ∧ (s.onCnt n f).model = s.model ∧ (s.onCnt n f).aplls = s.aplls ∧
    (s.onCnt n f).spll = s.spll ∧ (s.onCnt n f).outs = s.outs ∧ (s.onCnt n f).fods = s.fods ∧ (s.onCnt n f).lockPin = s.lockPin ∧
    (s.onCnt n f).lastJump = s.lastJump ∧ (s.onCnt n f).ports = s.ports ∧ (s.onCnt n f).lace = s.lace ∧
    (s.onCnt n f).safe = s.safe ∧ (s.onCnt n f).hb = s.hb ∧ (s.onCnt n f).mp = s.mp ∧ (s.onCnt n f).prioMp = s.prioMp ∧
    (s.onCnt n f).conflicts = s.conflicts ∧ (s.onCnt n f).wrote = s.wrote ∧ (s.onCnt n f).conflictCnt = s.conflictCnt ∧
    (s.onCnt n f).echoes = s.echoes ∧ (s.onCnt n f).echoSeq = s.echoSeq ∧ (s.onCnt n f).txn = s.txn ∧ (s.onCnt n f).opq = s.opq ∧
    (s.onCnt n f).oph = s.oph ∧ (s.onCnt n f).ticket = s.ticket ∧ (s.onCnt n f).evt = s.evt ∧
    (s.onCnt n f).cnts = vupd s.cnts n f ∧ (s.onCnt n f).cntCyc = s.cntCyc ∧ (s.onCnt n f).log = s.log ∧
    (s.onCnt n f).snap = s.snap ∧ (s.onCnt n f).nvm = s.nvm ∧ (s.onCnt n f).otp = s.otp ∧ (s.onCnt n f).sec = s.sec ∧
    (s.onCnt n f).tap = s.tap ∧ (s.onCnt n f).cfg = s.cfg ∧ (s.onCnt n f).opers = s.opers ∧ (s.onCnt n f).undo = s.undo ∧
    (s.onCnt n f).draws = s.draws ∧ (s.onCnt n f).pending = s.pending :=
  by and_intros <;> rfl

@[simp] theorem State.onLog_fields (s : State) (f : FaultLog → FaultLog) :
    (s.onLog f).time = s.time ∧ (s.onLog f).eyes = s.eyes ∧ (s.onLog f).wins = s.wins ∧ (s.onLog f).gates = s.gates ∧
    (s.onLog f).tios = s.tios ∧ (s.onLog f).pwr = s.pwr ∧ (s.onLog f).mode = s.mode ∧ (s.onLog f).srcs = s.srcs ∧
    (s.onLog f).dplls = s.dplls ∧ (s.onLog f).hos = s.hos ∧ (s.onLog f).model = s.model ∧ (s.onLog f).aplls = s.aplls ∧
    (s.onLog f).spll = s.spll ∧ (s.onLog f).outs = s.outs ∧ (s.onLog f).fods = s.fods ∧ (s.onLog f).lockPin = s.lockPin ∧
    (s.onLog f).lastJump = s.lastJump ∧ (s.onLog f).ports = s.ports ∧ (s.onLog f).lace = s.lace ∧ (s.onLog f).safe = s.safe ∧
    (s.onLog f).hb = s.hb ∧ (s.onLog f).mp = s.mp ∧ (s.onLog f).prioMp = s.prioMp ∧ (s.onLog f).conflicts = s.conflicts ∧
    (s.onLog f).wrote = s.wrote ∧ (s.onLog f).conflictCnt = s.conflictCnt ∧ (s.onLog f).echoes = s.echoes ∧
    (s.onLog f).echoSeq = s.echoSeq ∧ (s.onLog f).txn = s.txn ∧ (s.onLog f).opq = s.opq ∧ (s.onLog f).oph = s.oph ∧
    (s.onLog f).ticket = s.ticket ∧ (s.onLog f).evt = s.evt ∧ (s.onLog f).cnts = s.cnts ∧ (s.onLog f).cntCyc = s.cntCyc ∧
    (s.onLog f).log = f s.log ∧ (s.onLog f).snap = s.snap ∧ (s.onLog f).nvm = s.nvm ∧ (s.onLog f).otp = s.otp ∧
    (s.onLog f).sec = s.sec ∧ (s.onLog f).tap = s.tap ∧ (s.onLog f).cfg = s.cfg ∧ (s.onLog f).opers = s.opers ∧
    (s.onLog f).undo = s.undo ∧ (s.onLog f).draws = s.draws ∧ (s.onLog f).pending = s.pending :=
  by and_intros <;> rfl

@[simp] theorem State.onSnap_fields (s : State) (f : Snapshot → Snapshot) :
    (s.onSnap f).time = s.time ∧ (s.onSnap f).eyes = s.eyes ∧ (s.onSnap f).wins = s.wins ∧ (s.onSnap f).gates = s.gates ∧
    (s.onSnap f).tios = s.tios ∧ (s.onSnap f).pwr = s.pwr ∧ (s.onSnap f).mode = s.mode ∧ (s.onSnap f).srcs = s.srcs ∧
    (s.onSnap f).dplls = s.dplls ∧ (s.onSnap f).hos = s.hos ∧ (s.onSnap f).model = s.model ∧ (s.onSnap f).aplls = s.aplls ∧
    (s.onSnap f).spll = s.spll ∧ (s.onSnap f).outs = s.outs ∧ (s.onSnap f).fods = s.fods ∧ (s.onSnap f).lockPin = s.lockPin ∧
    (s.onSnap f).lastJump = s.lastJump ∧ (s.onSnap f).ports = s.ports ∧ (s.onSnap f).lace = s.lace ∧ (s.onSnap f).safe = s.safe ∧
    (s.onSnap f).hb = s.hb ∧ (s.onSnap f).mp = s.mp ∧ (s.onSnap f).prioMp = s.prioMp ∧ (s.onSnap f).conflicts = s.conflicts ∧
    (s.onSnap f).wrote = s.wrote ∧ (s.onSnap f).conflictCnt = s.conflictCnt ∧ (s.onSnap f).echoes = s.echoes ∧
    (s.onSnap f).echoSeq = s.echoSeq ∧ (s.onSnap f).txn = s.txn ∧ (s.onSnap f).opq = s.opq ∧ (s.onSnap f).oph = s.oph ∧
    (s.onSnap f).ticket = s.ticket ∧ (s.onSnap f).evt = s.evt ∧ (s.onSnap f).cnts = s.cnts ∧ (s.onSnap f).cntCyc = s.cntCyc ∧
    (s.onSnap f).log = s.log ∧ (s.onSnap f).snap = f s.snap ∧ (s.onSnap f).nvm = s.nvm ∧ (s.onSnap f).otp = s.otp ∧
    (s.onSnap f).sec = s.sec ∧ (s.onSnap f).tap = s.tap ∧ (s.onSnap f).cfg = s.cfg ∧ (s.onSnap f).opers = s.opers ∧
    (s.onSnap f).undo = s.undo ∧ (s.onSnap f).draws = s.draws ∧ (s.onSnap f).pending = s.pending :=
  by and_intros <;> rfl

@[simp] theorem State.onNvm_fields (s : State) (f : Nvm → Nvm) :
    (s.onNvm f).time = s.time ∧ (s.onNvm f).eyes = s.eyes ∧ (s.onNvm f).wins = s.wins ∧ (s.onNvm f).gates = s.gates ∧
    (s.onNvm f).tios = s.tios ∧ (s.onNvm f).pwr = s.pwr ∧ (s.onNvm f).mode = s.mode ∧ (s.onNvm f).srcs = s.srcs ∧
    (s.onNvm f).dplls = s.dplls ∧ (s.onNvm f).hos = s.hos ∧ (s.onNvm f).model = s.model ∧ (s.onNvm f).aplls = s.aplls ∧
    (s.onNvm f).spll = s.spll ∧ (s.onNvm f).outs = s.outs ∧ (s.onNvm f).fods = s.fods ∧ (s.onNvm f).lockPin = s.lockPin ∧
    (s.onNvm f).lastJump = s.lastJump ∧ (s.onNvm f).ports = s.ports ∧ (s.onNvm f).lace = s.lace ∧ (s.onNvm f).safe = s.safe ∧
    (s.onNvm f).hb = s.hb ∧ (s.onNvm f).mp = s.mp ∧ (s.onNvm f).prioMp = s.prioMp ∧ (s.onNvm f).conflicts = s.conflicts ∧
    (s.onNvm f).wrote = s.wrote ∧ (s.onNvm f).conflictCnt = s.conflictCnt ∧ (s.onNvm f).echoes = s.echoes ∧
    (s.onNvm f).echoSeq = s.echoSeq ∧ (s.onNvm f).txn = s.txn ∧ (s.onNvm f).opq = s.opq ∧ (s.onNvm f).oph = s.oph ∧
    (s.onNvm f).ticket = s.ticket ∧ (s.onNvm f).evt = s.evt ∧ (s.onNvm f).cnts = s.cnts ∧ (s.onNvm f).cntCyc = s.cntCyc ∧
    (s.onNvm f).log = s.log ∧ (s.onNvm f).snap = s.snap ∧ (s.onNvm f).nvm = f s.nvm ∧ (s.onNvm f).otp = s.otp ∧
    (s.onNvm f).sec = s.sec ∧ (s.onNvm f).tap = s.tap ∧ (s.onNvm f).cfg = s.cfg ∧ (s.onNvm f).opers = s.opers ∧
    (s.onNvm f).undo = s.undo ∧ (s.onNvm f).draws = s.draws ∧ (s.onNvm f).pending = s.pending :=
  by and_intros <;> rfl

@[simp] theorem State.onSec_fields (s : State) (f : Security → Security) :
    (s.onSec f).time = s.time ∧ (s.onSec f).eyes = s.eyes ∧ (s.onSec f).wins = s.wins ∧ (s.onSec f).gates = s.gates ∧
    (s.onSec f).tios = s.tios ∧ (s.onSec f).pwr = s.pwr ∧ (s.onSec f).mode = s.mode ∧ (s.onSec f).srcs = s.srcs ∧
    (s.onSec f).dplls = s.dplls ∧ (s.onSec f).hos = s.hos ∧ (s.onSec f).model = s.model ∧ (s.onSec f).aplls = s.aplls ∧
    (s.onSec f).spll = s.spll ∧ (s.onSec f).outs = s.outs ∧ (s.onSec f).fods = s.fods ∧ (s.onSec f).lockPin = s.lockPin ∧
    (s.onSec f).lastJump = s.lastJump ∧ (s.onSec f).ports = s.ports ∧ (s.onSec f).lace = s.lace ∧ (s.onSec f).safe = s.safe ∧
    (s.onSec f).hb = s.hb ∧ (s.onSec f).mp = s.mp ∧ (s.onSec f).prioMp = s.prioMp ∧ (s.onSec f).conflicts = s.conflicts ∧
    (s.onSec f).wrote = s.wrote ∧ (s.onSec f).conflictCnt = s.conflictCnt ∧ (s.onSec f).echoes = s.echoes ∧
    (s.onSec f).echoSeq = s.echoSeq ∧ (s.onSec f).txn = s.txn ∧ (s.onSec f).opq = s.opq ∧ (s.onSec f).oph = s.oph ∧
    (s.onSec f).ticket = s.ticket ∧ (s.onSec f).evt = s.evt ∧ (s.onSec f).cnts = s.cnts ∧ (s.onSec f).cntCyc = s.cntCyc ∧
    (s.onSec f).log = s.log ∧ (s.onSec f).snap = s.snap ∧ (s.onSec f).nvm = s.nvm ∧ (s.onSec f).otp = s.otp ∧
    (s.onSec f).sec = f s.sec ∧ (s.onSec f).tap = s.tap ∧ (s.onSec f).cfg = s.cfg ∧ (s.onSec f).opers = s.opers ∧
    (s.onSec f).undo = s.undo ∧ (s.onSec f).draws = s.draws ∧ (s.onSec f).pending = s.pending :=
  by and_intros <;> rfl

@[simp] theorem State.onTap_fields (s : State) (f : Tap → Tap) :
    (s.onTap f).time = s.time ∧ (s.onTap f).eyes = s.eyes ∧ (s.onTap f).wins = s.wins ∧ (s.onTap f).gates = s.gates ∧
    (s.onTap f).tios = s.tios ∧ (s.onTap f).pwr = s.pwr ∧ (s.onTap f).mode = s.mode ∧ (s.onTap f).srcs = s.srcs ∧
    (s.onTap f).dplls = s.dplls ∧ (s.onTap f).hos = s.hos ∧ (s.onTap f).model = s.model ∧ (s.onTap f).aplls = s.aplls ∧
    (s.onTap f).spll = s.spll ∧ (s.onTap f).outs = s.outs ∧ (s.onTap f).fods = s.fods ∧ (s.onTap f).lockPin = s.lockPin ∧
    (s.onTap f).lastJump = s.lastJump ∧ (s.onTap f).ports = s.ports ∧ (s.onTap f).lace = s.lace ∧ (s.onTap f).safe = s.safe ∧
    (s.onTap f).hb = s.hb ∧ (s.onTap f).mp = s.mp ∧ (s.onTap f).prioMp = s.prioMp ∧ (s.onTap f).conflicts = s.conflicts ∧
    (s.onTap f).wrote = s.wrote ∧ (s.onTap f).conflictCnt = s.conflictCnt ∧ (s.onTap f).echoes = s.echoes ∧
    (s.onTap f).echoSeq = s.echoSeq ∧ (s.onTap f).txn = s.txn ∧ (s.onTap f).opq = s.opq ∧ (s.onTap f).oph = s.oph ∧
    (s.onTap f).ticket = s.ticket ∧ (s.onTap f).evt = s.evt ∧ (s.onTap f).cnts = s.cnts ∧ (s.onTap f).cntCyc = s.cntCyc ∧
    (s.onTap f).log = s.log ∧ (s.onTap f).snap = s.snap ∧ (s.onTap f).nvm = s.nvm ∧ (s.onTap f).otp = s.otp ∧
    (s.onTap f).sec = s.sec ∧ (s.onTap f).tap = f s.tap ∧ (s.onTap f).cfg = s.cfg ∧ (s.onTap f).opers = s.opers ∧
    (s.onTap f).undo = s.undo ∧ (s.onTap f).draws = s.draws ∧ (s.onTap f).pending = s.pending :=
  by and_intros <;> rfl

@[simp] theorem State.onHost_time (s : State) (m : Master) (f : HostPort → HostPort) : (s.onHost m f).time = s.time := by
  cases m <;> rfl
@[simp] theorem State.onHost_eyes (s : State) (m : Master) (f : HostPort → HostPort) : (s.onHost m f).eyes = s.eyes := by
  cases m <;> rfl
@[simp] theorem State.onHost_wins (s : State) (m : Master) (f : HostPort → HostPort) : (s.onHost m f).wins = s.wins := by
  cases m <;> rfl
@[simp] theorem State.onHost_gates (s : State) (m : Master) (f : HostPort → HostPort) : (s.onHost m f).gates = s.gates := by
  cases m <;> rfl
@[simp] theorem State.onHost_tios (s : State) (m : Master) (f : HostPort → HostPort) : (s.onHost m f).tios = s.tios := by
  cases m <;> rfl
@[simp] theorem State.onHost_pwr (s : State) (m : Master) (f : HostPort → HostPort) : (s.onHost m f).pwr = s.pwr := by
  cases m <;> rfl
@[simp] theorem State.onHost_mode (s : State) (m : Master) (f : HostPort → HostPort) : (s.onHost m f).mode = s.mode := by
  cases m <;> rfl
@[simp] theorem State.onHost_srcs (s : State) (m : Master) (f : HostPort → HostPort) : (s.onHost m f).srcs = s.srcs := by
  cases m <;> rfl
@[simp] theorem State.onHost_dplls (s : State) (m : Master) (f : HostPort → HostPort) : (s.onHost m f).dplls = s.dplls := by
  cases m <;> rfl
@[simp] theorem State.onHost_hos (s : State) (m : Master) (f : HostPort → HostPort) : (s.onHost m f).hos = s.hos := by
  cases m <;> rfl
@[simp] theorem State.onHost_model (s : State) (m : Master) (f : HostPort → HostPort) : (s.onHost m f).model = s.model := by
  cases m <;> rfl
@[simp] theorem State.onHost_aplls (s : State) (m : Master) (f : HostPort → HostPort) : (s.onHost m f).aplls = s.aplls := by
  cases m <;> rfl
@[simp] theorem State.onHost_spll (s : State) (m : Master) (f : HostPort → HostPort) : (s.onHost m f).spll = s.spll := by
  cases m <;> rfl
@[simp] theorem State.onHost_outs (s : State) (m : Master) (f : HostPort → HostPort) : (s.onHost m f).outs = s.outs := by
  cases m <;> rfl
@[simp] theorem State.onHost_fods (s : State) (m : Master) (f : HostPort → HostPort) : (s.onHost m f).fods = s.fods := by
  cases m <;> rfl
@[simp] theorem State.onHost_lockPin (s : State) (m : Master) (f : HostPort → HostPort) : (s.onHost m f).lockPin = s.lockPin := by
  cases m <;> rfl
@[simp] theorem State.onHost_lastJump (s : State) (m : Master) (f : HostPort → HostPort) : (s.onHost m f).lastJump = s.lastJump := by
  cases m <;> rfl
@[simp] theorem State.onHost_ports (s : State) (m : Master) (f : HostPort → HostPort) : (s.onHost m f).ports = s.ports := by
  cases m <;> rfl
@[simp] theorem State.onHost_lace (s : State) (m : Master) (f : HostPort → HostPort) : (s.onHost m f).lace = s.lace := by
  cases m <;> rfl
@[simp] theorem State.onHost_safe (s : State) (m : Master) (f : HostPort → HostPort) : (s.onHost m f).safe = s.safe := by
  cases m <;> rfl
@[simp] theorem State.onHost_prioMp (s : State) (m : Master) (f : HostPort → HostPort) : (s.onHost m f).prioMp = s.prioMp := by
  cases m <;> rfl
@[simp] theorem State.onHost_conflicts (s : State) (m : Master) (f : HostPort → HostPort) : (s.onHost m f).conflicts = s.conflicts := by
  cases m <;> rfl
@[simp] theorem State.onHost_wrote (s : State) (m : Master) (f : HostPort → HostPort) : (s.onHost m f).wrote = s.wrote := by
  cases m <;> rfl
@[simp] theorem State.onHost_conflictCnt (s : State) (m : Master) (f : HostPort → HostPort) : (s.onHost m f).conflictCnt = s.conflictCnt := by
  cases m <;> rfl
@[simp] theorem State.onHost_echoes (s : State) (m : Master) (f : HostPort → HostPort) : (s.onHost m f).echoes = s.echoes := by
  cases m <;> rfl
@[simp] theorem State.onHost_echoSeq (s : State) (m : Master) (f : HostPort → HostPort) : (s.onHost m f).echoSeq = s.echoSeq := by
  cases m <;> rfl
@[simp] theorem State.onHost_txn (s : State) (m : Master) (f : HostPort → HostPort) : (s.onHost m f).txn = s.txn := by
  cases m <;> rfl
@[simp] theorem State.onHost_opq (s : State) (m : Master) (f : HostPort → HostPort) : (s.onHost m f).opq = s.opq := by
  cases m <;> rfl
@[simp] theorem State.onHost_oph (s : State) (m : Master) (f : HostPort → HostPort) : (s.onHost m f).oph = s.oph := by
  cases m <;> rfl
@[simp] theorem State.onHost_ticket (s : State) (m : Master) (f : HostPort → HostPort) : (s.onHost m f).ticket = s.ticket := by
  cases m <;> rfl
@[simp] theorem State.onHost_evt (s : State) (m : Master) (f : HostPort → HostPort) : (s.onHost m f).evt = s.evt := by
  cases m <;> rfl
@[simp] theorem State.onHost_cnts (s : State) (m : Master) (f : HostPort → HostPort) : (s.onHost m f).cnts = s.cnts := by
  cases m <;> rfl
@[simp] theorem State.onHost_cntCyc (s : State) (m : Master) (f : HostPort → HostPort) : (s.onHost m f).cntCyc = s.cntCyc := by
  cases m <;> rfl
@[simp] theorem State.onHost_log (s : State) (m : Master) (f : HostPort → HostPort) : (s.onHost m f).log = s.log := by
  cases m <;> rfl
@[simp] theorem State.onHost_snap (s : State) (m : Master) (f : HostPort → HostPort) : (s.onHost m f).snap = s.snap := by
  cases m <;> rfl
@[simp] theorem State.onHost_nvm (s : State) (m : Master) (f : HostPort → HostPort) : (s.onHost m f).nvm = s.nvm := by
  cases m <;> rfl
@[simp] theorem State.onHost_otp (s : State) (m : Master) (f : HostPort → HostPort) : (s.onHost m f).otp = s.otp := by
  cases m <;> rfl
@[simp] theorem State.onHost_sec (s : State) (m : Master) (f : HostPort → HostPort) : (s.onHost m f).sec = s.sec := by
  cases m <;> rfl
@[simp] theorem State.onHost_tap (s : State) (m : Master) (f : HostPort → HostPort) : (s.onHost m f).tap = s.tap := by
  cases m <;> rfl
@[simp] theorem State.onHost_cfg (s : State) (m : Master) (f : HostPort → HostPort) : (s.onHost m f).cfg = s.cfg := by
  cases m <;> rfl
@[simp] theorem State.onHost_opers (s : State) (m : Master) (f : HostPort → HostPort) : (s.onHost m f).opers = s.opers := by
  cases m <;> rfl
@[simp] theorem State.onHost_undo (s : State) (m : Master) (f : HostPort → HostPort) : (s.onHost m f).undo = s.undo := by
  cases m <;> rfl
@[simp] theorem State.onHost_draws (s : State) (m : Master) (f : HostPort → HostPort) : (s.onHost m f).draws = s.draws := by
  cases m <;> rfl
@[simp] theorem State.onHost_pending (s : State) (m : Master) (f : HostPort → HostPort) : (s.onHost m f).pending = s.pending := by
  cases m <;> rfl

@[simp] theorem State.host_onHost (s : State) (m : Master) (f : HostPort → HostPort) : (s.onHost m f).host m = f (s.host m) := by
  cases m <;> rfl

/-- An access by one host leaves the other port as it is (R526). -/
theorem State.host_onHost_other (s : State) {m k : Master} (f : HostPort → HostPort) (h : k ≠ m) : (s.onHost m f).host k = s.host k := by
  cases m <;> cases k <;> first | rfl | exact absurd rfl h

@[simp] theorem State.onChan_time (s : State) (c : Chan) (f : SafeChan → SafeChan) : (s.onChan c f).time = s.time := by
  cases c <;> rfl
@[simp] theorem State.onChan_eyes (s : State) (c : Chan) (f : SafeChan → SafeChan) : (s.onChan c f).eyes = s.eyes := by
  cases c <;> rfl
@[simp] theorem State.onChan_wins (s : State) (c : Chan) (f : SafeChan → SafeChan) : (s.onChan c f).wins = s.wins := by
  cases c <;> rfl
@[simp] theorem State.onChan_gates (s : State) (c : Chan) (f : SafeChan → SafeChan) : (s.onChan c f).gates = s.gates := by
  cases c <;> rfl
@[simp] theorem State.onChan_tios (s : State) (c : Chan) (f : SafeChan → SafeChan) : (s.onChan c f).tios = s.tios := by
  cases c <;> rfl
@[simp] theorem State.onChan_pwr (s : State) (c : Chan) (f : SafeChan → SafeChan) : (s.onChan c f).pwr = s.pwr := by
  cases c <;> rfl
@[simp] theorem State.onChan_mode (s : State) (c : Chan) (f : SafeChan → SafeChan) : (s.onChan c f).mode = s.mode := by
  cases c <;> rfl
@[simp] theorem State.onChan_srcs (s : State) (c : Chan) (f : SafeChan → SafeChan) : (s.onChan c f).srcs = s.srcs := by
  cases c <;> rfl
@[simp] theorem State.onChan_dplls (s : State) (c : Chan) (f : SafeChan → SafeChan) : (s.onChan c f).dplls = s.dplls := by
  cases c <;> rfl
@[simp] theorem State.onChan_hos (s : State) (c : Chan) (f : SafeChan → SafeChan) : (s.onChan c f).hos = s.hos := by
  cases c <;> rfl
@[simp] theorem State.onChan_model (s : State) (c : Chan) (f : SafeChan → SafeChan) : (s.onChan c f).model = s.model := by
  cases c <;> rfl
@[simp] theorem State.onChan_aplls (s : State) (c : Chan) (f : SafeChan → SafeChan) : (s.onChan c f).aplls = s.aplls := by
  cases c <;> rfl
@[simp] theorem State.onChan_spll (s : State) (c : Chan) (f : SafeChan → SafeChan) : (s.onChan c f).spll = s.spll := by
  cases c <;> rfl
@[simp] theorem State.onChan_outs (s : State) (c : Chan) (f : SafeChan → SafeChan) : (s.onChan c f).outs = s.outs := by
  cases c <;> rfl
@[simp] theorem State.onChan_fods (s : State) (c : Chan) (f : SafeChan → SafeChan) : (s.onChan c f).fods = s.fods := by
  cases c <;> rfl
@[simp] theorem State.onChan_lockPin (s : State) (c : Chan) (f : SafeChan → SafeChan) : (s.onChan c f).lockPin = s.lockPin := by
  cases c <;> rfl
@[simp] theorem State.onChan_lastJump (s : State) (c : Chan) (f : SafeChan → SafeChan) : (s.onChan c f).lastJump = s.lastJump := by
  cases c <;> rfl
@[simp] theorem State.onChan_ports (s : State) (c : Chan) (f : SafeChan → SafeChan) : (s.onChan c f).ports = s.ports := by
  cases c <;> rfl
@[simp] theorem State.onChan_lace (s : State) (c : Chan) (f : SafeChan → SafeChan) : (s.onChan c f).lace = s.lace := by
  cases c <;> rfl
@[simp] theorem State.onChan_hb (s : State) (c : Chan) (f : SafeChan → SafeChan) : (s.onChan c f).hb = s.hb := by
  cases c <;> rfl
@[simp] theorem State.onChan_mp (s : State) (c : Chan) (f : SafeChan → SafeChan) : (s.onChan c f).mp = s.mp := by
  cases c <;> rfl
@[simp] theorem State.onChan_prioMp (s : State) (c : Chan) (f : SafeChan → SafeChan) : (s.onChan c f).prioMp = s.prioMp := by
  cases c <;> rfl
@[simp] theorem State.onChan_conflicts (s : State) (c : Chan) (f : SafeChan → SafeChan) : (s.onChan c f).conflicts = s.conflicts := by
  cases c <;> rfl
@[simp] theorem State.onChan_wrote (s : State) (c : Chan) (f : SafeChan → SafeChan) : (s.onChan c f).wrote = s.wrote := by
  cases c <;> rfl
@[simp] theorem State.onChan_conflictCnt (s : State) (c : Chan) (f : SafeChan → SafeChan) : (s.onChan c f).conflictCnt = s.conflictCnt := by
  cases c <;> rfl
@[simp] theorem State.onChan_echoes (s : State) (c : Chan) (f : SafeChan → SafeChan) : (s.onChan c f).echoes = s.echoes := by
  cases c <;> rfl
@[simp] theorem State.onChan_echoSeq (s : State) (c : Chan) (f : SafeChan → SafeChan) : (s.onChan c f).echoSeq = s.echoSeq := by
  cases c <;> rfl
@[simp] theorem State.onChan_txn (s : State) (c : Chan) (f : SafeChan → SafeChan) : (s.onChan c f).txn = s.txn := by
  cases c <;> rfl
@[simp] theorem State.onChan_opq (s : State) (c : Chan) (f : SafeChan → SafeChan) : (s.onChan c f).opq = s.opq := by
  cases c <;> rfl
@[simp] theorem State.onChan_oph (s : State) (c : Chan) (f : SafeChan → SafeChan) : (s.onChan c f).oph = s.oph := by
  cases c <;> rfl
@[simp] theorem State.onChan_ticket (s : State) (c : Chan) (f : SafeChan → SafeChan) : (s.onChan c f).ticket = s.ticket := by
  cases c <;> rfl
@[simp] theorem State.onChan_evt (s : State) (c : Chan) (f : SafeChan → SafeChan) : (s.onChan c f).evt = s.evt := by
  cases c <;> rfl
@[simp] theorem State.onChan_cnts (s : State) (c : Chan) (f : SafeChan → SafeChan) : (s.onChan c f).cnts = s.cnts := by
  cases c <;> rfl
@[simp] theorem State.onChan_cntCyc (s : State) (c : Chan) (f : SafeChan → SafeChan) : (s.onChan c f).cntCyc = s.cntCyc := by
  cases c <;> rfl
@[simp] theorem State.onChan_log (s : State) (c : Chan) (f : SafeChan → SafeChan) : (s.onChan c f).log = s.log := by
  cases c <;> rfl
@[simp] theorem State.onChan_snap (s : State) (c : Chan) (f : SafeChan → SafeChan) : (s.onChan c f).snap = s.snap := by
  cases c <;> rfl
@[simp] theorem State.onChan_nvm (s : State) (c : Chan) (f : SafeChan → SafeChan) : (s.onChan c f).nvm = s.nvm := by
  cases c <;> rfl
@[simp] theorem State.onChan_otp (s : State) (c : Chan) (f : SafeChan → SafeChan) : (s.onChan c f).otp = s.otp := by
  cases c <;> rfl
@[simp] theorem State.onChan_sec (s : State) (c : Chan) (f : SafeChan → SafeChan) : (s.onChan c f).sec = s.sec := by
  cases c <;> rfl
@[simp] theorem State.onChan_tap (s : State) (c : Chan) (f : SafeChan → SafeChan) : (s.onChan c f).tap = s.tap := by
  cases c <;> rfl
@[simp] theorem State.onChan_cfg (s : State) (c : Chan) (f : SafeChan → SafeChan) : (s.onChan c f).cfg = s.cfg := by
  cases c <;> rfl
@[simp] theorem State.onChan_opers (s : State) (c : Chan) (f : SafeChan → SafeChan) : (s.onChan c f).opers = s.opers := by
  cases c <;> rfl
@[simp] theorem State.onChan_undo (s : State) (c : Chan) (f : SafeChan → SafeChan) : (s.onChan c f).undo = s.undo := by
  cases c <;> rfl
@[simp] theorem State.onChan_draws (s : State) (c : Chan) (f : SafeChan → SafeChan) : (s.onChan c f).draws = s.draws := by
  cases c <;> rfl
@[simp] theorem State.onChan_pending (s : State) (c : Chan) (f : SafeChan → SafeChan) : (s.onChan c f).pending = s.pending := by
  cases c <;> rfl

@[simp] theorem State.chan_onChan (s : State) (c : Chan) (f : SafeChan → SafeChan) : (s.onChan c f).chan c = f (s.chan c) := by
  cases c <;> rfl

/-- An update of one channel leaves the other as it is. -/
theorem State.chan_onChan_other (s : State) {c k : Chan} (f : SafeChan → SafeChan) (h : k ≠ c) : (s.onChan c f).chan k = s.chan k := by
  cases c <;> cases k <;> first | rfl | exact absurd rfl h

end Sys2Proof.Machine
end

