-- ==== Sys2Proof/Laws/Store.lean ====
section
/-! SUPPORT. The laws of the banks and the sparse stores (Machine/Ops.lean): what a read finds after a write, and that every operation on a
store keeps its canonical form and every operation on the TIO bank keeps the FIFOs within their length. -/

namespace Sys2Proof.Machine

/-! ## Banks -/

/-- An entry after an update of one entry: the updated one where it exists, any other as before. -/
theorem vat_vupd {α : Type} {n : Nat} [Inhabited α] (v : Vector α n) (i j : Nat) (f : α → α) :
    vat (vupd v i f) j = if i = j ∧ j < n then f (vat v j) else vat v j := by
  unfold vat vupd
  simp only [List.getD_eq_getElem?_getD, List.getElem?_modify]
  by_cases hj : j < n
  · by_cases e : i = j <;> simp [e, hj]
  · simp [hj]

@[simp] theorem vat_vupd_same {α : Type} {n : Nat} [Inhabited α] (v : Vector α n) {i : Nat} (f : α → α) (h : i < n) :
    vat (vupd v i f) i = f (vat v i) := by rw [vat_vupd, if_pos ⟨rfl, h⟩]

@[simp] theorem vat_vupd_other {α : Type} {n : Nat} [Inhabited α] (v : Vector α n) {i j : Nat} (f : α → α) (h : i ≠ j) :
    vat (vupd v i f) j = vat v j := by rw [vat_vupd, if_neg fun x => h x.1]

@[simp] theorem vat_vmap {α β : Type} {n : Nat} [Inhabited α] [Inhabited β] (f : Nat → α → β) (v : Vector α n) {j : Nat} (h : j < n) :
    vat (vmap f v) j = f j (vat v j) := by
  unfold vat vmap
  simp [List.getD_eq_getElem?_getD, h]

@[simp] theorem vat_vmk {α : Type} [Inhabited α] {n : Nat} (f : Nat → α) {j : Nat} (h : j < n) : vat (vmk n f) j = f j := by
  unfold vat vmk
  simp [List.getD_eq_getElem?_getD, h]

theorem forN_zero {σ : Type} (f : Nat → σ → σ) (s : σ) : forN 0 f s = s := rfl

theorem forN_succ {σ : Type} (n : Nat) (f : Nat → σ → σ) (s : σ) : forN (n + 1) f s = f n (forN n f s) := by
  unfold forN
  rw [List.range_succ, List.foldl_append]
  rfl

/-- A property that every round of a loop keeps holds after it. -/
theorem forN_keeps {σ : Type} {P : σ → Prop} {n : Nat} {f : Nat → σ → σ} (hf : ∀ i s, i < n → P s → P (f i s)) {s : σ} (h : P s) :
    P (forN n f s) := by
  induction n with
  | zero => exact h
  | succ k ih =>
    rw [forN_succ]
    exact hf k _ (Nat.lt_succ_self k) (ih fun i s hi => hf i s (Nat.lt_succ_of_lt hi))

/-! ## Stores: reading after writing -/

@[simp] theorem sget_sput_other {α : Type} [DecidableEq α] (e d v : α) {a b : Nat} (h : a ≠ b) (l : List (Nat × α)) :
    sget e (sput d v a l) b = sget e l b := by
  induction l with
  | nil => unfold sput; split <;> simp [sget, h]
  | cons c xs ih =>
    obtain ⟨k, w⟩ := c
    unfold sput
    split
    · split <;> simp [sget, h]
    · split
      · subst k
        split <;> simp [sget, h]
      · simp only [sget, ih]

/-- Below its lowest key a store in canonical form lists nothing. -/
theorem sget_below {α : Type} [DecidableEq α] (D : Nat → α) (d : α) {a lo : Nat} (h : a < lo) (l : List (Nat × α))
    (w : swfFrom D lo l = true) : sget d l a = d := by
  induction l generalizing lo with
  | nil => rfl
  | cons c xs ih =>
    simp only [swfFrom, Bool.and_eq_true, decide_eq_true_eq] at w
    have : c.1 ≠ a := by omega
    simp only [sget, this, if_false]
    exact ih (lo := c.1 + 1) (by omega) w.2

theorem sget_sput_same {α : Type} [DecidableEq α] (D : Nat → α) (v : α) (a lo : Nat) (l : List (Nat × α)) (w : swfFrom D lo l = true) :
    sget (D a) (sput (D a) v a l) a = v := by
  induction l generalizing lo with
  | nil => unfold sput; split <;> simp_all [sget]
  | cons c xs ih =>
    obtain ⟨k, x⟩ := c
    simp only [swfFrom, Bool.and_eq_true, decide_eq_true_eq] at w
    unfold sput
    split
    · rename_i hlt
      split
      · rename_i e
        have hk : k ≠ a := by omega
        simp only [sget, hk, if_false]
        rw [e]
        exact sget_below D _ (by omega) xs w.2
      · simp [sget]
    · split
      · subst k
        split
        · rename_i e
          rw [e]
          exact sget_below D _ (by omega) xs w.2
        · simp [sget]
      · rename_i hne
        simp only [sget, hne, if_false]
        exact ih _ w.2

@[simp] theorem sget_lput_same {α : Type} (d v : α) (a : Nat) (l : List (Nat × α)) : sget d (lput v a l) a = v := by
  induction l with
  | nil => simp [lput, sget]
  | cons c xs ih =>
    obtain ⟨k, w⟩ := c
    unfold lput
    split
    · simp [sget]
    · split
      · simp [sget]
      · rename_i hne
        simp only [sget, hne, if_false, ih]

@[simp] theorem sget_lput_other {α : Type} (d v : α) {a b : Nat} (h : a ≠ b) (l : List (Nat × α)) : sget d (lput v a l) b = sget d l b := by
  induction l with
  | nil => simp [lput, sget, h]
  | cons c xs ih =>
    obtain ⟨k, w⟩ := c
    unfold lput
    split
    · simp [sget, h]
    · split
      · subst k
        simp [sget, h]
      · simp only [sget, ih]

/-! ## Stores: the canonical form -/

theorem swf_mono {α : Type} [DecidableEq α] (D : Nat → α) (l : List (Nat × α)) {lo hi : Nat} (hl : lo ≤ hi) (h : swfFrom D hi l = true) :
    swfFrom D lo l = true := by
  cases l with
  | nil => rfl
  | cons c xs =>
    simp only [swfFrom, Bool.and_eq_true, decide_eq_true_eq] at h ⊢
    exact ⟨⟨by omega, h.1.2⟩, h.2⟩

theorem swf_sput {α : Type} [DecidableEq α] (D : Nat → α) (v : α) {a lo : Nat} (l : List (Nat × α)) (ha : lo ≤ a)
    (h : swfFrom D lo l = true) : swfFrom D lo (sput (D a) v a l) = true := by
  induction l generalizing lo with
  | nil => unfold sput; split <;> simp_all [swfFrom]
  | cons c xs ih =>
    obtain ⟨k, w⟩ := c
    simp only [swfFrom, Bool.and_eq_true, decide_eq_true_eq] at h
    unfold sput
    split
    · split
      · simp_all [swfFrom]
      · simp only [swfFrom, Bool.and_eq_true, decide_eq_true_eq]
        exact ⟨⟨ha, by assumption⟩, ⟨by omega, h.1.2⟩, h.2⟩
    · split
      · subst k
        split
        · exact swf_mono D xs (by omega) h.2
        · simp_all [swfFrom]
      · simp only [swfFrom, Bool.and_eq_true, decide_eq_true_eq]
        exact ⟨⟨h.1.1, h.1.2⟩, ih (by omega) h.2⟩

theorem swf_foldl {α β : Type} [DecidableEq α] {D : Nat → α} {f : List (Nat × α) → β → List (Nat × α)}
    (hf : ∀ m b, swfFrom D 0 m = true → swfFrom D 0 (f m b) = true) (l : List β) {m : List (Nat × α)} (h : swfFrom D 0 m = true) :
    swfFrom D 0 (l.foldl f m) = true := by
  induction l generalizing m with
  | nil => exact h
  | cons a l ih => exact ih (hf _ a h)

theorem swf_filter {α : Type} [DecidableEq α] (D : Nat → α) (p : Nat × α → Bool) (l : List (Nat × α)) {lo : Nat}
    (h : swfFrom D lo l = true) : swfFrom D lo (l.filter p) = true := by
  induction l generalizing lo with
  | nil => exact h
  | cons c xs ih =>
    obtain ⟨k, w⟩ := c
    simp only [swfFrom, Bool.and_eq_true, decide_eq_true_eq] at h
    rw [List.filter_cons]
    split
    · simp only [swfFrom, Bool.and_eq_true, decide_eq_true_eq]
      exact ⟨h.1, ih h.2⟩
    · exact swf_mono D _ (by omega) (ih h.2)

/-! ## TIO FIFOs (R81) -/

theorem fifo_vupd {v : Vector TioPin 16} {i : Nat} {f : TioPin → TioPin}
    (hf : (vat v i).fifo.length ≤ 16 → (f (vat v i)).fifo.length ≤ 16) (h : ∀ n, n < 16 → (vat v n).fifo.length ≤ 16) :
    ∀ n, n < 16 → (vat (vupd v i f) n).fifo.length ≤ 16 := by
  intro n hn
  rw [vat_vupd]
  split
  · rename_i e
    obtain ⟨rfl, -⟩ := e
    exact hf (h _ hn)
  · exact h n hn

theorem fifo_vmap {v : Vector TioPin 16} {f : Nat → TioPin → TioPin} (hf : ∀ n x, x.fifo.length ≤ 16 → (f n x).fifo.length ≤ 16)
    (h : ∀ n, n < 16 → (vat v n).fifo.length ≤ 16) : ∀ n, n < 16 → (vat (vmap f v) n).fifo.length ≤ 16 := by
  intro n hn
  rw [vat_vmap f v hn]
  exact hf _ _ (h n hn)

end Sys2Proof.Machine
end

