-- ==== Sys2Proof/Machine/Lines.lean ====
section
/-!
DEFINITION. Sys2Proof/Machine/Lines.lean: the states of the pins other than the clock outputs (R45, R639, R659, R660), the waveforms of the STO
lines and of the test pulses (R446, R487), and the rate of a Lace transmitter (R384). Every definition reads the state; none changes it.
-/
namespace Sys2Proof.Machine

/-! ## Drive of a pin -/

/-- What stands at a pin: its driver at a level, a pull resistor at a level, nothing, a waveform of its own, or a boundary cell (R639, R658). -/
inductive Line where
  | driven (high : Bool)
  | pulled (high : Bool)
  | hiz
  | wave
  | scan
  deriving DecidableEq, Repr, Inhabited

/-- The pins controlled from CORE are in their state of SETUP with CORE ON or of a running mode; otherwise they are as in RESET (R660). -/
def corePins (s : State) : Bool := s.coreOn && !s.inReset && !s.pwr.booting

/-- The power-on reset itself still holds AON: channel H drives nothing (R659). -/
def inPowerOn (s : State) : Bool := bitOf s.pwr.resetHeld 0

/-- An output pin under EXTEST follows its boundary cell (R639). -/
def underScan (s : State) (safetyPin : Bool) (l : Line) : Line := if scanDrives s safetyPin then .scan else l

/-! ## Reports to the board (R133, R581, R582, R234) -/

/-- IRQ0_N and IRQ1_N: open drain, low while asserted. -/
def irqPin (s : State) (k : Nat) : Line :=
  underScan s false (if corePins s && (if k = 0 then s.evt.irq0 else s.evt.irq1) then .driven false else .hiz)

/-- FAULT_N: open drain. -/
def faultPin (s : State) : Line := underScan s false (if faultN s then .driven false else .hiz)

/-- LOCK is driven, low wherever DPLL0 cannot be LOCKED. -/
def lockLine (s : State) : Line := underScan s false (.driven (corePins s && s.lockPin))

/-! ## Host interfaces and JTAG (R125, R528, R531, R638) -/

/-- HB_D and MP_MISO: driven only in an access that is served, here one that reads `w`; HB_RDY is driven in every access. -/
def hostDriven (s : State) (access : Bool) : Bool := access && !s.inReset

/-- TDO is driven in Shift-IR and Shift-DR only. -/
def tdoDriven (shifting : Bool) : Bool := shifting

/-! ## Inputs and terminations (R183, R274, R659) -/

/-- The 100 Ω termination and the internal bias of REF[n], with its stage. -/
def refStageOn (s : State) (n : Nat) : Bool := corePins s && fInMode.val s.act (refBase n) != 0
def refTerminated (s : State) (n : Nat) : Bool := refStageOn s n && fInTerm.on s.act (refBase n)
def refBiased (s : State) (n : Nat) : Bool := refStageOn s n && fInBias.on s.act (refBase n)

/-- FB0, FB1 and the Lace receivers are terminated, and the receivers on, while the pins of CORE are. -/
def receiversOnPins (s : State) : Bool := corePins s

/-- TSENSE_P and TSENSE_N are excited. -/
def diodeExcited (s : State) : Bool := corePins s && fTsEn.on s.act modelBase

/-- Which channel reads SI, ENC, EDM and SRST_N (R433, R659). -/
def readsPins (s : State) : Chan → Bool
  | .p => s.pRuns
  | .h => !inPowerOn s

/-! ## TIO and Lace (R79, R385) -/

def tioLine (s : State) (p : Nat) : Line :=
  underScan s false (
    if corePins s && inService s.act (tioBase p) && (tioMode s p == 4 || tioMode s p == 5) then .driven (vat s.tios p).level else .pulled false)

/-- TX of port `p` carries its cells, or no transitions. -/
def laceTx (s : State) (p : Nat) : Line := underScan s false (if corePins s && inService s.act (laceBase p) then .wave else .hiz)

/-- The rate of every Lace transmitter in baud: 1.25 Gbaud × (1 + w0), w0 being DPLL0's applied frequency word. -/
def lineRate (s : State) : Rat := 1250000000 * (1 + ((vat s.dplls 0).applied : Rat) / 2 ^ 48)

/-- A receiver follows a rate within 1,100 ppm of 1.25 Gbaud; its word clock runs at a tenth of it. -/
def rateFollowed (baud : Rat) : Bool := decide (1250000000 * (1 - 1100 / 10 ^ 6) ≤ baud) && decide (baud ≤ 1250000000 * (1 + 1100 / 10 ^ 6))
def wordClock (baud : Rat) : Rat := baud / 10

/-! ## STO, QSTOP and test pulses (R47, R446, R487, R491) -/

/-- Half a period of an STO line in clocks of its generator: 15,625 of CORE_CLK for a line of channel P, 1,600 calibrated RC clocks for one of
channel H. -/
def stoHalf (m : ParImage) (n : Nat) (lineB : Bool) : Nat := if generates m .p n lineB then 15625 else 1600

/-- The level of a generated STO line `k` clocks after its start: it begins with a full high half-period. -/
def stoWave (m : ParImage) (n : Nat) (lineB : Bool) (k : Nat) : Bool := k / stoHalf m n lineB % 2 == 0

/-- STOnA and STOnB. -/
def stoLine (s : State) (n : Nat) (lineB : Bool) : Line :=
  underScan s true (
    if stoToggles s n then .wave else if (lineB && !inPowerOn s) || corePins s then .driven false else .pulled false)

def qstopLine (s : State) (k : Nat) : Line := underScan s true (if corePins s then .driven (vat s.safe.qstop k) else .pulled false)

/-- A test pulse is under way on TPA or TPB: from the end of the last one's mask the next begins so that its own mask ends a period later. -/
def pulsing (s : State) (b : Bool) : Bool :=
  let now := clockH s
  match vat s.safe.tpAt (b2n b) with
  | none => false
  | some t =>
    let e := t + pulsePeriod s.image
    decide (e ≤ now + pulseSpan s.image) && decide (now + maskUs * cUs < e)

def tpLine (s : State) (b : Bool) : Line := underScan s true (if inPowerOn s then .pulled false else .driven (!pulsing s b))

end Sys2Proof.Machine
end

