-- ==== Sys2Proof/Machine/Pads.lean ====
section
/-!
DEFINITION. Sys2Proof/Machine/Pads.lean: what stands at the pads of an output: the pin states, the high times of its cycles, its programmed
delay (R340 to R344, R361, R362). Every definition reads the state; none changes it.
-/
namespace Sys2Proof.Machine

/-! ## The pins (R132, R340, R341, R351) -/

/-- What a pin does: it is at a level, high-impedance, or carries the output's clock or its inverse. -/
inductive Pin where
  | low | high | hiz | clock | inverse
  deriving DecidableEq, Repr, Inhabited

/-- The pins P and N of an output. -/
structure Pins where
  p : Pin
  n : Pin
  deriving DecidableEq, Repr, Inhabited

/-- FORMAT of output `n` is LVCMOS; the others are differential (R339). -/
def isCmos (c : View) (n : Nat) : Bool := fFormat.val c (outBase n) == 3

/-- The pins that carry a clock: P and its inverse in a differential format; in LVCMOS after CMOS_MODE (R340). -/
def clockPins (c : View) (n : Nat) : Pins :=
  if !isCmos c n then { p := .clock, n := .inverse } else
  match fCmosMode.val c (outBase n) with
  | 0 => { p := .clock, n := .hiz }
  | 1 => { p := .clock, n := .clock }
  | _ => { p := .clock, n := .inverse }

/-- Logic low in the output's format: P low and N high in a differential one, P and a driven N low in LVCMOS (R341). -/
def lowPins (c : View) (n : Nat) : Pins :=
  if !isCmos c n then { p := .low, n := .high } else { p := .low, n := if fCmosMode.val c (outBase n) = 0 then .hiz else .low }

/-- The state that OFF_FORMAT names (R341). -/
def offPins (c : View) (n : Nat) : Pins := if fOffFormat.on c (outBase n) then lowPins c n else { p := .hiz, n := .hiz }

/-- A substituting output is still, or again, held low: for 4 ns from its squelch, and from the last XO falling edge 4 ns before its start (R355). -/
def substituteLow (s : State) (n : Nat) : Bool :=
  let o := vat s.outs n
  decide (s.now < o.subFrom + 4 * ns16) ||
  (match o.startAt with
   | some t => decide (t ≤ tsNow s (outTs s (cfgSet s.act n)) + 4 * ns16)
   | none => false)

/-- The pins of output `n`. OUT0 passes the XO in phase under the bypass of STRAP[2], is low while the XO is not valid and after it (R132, R659); a domain that is not ON leaves
the pins high-impedance; between a stop and a start they are at logic low (R341, R351). -/
def outPins (s : State) (n : Nat) : Pins :=
  let run := (vat s.outs n).run
  if n = 0 ∧ s.pwr.bypOut0 = true then
    (if run ≠ .running then { p := .hiz, n := .hiz } else if s.pwr.xoValid then { p := .clock, n := .clock } else { p := .low, n := .low })
  else if n = 0 ∧ (s.inReset || s.pwr.booting) = true ∧ run = .gap then { p := .low, n := .low }
  else if !outDomOn s n then { p := .hiz, n := .hiz }
  else match run with
    | .running => clockPins s.act n
    | .substituting => if substituteLow s n then lowPins s.act n else clockPins s.act n
    | .gap => lowPins s.act n
    | .off | .waiting | .squelchedStop => offPins s.act n

/-- The signal is P − N in every differential format (R340); the sense-back comparator reads P alone for LVCMOS P_ONLY and P − N otherwise
(R357). -/
def signalDiff (c : View) (n : Nat) : Bool := !isCmos c n
def sensesDiff (c : View) (n : Nat) : Bool := !(isCmos c n && fCmosMode.val c (outBase n) == 0)

/-! ## High times (R343, R361, R362) -/

/-- What a cycle of a watermarked tick is (R361). -/
inductive WmCycle where
  | mark
  | bit (one : Bool)
  | plain
  deriving DecidableEq, Repr, Inhabited

/-- The class of cycle `k` of a tick in which `payload` is sent: cycle 0 is the mark, cycle 16 × (48 − i) carries bit i. -/
def wmCycle (payload : Option Nat) (k : Nat) : WmCycle :=
  match payload with
  | none => .plain
  | some v => if k = 0 then .mark else if k % 16 = 0 ∧ k ≤ 768 then .bit (bitOf v (48 - k / 16)) else .plain

/-- The high time in half-cycles of the divider input (R362): 25 %, 37.5 % or 62.5 % of the 2 × DIV half-cycles of a period, to the nearest whole
number with ties towards 50 %; else the programmed duty. -/
def wmHigh (x : OutSet) (k : WmCycle) : Nat :=
  match k with
  | .mark => (x.div + 1) / 2
  | .bit false => (3 * x.div + 2) / 4
  | .bit true => (5 * x.div + 1) / 4
  | .plain => highHalves x

/-- The high time of cycle `k` of the present tick at the pads of output `n`, in half-cycles of the divider input. With DIV = 1 the output is the
divider input itself (R343). -/
def cycleHigh (s : State) (n k : Nat) : Nat := wmHigh (setNow s n) (wmCycle (vat s.outs n).wmSending k)

/-! ## The programmed delay (R344) -/

/-- The frequency in Hz of the clock whose half-cycles COARSE counts: the VCO for APLL sources, the FOD output for FOD sources; XO and REF sources
have no coarse delay. -/
def coarseHz (s : State) (x : OutSet) : Rat :=
  match x.sel with
  | 0 | 1 => vcoNom s.act x.sel
  | 2 => ((vat s.fods x.idx).curFreq : Rat) / 65536
  | _ => 0

/-- D_prog of output `n` with the settings in force, in seconds: COARSE half-cycles, and the present fine delay of 1.25 ps (typical) a step. -/
def progDelay (s : State) (n : Nat) : Rat :=
  let x := setNow s n
  let f := coarseHz s x
  (if f = 0 then 0 else (x.coarse : Rat) / (2 * f)) + ((vat s.outs n).fineNow : Rat) * 125 / 10 ^ 14

/-- The rising edge `k` of output `n` after a whole second of its timescale, in seconds, where its phase is deterministic: S + k × T_out + D_prog
(R314). -/
def risingEdge (s : State) (n k : Nat) : Rat := (k : Rat) / freqNow s n + progDelay s n

end Sys2Proof.Machine
end

