-- ==== Sys2Proof/WellFormed.lean ====
section
/-!
DEFINITION. Sys2Proof/WellFormed.lean: the checks on a command's operands that its type does not make.
-/
namespace Sys2Proof

/-- A cell carries what the layout of R387 has room for. -/
def Cell.wf (c : Cell) : Bool :=
  decide (c.typ < 16) && decide (c.ver < 4) && decide (c.txPort < 2) && decide (c.net < 2) && decide (c.src < 32) &&
  decide (c.dst < 64) && decide (c.hops < 32) && decide (c.seq < 65536) && decide (c.payload.length = 21)

/-- A frame carries at least one data word (R531). -/
def frameWf (n : Nat) : Bool := decide (0 < n)

/-- A long tick report names jobs of the budget table only (R70: rows 0 to 20). -/
def PhaseReport.wf (r : PhaseReport) : Bool :=
  r.used.all (fun p => decide (p.1 < 21)) && r.unfinished.all (fun p => decide (p.1 < 21))

/-- Well-formed commands: the cells, frames and reports they carry are. -/
def Instr.wf : Instr → Bool
  | .timeCell _ c _ | .qlCell _ c | .stateCell _ c | .safeCell _ c | .eyeCell _ c | .propose _ c | .go _ c | .abortDc _ c
  | .ready _ c | .refused _ c | .applied _ c | .notApplied _ c => c.wf
  | .writeReg _ ws | .writeMap _ ws => frameWf ws.length
  | .readReg _ n _ | .readMap _ n _ => frameWf n
  | .evaluatePhase r | .dispatchPhase r => r.wf
  | _ => true

end Sys2Proof
end

