-- ==== Sys2Proof/Tests/Slice0.lean ====
section
/-!
SUPPORT. Sys2Proof/Tests/Slice0.lean: small tests: states that meet the hypotheses of the statements, well-formedness, and values that
the spec works out.
-/
namespace Sys2Proof.Tests
open Sys2Proof.Machine

/-! ## States -/

/-- Configuration words set to values. -/
def withCfg (l : List (Nat × Nat)) (s : State) : State :=
  { s with cfg := { s.cfg with active := l.foldl (fun c p => sput (resetWordW p.1) (Word.ofN p.2) p.1 c) s.cfg.active } }

/-- A parameter image in use. -/
def withPar (m : ParImage) (s : State) : State := s.onSafe fun f => { f with par := m, hasPar := true }

/-- Out of reset and BOOT, with CORE off; and 2,000 s of bench time later with CORE ON, at GUARD of a tick. -/
def sServed : State :=
  (State.reset.onPwr fun p => { p with resetHeld := 0, resetClass := 1, bootDone := true, xoValid := true }).onMode fun m => { m with mode := .setup }
def sCore : State :=
  let s := { sServed with dplls := vmap (fun _ (d : Dpll) => { d with timescale := 2000 * secB }) sServed.dplls }
  (s.onPwr fun p => { p with ctrl := 1, core := .on }).onTime fun t =>
    { t with running := true, tickSeq := 100, bench := 2000 * secB, tickEdge := 2000 * secB }

/-- Both channels' time is the second argument's where it is given, in 0.1 ns. -/
def chans (clkP clkH : Nat) (f : SafeChan → SafeChan) (s : State) : State :=
  s.onSafe fun x => { x with p := { f x.p with clk := clkP }, h := { f x.h with clk := clkH } }

def sHeld (k cls : Nat) : State := State.reset.onPwr fun p => { p with resetHeld := k, resetClass := cls }
def sBoot : State := sServed.onPwr fun p => { p with booting := true, bootWait := true, bootDone := false, xoValid := false }
def sBootCore : State := sCore.onPwr fun p => { p with booting := true, bootDone := false }
def sLow : State := sServed.onPwr fun p => { p with supplyLow := true, warn33 := true }
def sRamp : State := sServed.onPwr fun p => { p with ctrl := 1, core := .ramping }
def sSynRamp : State := sCore.onPwr fun p => { p with ctrl := 3, syn := .ramping }
def sDown : State := sCore.onPwr fun p => { p with downQueue := [.core] }
def sReq (op : OpMode) : State := sCore.onMode fun m => { m with pendingOp := some op, pendingTick := 99 }
def sPowering : State := sServed.onPwr fun p => { p with shut := .powering }
def sMaint : State := sCore.onMode fun m => { m with opmode := .maintenance }
def sPhase (ph : Phase) : State := sCore.onTime fun t => { t with phase := ph }

/-- Eyelet `n` is in service, and an edge of it on gate 0 is live; the same of window `w`. -/
def sEye (n : Nat) : State :=
  withCfg [(eyeBase n, 1)] (sCore.onEye n fun x => { x with edges := [{ (default : EyeEdge) with time := sCore.now, stage := .live, action := 5 }] })
def sWin (w : Nat) : State := sCore.onWin w fun x => { x with edges := [{ (default : WinEdge) with time := sCore.now, stage := .live }] }
def sTio (pin k : Nat) : State :=
  withCfg [(tioBase pin, 1), (tioBase pin + 1, 3)] (sCore.onTio pin fun x => { x with pulseEnd := some 0, fifo := List.replicate k default })

/-- Every timer of source `n`, of 10 MHz, has run out; and a source whose gates begin only now. -/
def sSrc (n : Nat) : State :=
  let s := (chans 10000000 10000000 id sCore).onSrc n fun x => { (default : Source) with
    qual := .holdOff, gateClean := true, hitEdges := 64, accQl := some x.candQl, inbandAt := 0 }
  let s := s.onDpll 3 fun x => { x with wtrStart := vupd x.wtrStart n fun _ => some 0 }
  withCfg [(refBase n + 1, 1), (refBase n + 3, 0x9680), (refBase n + 4, 0x98), (refBase n + 7, 1)] s
def sSrcNew (n : Nat) : State := (sSrc n).onSrc n fun x => { x with gateFrom := sCore.now }

/-- DPLL `d` runs in RUN, in a loop state on source 0, in EVALUATE; its detector has met what the state waits for. -/
def sDpll (d : Nat) (loop : LoopState) : State :=
  withCfg [(dpllBase d, 1)] (((sPhase .evaluate).onMode fun m => { m with opmode := .run, mode := .acquire }).onDpll d fun x =>
    { x with loop := loop, stage := 7, sel := some 0, lockMet := loop == .acquire, unlockMet := loop == .locked })
def sDwell : State := (sDpll 3 .acquire).onDpll 3 fun x => { x with stage := 0, lockSince := some 0, hostWrite := some 0 }
/-- DPLL0 with a feedback of 10 MHz that has been silent for 1 ms, its readings stuck; and one that lost its source in this tick. -/
def sFb (f : FbState) : State :=
  withCfg [(dpllBase 0 + 0x12, 1), (dpllBase 0 + 0x14, 0x9680), (dpllBase 0 + 0x15, 0x98), (dpllBase 0 + 0x16, 1)]
    ((chans 10000000 10000000 id (sDpll 0 .locked)).onDpll 0 fun x =>
      { x with fb := f, fbSame := 64, fbMove := 300, fbGood := 64, fbVaried := true })
def sFbLost : State := (sFb .ok).onDpll 0 fun x => { x with loop := .holdover, lostTick := some 100, fbSame := 0 }
def sAdopt : State := withCfg [(dpllBase 0 + 0x18, 2)] ((sDpll 0 .locked).onDpll 0 fun x => { x with adoptDue := true, tickDiff := 1 })
def sModel : State :=
  withCfg [(modelBase + 8, 0x9000)] (sCore.onModel fun m => { m with samples := [(2500, 2500)], minDue := List.replicate 30 default })

def sModelRun : State := sModel.onTime fun t => { t with phase := .dispatch }

/-- APLL `n` in a state, with SYN ON in RUN. -/
def sApll (n : Nat) (st : ApllState) : State :=
  let s := (sCore.onMode fun m => { m with opmode := .run, mode := .freerun }).onPwr fun p => { p with syn := .on }
  withCfg [(apllBase n, 1)] ((s.onSpll fun x => { x with lock := true }).onApll n fun x =>
    { x with st := st, secondTry := st == .locking, delayDue := st == .run && n == 0 })
/-- Output 22 is to start on APLL `n` now. -/
def sApllOuts (n : Nat) (st : ApllState) : State :=
  let s := ((sApll n st).onPwr fun p => { p with outh := .on }).onApll n fun x => { x with readyAt := sCore.now }
  withCfg [(outBase 22, 1), (outBase 22 + 1, 0x2000 * n)] (s.onOut 22 fun x => { x with startAt := some sCore.now })
def sEpoch : State := (sApll 1 .run).onOut 22 fun x =>
  { x with changePending := true, epochAt := some (sCore.now + 5), epochFor := 9, cur := { x.cur with sel := 1 } }
/-- FOD 7 is to start on the timescale of DPLL3 at `at_`, output 23 on the XO now; output 22 on the XO has a change before it. -/
def sFodAt (at_ : Nat) : State :=
  let s := (sApll 0 .run).onPwr fun p => { p with outl := .on, outh := .on }
  let s := s.onFod 7 fun f => { f with readyAt := some at_ }
  let s := s.onOut 22 fun x => { x with changePending := true, cur := { x.cur with sel := 3 } }
  withCfg [(fodBase 7, 2), (outBase 0, 1), (outBase 0 + 1, 0x4007), (outBase 23, 1), (outBase 23 + 1, 0x6000), (outBase 23 + 2, 1)] s
def sFod : State := sFodAt sCore.now
def sFodLate : State := sFodAt (sCore.now + sec16)
def sFodRun : State := sFod.onFod 7 fun f => { f with run := true, curDpll := 1, curFreq := 1, epochAt := some (sCore.now + 5) }

/-- A cell of a type for this hub, from another one on network B. -/
def cellOf (typ : Nat) : Cell :=
  { idleCell with typ := typ, ver := 1, net := 1, src := 5, dst := 0, payload := List.replicate 21 0,
                  scope := if typ = 7 then .unicast else if typ ≤ 2 then .link else .broadcast }
/-- Port `p` in service with lock and `k` cells waiting; with none it carries safety and a SAFE cell waits to be sent. -/
def sPort (p k : Nat) : State :=
  let s := sCore.onPort p fun x => { x with
    cellLock := true, rxq := List.replicate k { cell := cellOf 1, arrival := 0, clk := 0 }, reportedHeld := some (if k = 0 then .up else .down)
    safeq := if k = 0 then [{ cell := cellOf 3, order := 0, since := 0, fwd := false }] else [] }
  withCfg [(laceBase p, 1)] { s with opers := { s.opers with ports := vupd s.opers.ports p fun _ => .up } }
/-- A TIME cell waits on port 3, which carries no safety. -/
def sPortTx : State :=
  (sPort 3 16).onPort 3 fun x => { x with txq := [{ cell := cellOf 1, order := 0, since := 0, fwd := false }] }
def sNew : State := sCore.onPort 3 fun x => { x with window := some sCore.now }
def sOld : State :=
  (sCore.onPort 3 fun x => { x with window := some 0, reportTick := some 0, wiringUntil := some 64, conflictUntil := some 64 }).onLace fun x =>
    { x with mismatchA := some 64, mismatchB := some 64, adoptSec := some (-1, 0) }

def sTxn (st : TxnState) : State :=
  ((sCore.onTxn fun x => { x with st := st, owner := some .hb, at_ := 64000100, atSec := 2001 }).onHost .hb fun h => { h with winAddr := 0x16C }).onLace
    fun x => { x with role := if st = .agreed then .participant else .none }
/-- Its owner has been idle for longer than a timeout of 0. -/
def sIdleTxn : State := chans 1 0 id ((sTxn .opened).onTxn fun x => { x with timeout := 0, touchAt := some 0 })
def sDc (st : TxnState) : State :=
  ((sPhase .evaluate).onTxn fun x => { x with st := st, owner := some .hb }).onLace fun x => { x with
    role := if st = .prepared then .participant else .originator, dcTarget := sCore.curTick, splitAt := some 0, dcMask := 2 ^ 31 }

/-! Safety -/

/-- Both channels hold group `n` in a state. -/
def grpIn (n : Nat) (st : SafeState) (f : ChanGroup → ChanGroup) (x : SafeChan) : SafeChan :=
  { x with grps := vupd x.grps n fun g => f { g with st := st } }

/-- Inputs 7 and 6 EQUIVALENT (6 with test pulses), input 0 ACK; line A of input 7 inactive for channel H for 1 s. -/
def sInputs : State :=
  let s := withPar [(0x50, 3), (0x51, 4), (0x80, 0x201), (0x81, 4), (0x88, 1), (0x89, 4)] sCore
  let s := chans cS cS (fun x => { x with ins := vupd x.ins 0 fun y => { y with lvlA := true, waitSince := some 0 } }) s
  let s := s.onChIn .p 7 fun y => { y with lvlA := true, lvlB := true, st := .closed }
  s.onChIn .h 7 fun y => { y with lvlB := true, waitSince := some 0 }

/-- A pulse on TPA has been judged, and one on TPB is due. -/
def sPulseB : State := sInputs.onSafe fun f => { f with tpAt := vupd f.tpAt 0 fun _ => some 0 }
/-- Input 0 filters over 3 ms. -/
def sFilter : State := withPar [(0x52, 3000)] sCore

/-- Group 3 stops by SS1-r on axis 1, group 0 by SS1-t; channel P's clock is at T_MAX. -/
def sStop : State :=
  let s := withPar [(0x10, 1), (0x17, 10), (0x40, 0x205), (0x44, 10), (0x45, 1), (0x46, 1000), (0xA1, 1), (0xA4, 4), (0xA5, 1), (0xA6, 1)] sCore
  let s := chans (2 * cS) (20 * cMs) (grpIn 0 .stopping fun g => { g with fn := .ss1t }) s
  let s := chans (2 * cS) (20 * cMs) (grpIn 3 .stopping fun g => { g with fn := .ss1r, belowSince := some 0 }) s
  s.onChan .h fun x => { x with encs := vupd x.encs 2 fun e => { e with speed := 5, zRef := some 0 }, axDiff := vupd x.axDiff 1 fun _ => some 0 }

/-- Group 3 SINGLE_HDC in READY; each channel has seen no update for 1 s. -/
def sCheck : State := chans cS cS (grpIn 3 .ready id) (withPar [(0x40, 2)] sCore)
def sEdm : State :=
  chans cS cS (grpIn 0 .safeOff fun g => { g with edm := false, edmWin := some { kindOn := false, start := 0 } }) (withPar [(0x10, 0x801), (0x18, 10), (0x19, 10)] sCore)
def sDeg : State := chans cS cS (grpIn 3 .degraded fun g => { g with degTime := cS }) (withPar [(0x40, 1), (0x4A, 1)] sCore)
def sLocked : State := chans (4 * cS) (4 * cS) (grpIn 0 .lockout id) sCore
/-- A lockout clear runs for group 3; receiver 7 has had no copy for longer than its watchdog. -/
def sClear : State :=
  (chans cS cS (grpIn 3 .lockout id) (withPar [(0x40, 1), (0xF8, 1), (0xFB, 1)] sCore)).onSafe fun f => { f with clearing := true, clearOk := 8 }

/-! Host interface, operations, security -/

/-- HB has opened TS_HEAD of pin 15 on the one entry of its FIFO. -/
def sHead : State :=
  (sTio 15 1).onHost .hb fun h => { h with latched := some (tioBase 15 + 8), rolHold := [(tioBase 15 + 8, 0x8000)] }
def theOp (st : OpState) (code ticket : Nat) : LongOp :=
  { ticket := ticket, issuer := some .hb, code := code, arg0 := 0, arg1 := 0, st := st, result := 0, cause := 0, tick := 0, abortIgnored := false,
    aborting := false, doneAt := 2000 * secB, data := [], echoSeq := 0 }
/-- `n` operations of HB in a state, in EVALUATE; with none, one that has just finished. -/
def sOps (n : Nat) (st : OpState) (code : Nat) : State :=
  { (sPhase .evaluate).onSec (fun x => { x with challenge := some .hb }) with
    opq := (List.range n).map (theOp st code), oph := if n = 0 then [theOp st code 0] else [] }
def sStopping : State := { sPhase .evaluate with opq := [{ theOp .running 0x06 0 with aborting := true }] }
def sSaves : State :=
  (sCore.onModel fun m => { m with learnedSince := true, xoAge := 200000, retryAt := some 86400 }).onLog fun l => { l with buf := [default] }
def sWaits : State := State.reset.onPwr fun p => { p with resetWaits := true }
def sCnt : State := withCfg [(cntBase 15, 0x100)] (sCore.onCnt 15 fun c => { c with value := 2 ^ 48 - 1 })
/-- HB's session in FIELD, idle for 900 s, with its challenge outstanding. -/
def sSess : State :=
  chans (sessionTicks + 1) 0 id (sCore.onSec fun x => { x with field := true, session := some .hb, ptr := 15, challenge := some .hb, delay := some 0 })
/-- Its buffer has just been cleared by an operation. -/
def sWiped : State := sSess.onSec fun x => { x with challenge := none, bufWas := some (sSess.time.bench, x.buf) }
def sChal : State := sCore.onSec fun x => { x with challenge := some .hb, chalEnd := 1, delay := some 1 }
def sDebug : State := sCore.onSec fun x => { x with dbg := 2 }
def sKey : State := { State.reset with otp := { State.reset.otp with keySet := true, policy := 8, lock := vupd State.reset.otp.lock 3 fun _ => 0x8000 } }

theorem inv_reset : BlockInv State.reset := ⟨by decide, by decide, by decide, by decide, by decide, by decide, by decide, by decide, by decide⟩
theorem inv_sHead : BlockInv sHead := ⟨by decide, by decide, by decide, by decide, by decide, by decide, by decide, by decide, by decide⟩
theorem inv_sSaves : BlockInv sSaves := ⟨by decide, by decide, by decide, by decide, by decide, by decide, by decide, by decide, by decide⟩

/-! ## Every hypothesis of a statement is met somewhere -/

theorem witness_ResetSourceHoldsDevice :
    sServed.inReset = false ∧ bitOf sCore.pwr.ctrl 0 = true ∧ sCore.inReset = false ∧ sServed.served = true ∧ sServed.pwr.shut ≠ .ended ∧
      sServed.safeEnergy = false := by decide

theorem witness_ReleaseStartsBoot :
    State.reset.pwr.resetHeld ∈ [1, 3, 5, 7] ∧ State.reset.pwr.resetWaits = false ∧ State.reset.pwr.resetClass ≠ 0 ∧
      (sHeld 6 1).pwr.resetHeld = 2 * b2n true + 4 * b2n true ∧ (sHeld 2 1).pwr.resetHeld = 2 * b2n true + 4 * b2n false ∧ (sHeld 6 1).pwr.resetWaits = false ∧ (sHeld 6 1).pwr.resetClass ≠ 0 ∧
      (sHeld 8 1).pwr.resetHeld = 8 ∧ (sHeld 8 1).pwr.resetWaits = false ∧ (sHeld 8 1).pwr.resetClass ≠ 0 ∧
      (sHeld 16 0).pwr.resetHeld = 16 ∧ (sHeld 16 0).pwr.resetWaits = false ∧ (sHeld 16 0).pwr.resetClass = 0 := by decide

theorem witness_BootRuns :
    sBoot.pwr.booting = true ∧ sBoot.pwr.bootWait = true ∧ sBoot.pwr.xoValid = false ∧
      sBootCore.pwr.booting = true ∧ sBootCore.pwr.bootWait = false ∧ sBootCore.coreOn = true := by decide

theorem witness_SupplyWarningsAndRailMonitors :
    sServed.inReset = false ∧ sServed.pwr.supplyLow = false ∧ sServed.pwr.booting = false ∧ sServed.pwr.shut ≠ .ended ∧
      sLow.pwr.supplyLow = true := by decide

theorem witness_PwrCtrlWriteAndRefusal :
    sServed.served = true ∧ sServed.pwr.shut ≠ .ended ∧ pwrRefused sServed 0xF = false ∧ 0xF ≠ sServed.pwr.ctrl ∧
      pwrRefused sServed 0xE = true := by decide

theorem witness_DomainsPowerUpAndDown :
    domainState sRamp.pwr .core = .ramping ∧ (∀ q ∈ sRamp.pwr.upQueue, q.1 ≠ .core) ∧ sRamp.pwr.xoValid = true ∧
      domainState sSynRamp.pwr .syn = .ramping ∧ (∀ q ∈ sSynRamp.pwr.upQueue, q.1 ≠ .syn) ∧ sSynRamp.coreOn = true ∧
      domainState sCore.pwr .core = .on ∧ sDown.pwr.downQueue ≠ [] ∧ sDown.time.phase = .guard := by decide

theorem witness_ModeRequestsWaitForTheBoundary :
    sServed.served = true ∧ sServed.pwr.shut ≠ .ended ∧ sServed.mode.opmode = .setup ∧
      sCore.served = true ∧ sCore.pwr.shut ≠ .ended ∧
      reqRefusal sCore .run = none ∧ reqRefusal sCore .bypass = none ∧ reqRefusal sCore .maintenance = none ∧
      reqRefusal sServed .run = some ccCoreOff := by decide

theorem witness_ModeRequestsWaitForTheBoundary_2 :
    (sReq .run).mode.pendingOp = some .run ∧ (sReq .run).coreOn = true ∧ (sReq .run).time.running = true ∧
      (sReq .run).mode.pendingTick < (sReq .run).time.tickSeq ∧ (sReq .run).mode.opmode ≠ .run ∧ modeGuard (sReq .run) .run = true ∧
      State.reset.time.tickSeq ≤ State.reset.mode.pendingTick := by decide

theorem witness_ShutdownSequence :
    sServed.served = true ∧ sServed.pwr.shut = .none ∧ sServed.safeEnergy = false ∧ sServed.pwr.supplyLow = false ∧
      sPowering.pwr.shut = .powering ∧ (∀ d, domainState sPowering.pwr d = .off) ∧ sPowering.pwr.supplyLow = false ∧
      sPowering.runningOp = none ∧ sPowering.served = true ∧ sLow.served = true ∧ sLow.pwr.shut = .none ∧ sLow.pwr.supplyLow = true := by
  refine ⟨by decide, by decide, by decide, by decide, by decide, fun d => by cases d <;> decide, by decide, by decide, by decide, by decide, by decide, by decide⟩

theorem witness_DeckleAndWholeSeconds :
    sCore.coreOn = true ∧ sCore.inReset = false ∧ sCore.pwr.booting = false ∧ sCore.time.running = true ∧ sCore.time.phase = .guard ∧
      (sPhase .sample).coreOn = true ∧ (sPhase .sample).time.running = true ∧ (sPhase .sample).time.phase = .sample ∧
      (sPhase .evaluate).time.phase = .evaluate ∧ (sPhase .dispatch).time.phase = .dispatch ∧ rng 5 13 13 = true ∧ rng 14 20 14 = true := by
  decide

theorem witness_DeckleAndWholeSeconds_2 : sCore.servedCore = true := by decide

theorem witness_EyeletCommandsAndFiring :
    sCore.servedCore = true ∧ firingNow sCore 31 = false ∧ firingNow (sEye 31) 31 = true ∧ (sEye 31).servedCore = true ∧
      (sEye 31).coreOn = true ∧ (∃ e, eyeNext (sEye 31) 31 = some e ∧ inTick (sEye 31) e.time = true) ∧
      (∃ g r, unitEdge (sEye 31) 39 = some (some g, r) ∧ firstOn (sEye 31) g = some 39) ∧ eyeOper (sEye 31) 31 = .up := by
  refine ⟨by decide, by decide, by decide, by decide, by decide, ⟨_, rfl, by decide⟩, ⟨(true, 0), _, rfl, by decide⟩, by decide⟩

theorem witness_WindowEdgesMoveTheirGate :
    (sWin 7).coreOn = true ∧ ∃ e, winNext (sWin 7) 7 = some e ∧ inTick (sWin 7) e.time = true := by
  refine ⟨by decide, _, rfl, by decide⟩

theorem witness_TioEdgesAreStamped :
    (sTio 15 0).coreOn = true ∧ tioOper (sTio 15 0) 15 = .up ∧ tioWants (tioMode (sTio 15 0) 15) true = true ∧
      within8ns (vat (sTio 15 0).tios 15).lastEdge (crossTime (sTio 15 0) 159) = false ∧ (vat (sTio 15 0).tios 15).fifo.length < 16 ∧
      16 ≤ (vat (sTio 15 16).tios 15).fifo.length ∧ (∃ e, (vat (sTio 15 0).tios 15).pulseEnd = some e ∧ inTick (sTio 15 0) e = true) := by
  refine ⟨by decide, by decide, by decide, by decide, by decide, by decide, _, rfl, by decide⟩

theorem witness_FrequencyAndActivityMonitors :
    (sSrc 0).coreOn = true ∧ seesEdges (sSrc 0) 0 = true ∧ gateFresh (sSrc 0) 0 ∧ ¬ gateFresh (sSrcNew 0) 0 ∧
      (vat (sSrc 0).srcs 0).actAlarm = false ∧ actPassed (sSrc 0) 0 ((sSrc 0).safe.p.clk - (vat (sSrc 0).srcs 0).lastEdge) = true ∧
      seesEdges (sSrc 11) 11 = false ∧ gateFresh (sSrc 11) 11 ∧ (sSrc 11).coreOn = true := by
  decide

theorem witness_HoldoffWtrAndQlTimers :
    (sSrc 0).coreOn = true ∧ (vat (sSrc 0).srcs 0).qual = .holdOff ∧ inTick (sSrc 0) (holdEnd (sSrc 0) 0) = true ∧
      holdElapsed (sSrc 0) 0 = true ∧ portUp (sSrc 0) 0 = true ∧
      (vat (sSrc 0).srcs 0).gateClean = true ∧ vat (vat (sSrc 0).dplls 3).wtrStart 0 = some 0 ∧ (sSrc 0).time.phase ≠ .sample ∧
      0 + fWtr.val (sSrc 0).act (dpllBase 3) * sec16 ≤ (sSrc 0).now ∧
      (vat (sSrc 0).srcs 0).accQl ≠ none ∧ (vat (sSrc 0).srcs 0).qlExpired = false ∧
      (vat (sSrc 0).srcs 0).inbandAt + fQlTimeout.val (sSrc 0).act (srcBase 0) * ms16 ≤ (sSrc 0).now ∧
      (sPhase .sample).time.phase = .sample := by decide

theorem witness_WatermarkDecoder :
    (sSrc 7).coreOn = true ∧ fDecode.on (sSrc 7).act (refBase 7) = true ∧ fInMode.val (sSrc 7).act (refBase 7) ≠ 0 := by decide

theorem witness_WatermarkDecoder_payloads : wmGood 0x1230D40108CF true = true ∧ wmGood 0x1230D40108CE true = false := by decide +kernel

theorem witness_LockAndUnlockAreDeclared :
    canDeclare (sDpll 3 .acquire) 3 = true ∧ (sDpll 3 .acquire).time.phase = .evaluate ∧ lockDue (vat (sDpll 3 .acquire).dplls 3) = true ∧
      (vat (sDpll 3 .acquire).dplls 3).unlockTick ≠ some (sDpll 3 .acquire).time.tickSeq ∧
      (vat (sDpll 3 .acquire).dplls 3).switchTick ≠ some (sDpll 3 .acquire).time.tickSeq ∧
      sCore.time.phase ≠ .evaluate ∧ canDeclare (sDpll 0 .locked) 0 = true ∧ (sDpll 0 .locked).time.phase = .evaluate ∧
      (vat (sDpll 0 .locked).dplls 0).unlockMet = true ∧ (vat (sDpll 0 .locked).dplls 0).loop = .locked := by decide

theorem witness_AcquisitionTimersOfADpll :
    dpllRuns sDwell 3 = true ∧ (vat sDwell.dplls 3).loop = .acquire ∧ (vat sDwell.dplls 3).stage < 4 ∧
      (vat sDwell.dplls 3).lockSince = some 0 ∧ 0 + (fStageDwell (vat sDwell.dplls 3).stage).val sDwell.act (dpllBase 3) * ms16 ≤ sDwell.now ∧
      (vat sDwell.dplls 3).acqTimedOut = false ∧ (vat sDwell.dplls 3).acqStart + fAcqTimeout.val sDwell.act (dpllBase 3) * sec16 < sDwell.now ∧
      sDwell.coreOn = true ∧ (vat sDwell.dplls 3).hostWrite = some 0 ∧ 0 + fWdog.val sDwell.act (dpllBase 3) * ms16 ≤ sDwell.now := by decide

theorem witness_ExternalFeedbackState :
    fbWatched (sFb .ok) 0 = true ∧ fbSilent (sFb .ok) 0 4 = true ∧ fbStuck (sFb .ok) 0 = true ∧ fbJustLost (sFb .lost) 0 = false ∧
      fbJustLost (sFbLost) 0 = true ∧ fbSilent sFbLost 0 4 = true ∧ fbStuck sFbLost 0 = false ∧
      (sFb .frozen).coreOn = true ∧ (vat (sFb .frozen).dplls 0).fb ≠ .ok ∧ 64 ≤ (vat (sFb .frozen).dplls 0).fbGood ∧
      (vat (sFb .frozen).dplls 0).fbVaried = true := by decide +kernel

theorem witness_HostWordsOfADpll :
    sCore.servedCore = true ∧ ((signedN 48 (0x00746A528800 : BitVec 48).toNat).natAbs : Int) ≤ hostFreqMax ∧
      hostFreqMax < ((signedN 48 (0x00746A528801 : BitVec 48).toNat).natAbs : Int) ∧
      pmWithin sCore 0 (signedN 48 (0x000F42400000 : BitVec 48).toNat) ∧ ¬ pmWithin sCore 0 (signedN 48 (0x000F42400001 : BitVec 48).toNat) := by
  decide

theorem witness_TickNumberAdoptionAndPhaseHits :
    sAdopt.coreOn = true ∧ (vat sAdopt.dplls 0).adoptDue = true ∧ fTicknum.val sAdopt.act (dpllBase 0) = 2 ∧
      secondsDue sAdopt = false ∧ secondsDue (withCfg [(0x10F, 1)] sAdopt) = true ∧
      hitFound (sSrc 0) 0 63000 200000000 = true ∧ hitFound (sSrc 0) 0 63000 1000 = false := by decide

theorem witness_TemperatureAndLearning :
    sModel.coreOn = true ∧ fTsEn.on sModel.act modelBase = true ∧ sModel.model.samples ≠ [] ∧ fTsEn.on sCore.act modelBase = false ∧
      tsReading sModel.act (-6001) < -6000 ∧ 16000 < tsReading sModel.act 16001 := by decide +kernel

theorem witness_TemperatureAndLearning_2 :
    spareCycles sModelRun = true ∧ 30 ≤ sModelRun.model.minDue.length ∧ sCore.model.minDue.length < 30 ∧ spareCycles sModel = false := by decide

theorem witness_BandSearchesOfAnApll :
    (sApll 1 .run).servedCore = true ∧ searchable (sApll 1 .run) 1 = true ∧ (sApll 1 .run).pwr.supplyLow = false ∧
      (vat (sApll 1 .run).aplls 1).st ≠ .search ∧ (vat (sApll 1 .run).aplls 1).st ≠ .locking ∧
      searching (sApll 1 .search) 1 = true ∧ (vat (sApll 1 .search).aplls 1).secondTry = false ∧
      searching (sApll 0 .locking) 0 = true ∧ (vat (sApll 0 .locking).aplls 0).secondTry = true := by decide

theorem witness_AlignmentAndLossOfLock :
    (vat (sApll 1 .aligning).aplls 1).st = .aligning ∧ (sApll 1 .run).servedCore = true ∧ (vat (sApll 1 .run).aplls 1).st = .run ∧
      (vat (sApll 0 .run).aplls 0).delayDue = true ∧ searchable (sApll 0 .run) 0 = true ∧ (sApll 0 .run).pwr.supplyLow = false ∧
      (sApll 0 .run).spll.lock = true := by decide

theorem witness_EpochsStartAndChangeOutputs :
    sServed.coreOn = false ∧ (sApllOuts 1 .waitEpoch).coreOn = true ∧ (vat (sApllOuts 1 .waitEpoch).aplls 1).st = .waitEpoch ∧
      (sApllOuts 1 .waitEpoch).apllsRun = true ∧ (sApllOuts 1 .waitEpoch).synOn = true ∧ (sApllOuts 1 .waitEpoch).pwr.bor18 = false ∧
      tsInTick (sApllOuts 1 .waitEpoch) 1 (apllStartAt (sApllOuts 1 .waitEpoch) 1) = true ∧
      inService (sApllOuts 1 .waitEpoch).act (apllBase 1) = true ∧ (sApllOuts 1 .waitEpoch).underTest 3 1 = false ∧
      (cfgSet (sApllOuts 1 .waitEpoch).act 22).sel = 1 ∧ outDrives (sApllOuts 1 .waitEpoch) 22 = true ∧
      (sApllOuts 1 .waitEpoch).underTest 4 22 = false := by decide +kernel

theorem witness_EpochsStartAndChangeOutputs_2 :
    (vat (sApllOuts 1 .run).aplls 1).st = .run ∧ (sApllOuts 1 .run).apllsRun = true ∧ (sApllOuts 1 .run).synOn = true ∧
      (sApllOuts 1 .run).pwr.bor18 = false ∧ (cfgSet (sApllOuts 1 .run).act 22).sel = 1 ∧ mayStart (sApllOuts 1 .run) 22 = true ∧
      (vat (sApllOuts 1 .run).outs 22).startAt = some sCore.now ∧ tsInTick (sApllOuts 1 .run) 1 sCore.now = true ∧
      (∀ j : Fin 24, (cfgSet (sApllOuts 1 .run).act j).sel = 1 → mayStart (sApllOuts 1 .run) j = true →
        sCore.now ≤ ((vat (sApllOuts 1 .run).outs j).startAt).getD 0) ∧ (vat (sApll 1 .fault).aplls 1).st = .fault := by decide

theorem witness_EpochsStartAndChangeOutputs_3 :
    sFod.coreOn = true ∧ fFodDpll.val sFod.act (fodBase 7) = 1 ∧ fodCanRun sFod 7 = true ∧ (vat sFod.fods 7).run = false ∧
      tsInTick sFod 3 (fodsStartAt sFod 1) = true ∧ fodStartAt sFod 7 ≤ fodsStartAt sFod 1 ∧ tsInTick sFodLate 3 (fodsStartAt sFodLate 1) = false ∧
      mayStart sFod 23 = true ∧ tsInTick sFod (outTs sFod (cfgSet sFod.act 23)) (((vat sFod.outs 23).startAt).getD 0) = true ∧
      mayStart sCore 23 = false := by decide +kernel

theorem witness_EpochsStartAndChangeOutputs_4 :
    apllEpochDue sEpoch 1 = true ∧ apllEpoch sEpoch 1 = some (sCore.now + 5, 9) ∧ sEpoch.coreOn = true ∧
      (vat sEpoch.outs 22).changePending = true ∧ (vat sEpoch.outs 22).cur.sel = 1 ∧ (vat sEpoch.outs 22).epochAt = some (sCore.now + 5) ∧
      (vat sEpoch.outs 22).epochFor = 9 ∧ (vat sEpoch.outs 22).ownReload = false ∧ apllEpochDue (sApll 1 .run) 1 = false ∧
      fodsEpochDue sFodRun 1 = true ∧ fodsEpoch sFodRun 1 = some (sCore.now + 5) ∧ fodOn sFodRun 1 7 = true ∧
      (vat sFodRun.fods 7).epochAt = some (sCore.now + 5) ∧ sFodRun.coreOn = true ∧ fodsEpochDue sCore 1 = false ∧
      (vat sFod.outs 22).changePending = true ∧ (vat sFod.outs 22).epochAt = none ∧ 3 ≤ (vat sFod.outs 22).cur.sel ∧
      (vat sCore.outs 22).changePending = false := by decide +kernel

theorem witness_XoCfgWrittenBeforeCore : BlockInv sServed ∧ sServed.writable = true ∧ sServed.coreOn = false := by
  refine ⟨⟨by decide, by decide, by decide, by decide, by decide, by decide, by decide, by decide, by decide⟩, by decide, by decide⟩

theorem witness_ReceivedCellWaitsForEvaluate :
    (∀ typ ∈ [1, 2, 4, 5, 6, 7], cellRows 3 (cellOf typ) 799 ≠ [] ∧ cellAccepted (sPort 3 15) 3 (cellOf typ) = true) ∧
      (vat (sPort 3 15).ports 3).rxq.length < 16 ∧ 16 ≤ (vat (sPort 3 16).ports 3).rxq.length ∧
      cellAccepted (sPort 3 16) 3 (cellOf 1) = true := by decide

theorem witness_SafeCellGoesToChannelP :
    cellAccepted (sPort 3 0) 3 (cellOf 3) = true ∧ carries (sPort 3 0) 3 = true ∧ cellAccepted (sPort 3 16) 3 (cellOf 3) = true ∧
      carries (sPort 3 16) 3 = false ∧ (sPort 3 0).coreOn = true ∧ (vat (sPort 3 0).ports 3).cellLock = true ∧
      portServes (sPort 3 0) 3 = true ∧ headerOk { cellOf 1 with net := 0 } = true ∧ ({ cellOf 1 with net := 0 } : Cell).net ≠ portNet 3 := by
  decide

theorem witness_PortSlotAndLock :
    (sPort 3 0).servedCore = true ∧ portServes (sPort 3 0) 3 = true ∧ carries (sPort 3 0) 3 = true ∧
      ((vat (sPort 3 0).ports 3).safeq.map fun e => e.cell.typ) = [ctSafe] ∧ portServes (sPort 3 16) 3 = true ∧
      (vat (sPort 3 16).ports 3).safeq = [] ∧ (vat (sPort 3 16).ports 3).txq = [] ∧ portServes (sPort 3 0) 0 = false ∧
      ((txFirst sPortTx (vat sPortTx.ports 3).txq).map fun e => e.cell.typ) = some ctTime ∧ carries sPortTx 3 = false ∧
      portServes sPortTx 3 = true ∧ sPortTx.servedCore = true ∧
      (sPort 3 0).coreOn = true ∧ (vat (sPort 3 0).ports 0).cellLock = false ∧ (vat (sPort 3 0).ports 3).cellLock = true ∧
      sServed.servedCore = false ∧ sServed.coreOn = false := by decide

theorem witness_PortTimersAndCounters :
    sOld.coreOn = true ∧ (vat sOld.ports 3).window = some 0 ∧ 0 + sec16 ≤ sOld.now ∧ (vat sNew.ports 3).window = some sNew.now ∧
      sNew.now < sNew.now + sec16 ∧ sNew.coreOn = true ∧ (vat sOld.ports 3).reportTick = some 0 ∧ 0 + 64 ≤ sOld.time.tickSeq ∧
      (vat sOld.ports 3).wiringUntil = some 64 ∧ (vat sOld.ports 3).conflictUntil = some 64 ∧ 64 ≤ sOld.time.tickSeq ∧
      (vat sCore.ports 3).reportTick = none ∧ (vat sCore.ports 3).wiringUntil = none ∧ (vat sCore.ports 3).conflictUntil = none ∧
      sOld.lace.mismatchA = some 64 ∧ sOld.lace.mismatchB = some 64 ∧ sOld.lace.adoptSec = some (-1, 0) ∧ 0 < sOld.benchSec ∧
      sCore.lace.adoptSec = none ∧ sOld.servedCore = true ∧ sServed.coreOn = false := by decide

theorem witness_TransactionOpensAndCloses :
    sCore.servedCore = true ∧ sCore.writable = true ∧ (sTxn .armed).coreOn = true ∧ sCore.txn.st = .idle ∧ sCore.pwr.shut = .none ∧
      (sTxn .armed).writable = true ∧ (sTxn .armed).txn.owner = some .hb ∧ (sTxn .armed).txn.st = .armed ∧
      (sTxn .agreed).writable = true ∧ (sTxn .agreed).txn.owner = some .hb ∧ (sTxn .agreed).txn.st ≠ .idle ∧
      (sTxn .agreed).lace.role ≠ .originator := by decide

theorem witness_CommitCommandsSetTheBoundary :
    (sTxn .opened).writable = true ∧ (sTxn .opened).coreOn = true ∧ (sTxn .opened).txn.owner = some .hb ∧ (sTxn .opened).txn.st = .opened ∧
      extendTick (sTxn .opened).txn.at_ (sTxn .opened).curTick ≤ (sTxn .opened).curTick + 2 ^ 31 ∧
      extendTick (sTxn .opened).txn.at_ (sTxn .opened).curTick ≠ (sTxn .opened).curTick + 1 ∧
      (sTxn .opened).curTick < atTimeTick (sTxn .opened) ∧ atTimeTick (sTxn .opened) ≤ (sTxn .opened).curTick + 2 ^ 31 ∧
      atTimeTick (sTxn .opened) ≠ (sTxn .opened).curTick + 1 ∧ (sTxn .opened).txn.owner ≠ some .mp := by decide

theorem witness_TransactionDeadlines :
    sIdleTxn.coreOn = true ∧ timeoutRuns sIdleTxn = true ∧ timeoutOver sIdleTxn = true ∧ timeoutOver (sTxn .opened) = false ∧
      (sDc .proposed).coreOn = true ∧ (sDc .proposed).time.phase = .evaluate ∧ (sDc .proposed).txn.st = .proposed ∧
      (sDc .proposed).lace.dcTarget ≤ (sDc .proposed).curTick + dcGuard (sDc .proposed).act ∧
      (sDc .prepared).lace.role = .participant ∧ (sDc .prepared).txn.st = .prepared ∧
      (sDc .prepared).lace.dcTarget ≤ (sDc .prepared).curTick + 1 ∧ (sDc .prepared).lace.splitAt = some 0 ∧ 0 ≤ (sDc .prepared).curTick ∧
      bitOf (sDc .prepared).lace.dcMask 31 = true ∧ (vat (sDc .prepared).lace.acks 31).kind ≠ akApplied ∧
      stateApplied (sDc .prepared) 31 = false := by decide

theorem witness_SafetyInputsAreJudged :
    sInputs.chanRuns .p = true ∧ sInputs.chanRuns .h = true ∧ demands sInputs.image 7 = true ∧ (vat (sInputs.chan .p).ins 7).st ≠ .fault ∧
      lineLevel (vat (sInputs.chan .p).ins 7) 15 ≠ false ∧ lineLevel (vat (sInputs.chan .h).ins 7) 14 ≠ true ∧
      (vat (sInputs.chan .h).ins 7).waitSince = some 0 ∧ 0 + pTDisc sInputs.image 7 * cMs < chanNow sInputs .h ∧
      filterPasses sInputs 7 true false 0 = true ∧ filterPasses sInputs 7 false true 0 = true ∧ filterPasses sFilter 0 false true 2999 = false ∧
      pulseDue sInputs .tpa = true ∧ pulseDue sInputs .tpb = false ∧ pulseDue sPulseB .tpb = true ∧
      pType sInputs.image 0 = 3 ∧ (vat (sInputs.chan .p).ins 0).waitSince = some 0 ∧ 0 + pTDisc sInputs.image 0 * cMs < chanNow sInputs .p ∧
      pTpEn sInputs.image 6 = true ∧ pType sInputs.image 6 ≠ 0 := by decide

theorem witness_EncodersAndClocksAreMonitored :
    sStop.chanRuns .p = true ∧ axisUsed sStop.image 1 = true ∧ sStop.grpUsed 3 = true ∧ pAxis sStop.image 3 = 2 ∧
      axisApart sStop.image (sStop.chan .h) 1 = true ∧ vat (sStop.chan .h).axDiff 1 = some 0 ∧
      0 + pTDiff sStop.image 1 * cMs < (sStop.chan .h).clk ∧ axisApart sStop.image (sStop.chan .p) 1 = false ∧ pZEn sStop.image 1 false = true ∧
      (vat (sStop.chan .h).encs 2).zRef = some 0 ∧ 2 < turnGap (encCpr sStop.image 2) 3 0 ∧ (vat (sStop.chan .p).encs 2).zRef = none ∧
      (vat (sStop.chan .p).encs 2).fault = false ∧
      (vat sStop.safe.h.grps 3).st.active = true := by decide

theorem witness_ChannelsCheckEachOther :
    sCheck.chanRuns .p = true ∧ updatesDue sCheck .p = true ∧ (sCheck.chan .h).word.seq = (sCheck.chan .p).seenSeq ∧
      (sCheck.chan .p).xchkBad = false ∧ (sCheck.chan .p).seenAt + 600 * cUs < (sCheck.chan .p).clk ∧ updatesDue sCheck .h = true ∧
      (sCheck.chan .p).word.seq = (sCheck.chan .h).seenSeq ∧ (sCheck.chan .h).xchkBad = false ∧
      (sCheck.chan .h).seenAt + updateLimit sCheck < (sCheck.chan .h).clk ∧ sCheck.grpUsed 3 = true ∧ pArch sCheck.image 3 = 2 ∧
      (vat (sCheck.chan .p).grps 3).st.active = true := by decide

theorem witness_StopsEndInSafeOff :
    sStop.chanRuns .p = true ∧ (vat (sStop.chan .p).grps 3).st = .stopping ∧ (vat (sStop.chan .p).grps 3).fn = .ss1r ∧
      (vat (sStop.chan .p).grps 3).tStart + pTMax sStop.image 3 * cMs ≤ (sStop.chan .p).clk ∧
      (vat (sStop.chan .h).grps 3).st = .stopping ∧ (vat (sStop.chan .h).grps 3).fn = .ss1r ∧ groupSpeed sStop .h 3 < pVSs sStop.image 3 ∧
      (vat (sStop.chan .h).grps 3).belowSince = some 0 ∧ 0 + pTSs sStop.image 3 * cMs ≤ (sStop.chan .h).clk ∧
      (sStop.chan .h).clk - (vat (sStop.chan .h).grps 3).tStart < pTMax sStop.image 3 * cMs ∧
      (vat (sStop.chan .p).grps 0).st = .stopping ∧ (vat (sStop.chan .p).grps 0).fn = .ss1t ∧
      (vat (sStop.chan .p).grps 0).tStart + pTSs1t sStop.image 0 * cMs ≤ (sStop.chan .p).clk ∧ sStop.grpUsed 3 = true ∧
      stoWrong sStop .p 3 false (.mismatch 2) = true ∧ stoWrong sStop .p 3 true (.quiet 300) = true ∧ stoWrong sLocked .p 0 true .edge = true ∧ stoWrong sStop .p 3 true (.mismatch 2) = false ∧
      sEdm.chanRuns .h = true ∧ sEdm.grpUsed 0 = true ∧ pEdmEn sEdm.image 0 = true ∧ (vat (sEdm.chan .h).grps 0).wasToggling = stoToggles sEdm 0 ∧
      ((vat (sEdm.chan .h).grps 0).edmWin.map (·.start)) = some 0 ∧ (vat (sEdm.chan .h).grps 0).edm = stoToggles sEdm 0 ∧
      (0 + max (pTEdmOn sEdm.image 0) (pTEdmOff sEdm.image 0)) * cMs < (sEdm.chan .h).clk ∧
      sDeg.grpUsed 3 = true ∧ (vat sDeg.safe.h.grps 3).st = .degraded ∧ pTDeg sDeg.image 3 * cS ≤ (vat sDeg.safe.h.grps 3).degTime ∧
      causesOf sDeg .h 3 &&& (maskLock ||| maskDemand ||| maskTelStop) = 0 ∧ followInto sDeg .h 3 = none ∧ modeClass sDeg ≠ .hold := by decide

theorem witness_LockoutClearAndTelegramPaths :
    sLocked.served = true ∧ srstReady sLocked 2970000 100000 = true ∧ srstReady sLocked 98999 100000 = true ∧
      srstReady sLocked 101000 99999 = false ∧ sLocked.pRuns = true ∧ sLocked.lockout = true ∧ sLocked.safe.clearing = false ∧ rng 101000 2970000 101000 = true ∧
      rng 101000 2970000 2970000 = true ∧ sLocked.safe.srstStuck = false ∧ sClear.pRuns = true ∧ sClear.safe.clearing = true ∧
      sClear.grpState 3 = .lockout ∧ bitOf sClear.safe.clearOk 3 = true ∧ pRxEn sClear.image 7 = true ∧
      ((vat sClear.safe.rx 7).path 1).lost = false ∧
      ((vat sClear.safe.rx 7).path 1).lastTick + pathWdog sClear.image 7 (vat sClear.safe.rx 7) 1 ≤ sClear.time.tickSeq := by decide

theorem witness_DirectRegistersAndFrames :
    sServed.served = true ∧ sServed.writable = true ∧ sServed.coreOn = false ∧ sServed.inReset = false ∧ 0x7F < (0x80 : BitVec 24).toNat ∧ (0x7F : BitVec 24).toNat ≤ 0x7F ∧
      sBoot.inReset = false ∧ sBoot.pwr.booting = true ∧ 7 < (0x08 : BitVec 24).toNat ∧ dirListed 0x7F = false ∧ dirListed 0x29 = true ∧
      ownRegister 0x29 = false := by decide

theorem witness_MasterPrioWrittenByBoth : sServed.writable = true := by decide

theorem witness_DevIdIsReadable : sBoot.inReset = false ∧ sServed.inReset = false := by decide

theorem witness_RwsWriteNeedsTheOpenTransaction :
    sCore.writable = true ∧ isRws 0x16C = true ∧ sCore.coreOn = true ∧ sCore.txn.st = .idle ∧ (sTxn .opened).txn.owner ≠ some .mp := by decide

theorem witness_ConfigurationWordsThroughTheWindow :
    Stageable (sTxn .opened) .hb 0x16C ∧ ((sTxn .opened).host .hb).winAddr = 0x16C ∧ (sTxn .agreed).served = true ∧ (sTxn .agreed).writable = true ∧ isRws 0x16C = true ∧ sServed.coreOn = false ∧ sServed.served = true ∧
      (sTxn .agreed).coreOn = true ∧ (sTxn .agreed).txn.owner = some .hb ∧ (sTxn .agreed).txn.st ≠ .idle ∧
      (sTxn .agreed).txn.st ≠ .opened ∧ (sTxn .agreed).txn.st ≠ .armed := by
  refine ⟨⟨by decide, by decide, by decide, by decide, by decide⟩, ?_⟩ <;> decide

theorem witness_ReadLatchesAndHoldingRegisters :
    sHead.served = true ∧ sHead.writable = true ∧ ((groupAt (access sHead .mp) 0x08).map fun i => (i.base, i.on)) = some (0x08, true) ∧
      ((groupAt (access sHead .mp) 0x0C).map fun i => (i.base, i.on)) = some (0x08, true) ∧ (sHead.host .mp).latched ≠ some 0x08 ∧
      sHead.servedCore = true ∧ (sHead.host .hb).latched = some (tioBase 15 + 8) ∧ (vat sHead.tios 15).fifo ≠ [] ∧
      ((List.range 7).map fun k => rolWord sHead .hb (tioBase 15 + 8 + k)) = headWords (vat sHead.tios 15).fifo ∧
      (sHead.host .mp).latched ≠ some (tioBase 15 + 8) := by decide

theorem witness_ReadLatchesAndHoldingRegisters_inv : BlockInv sHead := inv_sHead

theorem witness_LongOperationsJoinTheQueue :
    (longRows .mp).length = 13 ∧ (sOps 3 .queued 0x03).writable = true ∧ (sOps 3 .queued 0x03).opq.length < 4 ∧ (sOps 4 .queued 0x03).writable = true ∧
      4 ≤ (sOps 4 .queued 0x03).opq.length := by decide

theorem witness_OperationsStartAndAbort :
    (sOps 1 .queued 0x08).writable = true ∧ opCycles (sOps 1 .queued 0x08) = true ∧ opCycles (sPhase .guard) = false ∧ (sOps 1 .queued 0x08).runningOp = none ∧ (sOps 1 .queued 0x08).pwr.shut = .none ∧
      ((nextOp (sOps 1 .queued 0x08) true).map fun o => (o.ticket, o.data, opNeeds (sOps 1 .queued 0x08) o)) = some (0, [], none) ∧
      ((nextOp (sOps 1 .queued 0x06) true).map fun o => (o.data, opNeeds (sOps 1 .queued 0x06) o)) = some ([], some (orRefused, resWrongMode)) ∧
      (((sOps 4 .held 0x03).opq.find? fun x => x.ticket == ((sOps 4 .held 0x03).host .hb).arg0.toNat % 256).map fun o => (o.issuer, o.st)) =
        some (some .hb, .held) ∧
      (((sOps 1 .running 0x06).opq.find? fun x => x.ticket == ((sOps 1 .running 0x06).host .hb).arg0.toNat % 256).map fun o => (o.issuer, o.st)) =
        some (some .hb, .running) ∧ sServed.writable = true ∧ sServed.opq = [] ∧ sServed.oph = [] ∧
      (sOps 0 .done 0x06).opq = [] ∧ ((sOps 0 .done 0x06).oph.any (doneNow (sOps 0 .done 0x06) .hb 0)) = true := by decide

theorem witness_OperationsEnd :
    (∀ k ∈ [0x01, 0x03, 0x04, 0x05], (((sOps 1 .running k).opq.find? fun o => o.st == .running || o.aborting).map fun o =>
      (o.aborting, (opRecord o).isSome)) = some (false, true)) ∧
      (∀ k ∈ [0x06, 0x07, 0x08], (((sOps 1 .running k).opq.find? fun o => o.st == .running || o.aborting).map fun o => (o.aborting, o.code)) =
        some (false, k)) ∧
      ((sStopping.opq.find? fun o => o.st == .running || o.aborting).map fun o => (o.aborting, opBurns o.code)) = some (true, false) ∧
      (sServed.opq.find? fun o => o.st == .running || o.aborting) = none ∧ opCycles sStopping = true ∧
      (∀ k ∈ [0x01, 0x03, 0x04, 0x05, 0x06, 0x07, 0x08], opCycles (sOps 1 .running k) = true) ∧ opCycles (sPhase .guard) = false := by decide

theorem witness_AuthenticationAndOtpEnd :
    (∀ k ∈ [0x10, 0x11, 0x12, 0x13, 0x14], ((sOps 1 .running k).opq.head?.map fun o => ((o.issuer, o.arg0), (o.aborting, o.code), o.st)) =
      some ((some .hb, 0), (false, k), .running)) ∧ (∀ k ∈ [0x10, 0x11, 0x12, 0x13, 0x14], opCycles (sOps 1 .running k) = true) ∧ (sOps 1 .running 0x11).sec.challenge = some .hb ∧ sServed.sec.challenge ≠ some .hb ∧
      fuseCount (vat State.reset.otp.lock 0) < 16 ∧ noSessMax State.reset = 1 ∧ sessMax State.reset = 2 := by decide

theorem witness_AuthenticationAndOtpEnd_ends (k : Nat) : Ends (sOps 1 .running k) (theOp .running k 0) k := ⟨rfl, rfl, rfl⟩

theorem witness_NvmWorkOfTheDevice :
    sSaves.served = true ∧ sSaves.pwr.shut = .none ∧ saveDue sSaves = true ∧ saveQueued sSaves = false ∧ sSaves.opq.length < 4 ∧
      sSaves.model.retryAt = some 86400 ∧ 86400 ≤ sSaves.model.xoAge ∧ sSaves.log.buf ≠ [] ∧ nvmMay sSaves true = true ∧ sSaves.nvm.busy = none ∧
      sWaits.pwr.resetWaits = true ∧ State.reset.pwr.resetWaits = false := by decide

theorem witness_NvmWorkOfTheDevice_inv : BlockInv sSaves := inv_sSaves

theorem witness_EventsCountersAndSnapshots :
    sCore.servedCore = true ∧ sCnt.coreOn = true ∧ fCntSrc.val sCnt.act (cntBase 15) = 0x100 ∧ (vat sCnt.cnts 15).value = 2 ^ 48 - 1 ∧
      (vat sCnt.cnts 15).sat = false ∧ gateOpen sCnt 15 = true ∧
      (vat sCnt.cntCyc 15).at_ ≠ some sCnt.time.bench := by decide

theorem witness_SecurityCommandsAndTimers :
    sSess.servedCore = true ∧ sSess.sec.session = some .hb ∧ sSess.sec.session ≠ some .mp ∧ levelPermitted sSess .hb 2 = true ∧
      levelPermitted sSess .mp 2 = false ∧ sSess.sec.dbg ≠ 2 ∧ sSess.sec.ptr < 16 ∧ bufDenied sSess .mp = true ∧ bufDenied sSess .hb = false ∧
      sSess.sec.lastAccess + sessionTicks < sSess.safe.p.clk ∧ State.reset.safe.p.clk ≤ State.reset.sec.lastAccess + sessionTicks ∧
      bufBefore sSess = none ∧ (bufBefore sWiped).isSome = true ∧ sWiped.servedCore = true ∧ bufDenied sWiped .hb = false ∧
      sSess.sec.chalEnd < sSess.safe.p.clk ∧ sChal.safe.p.clk ≤ sChal.sec.chalEnd ∧ sSess.sec.delay = some 0 ∧ 0 ≤ sSess.safe.h.clk ∧
      sChal.sec.delay = some 1 ∧ sChal.safe.h.clk < 1 := by decide

theorem witness_TapInstructions :
    nearEnergy sServed = false ∧ nearEnergy sStop = true ∧ sDebug.sec.dbg = 2 ∧ sDebug.coreOn = true ∧ sCore.sec.dbg ≠ 2 ∧ sCore.sec.dbg = 0 ∧
      (0x0EFFFF : BitVec 24).toNat / 65536 ≠ 0x0F := by decide

theorem witness_StepRunsTheFrontCommand : State.reset.pending = [] := by decide

theorem witness_EveryStepKeepsTheInvariant : BlockInv State.reset ∧ ∃ t, step State.reset = .next t := ⟨inv_reset, _, rfl⟩

theorem witness_FrameOfEveryCommand : (∃ t, exec .idcode sCore = .next t) ∧ Part.time ∉ touches .idcode := ⟨⟨_, rfl⟩, by decide⟩

theorem witness_QueueIsOnlyConsumed : sKey.otp.keySet = true ∧ (∃ t, exec (.opStart true) sKey = .next t) ∧ bitOf sKey.otp.policy 3 = true ∧
    bitOf (vat sKey.otp.lock 3) 15 = true := ⟨by decide, ⟨_, rfl⟩, by decide, by decide⟩

theorem witness_CoreClearsInMaintenanceAreRefused :
    sMaint.served = true ∧ sMaint.pwr.shut ≠ .ended ∧ sMaint.mode.opmode = .maintenance ∧ bitOf sMaint.pwr.ctrl 0 = true ∧
      (0 : Word).getLsbD 0 = false := by decide

/-! ## Well-formedness: one ill-formed command per check -/

theorem test_wf_idle_cell : Instr.wf (.stateCell 0 (cellOf 6)) = true := by decide
theorem test_wf_cell_type : Instr.wf (.timeCell 0 { cellOf 1 with typ := 16 } 0) = false := by decide
theorem test_wf_cell_version : Instr.wf (.qlCell 0 { cellOf 2 with ver := 4 }) = false := by decide
theorem test_wf_cell_tx_port : Instr.wf (.stateCell 0 { cellOf 6 with txPort := 2 }) = false := by decide
theorem test_wf_cell_net : Instr.wf (.safeCell 0 { cellOf 3 with net := 2 }) = false := by decide
theorem test_wf_cell_src : Instr.wf (.eyeCell 0 { cellOf 5 with src := 32 }) = false := by decide
theorem test_wf_cell_dst : Instr.wf (.propose 0 { cellOf 4 with dst := 64 }) = false := by decide
theorem test_wf_cell_hops : Instr.wf (.go 0 { cellOf 4 with hops := 32 }) = false := by decide
theorem test_wf_cell_seq : Instr.wf (.abortDc 0 { cellOf 4 with seq := 65536 }) = false := by decide
theorem test_wf_cell_payload : Instr.wf (.ready 0 { cellOf 7 with payload := [] }) = false := by decide
theorem test_wf_frame : Instr.wf (.writeMap 0 []) = false ∧ Instr.wf (.readMap 0 0 []) = false ∧ Instr.wf (.readReg 0 1 []) = true := by decide
theorem test_wf_report :
    Instr.wf (.evaluatePhase { used := [], unfinished := [(21, 0)], pOverrun := false }) = false ∧ Instr.wf (.dispatchPhase { used := [(21, 1)], unfinished := [], pOverrun := false }) = false := by
  decide

/-! ## No row spells a command in bits -/

theorem test_no_word_decodes (n w : Nat) : decodeTableWord n w = none := rfl
theorem test_withFetchWord (s : State) (n w : Nat) : s.withFetchWord n w = s := rfl

/-! ## Values the spec works out -/

/-- The worked example of the scope chapter (block bases) and of the state-map chapter (OUT[17].DELAY). -/
theorem test_block_bases : refBase 3 = 0x010300 ∧ dpllBase 2 = 0x020800 ∧ outBase 17 = 0x050880 ∧ outBase 23 = 0x050B80 := by decide
theorem test_out17_delay : locate 0x050886 = some (.out, 17, 6) ∧ fFine.off = 7 := by decide

/-- EV_TIME_OVERRUN is event number 36 (scope chapter). -/
theorem test_event_number : evOverrun = 36 := by decide

/-- The watermark payload of the worked example: its CRC after each byte (R367). -/
theorem test_watermark_crc :
    crcMsb 8 0x07 [0x12] 0xFF = 0x8D ∧ crcMsb 8 0x07 [0x12, 0x30] 0xFF = 0x3A ∧ crcMsb 8 0x07 [0x12, 0x30, 0xD4] 0xFF = 0x84 ∧
      crcMsb 8 0x07 [0x12, 0x30, 0xD4, 0x01] 0xFF = 0x92 ∧ crcMsb 8 0x07 [0x12, 0x30, 0xD4, 0x01, 0x08] 0xFF = 0xCF := by decide +kernel

/-- APLL-A at 10 GHz with 40 × 250 MHz, and APLL-B at 9,830.4 MHz with 39 + 201/625 (synthesis chapter). -/
theorem test_vco_integer : vcoNom sServed.act 0 = 10000000000 := by decide +kernel
theorem test_vco_fractional :
    vcoNom (withCfg [(apllBase 1 + 1, 0x8A27), (apllBase 1 + 2, 201), (apllBase 1 + 4, 625)] sServed).act 1 = 9830400000 := by decide +kernel

/-- The status registers of the direct-register chapter's worked example, a supply dip while LOCKED. -/
def sDip : State :=
  (((sCore.onPwr fun p => { p with supplyLow := true, warn33 := true, syn := .on, outl := .on, outh := .on }).onMode fun m =>
    { m with opmode := .run, prev := .locked, mode := .supplyLow }).onDpll 0 fun x => { x with loop := .holdover }).onLace fun l => { l with secValid := true }
theorem test_dev_mode : devMode (withCfg [(dpllBase 0, 1)] sDip) = 0x467A := by decide +kernel
theorem test_dev_status : devStatus { sDip with opq := [theOp .queued 1 0] } = 0x2901 := by decide +kernel
theorem test_pwr_and_supply_status : pwrStatus sDip = 0x00AA ∧ supplyStatus sDip = 0x0081 := by decide +kernel

/-- The state after a command. -/
def after (i : Instr) (s : State) : State :=
  match exec i s with
  | .next t => t
  | _ => s

/-- Steps 1 and 3 of the state-map chapter's worked example: the two words go to the staged copy, and reading them with VIEW STAGED
returns them, while the active copy still reads 0. -/
def sOwner : State := (sCore.onTxn fun x => { x with st := .opened, owner := some .mp }).onHost .mp fun h => { h with staged := true }
theorem test_staging :
    (after (.writeMap 0x050886 [0x000C, 0x00C8]) sOwner).stagedView 0x050886 = 12 ∧
      (after (.writeMap 0x050886 [0x000C, 0x00C8]) sOwner).stagedView 0x050887 = 200 ∧
      (after (.writeMap 0x050886 [0x000C, 0x00C8]) sOwner).act 0x050886 = 0 := by decide +kernel
theorem test_window_address : ((after (.writeMap 0x050886 [0x000C, 0x00C8]) sOwner).host .mp).winAddr = 0x050888 := by decide +kernel

/-! ## One step of a family each -/

/-- R134 to R137: a warning starts SUPPLY_LOW. -/
theorem test_supply_warn : (after (.supplyWarn .vdd33) sServed).pwr.supplyLow = true := by decide +kernel
/-- R113, R115: with CORE off, CORE ramps at once and the others wait for it. -/
theorem test_pwr_ctrl : (after (.pwrCtrlWrite .hb 0xF) sServed).pwr.core = .ramping ∧ (after (.pwrCtrlWrite .hb 0xF) sServed).pwr.outh = .off := by
  decide +kernel
/-- R142: SHUTDOWN is refused while a group's drive may be energised. -/
theorem test_shutdown_refused :
    (after (.shutdown .hb) (chans 0 0 (grpIn 0 .enabled id) (withPar [(0x10, 1)] sServed))).pwr.shut = .none := by decide +kernel
/-- A timestamp enters the FIFO of its pin (R80, R81). -/
theorem test_tio_edge : (vat (after (.tioEdge 15 true 0) (sTio 15 0)).tios 15).fifo.length = 1 := by decide +kernel
/-- R546: only the owner may roll back. -/
theorem test_rollback_owner : (after (.rollback .mp) (sTxn .opened)).txn.st = .opened ∧ (after (.rollback .hb) (sTxn .opened)).txn.st = .idle := by
  decide +kernel
/-- R622: a session ends only for its holder. -/
theorem test_end_session :
    (after (.endSession .hb) sSess).sec.session = none ∧ (after (.endSession .mp) sSess).sec.session = some .hb := by decide +kernel
/-- R597: with OVF_MODE at STICK a counter stays at its top. -/
theorem test_counter_top : (vat (after (.hwCounterOverflow 15) sCnt).cnts 15).value = 2 ^ 48 - 1 := by decide +kernel

/-- The pins table with CORE off (R660): LOCK low, STOnB driven low and STOnA pulled low. -/
theorem test_sto_lines_core_off :
    lockLine sServed = .driven false ∧ stoLine sServed 3 true = .driven false ∧ stoLine sServed 3 false = .pulled false := by decide
/-- The STO waveforms (R487): 15,625 cycles of CORE_CLK high then low, and 1,600 RC clocks. -/
theorem test_sto_waveform :
    stoWave [] 0 false 15624 = true ∧ stoWave [] 0 false 15625 = false ∧ stoWave [] 0 true 1599 = true ∧ stoWave [] 0 true 1600 = false ∧
      stoWave [] 0 true 3200 = true := by decide


end Sys2Proof.Tests
end

section
/-! PROOFS. The frame of every command, the step, and the fuses (O58, O54, O53, O59). -/

namespace Sys2Proof.Machine

/-! ## The frame of every command

The parts of a row of `touches` become a mask; every command then stays within the mask of its row because the operations that it calls do
(Laws/Frames.lean). -/

/-- The mask of a list of parts. -/
def Part.mask (l : List Part) : Nat := l.foldr (fun p m => 2 ^ p.bit ||| m) 0

@[simp] theorem Part.mask_nil : Part.mask [] = 0 := rfl

/-- Proved as an equation, not by `rfl`: a kernel that unfolds masks would compute powers step by step. -/
@[simp] theorem Part.mask_cons (p : Part) (l : List Part) : Part.mask (p :: l) = 2 ^ p.bit ||| Part.mask l := by
  rw [Part.mask, List.foldr_cons, Part.mask]

@[simp] theorem Part.mask_append (l k : List Part) : Part.mask (l ++ k) = Part.mask l ||| Part.mask k := by
  induction l with
  | nil => simp
  | cons p l ih => simp only [List.cons_append, Part.mask_cons, ih, Nat.or_assoc]

@[simp] theorem Part.mask_report : Part.mask Part.report = 0x4400000000200 := rfl

@[simp] theorem Part.mask_echo : Part.mask Part.echo = 0x30000000000 := rfl

/-- Every part is listed, at the place of its bit. -/
theorem Part.all_at_bit (p : Part) : Part.all[p.bit - 1]? = some p := by cases p <;> rfl

theorem Part.bit_injective : Function.Injective Part.bit := fun p q h =>
  Option.some.inj ((Part.all_at_bit p).symm.trans (h ▸ Part.all_at_bit q))

theorem Part.mem_all (p : Part) : p ∈ Part.all := List.mem_of_getElem? (Part.all_at_bit p)

theorem Part.testBit_mask {l : List Part} {n : Nat} : (Part.mask l).testBit n = true ↔ ∃ p ∈ l, p.bit = n := by
  induction l with
  | nil => simp
  | cons p l ih => simp [Nat.testBit_or, Nat.testBit_two_pow, ih]

theorem Part.testBit_mask_bit {l : List Part} {p : Part} : (Part.mask l).testBit p.bit = true ↔ p ∈ l := by
  rw [Part.testBit_mask]
  exact ⟨fun ⟨_, hq, e⟩ => Part.bit_injective e ▸ hq, fun h => ⟨p, h, rfl⟩⟩

/-- Leaving parts out takes their bits from the mask of all. -/
@[simp] theorem Part.mask_allBut (l : List Part) : Part.mask (Part.allBut l) = 0x3fffffffffffffffe ^^^ Part.mask l := by
  refine Nat.eq_of_testBit_eq fun n => ?_
  rw [Nat.testBit_xor, show 0x3fffffffffffffffe = Part.mask Part.all from rfl]
  by_cases hn : ∃ p : Part, p.bit = n
  · obtain ⟨p, rfl⟩ := hn
    have hm : p ∈ Part.allBut l ↔ p ∉ l := by simp [Part.allBut, Part.mem_all]
    rw [Bool.eq_iff_iff, Part.testBit_mask_bit, hm, Part.testBit_mask_bit.mpr p.mem_all, Bool.true_xor, Bool.not_eq_true',
      ← Bool.not_eq_true, Part.testBit_mask_bit]
  · have none_at (k : List Part) : (Part.mask k).testBit n = false :=
      Bool.eq_false_iff.mpr fun h => hn ((Part.testBit_mask.mp h).imp fun _ hp => hp.2)
    simp [none_at]

/-- A part that is not in the list is the same in a state that agrees outside the list's mask. -/
theorem Within.same_of_not_mem {l : List Part} {s t : State} (h : Within (Part.mask l) s t) {p : Part} (hp : p ∉ l) : p.same s t :=
  h p (Bool.eq_false_iff.mpr fun e => hp (Part.testBit_mask_bit.mp e))

/-- A part is the same in a state that may differ in every other one. -/
theorem Within.same {s t : State} (p : Part) (h : Within (Part.mask (Part.allBut [p])) s t) : p.same s t :=
  h.same_of_not_mem (by simp [Part.allBut])

/-- The command answers, at every state, a state that agrees with it outside the parts that its row of `touches` lists. -/
def Framed (i : Instr) : Prop := ∀ s, Answers i s (Within (Part.mask (touches i)) s)

/-- Every command answers within its row of `touches`. A row whose meaning is its operations' composition follows from their masks; the rows
named are those whose meaning first splits on an operand, and those that read. -/
theorem exec_framed (i : Instr) : Framed i := by
  cases i with
  | clockFault mon => cases mon <;> exact fun s => ⟨_, rfl, by simp [touches, Part.bit]⟩
  | supplyWarn rail => cases rail <;> exact fun s => ⟨_, rfl, by simp [touches, Part.bit]⟩
  | safetyInputChange line level who heldUs => cases who <;> exact fun s => ⟨_, rfl, by simp [touches, Part.bit]⟩
  | hbAccessTimeout a => cases a <;> exact fun s => ⟨_, rfl, by simp [touches, Part.bit]⟩
  | secData m a => cases a <;> exact fun s => ⟨_, rfl, by simp [touches, Part.bit]⟩
  | registerWrite m t v rival => cases rival <;> exact fun s => ⟨_, rfl, by simp [touches, Part.bit]⟩
  | tsHeadRead m pin => exact fun s => ⟨_, rfl, by simp [touches, Part.bit, apply_ite Prod.snd]⟩
  | _ => exact fun s => ⟨_, rfl, by simp [touches, Part.bit]⟩

/-- A part that a command's row of `touches` does not list is the same in every state that it answers. -/
theorem same_of_not_touched {i : Instr} {s t : State} (h : exec i s = .next t) {p : Part} (hp : p ∉ touches i) : p.same s t := by
  obtain ⟨u, hu, hw⟩ := exec_framed i s
  obtain rfl : u = t := Host.Outcome.next.inj (hu.symm.trans h)
  exact hw.same_of_not_mem hp

/-- Settles O58: every operation of a command stays within the command's row of `touches`. -/
theorem frameOfEveryCommand : Obligations.FrameOfEveryCommand := fun _ _ _ h _ hp => same_of_not_touched h hp

/-- Settles O54: every command's meaning answers a next state. -/
theorem noCommandStops : Obligations.NoCommandStops := fun i s => (exec_framed i s).imp fun _ h => h.1

/-! ## The step and the passing of a cycle -/

/-- Counting leaves bench time and its increment. -/
theorem countSrc_time (code n : Nat) (s : State) :
    (countSrc code n s).time.bench = s.time.bench ∧ (countSrc code n s).time.inc = s.time.inc := by
  have h : Within 0x7400000000200 s (countSrc code n s) := by simp
  exact ⟨h .bench rfl, h .inc rfl⟩

theorem runCycles_bench (n : Nat) (s : State) : (runCycles n s).time.bench = (s.time.bench + n * s.time.inc) % benchMod := by
  rw [runCycles, (countSrc_time _ _ _).1]
  simp [countSrc_time]

/-- An idle cycle advances bench time by the increment of the clock that is in use (R58, R59). -/
theorem idleCycle_bench (s : State) :
    (idleCycle s).time.bench = (s.time.bench + if s.coreOn then s.time.inc else s.xoInc) % benchMod := by
  unfold idleCycle clockCycles
  split <;> simp [runCycles_bench]

theorem idleCycle_pending (s : State) : (idleCycle s).pending = s.pending := by
  have h : Within 0x7400040040202 s (idleCycle s) := by simp
  exact h .pending rfl

/-- Settles O53: by the two arms of `step`. -/
theorem stepRunsTheFrontCommand : Obligations.StepRunsTheFrontCommand :=
  ⟨fun _ _ _ => rfl, fun s h => ⟨_, step_idle h, (idleCycle_pending s).trans h, idleCycle_bench s⟩⟩

/-! ## Fuses stay burned -/

/-- Every fuse burned in the first OTP is burned in the second (R628, R638). -/
structure Otp.BurnedIn (x y : Otp) : Prop where
  keySet : x.keySet = true → y.keySet = true
  policy : ∀ b, bitOf x.policy b = true → bitOf y.policy b = true
  lock : ∀ p b, p < 4 → bitOf (vat x.lock p) b = true → bitOf (vat y.lock p) b = true

theorem Otp.BurnedIn.refl (x : Otp) : x.BurnedIn x := ⟨id, fun _ => id, fun _ _ _ => id⟩

theorem Otp.BurnedIn.of_eq {x y : Otp} (h : y = x) : x.BurnedIn y := h ▸ .refl x

/-- Adding the value of a bit that is clear sets that bit. -/
theorem add_two_pow_eq_or {n i : Nat} (h : n.testBit i = false) : n + 2 ^ i = n ||| 2 ^ i := by
  have hr : n % 2 ^ i < 2 ^ i := Nat.mod_lt _ (Nat.two_pow_pos i)
  have hc : n / 2 ^ i % 2 = 0 := by
    rw [Nat.testBit_eq_decide_div_mod_eq, decide_eq_false_iff_not] at h
    omega
  have hn : n = 2 ^ (i + 1) * (n / 2 ^ (i + 1)) + n % 2 ^ i := by
    conv => lhs; rw [← Nat.div_add_mod n (2 ^ (i + 1)), Nat.mod_pow_succ, hc]
    simp
  calc n + 2 ^ i = 2 ^ (i + 1) * (n / 2 ^ (i + 1)) + (n % 2 ^ i + 2 ^ i) := by omega
    _ = 2 ^ (i + 1) * (n / 2 ^ (i + 1)) ||| (n % 2 ^ i + 2 ^ i) := Nat.two_pow_add_eq_or_of_lt (by omega) _
    _ = (2 ^ (i + 1) * (n / 2 ^ (i + 1)) ||| n % 2 ^ i) ||| 2 ^ i := by rw [← Nat.or_two_pow_eq_add_of_lt hr, Nat.or_assoc]
    _ = n ||| 2 ^ i := by rw [← Nat.two_pow_add_eq_or_of_lt (by omega), ← hn]

/-- Setting distinct clear bits one by one keeps the bits that are set. -/
theorem foldl_add_two_pow_keeps {l : List Nat} (hl : l.Nodup) {f b : Nat} (hf : ∀ i ∈ l, f.testBit i = false) (h : f.testBit b = true) :
    (l.foldl (fun f i => f + 2 ^ i) f).testBit b = true := by
  induction l generalizing f with
  | nil => exact h
  | cons i l ih =>
    obtain ⟨hi, hl⟩ := List.nodup_cons.mp hl
    have e := add_two_pow_eq_or (hf i List.mem_cons_self)
    refine ih hl (fun j hj => ?_) (by simp [e, h])
    have hij : i ≠ j := fun e => hi (e ▸ hj)
    simp [e, hf j (List.mem_cons_of_mem i hj), hij]

/-- Burning fuses unburns none. -/
theorem burn_keeps (f lo hi k : Nat) {b : Nat} (h : bitOf f b = true) : bitOf (burn f lo hi k) b = true := by
  refine foldl_add_two_pow_keeps ((List.nodup_range.filter _).sublist (List.take_sublist k _)) (fun i hi => ?_) h
  have hc := (List.mem_filter.mp (List.mem_of_mem_take hi)).2
  simp only [Bool.and_eq_true, Bool.not_eq_true'] at hc
  exact hc.2

/-- What a program cycle leaves of a fuse word, verified or not, keeps its burned fuses (R628, R631). -/
theorem programmed_keeps (ok : Bool) {full old b : Nat} (x : Nat) (hf : bitOf full b = true) (ho : bitOf old b = true) :
    bitOf (if ok then full else old ||| (full &&& x)) b = true := by
  unfold bitOf at *
  split <;> simp [hf, ho]

/-- The program cycle of an OTP operation unburns no fuse (R628, R631). -/
theorem otpBurn_keeps (s : State) (o : LongOp) (ok : Bool) : s.otp.BurnedIn (otpBurn s o ok).otp := by
  unfold otpBurn
  dsimp only
  split
  · exact ⟨fun _ => rfl, fun _ => id, fun _ _ _ => id⟩
  · exact ⟨id, fun b h => programmed_keeps ok _ (burn_keeps _ _ _ _ (burn_keeps _ _ _ _ h)) h, fun _ _ _ => id⟩
  · refine ⟨id, fun _ => id, fun p b hp h => ?_⟩
    dsimp only
    rw [vat_vupd]
    split
    · exact programmed_keeps ok _ (burn_keeps _ _ _ _ h) h
    · exact h
  · exact .refl _

theorem otpDone_otp (s : State) (o : LongOp) (ok : Bool) : (otpDone s o ok).otp = (otpBurn s o ok).otp := by
  unfold otpDone
  refine Within.same .otp ?_
  repeat' split
  all_goals simp [Part.bit]

/-- OP_DONE unburns no fuse: only the end of an OTP operation touches them. -/
theorem opDone_keeps (s : State) (rep : OpReport) : s.otp.BurnedIn (opDone s rep).otp := by
  have same {t : State} (h : Within (Part.mask (Part.allBut [.otp])) s t) : s.otp.BurnedIn t.otp := .of_eq (h.same .otp)
  unfold opDone
  split
  · exact .refl _
  split
  · exact .refl _
  rename_i o _
  dsimp only
  split
  · exact same (by simp [Part.bit])
  split
  case h_7 =>
    split
    · exact same (by simp [Part.bit])
    · rw [otpDone_otp]
      exact otpBurn_keeps s _ _
  case h_5 | h_6 => split <;> exact same (by simp [Part.bit])
  all_goals exact same (by simp [Part.bit])

/-- PAGE_PROGRAM_END unburns no fuse: an OTP cycle that a reset waited for completes first (R144, R630). -/
theorem programEnd_keeps (s : State) : s.otp.BurnedIn (programEnd s).otp := by
  have after (u : State) : (tryRelease (applyWarm (u.onPwr fun p => { p with resetWaits := false }))).otp = u.otp :=
    Within.same .otp (by simp [Part.bit])
  unfold programEnd
  split
  · exact .refl _
  dsimp only
  rw [after]
  split
  · split
    · exact otpBurn_keeps s _ _
    · exact .refl _
  · exact .refl _

/-- Every command keeps the burned fuses: two rows alone list the OTP. -/
theorem exec_keeps_burned {i : Instr} {s t : State} (h : exec i s = .next t) : s.otp.BurnedIn t.otp := by
  by_cases ho : Part.otp ∈ touches i
  · cases i with
    | opDone rep => exact Host.Outcome.next.inj h ▸ opDone_keeps s rep
    | pageProgramEnd => exact Host.Outcome.next.inj h ▸ programEnd_keeps s
    | _ => exact absurd ho (of_decide_eq_true rfl)
  · exact .of_eq (same_of_not_touched h ho)

/-- No row lists the queue of waiting commands. -/
theorem pending_not_touched (i : Instr) : Part.pending ∉ touches i := by
  cases i <;> exact Laws.Parts.holds rfl

/-- Settles O59: no row lists the queue, and what programs the OTP only adds fuses. -/
theorem queueIsOnlyConsumed : Obligations.QueueIsOnlyConsumed := fun i _ _ h =>
  have ⟨keySet, policy, lock⟩ := exec_keeps_burned h
  ⟨same_of_not_touched h (pending_not_touched i), keySet, fun b _ => policy b, fun p b hp _ => lock p b hp⟩

end Sys2Proof.Machine
end

section
/-! PROOFS. What the operations that every host command shares leave: an access, a raise, an echo and the note of a write. -/

namespace Sys2Proof.Machine

/-! ## An access (R622) -/

/-- An access changes at most the idle time of a session. -/
theorem access_shape (s : State) (m : Master) : ∃ x, access s m = { s with sec := { s.sec with lastAccess := x } } := by
  obtain ⟨-, e⟩ | ⟨-, e⟩ := access_cases s m
  · exact ⟨_, e⟩
  · exact ⟨s.sec.lastAccess, e⟩

@[simp] theorem access_fields (s : State) (m : Master) :
    (access s m).time = s.time ∧ (access s m).eyes = s.eyes ∧ (access s m).wins = s.wins ∧ (access s m).gates = s.gates ∧
    (access s m).tios = s.tios ∧ (access s m).pwr = s.pwr ∧ (access s m).mode = s.mode ∧ (access s m).srcs = s.srcs ∧
    (access s m).dplls = s.dplls ∧ (access s m).hos = s.hos ∧ (access s m).model = s.model ∧ (access s m).aplls = s.aplls ∧
    (access s m).spll = s.spll ∧ (access s m).outs = s.outs ∧ (access s m).fods = s.fods ∧ (access s m).lockPin = s.lockPin ∧
    (access s m).lastJump = s.lastJump ∧ (access s m).ports = s.ports ∧ (access s m).lace = s.lace ∧ (access s m).safe = s.safe ∧
    (access s m).hb = s.hb ∧ (access s m).mp = s.mp ∧ (access s m).prioMp = s.prioMp ∧ (access s m).conflicts = s.conflicts ∧
    (access s m).wrote = s.wrote ∧ (access s m).conflictCnt = s.conflictCnt ∧ (access s m).echoes = s.echoes ∧
    (access s m).echoSeq = s.echoSeq ∧ (access s m).txn = s.txn ∧ (access s m).opq = s.opq ∧ (access s m).oph = s.oph ∧
    (access s m).ticket = s.ticket ∧ (access s m).evt = s.evt ∧ (access s m).cnts = s.cnts ∧ (access s m).cntCyc = s.cntCyc ∧
    (access s m).log = s.log ∧ (access s m).snap = s.snap ∧ (access s m).nvm = s.nvm ∧ (access s m).otp = s.otp ∧
    (access s m).tap = s.tap ∧ (access s m).cfg = s.cfg ∧ (access s m).opers = s.opers ∧ (access s m).undo = s.undo ∧
    (access s m).draws = s.draws ∧ (access s m).pending = s.pending := by
  obtain ⟨x, e⟩ := access_shape s m
  rw [e]
  and_intros <;> rfl

@[simp] theorem access_inReset (s : State) (m : Master) : (access s m).inReset = s.inReset := by simp [State.inReset]

@[simp] theorem access_coreOn (s : State) (m : Master) : (access s m).coreOn = s.coreOn := by simp [State.coreOn]

@[simp] theorem access_served (s : State) (m : Master) : (access s m).served = s.served := by simp [State.served]

@[simp] theorem access_writable (s : State) (m : Master) : (access s m).writable = s.writable := by simp [State.writable]

@[simp] theorem access_servedCore (s : State) (m : Master) : (access s m).servedCore = s.servedCore := by simp [State.servedCore]

@[simp] theorem access_host (s : State) (m k : Master) : (access s m).host k = s.host k := by cases k <;> simp [State.host]

@[simp] theorem access_act (s : State) (m : Master) : (access s m).act = s.act := by
  unfold State.act
  simp

/-! ## A raise (R118, R458, R574) -/

/-- A record that is logged changes the log, and at most raises the loss of one. -/
theorem logPush_shape (s : State) (r : LogRec) : ∃ x l, logPush s r = { s with evt := { s.evt with raised := x }, log := l } := by
  unfold logPush
  split
  · exact ⟨s.evt.raised, _, rfl⟩
  · dsimp only
    split
    · exact ⟨_, _, rfl⟩
    · exact ⟨s.evt.raised, _, rfl⟩

theorem logRaise_shape (s : State) (e origin unit cause : Nat) :
    ∃ x l, logRaise s e origin unit cause = { s with evt := { s.evt with raised := x }, log := l } := by
  unfold logRaise
  split
  · dsimp only
    split
    · exact ⟨s.evt.raised, _, rfl⟩
    · obtain ⟨x, l, h⟩ := logPush_shape s _
      rw [h]
      exact ⟨x, _, rfl⟩
  · exact ⟨s.evt.raised, s.log, rfl⟩

/-- Raising an event changes the raises, the events held for CORE, and the log. -/
theorem raiseAt_shape (s : State) (e unit cause : Nat) : ∃ p q x l, raiseAt s e unit cause =
    { s with pwr := { s.pwr with pwrPend := p, safePend := q }, evt := { s.evt with raised := x }, log := l } := by
  have of_log (u : State) (origin : Nat) (p q : Nat) (y : BitVec 256)
      (hu : u = { s with pwr := { s.pwr with pwrPend := p, safePend := q }, evt := { s.evt with raised := y } }) :
      ∃ p q x l, logRaise u e origin unit cause =
        { s with pwr := { s.pwr with pwrPend := p, safePend := q }, evt := { s.evt with raised := x }, log := l } := by
    obtain ⟨x, l, h⟩ := logRaise_shape u e origin unit cause
    rw [h, hu]
    exact ⟨p, q, x, l, rfl⟩
  unfold raiseAt
  split
  · exact of_log _ _ s.pwr.pwrPend s.pwr.safePend _ rfl
  split
  · exact of_log _ _ _ s.pwr.safePend s.evt.raised rfl
  split
  · exact of_log _ _ s.pwr.pwrPend _ s.evt.raised rfl
  · exact ⟨s.pwr.pwrPend, s.pwr.safePend, s.evt.raised, s.log, rfl⟩

@[simp] theorem raiseAt_fields (s : State) (e unit cause : Nat) :
    (raiseAt s e unit cause).time = s.time ∧ (raiseAt s e unit cause).eyes = s.eyes ∧ (raiseAt s e unit cause).wins = s.wins ∧
    (raiseAt s e unit cause).gates = s.gates ∧ (raiseAt s e unit cause).tios = s.tios ∧ (raiseAt s e unit cause).mode = s.mode ∧
    (raiseAt s e unit cause).srcs = s.srcs ∧ (raiseAt s e unit cause).dplls = s.dplls ∧ (raiseAt s e unit cause).hos = s.hos ∧
    (raiseAt s e unit cause).model = s.model ∧ (raiseAt s e unit cause).aplls = s.aplls ∧ (raiseAt s e unit cause).spll = s.spll ∧
    (raiseAt s e unit cause).outs = s.outs ∧ (raiseAt s e unit cause).fods = s.fods ∧ (raiseAt s e unit cause).lockPin = s.lockPin ∧
    (raiseAt s e unit cause).lastJump = s.lastJump ∧ (raiseAt s e unit cause).ports = s.ports ∧ (raiseAt s e unit cause).lace = s.lace ∧
    (raiseAt s e unit cause).safe = s.safe ∧ (raiseAt s e unit cause).hb = s.hb ∧ (raiseAt s e unit cause).mp = s.mp ∧
    (raiseAt s e unit cause).prioMp = s.prioMp ∧ (raiseAt s e unit cause).conflicts = s.conflicts ∧
    (raiseAt s e unit cause).wrote = s.wrote ∧ (raiseAt s e unit cause).conflictCnt = s.conflictCnt ∧
    (raiseAt s e unit cause).echoes = s.echoes ∧ (raiseAt s e unit cause).echoSeq = s.echoSeq ∧ (raiseAt s e unit cause).txn = s.txn ∧
    (raiseAt s e unit cause).opq = s.opq ∧ (raiseAt s e unit cause).oph = s.oph ∧ (raiseAt s e unit cause).ticket = s.ticket ∧
    (raiseAt s e unit cause).cnts = s.cnts ∧ (raiseAt s e unit cause).cntCyc = s.cntCyc ∧ (raiseAt s e unit cause).snap = s.snap ∧
    (raiseAt s e unit cause).nvm = s.nvm ∧ (raiseAt s e unit cause).otp = s.otp ∧ (raiseAt s e unit cause).sec = s.sec ∧
    (raiseAt s e unit cause).tap = s.tap ∧ (raiseAt s e unit cause).cfg = s.cfg ∧ (raiseAt s e unit cause).opers = s.opers ∧
    (raiseAt s e unit cause).undo = s.undo ∧ (raiseAt s e unit cause).draws = s.draws ∧ (raiseAt s e unit cause).pending = s.pending := by
  obtain ⟨p, q, x, l, h⟩ := raiseAt_shape s e unit cause
  rw [h]
  and_intros <;> rfl

@[simp] theorem raiseAt_coreOn (s : State) (e unit cause : Nat) : (raiseAt s e unit cause).coreOn = s.coreOn := by
  obtain ⟨p, q, x, l, h⟩ := raiseAt_shape s e unit cause
  rw [h]
  rfl

@[simp] theorem raiseAt_inReset (s : State) (e unit cause : Nat) : (raiseAt s e unit cause).inReset = s.inReset := by
  obtain ⟨p, q, x, l, h⟩ := raiseAt_shape s e unit cause
  rw [h]
  rfl

/-- An event that is raised has been raised (R118, R458, R574, R710). -/
theorem eventSet_raiseAt (s : State) {e : Nat} (unit cause : Nat) (he : e < 256) : EventSet (raiseAt s e unit cause) e := by
  unfold EventSet
  rw [raiseAt_coreOn]
  split
  · exact raiseAt_raises _ _ _ ‹_› he
  · rename_i hc
    unfold raiseAt
    rw [if_neg hc]
    split
    · obtain ⟨x, l, h⟩ := logRaise_shape (s.onPwr fun p => { p with pwrPend := p.pwrPend ||| 2 ^ (e % 32) }) e 1 unit cause
      simp [h, bitOf]
    split
    · obtain ⟨x, l, h⟩ := logRaise_shape (s.onPwr fun p => { p with safePend := p.safePend ||| 2 ^ (e % 32) }) e 2 unit cause
      simp [h, bitOf]
    · trivial

/-- Whether an event has been raised is told by the power unit and the event registers. -/
theorem EventSet.congr {t u : State} {e : Nat} (h : EventSet t e) (hp : u.pwr = t.pwr) (he : u.evt = t.evt) : EventSet u e := by
  unfold EventSet State.coreOn at *
  rwa [hp, he]

/-! ## An echo (R602) -/

@[simp] theorem echo_fields (s : State) (m : Master) (addr value : Nat) (args : List Nat) (result : Nat) :
    (echo s m addr value args result).time = s.time ∧ (echo s m addr value args result).eyes = s.eyes ∧
    (echo s m addr value args result).wins = s.wins ∧ (echo s m addr value args result).gates = s.gates ∧
    (echo s m addr value args result).tios = s.tios ∧ (echo s m addr value args result).pwr = s.pwr ∧
    (echo s m addr value args result).mode = s.mode ∧ (echo s m addr value args result).srcs = s.srcs ∧
    (echo s m addr value args result).dplls = s.dplls ∧ (echo s m addr value args result).hos = s.hos ∧
    (echo s m addr value args result).model = s.model ∧ (echo s m addr value args result).aplls = s.aplls ∧
    (echo s m addr value args result).spll = s.spll ∧ (echo s m addr value args result).outs = s.outs ∧
    (echo s m addr value args result).fods = s.fods ∧ (echo s m addr value args result).lockPin = s.lockPin ∧
    (echo s m addr value args result).lastJump = s.lastJump ∧ (echo s m addr value args result).ports = s.ports ∧
    (echo s m addr value args result).lace = s.lace ∧ (echo s m addr value args result).safe = s.safe ∧
    (echo s m addr value args result).hb = s.hb ∧ (echo s m addr value args result).mp = s.mp ∧
    (echo s m addr value args result).prioMp = s.prioMp ∧ (echo s m addr value args result).conflicts = s.conflicts ∧
    (echo s m addr value args result).wrote = s.wrote ∧ (echo s m addr value args result).conflictCnt = s.conflictCnt ∧
    (echo s m addr value args result).txn = s.txn ∧ (echo s m addr value args result).opq = s.opq ∧
    (echo s m addr value args result).oph = s.oph ∧ (echo s m addr value args result).ticket = s.ticket ∧
    (echo s m addr value args result).evt = s.evt ∧ (echo s m addr value args result).cnts = s.cnts ∧
    (echo s m addr value args result).cntCyc = s.cntCyc ∧ (echo s m addr value args result).log = s.log ∧
    (echo s m addr value args result).snap = s.snap ∧ (echo s m addr value args result).nvm = s.nvm ∧
    (echo s m addr value args result).otp = s.otp ∧ (echo s m addr value args result).sec = s.sec ∧
    (echo s m addr value args result).tap = s.tap ∧ (echo s m addr value args result).cfg = s.cfg ∧
    (echo s m addr value args result).opers = s.opers ∧ (echo s m addr value args result).undo = s.undo ∧
    (echo s m addr value args result).draws = s.draws ∧ (echo s m addr value args result).pending = s.pending := by
  and_intros <;> rfl

/-! ## The note of a write (R544) -/

@[simp] theorem noted_fields (s : State) (m : Master) (a : Nat) (t : State) :
    (noted s m a t).time = t.time ∧ (noted s m a t).eyes = t.eyes ∧ (noted s m a t).wins = t.wins ∧ (noted s m a t).gates = t.gates ∧
    (noted s m a t).tios = t.tios ∧ (noted s m a t).pwr = t.pwr ∧ (noted s m a t).mode = t.mode ∧ (noted s m a t).srcs = t.srcs ∧
    (noted s m a t).dplls = t.dplls ∧ (noted s m a t).hos = t.hos ∧ (noted s m a t).model = t.model ∧ (noted s m a t).aplls = t.aplls ∧
    (noted s m a t).spll = t.spll ∧ (noted s m a t).outs = t.outs ∧ (noted s m a t).fods = t.fods ∧ (noted s m a t).lockPin = t.lockPin ∧
    (noted s m a t).lastJump = t.lastJump ∧ (noted s m a t).ports = t.ports ∧ (noted s m a t).lace = t.lace ∧
    (noted s m a t).safe = t.safe ∧ (noted s m a t).hb = t.hb ∧ (noted s m a t).mp = t.mp ∧ (noted s m a t).prioMp = t.prioMp ∧
    (noted s m a t).conflicts = t.conflicts ∧ (noted s m a t).conflictCnt = t.conflictCnt ∧ (noted s m a t).echoes = t.echoes ∧
    (noted s m a t).echoSeq = t.echoSeq ∧ (noted s m a t).txn = t.txn ∧ (noted s m a t).opq = t.opq ∧ (noted s m a t).oph = t.oph ∧
    (noted s m a t).ticket = t.ticket ∧ (noted s m a t).evt = t.evt ∧ (noted s m a t).cnts = t.cnts ∧ (noted s m a t).cntCyc = t.cntCyc ∧
    (noted s m a t).log = t.log ∧ (noted s m a t).snap = t.snap ∧ (noted s m a t).nvm = t.nvm ∧ (noted s m a t).otp = t.otp ∧
    (noted s m a t).sec = t.sec ∧ (noted s m a t).tap = t.tap ∧ (noted s m a t).cfg = t.cfg ∧ (noted s m a t).opers = t.opers ∧
    (noted s m a t).undo = t.undo ∧ (noted s m a t).draws = t.draws ∧ (noted s m a t).pending = t.pending := by
  unfold noted
  split <;> and_intros <;> rfl

theorem EventSet.noted {s t : State} {m : Master} {a e : Nat} (h : EventSet t e) : EventSet (noted s m a t) e :=
  h.congr (by simp) (by simp)

end Sys2Proof.Machine
end

section
/-! PROOFS. The host words of a DPLL (O20). -/

namespace Sys2Proof.Machine

/-! ## HOST_FREQ, STEP and HALT, one case each -/

theorem hostFreqWrite_in_range {s : State} {d v : Nat} (hs : s.servedCore = true) (hv : ((signedN 48 v).natAbs : Int) ≤ hostFreqMax) :
    hostFreqWrite s d v = s.onDpll d fun x => { x with
      hostFreq := signedN 48 v, hostWrite := some s.now,
      hostFreqWas := some (s.time.bench, cycleStart s.time.bench x.hostFreqWas x.hostFreq) } := by
  unfold hostFreqWrite
  rw [hs, Bool.not_true, if_neg Bool.false_ne_true]
  exact if_neg (Int.not_lt.mpr hv)

theorem hostFreqWrite_out_of_range {s : State} {d v : Nat} (hs : s.servedCore = true) (hv : hostFreqMax < ((signedN 48 v).natAbs : Int)) :
    hostFreqWrite s d v = raiseAt s evBadValue d 0 := by
  unfold hostFreqWrite
  rw [hs, Bool.not_true, if_neg Bool.false_ne_true]
  exact if_pos hv

theorem pmStepCmd_within_range {s : State} {m : Master} {d v : Nat} (hs : s.servedCore = true) (hv : pmWithin s d (signedN 48 v)) :
    pmStepCmd s m d v = pmEcho (s.onDpll d fun y => { y with
      pmT := y.pmT + signedN 48 v, pmAbort := false, pmHalt := none, pmState := if y.pmState = .frozen then .frozen else .moving })
      m d v 1 resAccepted := by
  unfold pmStepCmd
  rw [hs, Bool.not_true, if_neg Bool.false_ne_true]
  exact if_neg (Int.not_lt.mpr hv)

theorem pmStepCmd_out_of_range {s : State} {m : Master} {d v : Nat} (hs : s.servedCore = true) (hv : ¬ pmWithin s d (signedN 48 v)) :
    pmStepCmd s m d v = pmEcho (raiseAt s evBadValue d 0) m d v 1 0x09 := by
  unfold pmStepCmd
  rw [hs, Bool.not_true, if_neg Bool.false_ne_true]
  exact if_pos (Int.not_le.mp hv)

/-- The mover of DPLL `d` arrives in this very cycle (R254). -/
def arrivesNow (s : State) (d : Nat) : Prop := (vat s.dplls d).pmArriveAt = some s.time.bench ∧ (vat s.dplls d).pmState = .idle

/-- The position of rest at ACCEL (R246), its quotient rounded as log 1 leaves free. -/
def restOf (s : State) (d : Nat) : Int :=
  let x := vat s.dplls d
  x.pmP + x.pmV.sign * quotFree 34 (x.pmV * x.pmV) (2 * (moverA s d).toNat)

theorem restOf_access (s : State) (m : Master) (d : Nat) : restOf (access s m) d = restOf s d := by simp [restOf, moverA]

theorem pmHaltCmd_at_arrival {s : State} {m : Master} {d v : Nat} (hs : s.servedCore = true) (ha : arrivesNow s d) :
    pmHaltCmd s m d v = pmEcho (s.onDpll d fun y => { y with pmAbort := true }) m d v 2 resAccepted := by
  obtain ⟨h1, h2⟩ := ha
  simp [pmHaltCmd, hs, h1, h2]

theorem pmHaltCmd_else {s : State} {m : Master} {d v : Nat} (hs : s.servedCore = true) (ha : ¬ arrivesNow s d) :
    ∃ was, pmHaltCmd s m d v = pmEcho (s.onDpll d fun y => { y with
      pmT := (restOf s d).fdiv pUnit, pmTfrac := (restOf s d).fmod pUnit, pmAbort := false, pmHalt := was }) m d v 2 resAccepted := by
  have hb : ((vat s.dplls d).pmArriveAt == some s.time.bench && (vat s.dplls d).pmState == .idle) = false := by
    simpa [arrivesNow, Bool.eq_false_iff] using ha
  unfold pmHaltCmd
  rw [hs, Bool.not_true, if_neg Bool.false_ne_true]
  dsimp only
  rw [hb]
  exact ⟨_, rfl⟩

/-! ## The obligation -/

/-- A change of one entry of a bank leaves the others. -/
theorem vat_vupd_others {α : Type} {n : Nat} [Inhabited α] {v : Vector α n} {d : Fin n} {f : α → α} :
    ∀ k : Nat, k ≠ d → vat (vupd v d f) k = vat v k := fun _ hk => vat_vupd_other v f hk.symm

/-- Settles O20: by the cases of each command, in range and out of range. -/
theorem hostWordsOfADpll : Obligations.HostWordsOfADpll := by
  unfold Obligations.HostWordsOfADpll
  refine ⟨fun s m d v hs hv => ⟨_, rfl, ?_⟩, fun s m d v hs hv => ⟨_, rfl, ?_⟩, fun s m d v hs hv => ⟨_, rfl, ?_⟩,
    fun s m d v hs hv => ⟨_, rfl, ?_⟩, fun s m d hs => ⟨_, rfl, ?_⟩⟩
  · rw [hostFreqWrite_in_range (by simpa using hs) hv]
    simpa [State.now] using vat_vupd_others
  · rw [hostFreqWrite_out_of_range (by simpa using hs) hv]
    exact ⟨by simp, (eventSet_raiseAt _ _ _ (by decide)).noted⟩
  · rw [pmStepCmd_within_range (by simpa using hs) (by simpa using hv)]
    simpa [pmEcho] using vat_vupd_others
  · rw [pmStepCmd_out_of_range (by simpa using hs) (by simpa using hv)]
    exact ⟨by simp [pmEcho], (eventSet_raiseAt _ _ _ (by decide)).congr rfl rfl⟩
  · have hu : (access s m).servedCore = true := by simpa using hs
    by_cases ha : arrivesNow s d
    · rw [pmHaltCmd_at_arrival hu (by simpa [arrivesNow] using ha)]
      exact ⟨(if_pos ha).mpr (by simp [pmEcho]), by simpa [pmEcho] using vat_vupd_others⟩
    · obtain ⟨was, e⟩ := pmHaltCmd_else (m := m) (v := 0) hu (show ¬ arrivesNow (access s m) d by simpa [arrivesNow] using ha)
      rw [e, restOf_access]
      exact ⟨(if_neg ha).mpr (by simp [pmEcho, Int.fdiv_mul_add_fmod, restOf]), by simpa [pmEcho] using vat_vupd_others⟩

end Sys2Proof.Machine
end

section
/-! PROOFS. Writes and reads of configuration words (O42, O43). -/

namespace Sys2Proof.Machine

/-! ## Host ports and the note of a write -/

theorem wordOfN_toNat (v : Word) : Word.ofN v.toNat = v := BitVec.ofNat_toNat ..

@[simp] theorem noted_host (s : State) (m : Master) (a : Nat) (t : State) (k : Master) : (noted s m a t).host k = t.host k := by
  cases k <;> simp [State.host]

@[simp] theorem raiseAt_host (s : State) (e unit cause : Nat) (k : Master) : (raiseAt s e unit cause).host k = s.host k := by
  cases k <;> simp [State.host]

@[simp] theorem onHost_inReset (s : State) (m : Master) (f : HostPort → HostPort) : (s.onHost m f).inReset = s.inReset := by simp [State.inReset]

@[simp] theorem onHost_coreOn (s : State) (m : Master) (f : HostPort → HostPort) : (s.onHost m f).coreOn = s.coreOn := by simp [State.coreOn]

@[simp] theorem onHost_served (s : State) (m : Master) (f : HostPort → HostPort) : (s.onHost m f).served = s.served := by simp [State.served]

@[simp] theorem onHost_writable (s : State) (m : Master) (f : HostPort → HostPort) : (s.onHost m f).writable = s.writable := by
  simp [State.writable]

theorem inReset_of_served {s : State} (h : s.served = true) : s.inReset = false := by
  unfold State.served at h
  simp only [Bool.and_eq_true, Bool.not_eq_true'] at h
  exact h.1

theorem served_of_writable {s : State} (h : s.writable = true) : s.served = true := by
  unfold State.writable at h
  exact (Bool.and_eq_true _ _ ▸ h).1

/-! ## Configuration words (R535, R537, R545, R548, R759) -/

/-- No direct register is a configuration word (R759). -/
theorem isRws_direct : ∀ a < 0x80, isRws a = false := by decide +kernel

theorem not_direct_of_isRws {a : Nat} (h : isRws a = true) : ¬ a < 0x80 := fun hl => by
  rw [isRws_direct a hl] at h
  exact Bool.false_ne_true h

/-- SPLL.XO_CFG apart, or with CORE ON, a configuration word is written through the transaction (R14, R302). -/
theorem rwsWrite_staged {s : State} {m : Master} {a v : Nat} (hx : s.coreOn = true ∨ a < spllBase ∨ spllBase + 3 ≤ a) :
    rwsWrite s m a v = stagedWrite s m a v := by
  unfold rwsWrite
  refine if_neg fun ⟨h1, h2, h3⟩ => ?_
  obtain h | h | h := hx
  · rw [h] at h3
    exact Bool.noConfusion h3
  · omega
  · omega

theorem mapWrite_rws {s : State} {m : Master} {a v : Nat} (h : isRws a = true) : mapWrite s m a v = rwsWrite s m a v := by
  unfold mapWrite
  rw [if_neg (not_direct_of_isRws h), if_pos h]

theorem stagedWrite_no_txn {s : State} {m : Master} {a v : Nat} (h : s.txn.owner ≠ some m ∨ s.txn.st = .idle) :
    stagedWrite s m a v = raise s evNoTxn := by
  unfold stagedWrite
  obtain h | h := h
  · rw [if_pos h]
  · rw [h]
    exact ite_self _

theorem stagedWrite_held {s : State} {m : Master} {a v : Nat} (ho : s.txn.owner = some m) (h1 : s.txn.st ≠ .idle)
    (h2 : s.txn.st ≠ .opened) (h3 : s.txn.st ≠ .armed) : stagedWrite s m a v = raise s evTxnHeld := by
  unfold stagedWrite
  rw [if_neg (not_not_intro ho)]
  split <;> simp_all

theorem stagedWrite_stages {s : State} {m : Master} {a v : Nat} (ho : s.txn.owner = some m) (h : s.txn.st = .opened ∨ s.txn.st = .armed) :
    stagedWrite s m a v = touchTxn (stagePut s a (cfgWord a (Word.ofN v))) := by
  unfold stagedWrite
  rw [if_neg (not_not_intro ho)]
  obtain h | h := h <;> rw [h]

/-- A master that may stage a word now writes it into the staged copy. -/
theorem Stageable.rwsWrite_eq {s : State} {m : Master} {a : Nat} (h : Stageable s m a) (v : Nat) :
    rwsWrite s m a v = touchTxn (stagePut s a (cfgWord a (Word.ofN v))) := by
  rw [rwsWrite_staged h.xo, stagedWrite_stages h.owner h.st]

/-- Whether a word may be staged does not hang on the master's accesses. -/
theorem Stageable.after_access {s : State} {m : Master} {a : Nat} (h : Stageable s m a) (k : Master) : Stageable (access s k) m a :=
  ⟨by simpa using h.writable, h.rws, by simpa using h.xo, by simpa using h.owner, by simpa using h.st⟩

theorem cfgWord_toNat (a : Nat) (v : Word) : (cfgWord a v).toNat = v.toNat &&& cfgMask a := by
  have : v.toNat &&& cfgMask a < 2 ^ 16 := Nat.lt_of_le_of_lt Nat.and_le_left v.isLt
  exact (BitVec.toNat_ofNat _ _).trans (Nat.mod_eq_of_lt this)

theorem staged_stagePut (s : State) (a : Nat) (v : Word) : Staged s a v (touchTxn (stagePut s a (cfgWord a (Word.ofN v.toNat)))) := by
  refine ⟨?_, fun b hb => ?_, rfl, rfl⟩
  · simp [State.stagedView, touchTxn, stagePut, wordOfN_toNat, cfgWord_toNat]
  · simp [State.stagedView, touchTxn, stagePut, hb.symm]

/-- Staging is told by the transaction, the configuration and the clock of channel P. -/
theorem Staged.congr {s u t w : State} {a : Nat} {v : Word} (h : Staged u a v t) (hs : u.txn = s.txn ∧ u.cfg = s.cfg ∧ u.safe = s.safe)
    (hw : w.txn = t.txn ∧ w.cfg = t.cfg) : Staged s a v w := by
  obtain ⟨s1, s2, s3⟩ := hs
  obtain ⟨w1, w2⟩ := hw
  unfold Staged State.stagedView at *
  rwa [w1, w2, ← s1, ← s2, ← s3]

/-- The register windows and the frames write a configuration word as STAGED_WRITE does, under the note of the write. -/
theorem busWrite_winData {s : State} {m : Master} {v : Nat} (hw : s.writable = true) (h : isRws (s.host m).winAddr = true) :
    busWrite s m 0x12 v = noted s m (s.host m).winAddr (rwsWrite s m (s.host m).winAddr v) := by
  simp [busWrite, hw, mapWrite_rws h]

theorem busWrite_winDataInc {s : State} {m : Master} {v : Nat} (hw : s.writable = true) (h : isRws (s.host m).winAddr = true) :
    busWrite s m 0x13 v = noted s m (s.host m).winAddr (windowNext (rwsWrite s m (s.host m).winAddr v) m) := by
  simp [busWrite, hw, mapWrite_rws h]

theorem exec_stagedWrite {s : State} {m : Master} {a : Fin 16777216} {v : Word} (hw : s.writable = true) (h : isRws a = true) :
    exec (.stagedWrite m a v) s = .next (noted (access s m) m a (rwsWrite (access s m) m a v.toNat)) := by
  simp [exec, execStagedWrite, hw, h]

/-- Settles O42: without an open transaction of its own a master's write of a configuration word only raises the event. -/
theorem rwsWriteNeedsTheOpenTransaction : Obligations.RwsWriteNeedsTheOpenTransaction := by
  intro s m a v hw hr hx ht
  refine ⟨_, exec_stagedWrite hw hr, ?_⟩
  rw [rwsWrite_staged (by simpa using hx), stagedWrite_no_txn (by simpa using ht)]
  exact ⟨by simp [raise], fun b => by simp [raise, State.act], (eventSet_raiseAt _ _ _ (by decide)).noted⟩

theorem Stageable.staged {s : State} {m : Master} {a : Nat} (h : Stageable s m a) (v : Word) : Staged s a v (rwsWrite s m a v.toNat) := by
  rw [h.rwsWrite_eq]
  exact staged_stagePut s a v

theorem Stageable.rwsWrite_host {s : State} {m : Master} {a : Nat} (h : Stageable s m a) (v : Nat) (k : Master) :
    (rwsWrite s m a v).host k = s.host k := by
  rw [h.rwsWrite_eq]
  cases k <;> rfl

/-- Whether a word may be staged does not hang on where a window points. -/
theorem Stageable.onHost {s : State} {m : Master} {a : Nat} (h : Stageable s m a) (k : Master) (f : HostPort → HostPort) :
    Stageable (s.onHost k f) m a :=
  ⟨by simpa using h.writable, h.rws, by simpa using h.xo, by simpa using h.owner, by simpa using h.st⟩

/-- WIN_DATA stages the word at the window address. -/
theorem Stageable.winData {s : State} {m : Master} {a : Nat} (h : Stageable s m a) (v : Word) (ha : (s.host m).winAddr = a) :
    Staged s a v (busWrite s m 0x12 v.toNat) ∧ ((busWrite s m 0x12 v.toNat).host m).winAddr = a := by
  rw [busWrite_winData h.writable (ha ▸ h.rws), ha]
  exact ⟨(h.staged v).congr (by simp) (by simp), by simpa [h.rwsWrite_host] using ha⟩

/-- WIN_DATA_INC stages the word at the window address, and the window moves on. -/
theorem Stageable.winDataInc {s : State} {m : Master} {a : Nat} (h : Stageable s m a) (v : Word) (ha : (s.host m).winAddr = a) :
    Staged s a v (busWrite s m 0x13 v.toNat) ∧ ((busWrite s m 0x13 v.toNat).host m).winAddr = (a + 1) % 2 ^ 24 := by
  rw [busWrite_winDataInc h.writable (ha ▸ h.rws), ha]
  exact ⟨(h.staged v).congr (by simp) (by simp [windowNext]), by simp [windowNext, h.rwsWrite_host, ha]⟩

/-! ## Reads of configuration words (R536, R544) -/

theorem mapRead_rws {s : State} {m : Master} {a : Nat} (h : isRws a = true) :
    mapRead s m a = ((beforeWrite s m a).getD (viewOf s m a), s) := by
  have ha := not_direct_of_isRws h
  have hs : a ≠ 0x3E := by omega
  simp [mapRead, groupAt, mapWord, h, ha, hs]

/-- What a word reads as does not hang on the master's accesses. -/
@[simp] theorem seenWord_access (s : State) (k m : Master) (a : Nat) : seenWord (access s k) m a = seenWord s m a := by
  obtain ⟨x, e⟩ := access_shape s k
  rw [e]
  cases m <;> rfl

/-- Nor does it hang on where MP's window points. -/
@[simp] theorem seenWord_loadWindow (s : State) (w a : Nat) : seenWord (loadWindow s w) .mp a = seenWord s .mp a := rfl

/-! ## What every read leaves -/

theorem Within.inReset_eq {ps : Nat} {s t : State} (h : Within ps s t) (hp : ps.testBit Part.hold.bit = false) : t.inReset = s.inReset := by
  have e := h .hold hp
  simp only [Part.same, Prod.mk.injEq] at e
  obtain ⟨h1, -, -, h2⟩ := e
  simp [State.inReset, h1, h2]

theorem Within.coreOn_eq {ps : Nat} {s t : State} (h : Within ps s t) (hp : ps.testBit Part.domains.bit = false) : t.coreOn = s.coreOn := by
  have e := h .domains hp
  simp only [Part.same, Prod.mk.injEq] at e
  obtain ⟨-, h, -⟩ := e
  simp [State.coreOn, h]

theorem Within.booting_eq {ps : Nat} {s t : State} (h : Within ps s t) (hp : ps.testBit Part.boot.bit = false) :
    t.pwr.booting = s.pwr.booting := by
  have e := h .boot hp
  simp only [Part.same, Prod.mk.injEq] at e
  exact e.1

/-- A read neither starts nor ends a reset or BOOT, switches no domain, and leaves the window addresses. -/
structure ReadKeeps (s t : State) : Prop where
  inReset : t.inReset = s.inReset
  booting : t.pwr.booting = s.pwr.booting
  coreOn : t.coreOn = s.coreOn
  winAddr : ∀ k, (t.host k).winAddr = (s.host k).winAddr

theorem ReadKeeps.of_within {s t : State} (h : Within 0x204400c00000300 s t) (hw : ∀ k, (t.host k).winAddr = (s.host k).winAddr) :
    ReadKeeps s t := ⟨h.inReset_eq rfl, h.booting_eq rfl, h.coreOn_eq rfl, hw⟩

theorem dropHead_host (s : State) (m : Master) (i : Item) (k : Master) : (dropHead s m i).host k = s.host k := by
  have h : Within 0x4400000000300 s (dropHead s m i) := by simp
  cases k
  · exact h .hb rfl
  · exact h .mp rfl

/-- Changing a port but for its window address keeps the window addresses. -/
theorem onHost_winAddr {s : State} {m : Master} {f : HostPort → HostPort} (hf : ∀ h, (f h).winAddr = h.winAddr) (k : Master) :
    ((s.onHost m f).host k).winAddr = (s.host k).winAddr := by
  by_cases e : k = m
  · rw [e, State.host_onHost, hf]
  · rw [State.host_onHost_other s f e]

theorem groupRead_winAddr (s : State) (m : Master) (i : Item) (a : Nat) (k : Master) :
    ((groupRead s m i a).2.host k).winAddr = (s.host k).winAddr := by
  unfold groupRead
  split
  · split
    · exact onHost_winAddr (by intro h; rfl) k
    · rfl
  split
  · dsimp only
    split
    · exact (onHost_winAddr (by intro h; rfl) k).trans (congrArg _ (dropHead_host s m i k))
    · rfl
  split
  · rw [raise, raiseAt_host]
    exact onHost_winAddr (by intro h; rfl) k
  · rfl

theorem secDataRead_host (s : State) (k : Master) : (secDataRead s).2.host k = s.host k := by
  unfold secDataRead
  split <;> cases k <;> rfl

theorem mapRead_keeps (s : State) (m : Master) (a : Nat) : ReadKeeps s (mapRead s m a).2 := by
  refine .of_within (by simp) fun k => ?_
  unfold mapRead
  split
  · exact groupRead_winAddr ..
  · dsimp only
    split
    · rw [secDataRead_host]
    · rfl

end Sys2Proof.Machine
end

section
/-! PROOFS. The window and the map frames (O43). -/

namespace Sys2Proof.Machine

/-! ## One word through a window -/

theorem busRead_winData {s : State} {m : Master} (hs : s.served = true) : busRead s m 0x12 = mapRead s m (s.host m).winAddr := by
  simp [busRead, directRead, hs]

theorem busRead_winDataInc {s : State} {m : Master} (hs : s.served = true) : busRead s m 0x13 =
    ((mapRead s m (s.host m).winAddr).1, windowNext (mapRead s m (s.host m).winAddr).2 m) := by
  simp [busRead, directRead, hs]

theorem deliver_of_not_reset {s : State} {m : Master} {ws : List Nat} (h : s.inReset = false) :
    deliver s m ws = s.onHost m fun x => { x with readData := ws.map Word.ofN } := by
  simp [deliver, h]

theorem ReadKeeps.served {s t : State} (h : ReadKeeps s t) : t.served = s.served := by simp [State.served, h.inReset, h.booting]

/-! ## READ_MAP (R531, R535, R694) -/

/-- The fetch of one word of READ_MAP: its value, and the state with the window moved on. -/
def fetchWord (m : Master) (late : List Nat) (k : Nat) (s : State) : Nat × State :=
  if lateFetch s late k then (0, windowNext s m) else busRead s m 0x13

theorem readWords_succ {m : Master} {late : List Nat} {k n : Nat} {s : State} (hs : s.served = true) :
    readWords m late k (n + 1) s =
      ((fetchWord m late k s).1 :: (readWords m late (k + 1) n (fetchWord m late k s).2).1,
        (readWords m late (k + 1) n (fetchWord m late k s).2).2) := by
  rw [readWords, hs]
  rfl

theorem fetchWord_spec (m : Master) (late : List Nat) (k : Nat) {s : State} (hs : s.served = true) :
    (fetchWord m late k s).2.served = true ∧ (fetchWord m late k s).2.coreOn = s.coreOn ∧
    ((fetchWord m late k s).2.host m).winAddr = ((s.host m).winAddr + 1) % 2 ^ 24 ∧
    (s.coreOn = false → k ∈ late → (fetchWord m late k s).1 = 0) := by
  unfold fetchWord
  split
  · exact ⟨by simpa [windowNext] using hs, by simp [windowNext], by simp [windowNext], fun _ _ => rfl⟩
  · rename_i hl
    have hk := mapRead_keeps s m (s.host m).winAddr
    rw [busRead_winDataInc hs]
    refine ⟨by simpa [windowNext, hk.served] using hs, by simp [windowNext, hk.coreOn], by simp [windowNext, hk.winAddr], fun hc hm => ?_⟩
    exact absurd (by simp [lateFetch, hc, hm]) hl

/-- READ_MAP delivers as many words as it asks for, its window moves on by as many, and a late word is 0. -/
theorem readWords_spec (m : Master) (late : List Nat) (n : Nat) : ∀ (k : Nat) (s : State), s.served = true → (s.host m).winAddr < 2 ^ 24 →
    (readWords m late k n s).1.length = n ∧ (readWords m late k n s).2.served = true ∧
    ((readWords m late k n s).2.host m).winAddr = ((s.host m).winAddr + n) % 2 ^ 24 ∧
    (s.coreOn = false → ∀ j < n, k + j ∈ late → (readWords m late k n s).1[j]? = some 0) := by
  induction n with
  | zero => exact fun k s hs hw => ⟨rfl, hs, (Nat.mod_eq_of_lt hw).symm, fun _ j hj => absurd hj (Nat.not_lt_zero j)⟩
  | succ n ih =>
    intro k s hs hw
    obtain ⟨fs, fc, fw, fl⟩ := fetchWord_spec m late k hs
    obtain ⟨il, is, iw, iz⟩ := ih (k + 1) _ fs (fw ▸ Nat.mod_lt _ (by decide))
    rw [readWords_succ hs]
    refine ⟨by simp [il], is, by rw [iw, fw]; omega, fun hc j hj hm => ?_⟩
    cases j with
    | zero => simpa using fl hc hm
    | succ j => simpa using iz (fc.trans hc) j (by omega) (by rwa [Nat.add_right_comm, Nat.add_assoc])

theorem readMapFrame_served {s : State} {a n : Nat} {late : List Nat} (hs : s.served = true) (ha : a < 2 ^ 24) :
    readMapFrame s a n late = (readWords .mp late 0 n (loadWindow s a)).2.onHost .mp fun x =>
      { x with readData := (readWords .mp late 0 n (loadWindow s a)).1.map Word.ofN } := by
  obtain ⟨-, h, -, -⟩ := readWords_spec .mp late n 0 (loadWindow s a) (by simpa [loadWindow] using hs) (by simpa [loadWindow] using ha)
  unfold readMapFrame
  rw [hs, if_pos rfl]
  exact deliver_of_not_reset (inReset_of_served h)

/-- One word of a configuration that a map frame reads. -/
theorem readWords_one_rws {s : State} {m : Master} (hs : s.served = true) (hr : isRws (s.host m).winAddr = true) :
    readWords m [] 0 1 s = ([(beforeWrite s m (s.host m).winAddr).getD (viewOf s m (s.host m).winAddr)], windowNext s m) := by
  rw [readWords_succ hs, fetchWord, busRead_winDataInc hs, mapRead_rws hr]
  simp [lateFetch, readWords]

/-! ## The obligation -/

/-- Settles O43: clause by clause, each access as the staging or the reading of the word at the window. -/
theorem configurationWordsThroughTheWindow : Obligations.ConfigurationWordsThroughTheWindow := by
  unfold Obligations.ConfigurationWordsThroughTheWindow
  refine ⟨fun s m a v h => ?_, fun s m a v h ha => ?_, fun s m a v h ha => ?_, fun s a v h => ?_, fun s m a v hw hr hx ho h1 h2 h3 => ?_,
    fun s m hs hr => ⟨_, rfl, ?_⟩, fun s m hs hr => ⟨_, rfl, ?_⟩, fun s a hs hr => ⟨_, rfl, ?_⟩, fun s a n late hs => ⟨_, rfl, ?_⟩⟩
  · exact ⟨_, exec_stagedWrite h.writable h.rws, ((h.after_access m).staged v).congr (by simp) (by simp)⟩
  · obtain ⟨hst, hwin⟩ := (h.after_access m).winData v (by simpa using ha)
    exact ⟨_, rfl, hst.congr (by simp) ⟨rfl, rfl⟩, hwin⟩
  · obtain ⟨hst, hwin⟩ := (h.after_access m).winDataInc v (by simpa using ha)
    exact ⟨_, rfl, hst.congr (by simp) ⟨rfl, rfl⟩, hwin⟩
  · have ha : (BitVec.ofNat 24 a).toNat = a := Nat.mod_eq_of_lt a.isLt
    obtain ⟨hst, hwin⟩ := ((h.after_access .mp).onHost .mp fun x => { x with winAddr := a }).winDataInc v (by simp)
    refine ⟨_, rfl, ?_⟩
    simp only [writeMapFrame, (h.after_access .mp).writable, ha]
    exact ⟨hst.congr (by simp) ⟨rfl, rfl⟩, hwin⟩
  · refine ⟨_, exec_stagedWrite hw hr, ?_⟩
    rw [rwsWrite_staged (by simpa using hx), stagedWrite_held (by simpa using ho) (by simpa using h1) (by simpa using h2) (by simpa using h3)]
    exact ⟨by simp [raise], by simp [raise], (eventSet_raiseAt _ _ _ (by decide)).noted⟩
  · have hu : (access s m).served = true := by simpa using hs
    simp only [regAccess]
    rw [busRead_winData hu, mapRead_rws (by simpa using hr), deliver_of_not_reset (inReset_of_served hu)]
    have e := seenWord_access s m m (s.host m).winAddr
    exact ⟨by simpa [seenWord] using e, by simp, by simp⟩
  · have hu : (access s m).served = true := by simpa using hs
    simp only [regAccess]
    rw [busRead_winDataInc hu, mapRead_rws (by simpa using hr), deliver_of_not_reset (by simpa [windowNext] using inReset_of_served hs)]
    have e := seenWord_access s m m (s.host m).winAddr
    exact ⟨by simpa [seenWord] using e, by simp [windowNext]⟩
  · have hu : (loadWindow (access s .mp) a.toNat).served = true := by simpa [loadWindow] using hs
    rw [readMapFrame_served (by simpa using hs) a.isLt, readWords_one_rws hu (by simpa [loadWindow] using hr)]
    exact ⟨congrArg (fun w => [w]) (seenWord_access s .mp .mp a.toNat), rfl⟩
  · rw [readMapFrame_served (by simpa using hs) a.isLt]
    obtain ⟨hl, -, hw, hz⟩ := readWords_spec .mp late n 0 (loadWindow (access s .mp) a.toNat) (by simpa [loadWindow] using hs)
      (by simpa [loadWindow] using a.isLt)
    refine ⟨by simpa [State.onHost] using hl, hw, fun hc k hk hm => ?_⟩
    simp [State.onHost, hz (by simpa [loadWindow] using hc) k hk (by simpa using hm), Word.ofN]

end Sys2Proof.Machine
end

section
/-! PROOFS. The direct registers, the frames and the conflicts of writes (O39). -/

namespace Sys2Proof.Machine

@[simp] theorem noted_writable (s : State) (m : Master) (a : Nat) (t : State) : (noted s m a t).writable = t.writable := by
  simp [State.writable, State.served, State.inReset]

/-! ## Writes of direct registers (R526, R529) -/

/-- The window registers apart, a write of a direct register is noted with its address. -/
theorem busWrite_register {s : State} {m : Master} {a v : Nat} (hw : s.writable = true) (h2 : a ≠ 0x12) (h3 : a ≠ 0x13) :
    busWrite s m a v = noted s m a (regWrite s m a v) := by
  simp [busWrite, hw, h2, h3]

/-- Writes that no one may make perform nothing (R125, R161, R162). -/
theorem busWrite_not_writable {s : State} {m : Master} {a v : Nat} (hw : s.writable = false) : busWrite s m a v = s := by
  simp [busWrite, hw]

theorem busWrite_arg0 {s : State} {m : Master} (v : Word) (hw : s.writable = true) :
    busWrite s m 0x21 v.toNat = noted s m 0x21 (s.onHost m fun h => { h with arg0 := v }) := by
  rw [busWrite_register hw (by decide) (by decide)]
  exact congrArg (noted s m 0x21) (congrArg (fun w => s.onHost m fun h => { h with arg0 := w }) (wordOfN_toNat v))

theorem busWrite_arg1 {s : State} {m : Master} (v : Word) (hw : s.writable = true) :
    busWrite s m 0x22 v.toNat = noted s m 0x22 (s.onHost m fun h => { h with arg1 := v }) := by
  rw [busWrite_register hw (by decide) (by decide)]
  exact congrArg (noted s m 0x22) (congrArg (fun w => s.onHost m fun h => { h with arg1 := w }) (wordOfN_toNat v))

theorem busWrite_unlisted {s : State} {m : Master} {a v : Nat} (hw : s.writable = true) (ha : dirListed a = false) :
    busWrite s m a v = noted s m a (raise s evBadAddr) := by
  have h2 : a ≠ 0x12 := fun e => by simp [e, dirListed, rng] at ha
  have h3 : a ≠ 0x13 := fun e => by simp [e, dirListed, rng] at ha
  rw [busWrite_register hw h2 h3]
  unfold regWrite
  rw [if_pos (by rw [ha]; rfl)]

/-! ## Reads of direct registers (R125, R162, R529, R694) -/

theorem busRead_keeps (s : State) (m : Master) (a : Nat) :
    (busRead s m a).2.inReset = s.inReset ∧ (busRead s m a).2.pwr.booting = s.pwr.booting ∧ (busRead s m a).2.coreOn = s.coreOn := by
  have h : Within 0x204400c00000300 s (busRead s m a).2 := by simp
  exact ⟨h.inReset_eq rfl, h.booting_eq rfl, h.coreOn_eq rfl⟩

/-- In BOOT a register above 0x07 reads 0 (R162). -/
theorem busRead_in_boot {s : State} {m : Master} {a : Nat} (hb : s.pwr.booting = true) (ha : 7 < a) : busRead s m a = (0, s) := by
  have hs : s.served = false := by simp [State.served, hb]
  simp [busRead, hs, Nat.not_le.mpr ha]

/-- The fetch of one word of READ_REG. -/
def fetchReg (m : Master) (late : List Nat) (k a : Nat) (s : State) : Nat × State :=
  if a < 0x80 && !lateFetch s late k then busRead s m a else (0, s)

theorem readRegs_succ (m : Master) (late : List Nat) (k a n : Nat) (s : State) :
    readRegs m late k a (n + 1) s =
      ((fetchReg m late k a s).1 :: (readRegs m late (k + 1) (a + 1) n (fetchReg m late k a s).2).1,
        (readRegs m late (k + 1) (a + 1) n (fetchReg m late k a s).2).2) := rfl

theorem fetchReg_keeps (m : Master) (late : List Nat) (k a : Nat) (s : State) :
    (fetchReg m late k a s).2.inReset = s.inReset ∧ (fetchReg m late k a s).2.pwr.booting = s.pwr.booting ∧
      (fetchReg m late k a s).2.coreOn = s.coreOn := by
  unfold fetchReg
  split
  · exact busRead_keeps s m a
  · exact ⟨rfl, rfl, rfl⟩

theorem fetchReg_in_boot {m : Master} {late : List Nat} {k a : Nat} {s : State} (hb : s.pwr.booting = true) (ha : 7 < a) :
    (fetchReg m late k a s).1 = 0 := by
  unfold fetchReg
  split
  · rw [busRead_in_boot hb ha]
  · rfl

theorem fetchReg_late {m : Master} {late : List Nat} {k a : Nat} {s : State} (hc : s.coreOn = false) (hk : k ∈ late) :
    (fetchReg m late k a s).1 = 0 := by
  simp [fetchReg, lateFetch, hc, hk]

/-- READ_REG delivers as many words as it asks for; in BOOT those above 0x07 are 0, and while CORE is not ON the late ones. -/
theorem readRegs_spec (m : Master) (late : List Nat) (n : Nat) : ∀ (k a : Nat) (s : State),
    (readRegs m late k a n s).1.length = n ∧ (readRegs m late k a n s).2.inReset = s.inReset ∧
    (s.pwr.booting = true → 7 < a → (readRegs m late k a n s).1 = List.replicate n 0) ∧
    (s.coreOn = false → ∀ j < n, k + j ∈ late → (readRegs m late k a n s).1[j]? = some 0) := by
  induction n with
  | zero => exact fun k a s => ⟨rfl, rfl, fun _ _ => rfl, fun _ j hj => absurd hj (Nat.not_lt_zero j)⟩
  | succ n ih =>
    intro k a s
    obtain ⟨fr, fb, fc⟩ := fetchReg_keeps m late k a s
    obtain ⟨il, ir, ib, iz⟩ := ih (k + 1) (a + 1) (fetchReg m late k a s).2
    rw [readRegs_succ]
    refine ⟨by simp [il], ir.trans fr, fun hb ha => ?_, fun hc j hj hm => ?_⟩
    · simp [fetchReg_in_boot hb ha, ib (fb.trans hb) (by omega), List.replicate_succ]
    · cases j with
      | zero => exact congrArg some (fetchReg_late hc hm)
      | succ j => simpa using iz (fc.trans hc) j (by omega) (by rwa [Nat.add_right_comm, Nat.add_assoc])

theorem readRegFrame_delivers {s : State} {a n : Nat} {late : List Nat} (hr : s.inReset = false) (ha : a ≤ 0x7F) :
    (readRegFrame s a n late).mp.readData = (readRegs .mp late 0 a n s).1.map Word.ofN := by
  obtain ⟨-, h, -, -⟩ := readRegs_spec .mp late n 0 a s
  unfold readRegFrame
  rw [if_neg (Nat.not_lt.mpr ha)]
  dsimp only
  rw [deliver_of_not_reset (h.trans hr)]
  rfl

/-- A master's own argument register reads as it stands, with no side effect. -/
theorem busRead_args {s : State} {m : Master} (hs : s.served = true) :
    busRead s m 0x21 = ((s.host m).arg0.toNat, s) ∧ busRead s m 0x22 = ((s.host m).arg1.toNat, s) := by
  have hg : groupAt s 0x21 = none ∧ groupAt s 0x22 = none := by
    simp [groupAt, itemAt, itemsNear, dirItems, rol]
  constructor <;> simp [busRead, directRead, mapRead, mapWord, dirWord, dirCore, rng, perMaster, beforeWrite, ownRegister, hs, hg]

theorem readRegs_args {s : State} {m : Master} (hs : s.served = true) :
    readRegs m [] 0 0x21 2 s = ([(s.host m).arg0.toNat, (s.host m).arg1.toNat], s) := by
  obtain ⟨h0, h1⟩ := busRead_args (m := m) hs
  simp [readRegs, lateFetch, h0, h1]

/-! ## Writes of both masters in one cycle (R542, R543, R573) -/

/-- The master whose write wins (R544). -/
def priorMaster (s : State) : Master := if s.prioMp then .mp else .hb

theorem otherMaster_of_not_prior {s : State} {m : Master} (h : m ≠ priorMaster s) : otherMaster m = priorMaster s := by
  cases m <;> cases hp : priorMaster s <;> simp_all [otherMaster]

/-- Two writes of one listed register that is not each master's own conflict, and the prior master's wins. -/
theorem bothWrite_conflict {s : State} {m : Master} {x y : Target × Nat} (hw : s.writable = true)
    (hc : canonical s (resolve s m x.1) = canonical s (resolve s (otherMaster m) y.1)) (ho : ownRegister (resolve s m x.1) = false)
    (hl : mapListed s (resolve s m x.1) = true) :
    bothWrite s m x y = if m = priorMaster s then winWrite s m x y else winWrite s (otherMaster m) y x := by
  unfold bothWrite
  rw [hw, Bool.not_true, if_neg Bool.false_ne_true]
  exact if_neg (by simp [hc, ho, hl])

/-- The record of a conflict becomes the newest (R543). -/
theorem noteConflict_head (s : State) (a : Nat) (w : Master) (loser winVal loseVal : Nat) :
    (noteConflict s a w loser winVal loseVal).conflicts.head? = some
      { target := a, winner := w, loser := loser, winVal := Word.ofN winVal, loseVal := Word.ofN loseVal, tick := s.echoTick } := by
  simp [noteConflict, raise]

/-- What a conflict leaves: its record first, and its event. -/
theorem winWrite_records {s : State} {w : Master} {win lose : Target × Nat} (hl : lose.1 ≠ .direct 0x13) :
    ∃ c, (winWrite s w win lose).conflicts.head? = some c ∧ c.target = resolve s w win.1 ∧ c.winner = w ∧
      c.winVal = Word.ofN win.2 ∧ c.loseVal = Word.ofN lose.2 ∧ EventSet (winWrite s w win lose) evConflict := by
  unfold winWrite
  rw [if_neg hl]
  exact ⟨_, noteConflict_head .., rfl, rfl, rfl, rfl, eventSet_raiseAt _ _ _ (by decide)⟩

theorem access_resolve (s : State) (k m : Master) (t : Target) : resolve (access s k) m t = resolve s m t := by
  cases t <;> simp [resolve]

theorem access_canonical (s : State) (k : Master) (a : Nat) : canonical (access s k) a = canonical s a := by
  obtain ⟨x, e⟩ := access_shape s k
  rw [e]
  rfl

/-- The window registers apart, a direct register names itself. -/
theorem resolve_direct {s : State} {m : Master} {a : Fin 128} (h2 : a.val ≠ 0x12) (h3 : a.val ≠ 0x13) : resolve s m (.direct a) = a := by
  simp [resolve, h2, h3]

theorem mapListed_direct {s : State} {a : Nat} (ha : a < 0x80) (hl : dirListed a = true) (h2 : a ≠ 0x12) (h3 : a ≠ 0x13) :
    mapListed s a = true := by
  simp [mapListed, ha, hl, h2, h3]

/-- A listed register that is none of each master's own, written under any of its names by the other master too: the conflict is recorded with
its winner by MASTER_PRIO and both values. -/
theorem registerWrite_conflict {s : State} {m : Master} {a : Fin 128} {y : Target} (v r : Word) (hw : s.writable = true)
    (hl : dirListed a = true) (h2 : a.val ≠ 0x12) (h3 : a.val ≠ 0x13) (ho : ownRegister a = false) (hy : y ≠ .direct 0x13)
    (hc : canonical s a = canonical s (resolve s (otherMaster m) y)) :
    Answers (.registerWrite m (.direct a) v (some (y, r))) s fun t => ∃ c, t.conflicts.head? = some c ∧
      (c.target = a ∨ c.target = resolve s (otherMaster m) y) ∧ c.winner = priorMaster s ∧
      c.winVal = (if c.winner = m then v else r) ∧ c.loseVal = (if c.winner = m then r else v) ∧ EventSet t evConflict := by
  refine ⟨_, rfl, ?_⟩
  have hx : Target.direct a ≠ .direct 0x13 := fun e => h3 (congrArg Fin.val (Target.direct.inj e))
  have hp : priorMaster (access (access s m) (otherMaster m)) = priorMaster s := by simp [priorMaster]
  rw [bothWrite_conflict (by simpa using hw) (by simpa [access_resolve, access_canonical, resolve_direct h2 h3] using hc)
    (by simpa [resolve_direct h2 h3] using ho) (by rw [resolve_direct h2 h3]; exact mapListed_direct a.isLt hl h2 h3), hp]
  by_cases h : m = priorMaster s
  · obtain ⟨c, hh, ht, hw, hv, hr, he⟩ := winWrite_records (s := access (access s m) (otherMaster m)) (w := m)
      (win := (.direct a, v.toNat)) (lose := (y, r.toNat)) hy
    rw [if_pos h]
    exact ⟨c, hh, .inl (ht.trans (resolve_direct h2 h3)), hw.trans h, by simp [hv, hw, wordOfN_toNat], by simp [hr, hw, wordOfN_toNat], he⟩
  · obtain ⟨c, hh, ht, hw, hv, hr, he⟩ := winWrite_records (s := access (access s m) (otherMaster m)) (w := otherMaster m)
      (win := (y, r.toNat)) (lose := (.direct a, v.toNat)) hx
    have hm : otherMaster m ≠ m := by cases m <;> decide
    rw [if_neg h]
    exact ⟨c, hh, .inr (ht.trans (by simp [access_resolve])), hw.trans (otherMaster_of_not_prior h), by simp [hv, hw, hm, wordOfN_toNat],
      by simp [hr, hw, hm, wordOfN_toNat], he⟩

/-! ## The rows -/

/-- A raise alone leaves what the host bus writes. -/
theorem raise_keeps (s : State) {e : Nat} (he : e < 256) :
    (raise s e).cfg = s.cfg ∧ (raise s e).txn = s.txn ∧ (raise s e).hb = s.hb ∧ (raise s e).mp = s.mp ∧ EventSet (raise s e) e :=
  ⟨by simp [raise], by simp [raise], by simp [raise], by simp [raise], eventSet_raiseAt _ _ _ he⟩

/-- A WRITE_REG frame of one word is a write of that register by MP (R531). -/
theorem exec_writeReg_one (s : State) (a : Fin 128) (v : Word) :
    exec (.writeReg (BitVec.ofNat 24 a) [v]) s = exec (.registerWrite .mp (.direct a) v none) s := by
  have ha : (BitVec.ofNat 24 a).toNat = a := Nat.mod_eq_of_lt (a.isLt.trans (by decide))
  have hl : ¬ 0x7F < a.val := Nat.not_lt.mpr (Nat.le_of_lt_succ a.isLt)
  refine congrArg Host.Outcome.next ?_
  unfold writeRegFrame targetWrite
  rw [ha, if_neg hl]
  by_cases hw : (access s .mp).writable = true
  · simp [hw, writeRegs, a.isLt]
  · simp [hw, busWrite_not_writable]

theorem writeReg_args {s : State} (v w : Word) (hw : s.writable = true) :
    Answers (.writeReg 0x21 [v, w]) s fun t => t.mp.arg0 = v ∧ t.mp.arg1 = w ∧ t.hb = s.hb := by
  have hu : (access s .mp).writable = true := by simpa using hw
  have e : writeRegFrame (access s .mp) 0x21 [v, w] = busWrite (busWrite (access s .mp) .mp 0x21 v.toNat) .mp 0x22 w.toNat := by
    simp [writeRegFrame, writeRegs, hu]
  refine ⟨_, congrArg Host.Outcome.next e, ?_⟩
  rw [busWrite_arg0 v hu, busWrite_arg1 w (by simpa using hu)]
  simp [State.onHost]

theorem writeReg_above {s : State} {a : BitVec 24} (ws : List Word) (hw : s.writable = true) (ha : 0x7F < a.toNat) :
    exec (.writeReg a ws) s = .next (raise (access s .mp) evSpiFrame) := by
  have hr : (access s .mp).inReset = false := by simpa using inReset_of_served (served_of_writable hw)
  simp [exec, execWriteReg, writeRegFrame, badFrame, hw, ha, hr]

/-- READ_REG delivers the words that its fetches give. -/
theorem readReg_delivers {s : State} {a : BitVec 24} (n : Nat) (late : List Nat) (hr : s.inReset = false) (ha : a.toNat ≤ 0x7F) :
    Answers (.readReg a n late) s fun t => t.mp.readData = (readRegs .mp late 0 a.toNat n (access s .mp)).1.map Word.ofN :=
  ⟨_, rfl, readRegFrame_delivers (by simpa using hr) ha⟩

theorem spiFrame_keeps (s : State) : Answers .spiFrame s fun t =>
    t.cfg = s.cfg ∧ t.txn = s.txn ∧ t.hb = s.hb ∧ t.mp = s.mp ∧ (s.inReset = false → EventSet t evSpiFrame) := by
  refine ⟨_, rfl, ?_⟩
  unfold badFrame
  split
  · exact ⟨rfl, rfl, rfl, rfl, fun h => absurd (h.symm.trans ‹_›) Bool.false_ne_true⟩
  · obtain ⟨hc, ht, hh, hm, he⟩ := raise_keeps s (e := evSpiFrame) (by decide)
    exact ⟨hc, ht, hh, hm, fun _ => he⟩

theorem registerWrite_arg0 {s : State} {m : Master} (v : Word) (hw : s.writable = true) :
    Answers (.registerWrite m (.direct 0x21) v none) s fun t =>
      (t.host m).arg0 = v ∧ t.host (otherMaster m) = s.host (otherMaster m) := by
  have hm : otherMaster m ≠ m := by cases m <;> decide
  refine ⟨_, congrArg Host.Outcome.next (busWrite_arg0 v (by simpa using hw)), by simp, ?_⟩
  rw [noted_host, State.host_onHost_other _ _ hm, access_host]

theorem exec_registerWrite_unlisted {s : State} {m : Master} {a : Fin 128} (v : Word) (hw : s.writable = true) (ha : dirListed a = false) :
    exec (.registerWrite m (.direct a) v none) s = .next (noted (access s m) m a (raise (access s m) evBadAddr)) :=
  congrArg Host.Outcome.next (busWrite_unlisted (by simpa using hw) ha)

/-- The low word of a group's sticky bits is one target, named by EVT_STATUS_L and by its word of the map (R542, R578). -/
theorem canonical_evtStatus {s : State} {g : Fin 8} (hg : s.evt.grpSel = g.val) :
    canonical s 0x2A = canonical s (0x090000 + 2 * g.val) := by
  have := g.isLt
  unfold canonical
  rw [if_pos (.inl rfl), hg, if_neg (by omega), if_neg (by omega), if_neg (by omega)]
  rfl

theorem conflictClr_clears {s : State} {m : Master} (hw : s.writable = true) :
    Answers (.conflictClr m) s fun t => t.conflicts = [] ∧ t.conflictCnt = 0 ∧ Echoed t m 0x440 1 resAccepted := by
  have e : conflictClr (access s m) m = echo { access s m with conflicts := [], conflictCnt := 0 } m 0x440 1 [] resAccepted := by
    simp [conflictClr, hw]
  exact ⟨_, congrArg Host.Outcome.next e, rfl, rfl, _, echo_head .., rfl, rfl, rfl, rfl⟩

/-! ## The obligation -/

/-- Settles O39: row by row, from the writes and reads of a register, the words of a frame and the record of a conflict. -/
theorem directRegistersAndFrames : Obligations.DirectRegistersAndFrames := by
  unfold Obligations.DirectRegistersAndFrames
  refine ⟨exec_writeReg_one, fun s v w hw => writeReg_args v w hw, fun s a ws hw ha => ⟨_, writeReg_above ws hw ha, ?_⟩,
    fun s a n late hr ha => ?_, fun s hs => ?_, fun s a n late k hr hc ha hk hm => ?_, spiFrame_keeps,
    fun s hr => ⟨_, rfl, ?_⟩, fun s v hr => ⟨_, rfl, ?_⟩, fun s => ⟨s, rfl, rfl⟩, fun s m v hw => registerWrite_arg0 v hw,
    fun s m a v hw ha => ⟨_, exec_registerWrite_unlisted v hw ha, ?_⟩, fun s m a v r hw hl h2 h3 ho => ?_, fun s m g v r hw hg => ?_,
    fun s m hw => conflictClr_clears hw⟩
  · simpa using raise_keeps (access s .mp) (e := evSpiFrame) (by decide)
  · obtain ⟨t, ht, hd⟩ := readReg_delivers n late hr ha
    obtain ⟨hl, -, hb, -⟩ := readRegs_spec .mp late n 0 a.toNat (access s .mp)
    exact ⟨t, ht, by simp [hd, hl], fun h h7 => by simp [hd, hb (by simpa using h) h7, Word.ofN]⟩
  · obtain ⟨t, ht, hd⟩ := readReg_delivers (a := 0x21) 2 [] (inReset_of_served hs) (by decide)
    have e := readRegs_args (s := access s .mp) (m := .mp) (by simpa using hs)
    exact ⟨t, ht, hd.trans (by simp [e, wordOfN_toNat, State.host])⟩
  · obtain ⟨t, ht, hd⟩ := readReg_delivers n late hr ha
    obtain ⟨-, -, -, hz⟩ := readRegs_spec .mp late n 0 a.toNat (access s .mp)
    exact ⟨t, ht, by simp [hd, hz (by simpa using hc) k hk (by simpa using hm), Word.ofN]⟩
  · have hu : (access s .hb).inReset = false := by simpa using hr
    rw [hu, deliver_of_not_reset hu]
    exact ⟨by simp [raise, State.onHost, Word.ofN], eventSet_raiseAt _ _ _ (by decide)⟩
  · obtain ⟨hc, ht, hh, -, he⟩ := raise_keeps (access s .hb) (e := evAccessTimeout) (by decide)
    have hu : (access s .hb).inReset = false := by simpa using hr
    rw [hu]
    exact ⟨hh.trans (by simp), hc.trans (by simp), ht.trans (by simp), he⟩
  · obtain ⟨hc, ht, hh, hm, he⟩ := raise_keeps (access s m) (e := evBadAddr) (by decide)
    exact ⟨by simpa using hc, by simpa using ht, by simpa using hh, by simpa using hm, he.noted⟩
  · have hy : Target.direct a ≠ .direct 0x13 := fun e => h3 (congrArg Fin.val (Target.direct.inj e))
    obtain ⟨t, ht, c, hh, hc, hr⟩ := registerWrite_conflict v r hw hl h2 h3 ho hy (by rw [resolve_direct h2 h3])
    exact ⟨t, ht, c, hh, hc.elim id fun h => h.trans (resolve_direct h2 h3), hr⟩
  · obtain ⟨t, ht, c, hh, -, hp, -, -, he⟩ := registerWrite_conflict (m := m) (a := 0x2A) v r hw (by decide) (by decide) (by decide) (by decide)
      (y := .map (Fin.ofNat 16777216 (0x090000 + 2 * g.val))) nofun
      ((canonical_evtStatus hg).trans (congrArg (canonical s) (Nat.mod_eq_of_lt (by omega)).symm))
    exact ⟨t, ht, c, hh, hp, he⟩

end Sys2Proof.Machine
end

section
/-! PROOFS. A write of PWR_CTRL (O5). -/

namespace Sys2Proof.Machine

/-! ## PWR_CTRL is changed by its accepted writes alone -/

theorem Within.ctrl_eq {s t : State} (h : Within (Part.mask (Part.allBut [.domains])) s t) : t.pwr.ctrl = s.pwr.ctrl := by
  have e := h.same .domains
  simp only [Part.same, Prod.mk.injEq] at e
  obtain ⟨hc, -⟩ := e
  exact hc

theorem Within.domainState_eq {s t : State} (h : Within (Part.mask (Part.allBut [.domains])) s t) (d : Domain) :
    domainState t.pwr d = domainState s.pwr d := by
  have e := h.same .domains
  simp only [Part.same, Prod.mk.injEq] at e
  obtain ⟨-, hcore, hsyn, houtl, houth, -⟩ := e
  cases d <;> assumption

@[simp] theorem setDomain_ctrl (p : PowerUnit) (d : Domain) (x : DomState) : (setDomain p d x).ctrl = p.ctrl := by cases d <;> rfl

@[simp] theorem refreshMode_ctrl (s : State) (cause : Nat) : (refreshMode s cause).pwr.ctrl = s.pwr.ctrl :=
  Within.ctrl_eq (by simp [Part.bit])

@[simp] theorem coreLost_ctrl (s : State) (byWrite : Bool) : (coreLost s byWrite).pwr.ctrl = s.pwr.ctrl := by
  have before : Within (Part.mask (Part.allBut [.domains])) s
      (chanPStop (lacesCoreOff (dpllsCoreOff (synCoreOff (eyesCoreOff (holdRaised (secCoreOff (opsCoreOff (txnCoreOff s))))))))) := by
    simp [Part.bit]
  have after (u : State) : (outsDomainOff u).pwr.ctrl = u.pwr.ctrl := Within.ctrl_eq (by simp [Part.bit])
  unfold coreLost
  rw [after]
  dsimp only
  split <;> exact before.ctrl_eq

@[simp] theorem unitsOff_ctrl (s : State) (d : Domain) : (unitsOff s d).pwr.ctrl = s.pwr.ctrl := Within.ctrl_eq (by simp [Part.bit])

@[simp] theorem powerDown_ctrl (s : State) (ds : List Domain) (byWrite : Bool) : (powerDown s ds byWrite).pwr.ctrl = s.pwr.ctrl := by
  refine List.foldlRecOn (motive := fun t : State => t.pwr.ctrl = s.pwr.ctrl) _ _ rfl fun t ht d _ => ?_
  dsimp only
  split
  · simpa using ht
  split <;> simpa using ht

@[simp] theorem markFault_ctrl (s : State) (d : Domain) : (markFault s d).pwr.ctrl = s.pwr.ctrl := by
  have boot (u : State) : (bootFinish u).pwr.ctrl = u.pwr.ctrl := Within.ctrl_eq (by simp [Part.bit])
  have fault : (raiseAt (s.onPwr fun p => setDomain p d .fault) evDomainFault (domIndex d) 0).pwr.ctrl = s.pwr.ctrl :=
    (Within.ctrl_eq (s := s.onPwr fun p => setDomain p d .fault) (by simp [Part.bit])).trans (setDomain_ctrl s.pwr d .fault)
  unfold markFault
  dsimp only
  split
  · exact fault
  split
  · exact (boot _).trans fault
  · exact (refreshMode_ctrl _ _).trans fault

@[simp] theorem rampFirst_ctrl (s : State) : (rampFirst s).pwr.ctrl = s.pwr.ctrl := by
  unfold rampFirst
  split
  · rfl
  dsimp only
  split
  · rfl
  split
  · simp
  · exact markFault_ctrl _ _

@[simp] theorem nextRamp_ctrl (s : State) : (nextRamp s).pwr.ctrl = s.pwr.ctrl :=
  forN_keeps (P := fun t => t.pwr.ctrl = s.pwr.ctrl) (fun _ t _ ht => (rampFirst_ctrl t).trans ht) rfl

/-! ## The write, one case each -/

@[simp] theorem pwrRefused_noteCmd (s : State) (v : Nat) : pwrRefused (noteCmd s) v = pwrRefused s v := by
  unfold noteCmd
  split
  · split <;> rfl
  · rfl

@[simp] theorem pwrRefused_access (s : State) (m : Master) (v : Nat) : pwrRefused (access s m) v = pwrRefused s v := by
  obtain ⟨x, e⟩ := access_shape s m
  rw [e]
  rfl

theorem writable_of_served {s : State} (hs : s.served = true) (he : s.pwr.shut ≠ .ended) : s.writable = true := by
  simp [State.writable, hs, he]

theorem pwrCtrlWrite_accepted {s : State} {w : Nat} (hw : s.writable = true) (hr : pwrRefused s (w % 16) = false) (hv : w % 16 ≠ s.pwr.ctrl) :
    (pwrCtrlWrite s w).pwr.ctrl = w % 16 := by
  unfold pwrCtrlWrite
  extract_lets v old noted k changed ret standing withdrawn written downs gone
  rw [hw, Bool.not_true, if_neg Bool.false_ne_true, pwrRefused_noteCmd, hr, if_neg Bool.false_ne_true, if_neg hv, nextRamp_ctrl,
    refreshMode_ctrl]
  simp only [gone]
  split
  · rfl
  · exact powerDown_ctrl _ _ _

theorem pwrCtrlWrite_refused {s : State} {w : Nat} (hw : s.writable = true) (hr : pwrRefused s (w % 16) = true) :
    pwrCtrlWrite s w = raise (noteCmd s) evCtrlRefused := by
  unfold pwrCtrlWrite
  extract_lets v old noted
  rw [hw, Bool.not_true, if_neg Bool.false_ne_true, pwrRefused_noteCmd, hr, if_pos rfl]

/-- Settles O5: an accepted write ends in operations that leave the enables; a refused one only raises its event. -/
theorem pwrCtrlWriteAndRefusal : Obligations.PwrCtrlWriteAndRefusal := by
  unfold Obligations.PwrCtrlWriteAndRefusal
  refine ⟨fun s m v hs he hr hv => ⟨_, rfl, ?_⟩, fun s m v hs he hr => ⟨_, rfl, ?_⟩⟩
  all_goals have hw : (access s m).writable = true := by simpa using writable_of_served hs he
  · simpa using pwrCtrlWrite_accepted hw (by simpa using hr) (by simpa using hv)
  · rw [pwrCtrlWrite_refused hw (by simpa using hr)]
    have same : Within (Part.mask (Part.allBut [.domains])) s (noted (access s m) m 0x05 (raise (noteCmd (access s m)) evCtrlRefused)) := by
      simp [Part.bit]
    exact ⟨same.ctrl_eq, same.domainState_eq, (eventSet_raiseAt _ _ _ (by decide)).noted⟩

end Sys2Proof.Machine
end

section
/-! PROOFS. Edges and pulses of a TIO pin (O13). -/

namespace Sys2Proof.Machine

/-! ## The state of a pin -/

theorem Within.act_eq {ps : Nat} {s t : State} (h : Within ps s t) (hp : ps.testBit Part.active.bit = false) : t.act = s.act := by
  have e : t.cfg.active = s.cfg.active := h .active hp
  unfold State.act
  rw [e]

theorem tioMode_congr {s t : State} (h : t.act = s.act) (p : Nat) : tioMode t p = tioMode s p := by
  unfold tioMode
  rw [h]

/-- Whether a pin is UP is told by CORE, its configuration, the self-test and its readback. -/
theorem tioOper_congr {s t : State} {p : Nat} (hc : t.coreOn = s.coreOn) (ha : t.act = s.act) (hq : t.opq = s.opq)
    (hb : (vat t.tios p).readbackBad = (vat s.tios p).readbackBad) : tioOper t p = tioOper s p := by
  unfold tioOper State.underTest
  rw [hc, ha, hq, hb, tioMode_congr ha]

/-! ## An edge (R79 to R82) -/

/-- The count of a rising edge (R598). -/
def countEdge (s : State) (pin : Nat) (rising : Bool) (at_ : Nat) : State :=
  if rising && !within8ns (vat s.tios pin).lastCount at_ then
    countSrc (0x110 + pin) 1 (s.onTio pin fun x => { x with lastCount := some at_ }) else s

/-- What the count of an edge leaves: all of the pins but the time of the pin's last count. -/
structure Counted (s t : State) (p : Nat) : Prop where
  oper : tioOper t p = tioOper s p
  act : t.act = s.act
  fifo : (vat t.tios p).fifo = (vat s.tios p).fifo
  missNext : (vat t.tios p).missNext = (vat s.tios p).missNext
  others : ∀ k : Nat, k ≠ p → vat t.tios k = vat s.tios k

theorem countEdge_counted (s : State) (p : Fin 16) (rising : Bool) (at_ : Nat) : Counted s (countEdge s p rising at_) p := by
  unfold countEdge
  split
  · have h : Within 0x7400000000300 s (countSrc (0x110 + p) 1 (s.onTio p fun x => { x with lastCount := some at_ })) := by simp
    have ht : (countSrc (0x110 + p) 1 (s.onTio p fun x => { x with lastCount := some at_ })).tios =
        vupd s.tios p fun x => { x with lastCount := some at_ } :=
      (show Within 0x7400000000200 (s.onTio p fun x => { x with lastCount := some at_ }) _ by simp) .tios rfl
    refine ⟨tioOper_congr (h.coreOn_eq rfl) (h.act_eq rfl) (h .opq rfl) ?_, h.act_eq rfl, ?_, ?_, ?_⟩
    · simp [ht]
    · simp [ht]
    · simp [ht]
    · simpa [ht] using vat_vupd_others
  · exact ⟨rfl, rfl, rfl, rfl, fun _ _ => rfl⟩

/-- An edge that a pin wants is counted, then stored, unless it comes within 8 ns of the last one. -/
theorem tioEdge_wanted {s : State} {p : Fin 16} {r : Bool} {sub : Nat} (hc : s.coreOn = true) (hu : tioOper s p = .up)
    (hw : tioWants (tioMode s p) r = true) :
    tioEdge s p r sub =
      if within8ns (vat s.tios p).lastEdge (crossTime s sub) then
        (countEdge s p r (crossTime s sub)).onTio p fun x => { x with missNext := true }
      else storeStamp (countEdge s p r (crossTime s sub)) p r (crossTime s sub) := by
  have c := countEdge_counted s p r (crossTime s sub)
  have h : (tioOper (countEdge s p r (crossTime s sub)) p == .up && tioWants (tioMode (countEdge s p r (crossTime s sub)) p) r) = true := by
    rw [c.oper, hu, tioMode_congr c.act, hw]
    rfl
  unfold tioEdge
  rw [hc, Bool.not_true, if_neg Bool.false_ne_true]
  exact if_pos h

theorem raiseIf_tios (b : Bool) (s : State) (e unit cause : Nat) : (raiseIf b s e unit cause).tios = s.tios := by cases b <;> simp

theorem storeStamp_room {s : State} {p : Fin 16} {r : Bool} {at_ : Nat} (hl : (vat s.tios p).fifo.length < 16) :
    (storeStamp s p r at_).tios = vupd s.tios p fun x => { x with
      fifo := x.fifo ++ [{ time := stampTime s p at_, rising := r, missed := (vat s.tios p).missNext }], missNext := false,
      lastEdge := some at_ } := by
  unfold storeStamp
  rw [if_neg (Nat.not_le.mpr hl)]
  exact raiseIf_tios _ _ _ _ _

theorem storeStamp_full {s : State} {p : Fin 16} {r : Bool} {at_ : Nat} (hl : 16 ≤ (vat s.tios p).fifo.length) :
    (storeStamp s p r at_).tios = vupd s.tios p fun x => { x with missNext := true, lastEdge := some at_ } := by
  unfold storeStamp
  rw [if_pos hl]
  simp

/-! ## The end of a pulse (R86) -/

/-- The time that passes up to a fire time is bench time and what counts it. -/
theorem passTo_stays (s : State) (t : Nat) : Within 0x7400040040202 s (passTo s t) := by simp

theorem pulseEnd_due {s : State} {p : Nat} {ok : Bool} {e : Nat} (hc : s.coreOn = true) (he : (vat s.tios p).pulseEnd = some e)
    (ht : inTick s e = true) :
    (pulseEnd s p ok).tios = vupd s.tios p fun x =>
      if inService s.act (tioBase p) && tioMode s p == 4 then
        { x with pulseEnd := none, level := false, readbackBad := if x.level then !ok else x.readbackBad }
      else { x with pulseEnd := none } := by
  have h := passTo_stays s e
  have ha : (passTo s e).act = s.act := h.act_eq rfl
  have hs : (passTo s e).tios = s.tios := h .tios rfl
  unfold pulseEnd
  rw [he]
  dsimp only
  rw [hc, ht, Bool.not_true, Bool.or_self, if_neg Bool.false_ne_true, ha, tioMode_congr ha]
  split <;> simp [*]

/-- Settles O13: an edge that is wanted is counted first, which leaves what its stamp rests on. -/
theorem tioEdgesAreStamped : Obligations.TioEdgesAreStamped := by
  unfold Obligations.TioEdgesAreStamped
  refine ⟨fun s p r sub hc hu hw h8 hl => ⟨_, rfl, ?_⟩, fun s p r sub hc hu hw h => ⟨_, rfl, ?_⟩, fun s p ok e hc he ht => ⟨_, rfl, ?_⟩⟩
  · obtain ⟨-, ha, hf, hm, ho⟩ := countEdge_counted s p r (crossTime s sub)
    rw [tioEdge_wanted hc hu hw, h8, if_neg Bool.false_ne_true, storeStamp_room (by rwa [hf])]
    refine ⟨?_, by simp, fun k hk => (vat_vupd_others k hk).trans (ho k hk)⟩
    simp [hf, hm, stampTime, ha]
  · obtain ⟨-, -, hf, -, ho⟩ := countEdge_counted s p r (crossTime s sub)
    rw [tioEdge_wanted hc hu hw]
    split
    · exact ⟨by simp [hf], by simp, fun k hk => (vat_vupd_others k hk).trans (ho k hk)⟩
    · have hl : 16 ≤ (vat (countEdge s p r (crossTime s sub)).tios p).fifo.length := hf ▸ h.resolve_left ‹_›
      rw [storeStamp_full hl]
      exact ⟨by simp [hf], by simp, fun k hk => (vat_vupd_others k hk).trans (ho k hk)⟩
  · dsimp only
    rw [pulseEnd_due hc he ht]
    refine ⟨?_, fun hi hm => by simp [hi, hm], vat_vupd_others⟩
    rw [vat_vupd_same _ _ p.isLt]
    split <;> rfl

end Sys2Proof.Machine
end

section
/-! PROOFS. The commands and the firing of an eyelet (O11): what they do, for every eyelet, and the clause of the obligation that fails. -/

namespace Sys2Proof.Machine

/-! ## ARM and CANCEL (R88, R92, R101) -/

/-- ARM changes the fire time and the mark of its own eyelet. -/
theorem armEye_eyes {s : State} {m : Master} {n : Nat} (hs : s.servedCore = true) :
    (armEye s m n).eyes = vupd s.eyes n fun x => { x with baseTime := (vat s.eyes n).quickTime, armed := true } := by
  unfold armEye
  rw [hs, Bool.not_true, if_neg Bool.false_ne_true]
  rfl

/-- CANCEL empties its own eyelet, or only marks it where a firing falls in the cycle. -/
theorem cancelEye_eyes {s : State} {m : Master} {n : Nat} (hs : s.servedCore = true) :
    (cancelEye s m n).eyes = vupd s.eyes n fun x =>
      if firingNow s n then { x with abortIgnored := true } else { x with st := .idle, edges := [], armed := false, active := false } := by
  unfold cancelEye
  rw [hs, Bool.not_true, if_neg Bool.false_ne_true]
  split <;> rfl

/-! ## One edge of an eyelet fires (R86, R91) -/

theorem eyeNext_congr {s t : State} {n : Nat} (h : vat t.eyes n = vat s.eyes n) : eyeNext t n = eyeNext s n := by
  unfold eyeNext
  rw [h]

/-- The eyelet without edge `e`; one that is used has also counted and dated its firing. -/
def eyeFired (used : Bool) (e : EyeEdge) (x : Eyelet) : Eyelet :=
  if used then
    { x with edges := x.edges.erase e, fireCount := min 65535 (x.fireCount + 1), lastFire := e.time, lateFired := x.lateFired || e.late }
  else { x with edges := x.edges.erase e }

theorem eyeFired_edges (used : Bool) (e : EyeEdge) (x : Eyelet) : (eyeFired used e x).edges = x.edges.erase e := by
  unfold eyeFired
  split <;> rfl

theorem eyeAct_eyes (s : State) (n : Nat) (e : EyeEdge) (ok : Bool) : (eyeAct s n e ok).eyes = s.eyes := 
  (show Within (Part.mask (Part.allBut [.eyes])) s (eyeAct s n e ok) by simp [Part.bit]).same .eyes

theorem raiseIf_eyes (b : Bool) (s : State) (e unit cause : Nat) : (raiseIf b s e unit cause).eyes = s.eyes := by cases b <;> simp

/-- Firing changes the eyelet alone: its edge goes, and its status follows. -/
theorem eyeFire_eyes {s : State} {n : Nat} {e : EyeEdge} (ok : Bool) (he : eyeNext s n = some e) : ∃ st on,
    (eyeFire s n ok).eyes = vupd s.eyes n fun _ => { eyeFired (eyeOper s n == .up) e (vat s.eyes n) with st := st, active := on } := by
  unfold eyeFire
  rw [he]
  dsimp only
  rw [raiseIf_eyes, apply_ite State.eyes, eyeAct_eyes, ite_self]
  exact ⟨_, _, rfl⟩

theorem eyeFire_others (s : State) {n k : Nat} (ok : Bool) (hk : k ≠ n) : vat (eyeFire s n ok).eyes k = vat s.eyes k := by
  cases he : eyeNext s n with
  | none => simp [eyeFire, he]
  | some e =>
    obtain ⟨st, on, h⟩ := eyeFire_eyes ok he
    rw [h]
    exact vat_vupd_other _ _ hk.symm

theorem eyeFire_edges {s : State} {n : Fin 32} {e : EyeEdge} (ok : Bool) (he : eyeNext s n = some e) :
    (vat (eyeFire s n ok).eyes n).edges = (vat s.eyes n).edges.erase e := by
  obtain ⟨st, on, h⟩ := eyeFire_eyes ok he
  simp [h, eyeFired_edges]

/-! ## What the order of R99 puts first -/

theorem winFire_eyes (s : State) (w : Nat) (ok : Bool) : (winFire s w ok).eyes = s.eyes :=
  (show Within (Part.mask (Part.allBut [.eyes])) s (winFire s w ok) by simp [Part.bit]).same .eyes

theorem fireUnit_eye (s : State) (n : Nat) (ok : Bool) : fireUnit s (n + 8) ok = eyeFire s n ok := by
  unfold fireUnit
  rw [if_neg (by omega)]
  rfl

/-- A unit that fires leaves the eyelets that are not its own. -/
theorem fireUnit_others (s : State) {v n : Nat} (ok : Bool) (hv : v ≠ n + 8) : vat (fireUnit s v ok).eyes n = vat s.eyes n := by
  unfold fireUnit
  split
  · rw [winFire_eyes]
  · exact eyeFire_others s ok (by omega)

/-- Whatever fires first on its target, the eyelet then fires its own next edge. -/
theorem fireUpTo_edges (g : Bool × Nat) {n : Fin 32} {e : EyeEdge} (ok : Bool) (fuel : Nat) : ∀ {s : State}, eyeNext s n = some e →
    (vat (fireUpTo g (n + 8) ok fuel s).eyes n).edges = (vat s.eyes n).edges.erase e := by
  have own {s : State} (he : eyeNext s n = some e) : (vat (fireUnit s (n + 8) ok).eyes n).edges = (vat s.eyes n).edges.erase e := by
    rw [fireUnit_eye]
    exact eyeFire_edges ok he
  induction fuel with
  | zero => exact own
  | succ fuel ih =>
    intro s he
    unfold fireUpTo
    split
    · rename_i v _
      split
      · exact own he
      · have hv := fireUnit_others s ok (show v ≠ n + 8 from ‹_›)
        rw [ih ((eyeNext_congr hv).trans he), hv]
    · exact own he

theorem fireUpTo_of_first {s : State} {g : Bool × Nat} {u : Nat} (ok : Bool) (fuel : Nat) (h : firstOn s g = some u) :
    fireUpTo g u ok fuel s = fireUnit s u ok := by
  cases fuel with
  | zero => rfl
  | succ fuel =>
    unfold fireUpTo
    rw [h]
    exact if_pos rfl

/-- The order of firings is told by the eyelets and the windows. -/
theorem unitEdge_congr {s t : State} (he : t.eyes = s.eyes) (hw : t.wins = s.wins) (u : Nat) : unitEdge t u = unitEdge s u := by
  unfold unitEdge winNext eyeNext
  rw [he, hw]

theorem firstOn_congr {s t : State} (he : t.eyes = s.eyes) (hw : t.wins = s.wins) (g : Bool × Nat) : firstOn t g = firstOn s g := by
  unfold firstOn
  simp only [unitEdge_congr he hw]

/-! ## EYELET_FIRE -/

theorem eyeletFire_due {s : State} {n : Nat} {e : EyeEdge} (ok : Bool) (hc : s.coreOn = true) (he : eyeNext s n = some e)
    (ht : inTick s e.time = true) :
    (∃ g r fuel, unitEdge s (n + 8) = some (some g, r) ∧ eyeletFire s n ok = fireUpTo g (n + 8) ok fuel (passTo s e.time)) ∨
      eyeletFire s n ok = eyeFire (passTo s e.time) n ok := by
  have h := passTo_stays s e.time
  have hu : unitEdge (passTo s e.time) (n + 8) = unitEdge s (n + 8) := unitEdge_congr (h .eyes rfl) (h .wins rfl) _
  have fire : eyeletFire s n ok = unitFire s (n + 8) e.time ok := by
    unfold eyeletFire
    rw [he]
  rw [fire]
  unfold unitFire
  rw [hc, ht, Bool.not_true, Bool.or_self, if_neg Bool.false_ne_true]
  dsimp only
  rw [hu]
  split
  · exact .inl ⟨_, _, _, ‹_›, rfl⟩
  · exact .inr (fireUnit_eye _ n ok)

/-- Whether an eyelet is UP is told by CORE, its configuration, the self-test and the pins. -/
theorem eyeOper_congr {s t : State} (hc : t.coreOn = s.coreOn) (ha : t.act = s.act) (hq : t.opq = s.opq) (ht : t.tios = s.tios) (n : Nat) :
    eyeOper t n = eyeOper s n := by
  have pins (p : Nat) : tioOper t p = tioOper s p := tioOper_congr hc ha hq (by rw [ht])
  unfold eyeOper State.underTest
  simp only [hc, ha, hq, tioMode_congr ha, pins]

theorem passTo_eyeNext (s : State) (t n : Nat) : eyeNext (passTo s t) n = eyeNext s n :=
  eyeNext_congr (congrArg (vat · n) (passTo_stays s t .eyes rfl))

theorem passTo_eyeOper (s : State) (t n : Nat) : eyeOper (passTo s t) n = eyeOper s n :=
  have h := passTo_stays s t
  eyeOper_congr (h.coreOn_eq rfl) (h.act_eq rfl) (h .opq rfl) (h .tios rfl) n

/-- A live edge that is due leaves its eyelet, whatever fires before it. -/
theorem eyeletFire_edges {s : State} {n : Fin 32} {e : EyeEdge} (ok : Bool) (hc : s.coreOn = true) (he : eyeNext s n = some e)
    (ht : inTick s e.time = true) : (vat (eyeletFire s n ok).eyes n).edges = (vat s.eyes n).edges.erase e := by
  have hn := (passTo_eyeNext s e.time n).trans he
  rw [← show (passTo s e.time).eyes = s.eyes from passTo_stays s e.time .eyes rfl]
  obtain ⟨g, -, fuel, -, h⟩ | h := eyeletFire_due ok hc he ht
  · rw [h, fireUpTo_edges g ok fuel hn]
  · rw [h, eyeFire_edges ok hn]

/-- Where no other unit's edge comes first on its target, the eyelet alone fires; n + 8 is its number in the order of R99. -/
theorem eyeletFire_of_first {s : State} {n : Fin 32} {e : EyeEdge} (ok : Bool) (hc : s.coreOn = true) (he : eyeNext s n = some e)
    (ht : inTick s e.time = true) (hg : ∀ g r, unitEdge s (n + 8) = some (some g, r) → firstOn s g = some (n.val + 8)) : ∃ st on,
    (eyeletFire s n ok).eyes = vupd s.eyes n fun _ => { eyeFired (eyeOper s n == .up) e (vat s.eyes n) with st := st, active := on } := by
  have heyes : (passTo s e.time).eyes = s.eyes := passTo_stays s e.time .eyes rfl
  have hwins : (passTo s e.time).wins = s.wins := passTo_stays s e.time .wins rfl
  have own : eyeletFire s n ok = eyeFire (passTo s e.time) n ok := by
    obtain ⟨g, r, fuel, hu, h⟩ | h := eyeletFire_due ok hc he ht
    · rw [h, fireUpTo_of_first ok fuel ((firstOn_congr heyes hwins g).trans (hg g r hu)), fireUnit_eye]
    · exact h
  rw [own, ← heyes, ← passTo_eyeOper s e.time]
  exact eyeFire_eyes ok ((passTo_eyeNext s e.time n).trans he)

/-! ## The obligation: its last clause counts the units modulo 32 -/

/-- A live edge on gate 0 at bench time 0. -/
def edgeOnGate0 : EyeEdge := { (default : EyeEdge) with stage := .live, action := 5 }

/-- CORE is ON, and window 0, eyelet 0 and eyelet 24 each have a live edge on gate 0 at the same time: they fire in this order (R99). -/
def threeOnGate0 : State :=
  let s := State.reset.onPwr fun p => { p with core := .on }
  ((s.onWin 0 fun x => { x with edges := [{ (default : WinEdge) with stage := .live }] }).onEye 0 fun x =>
    { x with edges := [edgeOnGate0] }).onEye 24 fun x => { x with edges := [edgeOnGate0] }

theorem threeOnGate0_target : unitEdge threeOnGate0 32 = some (some (true, 0), 32) := by decide

theorem threeOnGate0_first : firstOn threeOnGate0 (true, 0) = some 0 := by decide

theorem threeOnGate0_edges : (vat threeOnGate0.eyes 0).edges = [edgeOnGate0] := by decide

theorem threeOnGate0_fired : (vat (eyeletFire threeOnGate0 24 true).eyes 0).edges = [] := by decide +kernel

/-- Refutes O11: in its last clause `some (n + 8)` is a sum of `Fin 32`, so for eyelet 24 it is unit 0, window 0. Where window 0 is the first
on gate 0 and eyelet 0 the second, EYELET_FIRE of eyelet 24 fires both before it, and eyelet 0 does not stay as it was. (`eyeletFire_of_first`
is the clause with the eyelet's own number.) -/
theorem not_eyeletCommandsAndFiring : ¬ Obligations.EyeletCommandsAndFiring := by
  unfold Obligations.EyeletCommandsAndFiring
  rintro ⟨-, -, -, -, fire⟩
  obtain ⟨t, ht, -, others⟩ := fire threeOnGate0 24 true edgeOnGate0 rfl rfl (by decide) fun g r hu => by
    obtain ⟨rfl, -⟩ : (true, 0) = g ∧ 32 = r := by simpa using threeOnGate0_target.symm.trans hu
    exact threeOnGate0_first
  obtain rfl : eyeletFire threeOnGate0 24 true = t := Host.Outcome.next.inj ht
  have h := congrArg Eyelet.edges (others 0 (by decide))
  rw [threeOnGate0_fired, threeOnGate0_edges] at h
  exact List.cons_ne_nil _ _ h.symm

end Sys2Proof.Machine
end

section
/-! PROOFS. The timers and counters of a Lace port, and adopted seconds (O30). -/

namespace Sys2Proof.Machine

/-! ## The window and the port states (R411) -/

/-- An update that leaves the window of a port leaves every window. -/
theorem vupd_window {v : Vector LacePort 4} {p : Nat} {f : LacePort → LacePort} (hf : ∀ x, (f x).window = x.window) (k : Nat) :
    (vat (vupd v p f) k).window = (vat v k).window := by
  rw [vat_vupd]
  split
  · exact hf _
  · rfl

theorem portCount_window (s : State) (p i k : Nat) : (vat (portCount s p i).ports k).window = (vat s.ports k).window :=
  vupd_window (by intro x; rfl) k

theorem dropQueued_window (s : State) (p k : Nat) : (vat (dropQueued s p).ports k).window = (vat s.ports k).window := by
  unfold dropQueued
  dsimp only
  refine forN_keeps (P := fun t : State => (vat t.ports k).window = (vat s.ports k).window) (fun _ t _ ht => ?_) ?_
  · exact (portCount_window t p cnDrop k).trans ht
  · exact vupd_window (by intro x; rfl) k

/-- State `t` shows the port states derived from `s`, and its windows are those of `s`. -/
structure PortsDerived (s t : State) : Prop where
  states : t.opers.ports = vmk 4 (portOper s)
  windows : ∀ k, (vat t.ports k).window = (vat s.ports k).window

theorem PortsDerived.raiseIf {s t : State} (h : PortsDerived s t) (b : Bool) (e unit cause : Nat) : PortsDerived s (raiseIf b t e unit cause) := by
  cases b
  · exact h
  · exact ⟨by simpa using h.states, by simpa using h.windows⟩

theorem PortsDerived.onPort {s t : State} (h : PortsDerived s t) (p : Nat) {f : LacePort → LacePort} (hf : ∀ x, (f x).window = x.window) :
    PortsDerived s (t.onPort p f) := ⟨h.states, fun k => (vupd_window hf k).trans (h.windows k)⟩

theorem PortsDerived.dropQueued {s t : State} (h : PortsDerived s t) (p : Nat) : PortsDerived s (dropQueued t p) :=
  have same : Within 0x8000000 t (Machine.dropQueued t p) := by simp
  ⟨(congrArg OperTable.ports (same .opers rfl)).trans h.states, fun k => (dropQueued_window t p k).trans (h.windows k)⟩

theorem derivePortOpers_derived (s : State) : PortsDerived s (derivePortOpers s) := by
  have noted (t : State) (e n : Nat) (dis : Nat → Bool) (was : Nat) : Within 0x4400000000200 t (noteMismatch t e n dis was).2 := by simp
  unfold derivePortOpers
  dsimp only
  refine forN_keeps (P := PortsDerived s) (fun p t _ ht => ?_) ⟨congrArg OperTable.ports (noted _ _ _ _ _ .opers rfl), fun k => ?_⟩
  · exact (((ht.raiseIf _ _ _ _).raiseIf _ _ _ _).onPort p (by intro x; rfl)).dropQueued p
  · exact congrArg (fun v => (vat v k).window) (noted _ _ _ _ _ .ports rfl)

theorem portWindowExpire_answer {s : State} (p : Fin 4) (hc : s.coreOn = true) : Answers (.portWindowExpire p) s fun t =>
    (vat t.ports p).window = (vat s.ports p).window.filter (fun b => decide (s.now < b + sec16)) ∧
    vat t.opers.ports p = portOper (windowExpire s p) p := by
  obtain ⟨ho, hw⟩ := derivePortOpers_derived (windowExpire s p)
  refine ⟨_, congrArg Host.Outcome.next (if_pos hc), (hw p).trans ?_, ?_⟩
  · simp [windowExpire]
  · rw [ho, vat_vmk _ p.isLt]

/-! ## The peer's report, and what stands for 64 ticks (R43, R401, R413) -/

theorem reportExpire_due {s : State} {p : Fin 4} {b : Nat} (hb : (vat s.ports p).reportTick = some b) (h : b + 64 ≤ s.time.tickSeq) :
    (vat (reportExpire s p).ports p).reported = none ∧ ∀ k : Nat, k ≠ p → vat (reportExpire s p).ports k = vat s.ports k := by
  unfold reportExpire
  exact ⟨by simp [hb, h], vat_vupd_others⟩

/-- An update that leaves the entry it is made on leaves the bank. -/
theorem vupd_of_eq {α : Type} {n : Nat} [Inhabited α] {v : Vector α n} {i : Nat} {f : α → α} (h : f (vat v i) = vat v i) : vupd v i f = v := by
  refine Vector.ext fun j hj => ?_
  have e : vat (vupd v i f) j = vat v j := by
    rw [vat_vupd]
    split
    · rename_i hi
      rw [← hi.1, h]
    · rfl
  simpa [vat, List.getD_eq_getElem?_getD, hj] using e

theorem reportExpire_early {s : State} {p : Nat} (h : ∀ b, (vat s.ports p).reportTick = some b → s.time.tickSeq < b + 64) :
    (reportExpire s p).ports = s.ports := by
  unfold reportExpire
  refine vupd_of_eq ?_
  cases hb : (vat s.ports p).reportTick with
  | none => rfl
  | some b => exact if_neg (Nat.not_le.mpr (h b hb))

theorem causeExpire_port (s : State) (p : Fin 4) :
    (vat (causeExpire s p).ports p).wiringUntil = (vat s.ports p).wiringUntil.filter (fun b => decide (s.time.tickSeq < b)) ∧
    (vat (causeExpire s p).ports p).conflictUntil = (vat s.ports p).conflictUntil.filter (fun b => decide (s.time.tickSeq < b)) ∧
    ∀ k : Nat, k ≠ p → vat (causeExpire s p).ports k = vat s.ports k := by
  unfold causeExpire
  exact ⟨by simp, by simp, vat_vupd_others⟩

/-- A time that has not come stays. -/
theorem filter_lt_of_early {t : Nat} {x : Option Nat} (h : ∀ b, x = some b → t < b) : x.filter (fun b => decide (t < b)) = x := by
  cases x with
  | none => rfl
  | some b => simp [h b rfl]

theorem causeExpire_early {s : State} {p : Nat}
    (h : ∀ b, (vat s.ports p).wiringUntil = some b ∨ (vat s.ports p).conflictUntil = some b → s.time.tickSeq < b) :
    (causeExpire s p).ports = s.ports := by
  unfold causeExpire
  refine vupd_of_eq ?_
  rw [filter_lt_of_early fun b hb => h b (.inl hb), filter_lt_of_early fun b hb => h b (.inr hb)]

/-- A time that is kept while it lies ahead. -/
theorem filter_lt_some (t b : Nat) : (some b).filter (fun b => decide (t < b)) = if b ≤ t then none else some b := by
  by_cases h : b ≤ t
  · simp [h]
  · simp [h, Nat.lt_of_not_le h]

theorem windowExpire_early {s : State} {p b : Nat} (hw : (vat s.ports p).window = some b) (hb : s.now < b + sec16) : windowExpire s p = s := by
  have same : (windowExpire s p).ports = s.ports := by
    refine vupd_of_eq ?_
    have stays : (vat s.ports p).window.filter (fun t => decide (s.now < t + sec16)) = (vat s.ports p).window := by simp [hw, hb]
    rw [stays]
  unfold windowExpire at same ⊢
  exact congrArg (fun v => { s with ports := v }) same

/-! ## Adopted seconds (R410) -/

/-- A jump leaves bench time and the seconds' validity as it finds them, and raises its event. -/
theorem noteJump_spec (s : State) : (noteJump s).time.bench = s.time.bench ∧ (noteJump s).lace = s.lace ∧ EventSet (noteJump s) evJump := by
  have h : Within (Part.mask (Part.allBut [.bench, .lace])) s (noteJump s) := by simp [Part.bit]
  exact ⟨h.same_of_not_mem (p := .bench) (by simp [Part.allBut]), h.same_of_not_mem (p := .lace) (by simp [Part.allBut]),
    eventSet_raiseAt _ _ _ (by decide)⟩

theorem stepBench_spec (s : State) (d : Int) : (stepBench s d).time.bench = wrapBench s.time.bench d ∧ (stepBench s d).lace = s.lace ∧
    EventSet (stepBench s d) evJump := noteJump_spec _

theorem adoptSeconds_due {s : State} {n : Int} {b : Nat} (hc : s.coreOn = true) (ha : s.lace.adoptSec = some (n, b)) (hb : b < s.benchSec) :
    adoptSeconds s = stepBench (s.onLace fun l => { l with adoptSec := none, secValid := true }) (-(n * secB)) := by
  simp [adoptSeconds, ha, hc, hb]

theorem adoptSeconds_early {s : State} (h : s.coreOn = false ∨ ∀ n b, s.lace.adoptSec = some (n, b) → s.benchSec ≤ b) : adoptSeconds s = s := by
  unfold adoptSeconds
  split
  · rename_i n b ha
    obtain h | h := h
    · simp [h]
    · simp [Nat.not_lt.mpr (h n b ha)]
  · rfl

/-! ## CNT_CLR (R419) -/

theorem vat_replicate_zero (n i : Nat) : vat (Vector.replicate n 0) i = 0 := by
  by_cases h : i < n <;> simp [vat, List.getD_eq_getElem?_getD, h]

theorem cntClr_spec {s : State} {m : Master} {p : Fin 4} (hs : s.servedCore = true) : (∀ i, vat (vat (cntClr s m p).ports p).cnts i = 0) ∧
    Echoed (cntClr s m p) m (laceBase p + 0x78) 1 resAccepted ∧ ∀ k : Nat, k ≠ p → vat (cntClr s m p).ports k = vat s.ports k := by
  unfold cntClr
  rw [if_pos hs]
  exact ⟨fun i => by simp [clearPortCounts, vat_replicate_zero], ⟨_, echo_head .., rfl, rfl, rfl, rfl⟩, vat_vupd_others⟩

/-- With CORE not ON the timers of the ports and CNT_CLR leave the ports and what the links share. -/
theorem portRows_idle {s : State} (m : Master) (p : Fin 4) (x : Fin 2) (hc : s.coreOn = false) :
    ∀ i ∈ [Instr.portWindowExpire p, .peerReportTimeout p, .portCauseExpire p, .cntClr m p, .tickMismatchExpire x],
      Answers i s fun t => t.ports = s.ports ∧ t.lace = s.lace := by
  have idle (u : State) : Host.Outcome.next (if s.coreOn then u else s) = (.next s : Host.Outcome State Fault Refusal) := by simp [hc]
  have clr : cntClr (access s m) m p = access s m := by simp [cntClr, State.servedCore, hc]
  simp only [List.forall_mem_cons, List.not_mem_nil, false_imp_iff, implies_true, and_true]
  exact ⟨⟨s, idle _, rfl, rfl⟩, ⟨s, idle _, rfl, rfl⟩, ⟨s, idle _, rfl, rfl⟩, ⟨_, congrArg Host.Outcome.next clr, by simp⟩, ⟨s, idle _, rfl, rfl⟩⟩

/-! ## The obligation -/

/-- Settles O30: each timer as the filter of the time that it holds, CNT_CLR and the adopted seconds as their updates. -/
theorem portTimersAndCounters : Obligations.PortTimersAndCounters := by
  unfold Obligations.PortTimersAndCounters
  have on {s : State} (hc : s.coreOn = true) (u : State) :
      Host.Outcome.next (if s.coreOn then u else s) = (.next u : Host.Outcome State Fault Refusal) := by simp [hc]
  refine ⟨fun s p b hc hw hb => ?_, fun s p b hc hw hb => ?_, fun s p b hc hr hb => ⟨_, on hc _, reportExpire_due hr hb⟩, fun s p h => ?_,
    fun s p b hc hw hb => ?_, fun s p b hc hw hb => ?_, fun s p h => ?_, fun s b hc hm => ⟨_, on hc _, ?_⟩, fun s b hc hm => ⟨_, on hc _, ?_⟩,
    fun s n b hc ha hb => ?_, fun s h => ⟨_, rfl, adoptSeconds_early h⟩, fun s m p hs => ?_, fun s m p x hc => portRows_idle m p x hc⟩
  · obtain ⟨t, ht, hwin, ho⟩ := portWindowExpire_answer p hc
    exact ⟨t, ht, by simp [hwin, hw, hb], ho⟩
  · obtain ⟨t, ht, hwin, ho⟩ := portWindowExpire_answer p hc
    exact ⟨t, ht, by simp [hwin, hw, hb], by rw [ho, windowExpire_early hw hb]⟩
  · refine ⟨_, rfl, fun k => ?_⟩
    split
    · rw [reportExpire_early h]
    · rfl
  · obtain ⟨hwiring, -, others⟩ := causeExpire_port s p
    exact ⟨_, on hc _, by simp [hwiring, hw, hb], others⟩
  · obtain ⟨-, hconflict, others⟩ := causeExpire_port s p
    exact ⟨_, on hc _, by simp [hconflict, hw, hb], others⟩
  · refine ⟨_, rfl, fun k => ?_⟩
    split
    · rw [causeExpire_early h]
    · rfl
  · exact ⟨(congrArg _ hm).trans (filter_lt_some _ _), rfl⟩
  · exact ⟨(congrArg _ hm).trans (filter_lt_some _ _), rfl⟩
  · obtain ⟨hbench, hlace, hevent⟩ := stepBench_spec (s.onLace fun l => { l with adoptSec := none, secValid := true }) (-(n * secB))
    exact ⟨_, congrArg Host.Outcome.next (adoptSeconds_due hc ha hb), hbench, by rw [hlace], by rw [hlace], hevent⟩
  · obtain ⟨hcnts, hecho, others⟩ := cntClr_spec (s := access s m) (m := m) (p := p) (by simpa using hs)
    exact ⟨_, rfl, hcnts, hecho, by simpa using others⟩

end Sys2Proof.Machine
end

section
/-! PROOFS. What the evaluation of a safety group leaves, and what takes a group to LOCKOUT. -/

namespace Sys2Proof.Machine

/-! ## Events stay raised -/

theorem logRaise_pwr (s : State) (e origin unit cause : Nat) : (logRaise s e origin unit cause).pwr = s.pwr := by
  obtain ⟨x, l, h⟩ := logRaise_shape s e origin unit cause
  rw [h]

/-- Raising an event takes no held event back (R118, R458). -/
theorem raiseAt_held (s : State) (n unit cause b : Nat) :
    (bitOf s.pwr.pwrPend b = true → bitOf (raiseAt s n unit cause).pwr.pwrPend b = true) ∧
    (bitOf s.pwr.safePend b = true → bitOf (raiseAt s n unit cause).pwr.safePend b = true) := by
  unfold raiseAt bitOf
  split
  · rw [logRaise_pwr]
    exact ⟨id, id⟩
  split
  · rw [logRaise_pwr]
    exact ⟨fun h => by simp [h], id⟩
  split
  · rw [logRaise_pwr]
    exact ⟨id, fun h => by simp [h]⟩
  · exact ⟨id, id⟩

/-- Raising an event takes none back, whether CORE is ON or not. -/
theorem EventSet.raiseAt {s : State} {e : Nat} (h : EventSet s e) (n unit cause : Nat) : EventSet (raiseAt s n unit cause) e := by
  unfold EventSet at *
  rw [raiseAt_coreOn]
  by_cases hc : s.coreOn = true
  · rw [if_pos hc] at *
    exact raiseAt_raised s n unit cause h
  rw [if_neg hc] at *
  by_cases h0 : e / 32 = 0
  · rw [if_pos h0] at *
    exact (raiseAt_held s n unit cause _).1 h
  rw [if_neg h0] at *
  by_cases h6 : e / 32 = 6
  · rw [if_pos h6] at *
    exact (raiseAt_held s n unit cause _).2 h
  · rw [if_neg h6]
    trivial

/-! ## What the evaluation of a group leaves (R455) -/

/-- A channel but for its groups. -/
def SafeChan.bare (x : SafeChan) : SafeChan := { x with grps := Vector.replicate 4 default }

/-- State `t` differs from `s`, of what the safety supervisor judges by, only in group `n` of channel `c`; no event is taken back. -/
structure GroupOnly (c : Chan) (n : Nat) (s t : State) : Prop where
  image : t.image = s.image
  hasPar : t.safe.hasPar = s.safe.hasPar
  clocks : (t.safe.clockXo, t.safe.clockCore, t.safe.clockH) = (s.safe.clockXo, s.safe.clockCore, s.safe.clockH)
  chan : (t.chan c).bare = (s.chan c).bare
  grps : ∀ k, k ≠ n → vat (t.chan c).grps k = vat (s.chan c).grps k
  other : t.chan (otherChan c) = s.chan (otherChan c)
  events : ∀ e, EventSet s e → EventSet t e

section
variable {c : Chan} {n : Nat} {s0 s : State}

theorem GroupOnly.refl (c : Chan) (n : Nat) (s : State) : GroupOnly c n s s := ⟨rfl, rfl, rfl, rfl, fun _ _ => rfl, rfl, fun _ => id⟩

theorem GroupOnly.onGrp (h : GroupOnly c n s0 s) (f : ChanGroup → ChanGroup) : GroupOnly c n s0 (s.onGrp c n f) := by
  obtain ⟨hi, hp, hk, hc, hg, ho, he⟩ := h
  refine ⟨?_, ?_, ?_, ?_, fun k hn => ?_, ?_, fun e h => (he e h).congr (by simp) (by simp)⟩
  · cases c <;> exact hi
  · cases c <;> exact hp
  · cases c <;> exact hk
  · rw [State.chan_onChan]
    exact hc
  · simpa [hn.symm] using hg k hn
  · rw [State.chan_onChan_other _ _ (by cases c <;> decide)]
    exact ho

/-- A change of the state that keeps its channels, parameters, clock judgements and raised events. -/
theorem GroupOnly.of_same (h : GroupOnly c n s0 s) {t : State} (hi : t.image = s.image) (hp : t.safe.hasPar = s.safe.hasPar)
    (hk : (t.safe.clockXo, t.safe.clockCore, t.safe.clockH) = (s.safe.clockXo, s.safe.clockCore, s.safe.clockH))
    (hc : ∀ c, t.chan c = s.chan c) (he : ∀ e, EventSet s e → EventSet t e) : GroupOnly c n s0 t :=
  ⟨hi.trans h.image, hp.trans h.hasPar, hk.trans h.clocks, by rw [hc]; exact h.chan, fun k hn => by rw [hc]; exact h.grps k hn,
    by rw [hc]; exact h.other, fun e hs => he e (h.events e hs)⟩

theorem State.chan_congr {s t : State} (h : t.safe = s.safe) (c : Chan) : t.chan c = s.chan c := by
  unfold State.chan
  rw [h]

theorem raiseAt_safe (s : State) (e unit cause : Nat) : (raiseAt s e unit cause).safe = s.safe := by simp

theorem GroupOnly.raiseAt (h : GroupOnly c n s0 s) (e unit cause : Nat) : GroupOnly c n s0 (raiseAt s e unit cause) :=
  have hs := raiseAt_safe s e unit cause
  h.of_same (congrArg Safety.par hs) (by rw [hs]) (by rw [hs]) (State.chan_congr hs) fun _ hs => hs.raiseAt _ _ _

theorem GroupOnly.raiseIf (h : GroupOnly c n s0 s) (b : Bool) (e unit cause : Nat) : GroupOnly c n s0 (raiseIf b s e unit cause) := by
  cases b
  · exact h
  · exact h.raiseAt e unit cause

theorem GroupOnly.noteNear (h : GroupOnly c n s0 s) (was : Bool) : GroupOnly c n s0 (noteNear was s) := by
  unfold Machine.noteNear
  split
  · exact h.of_same rfl rfl rfl (fun c => by cases c <;> rfl) fun _ he => he.congr rfl rfl
  · exact h

theorem GroupOnly.noteCombined (h : GroupOnly c n s0 s) (k : Nat) (was : SafeState) (why : Nat) :
    GroupOnly c n s0 (noteCombined s k was why) := by
  have cause (u : State) (hu : GroupOnly c n s0 u) (b : Bool) (i j l : Nat) : GroupOnly c n s0
      (if b then u.onSafe fun f => { f with causeGrp := i, causeState := j, causeCode := l } else u) := by
    split
    · exact hu.of_same rfl rfl rfl (fun c => by cases c <;> rfl) fun _ he => he.congr rfl rfl
    · exact hu
  unfold Machine.noteCombined
  dsimp only
  split
  · exact h
  · exact ((((cause _ (h.raiseAt _ _ _) _ _ _ _).raiseIf _ _ _ _).raiseIf _ _ _ _).raiseIf _ _ _ _).raiseIf _ _ _ _

theorem GroupOnly.observe (h : GroupOnly c n s0 s) (entry : Bool) : GroupOnly c n s0 (observe s c n entry) := by
  unfold Machine.observe
  dsimp only
  split
  · exact h
  · exact (h.onGrp _).raiseIf _ _ _ _

theorem GroupOnly.moveGroup (h : GroupOnly c n s0 s) (st : SafeState) (why : Nat) : GroupOnly c n s0 (moveGroup s c n st why) := by
  unfold Machine.moveGroup
  dsimp only
  refine GroupOnly.noteCombined (GroupOnly.raiseIf ?_ _ _ _ _) _ _ _
  split
  · exact ((h.onGrp _).noteNear _).observe true
  · exact (h.onGrp _).noteNear _

theorem GroupOnly.beginStop (h : GroupOnly c n s0 s) (fn : StopFn) (why : Nat) : GroupOnly c n s0 (beginStop s c n fn why) :=
  (h.onGrp _).moveGroup _ _

theorem GroupOnly.judgeStop (h : GroupOnly c n s0 s) : GroupOnly c n s0 (judgeStop s c n) := by
  unfold Machine.judgeStop
  dsimp only
  split
  · exact ((h.onGrp _).onGrp _).moveGroup _ _
  · exact h.onGrp _

theorem GroupOnly.stepUp (h : GroupOnly c n s0 s) (rq : Nat) (target : SafeState) : GroupOnly c n s0 (stepUp s c n rq target) := by
  unfold Machine.stepUp
  split
  · exact (h.moveGroup _ _).onGrp _
  · exact h.onGrp _

theorem GroupOnly.follow (h : GroupOnly c n s0 s) (st : SafeState) : GroupOnly c n s0 (follow s c n st) := by
  unfold Machine.follow
  dsimp only
  split
  · exact h.beginStop _ _
  · exact h.moveGroup _ _

theorem GroupOnly.inSafeOff (h : GroupOnly c n s0 s) (causes : Nat) : GroupOnly c n s0 (inSafeOff s c n causes) := by
  unfold Machine.inSafeOff
  dsimp only
  split
  · exact (h.onGrp _).raiseIf _ _ _ _
  · exact ((h.onGrp _).raiseIf _ _ _ _).stepUp _ _

theorem GroupOnly.inReady (h : GroupOnly c n s0 s) (causes : Nat) : GroupOnly c n s0 (inReady s c n causes) := by
  unfold Machine.inReady
  dsimp only
  split
  · exact h.moveGroup _ _
  split
  · exact h.stepUp _ _
  · exact h.onGrp _

theorem GroupOnly.inEnergy (h : GroupOnly c n s0 s) (causes : Nat) : GroupOnly c n s0 (inEnergy s c n causes) := by
  unfold Machine.inEnergy
  extract_lets m fn group sto g expired first
  split
  · exact h.moveGroup _ _
  split
  · exact h.beginStop _ _
  split
  · exact h.beginStop _ _
  split
  · exact ((h.onGrp _).raiseIf _ _ _ _).beginStop _ _
  split
  · split
    · exact h.moveGroup _ _
    · exact h.onGrp _
  split
  · exact h.onGrp _
  · exact h.stepUp _ _

theorem GroupOnly.inStopping (h : GroupOnly c n s0 s) : GroupOnly c n s0 (inStopping s c n) := by
  unfold Machine.inStopping
  dsimp only
  split
  · exact h.moveGroup _ _
  · exact h.judgeStop

/-- Evaluating a group changes that group alone. -/
theorem GroupOnly.evalGroup (h : GroupOnly c n s0 s) : GroupOnly c n s0 (evalGroup s c n) := by
  unfold Machine.evalGroup
  extract_lets g causes lock also
  split
  · exact h.onGrp _
  split
  · exact h.moveGroup _ _
  split
  · exact h.follow _
  split
  · exact h
  split
  · split
    · exact h.moveGroup _ _
    · exact h
  · split
    · exact h.moveGroup _ _
    · exact h
  · exact h.inSafeOff _
  · exact h.inReady _
  · exact h.inEnergy _
  · exact h.inEnergy _
  · exact h.inStopping
  · exact h

end

theorem evalGroup_only (s : State) (c : Chan) (n : Nat) : GroupOnly c n s (evalGroup s c n) := (GroupOnly.refl c n s).evalGroup

end Sys2Proof.Machine
end

section
/-! PROOFS. The encoder and clock monitors (O35). -/

namespace Sys2Proof.Machine

/-! ## A cause that locks a group out -/

theorem without_testBit (k l i : Nat) : (without k l).testBit i = (k.testBit i && !l.testBit i) := by
  unfold without
  rw [Nat.testBit_xor, Nat.testBit_and]
  cases k.testBit i <;> cases l.testBit i <;> rfl

theorem caIf_testBit (b : Bool) (c : Nat) : (caIf b c).testBit c = b := by cases b <;> simp [caIf]

/-- A group in LOCKOUT follows the other channel nowhere. -/
theorem followInto_lockout {s : State} {c : Chan} {n : Nat} (h : (vat (s.chan c).grps n).st = .lockout) : followInto s c n = none := by
  unfold followInto
  dsimp only
  rw [h]
  split
  · rfl
  · split <;> rfl

/-- Taking a group into LOCKOUT leaves it there. -/
theorem moveGroup_lockout (s : State) (c : Chan) {n : Nat} (hn : n < 4) (why : Nat) :
    (vat ((moveGroup s c n .lockout why).chan c).grps n).st = .lockout := by
  have near (b : Bool) (u : State) : (noteNear b u).chan c = u.chan c := by
    unfold noteNear
    split
    · cases c <;> rfl
    · rfl
  have raised (b : Bool) (u : State) (e i k : Nat) : (raiseIf b u e i k).chan c = u.chan c := by
    cases b
    · rfl
    · exact State.chan_congr (by simp) c
  have combined (u : State) (was : SafeState) : (noteCombined u n was why).chan c = u.chan c := by
    have h : Within (Part.mask (Part.allBut [.chanP, .chanH])) u (noteCombined u n was why) := by simp [Part.bit]
    cases c
    · exact h.same_of_not_mem (p := .chanP) (by simp [Part.allBut])
    · exact h.same_of_not_mem (p := .chanH) (by simp [Part.allBut])
  unfold moveGroup
  dsimp only
  rw [combined, raised, if_neg (by decide), near, State.chan_onChan, vat_vupd_same _ _ hn]
  rfl

/-- A cause of LOCKOUT locks a group out that is not UNUSED; one marked R31 does so in the active states (R455, R510). -/
theorem evalGroup_lockout {s : State} {c : Chan} {n code : Nat} (hn : n < 4) (hu : s.grpUsed n = true)
    (hc : (causesOf s c n).testBit code = true) (hl : maskLock.testBit code = true)
    (ha : maskR31.testBit code = false ∨ (vat (s.chan c).grps n).st.active = true) :
    (vat ((evalGroup s c n).chan c).grps n).st = .lockout := by
  unfold evalGroup
  rw [hu, Bool.not_true, if_neg Bool.false_ne_true]
  extract_lets g causes lock also
  have hlock : lock.testBit code = true := by
    simp only [lock, without_testBit, Nat.testBit_and, causes, hc, hl]
    obtain ha | ha := ha
    · split <;> simp [ha]
    · simp [g, ha]
  have hne : lock ≠ 0 := fun h => by simp [h] at hlock
  by_cases hg : g.st = .lockout
  · rw [if_neg (by simp [hg]), followInto_lockout hg]
    dsimp only
    split
    · exact hg
    · rw [hg]
      exact hg
  · rw [if_pos (by simp [hg, hne])]
    exact moveGroup_lockout s c hn _

theorem axisOf_of_pAxis {m : ParImage} {n k : Nat} (h : pAxis m n = k + 1) : axisOf m n = some k := by simp [axisOf, h]

theorem causesOf_encFault {s : State} {c : Chan} {n k : Nat} (ha : pAxis s.image n = k + 1) (hf : encFaulty (s.chan c) k = true) :
    (causesOf s c n).testBit caEncFault = true := by
  simp [causesOf, axisOf_of_pAxis ha, hf, caIf_testBit]

theorem causesOf_encDisagree {s : State} {c : Chan} {n k : Nat} (ha : pAxis s.image n = k + 1)
    (hf : encDisagree s.image (s.chan c) k = true) : (causesOf s c n).testBit caEncDisagree = true := by
  simp [causesOf, axisOf_of_pAxis ha, hf, caIf_testBit]

theorem causesOf_clockXo {s : State} (c : Chan) (n : Nat) (hx : s.safe.clockXo = true) : (causesOf s c n).testBit caClockXo = true := by
  simp [causesOf, hx, caIf_testBit]

/-! ## The rounds of a loop over the groups -/

/-- Of a loop's rounds, those before `n` keep what round `n` needs, and those after it keep what it brings. -/
theorem forN_reaches {σ : Type} {Q L : σ → Prop} {f : Nat → σ → σ} {m n : Nat} (hn : n < m) (before : ∀ k s, k < n → Q s → Q (f k s))
    (brings : ∀ s, Q s → L (f n s)) (after : ∀ k s, n < k → L s → L (f k s)) {s : σ} (h : Q s) : L (forN m f s) := by
  induction m with
  | zero => omega
  | succ m ih =>
    rw [forN_succ]
    by_cases e : n = m
    · subst e
      exact brings _ (forN_keeps (fun k s hk hs => before k s hk hs) h)
    · exact after m _ (by omega) (ih (by omega))

theorem encs_of_bare {x y : SafeChan} (h : x.bare = y.bare) : x.encs = y.encs :=
  (congrArg SafeChan.encs h : x.bare.encs = y.bare.encs)

theorem axDiff_of_bare {x y : SafeChan} (h : x.bare = y.bare) : x.axDiff = y.axDiff :=
  (congrArg SafeChan.axDiff h : x.bare.axDiff = y.bare.axDiff)

theorem encDisagree_of_bare {m : ParImage} {x y : SafeChan} {k : Nat} (h : x.bare = y.bare) : encDisagree m x k = encDisagree m y k :=
  (congrArg (encDisagree m · k) h : encDisagree m x.bare k = encDisagree m y.bare k)

theorem GroupOnly.grpUsed {c : Chan} {k : Nat} {s t : State} (h : GroupOnly c k s t) (n : Nat) : t.grpUsed n = s.grpUsed n := by
  have hi : t.safe.par = s.safe.par := h.image
  simp only [State.grpUsed, State.grpArch, State.par, hi, h.hasPar]

/-- The groups of axis `k` are judged in channel `c`. -/
def judgeAxis (s : State) (c : Chan) (k : Nat) : State := forN 4 (fun n t => if pAxis t.image n = k + 1 then evalGroup t c n else t) s

/-- A round of that judgement changes its own group alone. -/
theorem judgeAxis_round (s : State) (c : Chan) (k n : Nat) : GroupOnly c n s (if pAxis s.image n = k + 1 then evalGroup s c n else s) := by
  split
  · exact evalGroup_only s c n
  · exact .refl c n s

/-- Judging the groups of an axis keeps all of the channel but its groups, and every event. -/
theorem judgeAxis_keeps (s : State) (c : Chan) (k : Nat) : (judgeAxis s c k).image = s.image ∧
    ((judgeAxis s c k).chan c).bare = (s.chan c).bare ∧ ∀ e, EventSet s e → EventSet (judgeAxis s c k) e := by
  unfold judgeAxis
  refine forN_keeps (P := fun t : State => t.image = s.image ∧ (t.chan c).bare = (s.chan c).bare ∧
    ∀ e, EventSet s e → EventSet t e) (fun n t _ ⟨hi, hc, he⟩ => ?_) ⟨rfl, rfl, fun _ => id⟩
  have h := judgeAxis_round t c k n
  exact ⟨h.image.trans hi, h.chan.trans hc, fun e hs => h.events e (he e hs)⟩

/-- Judging the groups of an axis locks out those with a cause of LOCKOUT that is not marked R31, which all but the group's state tells. -/
theorem judgeAxis_lockout {s : State} {c : Chan} {k code : Nat} {bad : ParImage → SafeChan → Prop} (hl : maskLock.testBit code = true)
    (hr : maskR31.testBit code = false)
    (cause : ∀ t n, pAxis t.image n = k + 1 → bad t.image (t.chan c).bare → (causesOf t c n).testBit code = true)
    (hb : bad s.image (s.chan c).bare) {n : Nat} (hn : n < 4) (hu : s.grpUsed n = true) (ha : pAxis s.image n = k + 1) :
    (vat ((judgeAxis s c k).chan c).grps n).st = .lockout := by
  unfold judgeAxis
  refine forN_reaches (s := s) (Q := fun t : State => t.grpUsed n = true ∧ pAxis t.image n = k + 1 ∧ bad t.image (t.chan c).bare)
    (L := fun t : State => (vat (t.chan c).grps n).st = .lockout) hn (fun i t hi => ?_) (fun t => ?_) (fun i t hi => ?_) ?_
  · intro ⟨hu, ha, hb⟩
    have h := judgeAxis_round t c k i
    exact ⟨(h.grpUsed n).trans hu, by rw [h.image]; exact ha, by rw [h.image, h.chan]; exact hb⟩
  · intro ⟨hu, ha, hb⟩
    rw [if_pos ha]
    exact evalGroup_lockout hn hu (cause t n ha hb) hl (.inl hr)
  · intro hs
    rw [(judgeAxis_round t c k i).grps n (by omega)]
    exact hs
  · exact ⟨hu, ha, hb⟩

/-! ## Encoder faults (R479) -/

theorem onChan_params (s : State) (c : Chan) (f : SafeChan → SafeChan) :
    (s.onChan c f).image = s.image ∧ (s.onChan c f).safe.hasPar = s.safe.hasPar := by cases c <;> exact ⟨rfl, rfl⟩

theorem raiseIf_safe (b : Bool) (s : State) (e unit cause : Nat) : (raiseIf b s e unit cause).safe = s.safe := by cases b <;> simp

/-- Which groups are used, and by which axis, is told by the parameters. -/
theorem grpUsed_congr {s t : State} (hi : t.image = s.image) (hp : t.safe.hasPar = s.safe.hasPar) (n : Nat) : t.grpUsed n = s.grpUsed n := by
  have hi : t.safe.par = s.safe.par := hi
  simp only [State.grpUsed, State.grpArch, State.par, hi, hp]

/-- A decoder fault of an encoder of an axis in use is held, with its event, and the parameters stay. -/
theorem encBad_spec {s : State} {c : Chan} {e : Fin 4} (hu : axisUsed s.image (e.val / 2) = true) :
    (vat ((encBad s c e).chan c).encs e).fault = true ∧ EventSet (encBad s c e) (ev 6 19) ∧ (encBad s c e).image = s.image ∧
    ∀ n, (encBad s c e).grpUsed n = s.grpUsed n := by
  obtain ⟨hi, hp⟩ := onChan_params s c fun x => { x with encs := vupd x.encs e fun y => { y with fault := true, cleanSince := x.clk } }
  unfold encBad
  rw [hu, Bool.not_true, if_neg Bool.false_ne_true]
  have hs := raiseAt_safe (s.onChan c fun x => { x with encs := vupd x.encs e fun y => { y with fault := true, cleanSince := x.clk } })
    (ev 6 19) (e.val / 2) 0
  have hi' := (congrArg Safety.par hs).trans hi
  refine ⟨?_, eventSet_raiseAt _ _ _ (by decide), hi', grpUsed_congr hi' ((congrArg Safety.hasPar hs).trans hp)⟩
  rw [State.chan_congr hs c, State.chan_onChan]
  simp

/-- What the decoder finds is a fault: an illegal transition, or a rising edge of Z too far from the first (R479). -/
theorem encFault_bad {s : State} {c : Chan} {e : Fin 4} {z : Option Int} (hr : s.chanRuns c = true)
    (hz : ∀ raw, z = some raw → pZEn s.image (e.val / 2) (encH e) = true ∧ ∃ r, (vat (s.chan c).encs e).zRef = some r ∧
      2 < turnGap (encCpr s.image e) (if pDir s.image (e.val / 2) (encH e) then -raw else raw) r) : encFault s c e z = encBad s c e := by
  unfold encFault
  rw [hr, Bool.not_true, if_neg Bool.false_ne_true]
  cases z with
  | none => rfl
  | some raw =>
    obtain ⟨hen, r, hzr, hgap⟩ := hz raw rfl
    simp [encZ, hen, hzr, Nat.not_le.mpr hgap]

/-- The first rising edge of Z is held as the reference. -/
theorem encFault_first {s : State} {c : Chan} {e : Nat} {raw : Int} (hr : s.chanRuns c = true)
    (hen : pZEn s.image (e / 2) (encH e) = true) (hz : (vat (s.chan c).encs e).zRef = none) :
    encFault s c e (some raw) = s.onChan c fun x => { x with
      encs := vupd x.encs e fun y => { y with zRef := some (if pDir s.image (e / 2) (encH e) then -raw else raw) } } := by
  simp [encFault, hr, encZ, hen, hz]

theorem encFaulty_of_fault {x : SafeChan} {e : Nat} (h : (vat x.encs e).fault = true) : encFaulty x (e / 2) = true := by
  unfold encFaulty
  obtain he | he : e = 2 * (e / 2) ∨ e = 2 * (e / 2) + 1 := by omega
  · rw [← he, h, Bool.true_or]
  · rw [← he, h, Bool.or_true]

theorem exec_encFault {s : State} {e : Fin 4} {c : Chan} {z : Option Int} (hr : s.chanRuns c = true) :
    exec (.encFault e c z) s = .next (judgeAxis (encFault s c e z) c (e.val / 2)) := congrArg Host.Outcome.next (if_pos hr)

/-! ## Speeds that disagree (R481) -/

/-- The two speeds of axis `k` have differed since `d` in state `t`; what else the monitor judges by is as in `s`. -/
structure AxisAt (c : Chan) (k : Nat) (s : State) (d : Option Nat) (t : State) : Prop where
  image : t.image = s.image
  hasPar : t.safe.hasPar = s.safe.hasPar
  encs : (t.chan c).encs = (s.chan c).encs
  clk : (t.chan c).clk = (s.chan c).clk
  diff : vat (t.chan c).axDiff k = d

section
variable {c : Chan} {k : Nat} {s t : State} {d : Option Nat}

theorem AxisAt.raiseIf (h : AxisAt c k s d t) (b : Bool) (e unit cause : Nat) : AxisAt c k s d (raiseIf b t e unit cause) := by
  have hs := raiseIf_safe b t e unit cause
  have hc := State.chan_congr hs c
  exact ⟨(congrArg Safety.par hs).trans h.image, (congrArg Safety.hasPar hs).trans h.hasPar, by rw [hc]; exact h.encs, by rw [hc]; exact h.clk,
    by rw [hc]; exact h.diff⟩

theorem AxisAt.onOther (h : AxisAt c k s d t) {j : Nat} (hj : j ≠ k) (f : SafeChan → Option Nat → Option Nat) :
    AxisAt c k s d (t.onChan c fun y => { y with axDiff := vupd y.axDiff j (f y) }) := by
  obtain ⟨hi, hp⟩ := onChan_params t c fun y => { y with axDiff := vupd y.axDiff j (f y) }
  exact ⟨hi.trans h.image, hp.trans h.hasPar, by simpa using h.encs, by simpa using h.clk, by simpa [hj] using h.diff⟩

theorem AxisAt.onOwn (h : AxisAt c k s d t) (hk : k < 2) (f : SafeChan → Option Nat → Option Nat) :
    AxisAt c k s (f (t.chan c) d) (t.onChan c fun y => { y with axDiff := vupd y.axDiff k (f y) }) := by
  obtain ⟨hi, hp⟩ := onChan_params t c fun y => { y with axDiff := vupd y.axDiff k (f y) }
  exact ⟨hi.trans h.image, hp.trans h.hasPar, by simpa using h.encs, by simpa using h.clk, by simp [hk, h.diff]⟩

end

/-- An evaluation counts how long the speeds of an axis in use differ, and ends the count where they do not. -/
theorem axesJudge_axis {s : State} {c : Chan} {k : Fin 2} (hu : axisUsed s.image k = true) :
    AxisAt c k s (since (axisApart s.image (s.chan c) k) (s.chan c).clk (vat (s.chan c).axDiff k)) (axesJudge s c) := by
  unfold axesJudge
  dsimp only
  refine forN_reaches (s := s) (Q := AxisAt c k s (vat (s.chan c).axDiff k)) k.isLt (fun j t hj h => ?_) (fun t h => ?_) (fun j t hj h => ?_)
    ⟨rfl, rfl, rfl, rfl, rfl⟩
  · split
    · exact h
    · exact (h.onOther (Nat.ne_of_lt hj) _).raiseIf _ _ _ _
  · rw [hu, Bool.not_true, if_neg Bool.false_ne_true]
    have own := h.onOwn k.isLt fun y d => since (axisApart s.image (t.chan c) k) y.clk d
    have apart : axisApart s.image (t.chan c) k = axisApart s.image (s.chan c) k := by
      unfold axisApart
      rw [h.encs]
    rw [apart, h.clk] at own
    refine AxisAt.raiseIf ?_ _ _ _ _
    rw [apart]
    exact own
  · split
    · exact h
    · exact (h.onOther (Nat.ne_of_gt hj) _).raiseIf _ _ _ _

theorem exec_encDisagree {s : State} {k : Fin 2} {c : Chan} (hr : s.chanRuns c = true) :
    exec (.encDisagree k c) s = .next (judgeAxis (axesJudge s c) c k) := congrArg Host.Outcome.next (if_pos hr)

/-! ## Clock faults (R438) -/

theorem Within.xoValid_eq {ps : Nat} {s t : State} (h : Within ps s t) (hp : ps.testBit Part.pwr.bit = false) :
    t.pwr.xoValid = s.pwr.xoValid := by
  have e := h .pwr hp
  simp only [Part.same, PowerUnit.mk.injEq] at e
  simp only [e]

/-- A state that agrees in every part of the safety supervisor has the same supervisor. -/
theorem Within.safe_eq {ps : Nat} {s t : State} (h : Within ps s t)
    (hp : ∀ p ∈ [Part.params, .chanP, .chanH, .near, .safe], ps.testBit p.bit = false) : t.safe = s.safe := by
  have params := h .params (hp _ (by decide))
  have chanP := h .chanP (hp _ (by decide))
  have chanH := h .chanH (hp _ (by decide))
  have near := h .near (hp _ (by decide))
  have rest := h .safe (hp _ (by decide))
  simp only [Part.same, Prod.mk.injEq] at params chanP chanH near rest
  generalize s.safe = x at *
  generalize t.safe = y at *
  cases x
  cases y
  simp_all

/-- The clock judgements of a cycle, and what they leave. -/
theorem judgeClocks_spec (s : State) (xoOk coreOk rcOk : Bool) :
    (judgeClocks s xoOk coreOk rcOk).safe =
      { s.safe with clockXo := !xoOk, clockCore := !coreOk && judgesCore s, clockH := !rcOk && s.coreOn } ∧
    (judgeClocks s xoOk coreOk rcOk).pwr.xoValid = s.pwr.xoValid := by
  refine ⟨?_, (show Within 0x4400200000200 s (judgeClocks s xoOk coreOk rcOk) by simp).xoValid_eq rfl⟩
  unfold judgeClocks
  simp only [raiseIf_safe]

theorem setXoValid_spec (s : State) (ok : Bool) : (setXoValid s ok).safe = s.safe ∧ (setXoValid s ok).pwr.xoValid = ok := by
  unfold setXoValid
  split
  · exact ⟨rfl, ‹_›⟩
  · have h (u : State) : Within 0x4400001800200 u (settleOuts u) := by simp
    exact ⟨(h _).safe_eq (by decide), (h _).xoValid_eq rfl⟩

/-- The clock judgements that are held. -/
def clocksOf (s : State) : Bool × Bool × Bool := (s.safe.clockXo, s.safe.clockCore, s.safe.clockH)

/-- A round of the evaluation of every group: channel H, then channel P while it runs. -/
def evaluateRound (n : Nat) (s : State) : State := if (evalGroup s .h n).pRuns then evalGroup (evalGroup s .h n) .p n else evalGroup s .h n

theorem evaluateGroups_eq (s : State) : evaluateGroups s = forN 4 evaluateRound s := rfl

/-- Such a round keeps the clock judgements and which groups are used; in channel H it is the evaluation of its own group. -/
theorem evaluateRound_spec (n : Nat) (s : State) : clocksOf (evaluateRound n s) = clocksOf s ∧
    (∀ k, (evaluateRound n s).grpUsed k = s.grpUsed k) ∧ (evaluateRound n s).safe.h = (evalGroup s .h n).safe.h := by
  have h := evalGroup_only s .h n
  unfold evaluateRound
  split
  · have p := evalGroup_only (evalGroup s .h n) .p n
    exact ⟨p.clocks.trans h.clocks, fun k => (p.grpUsed k).trans (h.grpUsed k), p.other⟩
  · exact ⟨h.clocks, h.grpUsed, rfl⟩

/-- The evaluation of every group keeps the clock judgements. -/
theorem evaluateGroups_keeps (s : State) : (evaluateGroups s).safe.clockXo = s.safe.clockXo ∧
    (evaluateGroups s).safe.clockCore = s.safe.clockCore ∧ (evaluateGroups s).safe.clockH = s.safe.clockH ∧
    (evaluateGroups s).pwr.xoValid = s.pwr.xoValid := by
  have hc : clocksOf (evaluateGroups s) = clocksOf s := by
    rw [evaluateGroups_eq]
    exact forN_keeps (P := fun t => clocksOf t = clocksOf s) (fun n t _ h => (evaluateRound_spec n t).1.trans h) rfl
  simp only [clocksOf, Prod.mk.injEq] at hc
  obtain ⟨hxo, hcore, hh⟩ := hc
  exact ⟨hxo, hcore, hh, (show Within 0x44003c0000200 s (evaluateGroups s) by simp).xoValid_eq rfl⟩

/-- With the XO judged faulty every active group goes to LOCKOUT in channel H. -/
theorem evaluateGroups_clockXo {s : State} (hx : s.safe.clockXo = true) {n : Nat} (hn : n < 4) (hu : s.grpUsed n = true)
    (ha : (vat s.safe.h.grps n).st.active = true) : (vat (evaluateGroups s).safe.h.grps n).st = .lockout := by
  rw [evaluateGroups_eq]
  have others {k : Nat} (t : State) (hk : k ≠ n) : vat (evaluateRound k t).safe.h.grps n = vat t.safe.h.grps n := by
    rw [(evaluateRound_spec k t).2.2]
    exact (evalGroup_only t .h k).grps n hk.symm
  refine forN_reaches (s := s) (Q := fun t : State => t.safe.clockXo = true ∧ t.grpUsed n = true ∧ (vat t.safe.h.grps n).st.active = true)
    (L := fun t : State => (vat t.safe.h.grps n).st = .lockout) hn (fun k t hk => ?_) (fun t => ?_) (fun k t hk => ?_) ?_
  · intro ⟨hx, hu, ha⟩
    obtain ⟨hc, hg, -⟩ := evaluateRound_spec k t
    exact ⟨(congrArg Prod.fst hc).trans hx, (hg n).trans hu, by rw [others t (Nat.ne_of_lt hk)]; exact ha⟩
  · intro ⟨hx, hu, ha⟩
    obtain ⟨-, -, hh⟩ := evaluateRound_spec n t
    rw [hh]
    exact evalGroup_lockout hn hu (causesOf_clockXo .h n hx) (by decide) (.inr ha)
  · intro h
    rw [others t (Nat.ne_of_gt hk)]
    exact h
  · exact ⟨hx, hu, ha⟩

/-- A fault of the XO: it shows as faulty and not valid, and every active group of channel H goes to LOCKOUT. -/
theorem xoFault_spec {s t : State} (h : t = setXoValid (judgeClocks s false (!s.safe.clockCore) (!s.safe.clockH)) false) :
    (evaluateGroups t).safe.clockXo = true ∧ (evaluateGroups t).pwr.xoValid = false ∧ ∀ n, n < 4 → s.grpUsed n = true →
      (vat s.safe.h.grps n).st.active = true → (vat (evaluateGroups t).safe.h.grps n).st = .lockout := by
  obtain ⟨hset, hvalid⟩ := setXoValid_spec (judgeClocks s false (!s.safe.clockCore) (!s.safe.clockH)) false
  rw [(judgeClocks_spec s false (!s.safe.clockCore) (!s.safe.clockH)).1, ← h] at hset
  rw [← h] at hvalid
  obtain ⟨hxo, -, -, hkept⟩ := evaluateGroups_keeps t
  have hx : t.safe.clockXo = true := by rw [hset]; rfl
  have hp : t.safe.par = s.safe.par := by rw [hset]
  have hs : t.safe.hasPar = s.safe.hasPar := by rw [hset]
  have hg : t.safe.h = s.safe.h := by rw [hset]
  exact ⟨by rw [hxo, hx], by rw [hkept, hvalid], fun n hn hu ha =>
    evaluateGroups_clockXo hx hn ((grpUsed_congr hp hs n).trans hu) (by rw [hg]; exact ha)⟩

/-- What a fault of another clock shows: the judgements of the cycle, with XO_VALID as it was. -/
theorem clockFault_shows {s t : State} {xoOk coreOk rcOk : Bool} (h : t = judgeClocks s xoOk coreOk rcOk) :
    (evaluateGroups t).safe.clockXo = !xoOk ∧ (evaluateGroups t).safe.clockCore = (!coreOk && judgesCore s) ∧
    (evaluateGroups t).safe.clockH = (!rcOk && s.coreOn) ∧ (evaluateGroups t).pwr.xoValid = s.pwr.xoValid := by
  obtain ⟨hsafe, hvalid⟩ := judgeClocks_spec s xoOk coreOk rcOk
  rw [← h] at hsafe hvalid
  obtain ⟨hxo, hcore, hh, hkept⟩ := evaluateGroups_keeps t
  rw [hxo, hcore, hh, hkept, hsafe]
  exact ⟨rfl, rfl, rfl, hvalid⟩

theorem exec_clockXo (s : State) : exec (.clockFault .xo) s =
    .next (evaluateGroups (setXoValid (judgeClocks s false (!s.safe.clockCore) (!s.safe.clockH)) false)) := rfl

theorem exec_clockCore (s : State) : exec (.clockFault .coreClk) s =
    .next (evaluateGroups (judgeClocks s (!s.safe.clockXo) false (!s.safe.clockH))) := rfl

theorem exec_clockRc (s : State) : exec (.clockFault .rc) s =
    .next (evaluateGroups (judgeClocks s (!s.safe.clockXo) (!s.safe.clockCore) false)) := rfl

/-! ## The obligation -/

/-- Settles O35: what each monitor finds is a cause of LOCKOUT, which the evaluation of the groups then acts on and keeps. -/
theorem encodersAndClocksAreMonitored : Obligations.EncodersAndClocksAreMonitored := by
  unfold Obligations.EncodersAndClocksAreMonitored
  refine ⟨fun s e c z hr hu hz => ⟨_, exec_encFault hr, ?_⟩, fun s e c raw hr hen hz hf => ⟨_, exec_encFault hr, ?_⟩,
    fun s k c b hr hu hap hd hb => ⟨_, exec_encDisagree hr, ?_⟩, fun s k c hr hu hap => ⟨_, exec_encDisagree hr, ?_⟩,
    fun s => ⟨_, exec_clockXo s, xoFault_spec rfl⟩, fun s => ⟨_, exec_clockCore s, ?_⟩, fun s => ⟨_, exec_clockRc s, ?_⟩⟩
  · rw [encFault_bad hr hz]
    obtain ⟨hfault, hevent, himage, hused⟩ := encBad_spec (c := c) hu
    obtain ⟨-, hbare, hkept⟩ := judgeAxis_keeps (encBad s c e) c (e.val / 2)
    refine ⟨by rw [encs_of_bare hbare, hfault], hkept _ hevent, fun n hn hg hax => ?_⟩
    exact judgeAxis_lockout (code := caEncFault) (bad := fun _ x => encFaulty x (e.val / 2) = true) (by decide) (by decide)
      (fun t n ha hb => causesOf_encFault ha hb) (encFaulty_of_fault hfault) hn ((hused n).trans hg) (by rw [himage]; exact hax)
  · rw [encFault_first hr hen hz]
    obtain ⟨-, hbare, -⟩ := judgeAxis_keeps (s.onChan c fun x => { x with encs := vupd x.encs e fun y =>
      { y with zRef := some (if pDir s.image (e.val / 2) (encH e) then -raw else raw) } }) c (e.val / 2)
    rw [encs_of_bare hbare, State.chan_onChan]
    simp [hf]
  · obtain ⟨himage, hpar, -, hclk, hdiff⟩ := axesJudge_axis (c := c) hu
    rw [hap, hd] at hdiff
    have hdis : encDisagree (axesJudge s c).image ((axesJudge s c).chan c) k = true := by
      simp [encDisagree, hdiff, since, himage, hclk, hb]
    obtain ⟨hi, hbare, -⟩ := judgeAxis_keeps (axesJudge s c) c k
    refine ⟨?_, fun n hn hg hax => ?_⟩
    · rw [hi, encDisagree_of_bare hbare]
      exact hdis
    · exact judgeAxis_lockout (code := caEncDisagree) (bad := fun m x => encDisagree m x k = true) (by decide) (by decide)
        (fun t n ha hb => causesOf_encDisagree ha hb) hdis hn ((grpUsed_congr himage hpar n).trans hg) (by rw [himage]; exact hax)
  · obtain ⟨-, -, -, -, hdiff⟩ := axesJudge_axis (c := c) hu
    obtain ⟨-, hbare, -⟩ := judgeAxis_keeps (axesJudge s c) c k
    rw [axDiff_of_bare hbare, hdiff, hap]
    rfl
  · obtain ⟨hxo, hcore, -, hvalid⟩ := clockFault_shows (s := s) rfl
    exact ⟨hcore, hxo.trans (Bool.not_not _), hvalid⟩
  · obtain ⟨hxo, -, hh, hvalid⟩ := clockFault_shows (s := s) rfl
    exact ⟨hh, hxo.trans (Bool.not_not _), hvalid⟩

end Sys2Proof.Machine
end

section
/-! PROOFS. The reset state and the invariant (O55, O56, O57). -/

namespace Sys2Proof.Machine

/-- Settles O55: field by field. -/
theorem resetState : Obligations.ResetState :=
  ⟨rfl, rfl, rfl, rfl, rfl, fun _ => rfl, fun _ he => ⟨BitVec.getLsbD_allOnes.trans (decide_eq_true he), BitVec.getLsbD_zero⟩,
    rfl, rfl, rfl, by decide, rfl⟩

/-- Settles O56: the stores and queues of the reset state are empty. -/
theorem invariantHoldsAtReset : Obligations.InvariantHoldsAtReset where
  nvm := rfl
  active := rfl
  opq := Nat.zero_le 4
  oph := Nat.zero_le 16
  hist := Nat.zero_le 16
  conflicts := Nat.zero_le 8
  hb := rfl
  mp := rfl
  fifo := by decide

/-- The reset state with RST_N_ASSERT waiting, and a write of DEV_CMD in this very cycle to take back (R146): the mode unit as it was before
that write holds 17 entries of MODE_HIST. -/
def longHistoryToTakeBack : State :=
  { State.reset with
    undo := some { (default : Undo) with mode := { (default : ModeUnit) with hist := List.replicate 17 default } }
    pending := [.rstNAssert] }

theorem longHistoryToTakeBack_inv : BlockInv longHistoryToTakeBack :=
  have ⟨nvm, active, opq, oph, hist, conflicts, hb, mp, fifo⟩ := invariantHoldsAtReset
  ⟨nvm, active, opq, oph, hist, conflicts, hb, mp, fifo⟩

/-- Refutes O57: BlockInv bounds the history of the mode unit and not that of the copy which `undo` keeps for RST_N_ASSERT. Where the copy
holds 17 entries, RST_N_ASSERT puts them in force. -/
theorem not_everyStepKeepsTheInvariant : ¬ Obligations.EveryStepKeepsTheInvariant := fun h =>
  absurd (h longHistoryToTakeBack _ longHistoryToTakeBack_inv rfl).hist (by decide)

end Sys2Proof.Machine
end

section
/-! PROOFS. The firing of a window's edge (O12). -/

namespace Sys2Proof.Machine

/-! ## An edge of a gate -/

/-- An edge of a gate leaves the gate as the edge says, also where it stood so already, and no other gate changes. -/
theorem gateEdge_gates (s : State) (g : Nat) (opening ok : Bool) :
    (g < 8 → vat (gateEdge s g opening ok).gates g = opening) ∧ ∀ k, k ≠ g → vat (gateEdge s g opening ok).gates k = vat s.gates k := by
  unfold gateEdge
  split
  · exact ⟨fun _ => by simpa using ‹vat s.gates g = opening›, fun k _ => by simp⟩
  · have h : Within 0x7400000000300 { s with gates := vupd s.gates g fun _ => opening }
        (followGate (recountGate g { s with gates := vupd s.gates g fun _ => opening }) g opening ok) := by simp
    have hg : _ = vupd s.gates g fun _ => opening := h .gates rfl
    exact ⟨fun hlt => by simp [hg, hlt], fun k hk => by simp [hg, hk.symm]⟩

/-! ## What fires first on the gate (R99) -/

/-- The windows stay and no gate but `w` changes. -/
structure OnlyGate (w : Nat) (s t : State) : Prop where
  wins : t.wins = s.wins
  others : ∀ k, k ≠ w → vat t.gates k = vat s.gates k

theorem OnlyGate.trans {w : Nat} {s t u : State} (h : OnlyGate w s t) (k : OnlyGate w t u) : OnlyGate w s u :=
  ⟨k.wins.trans h.wins, fun n hn => (k.others n hn).trans (h.others n hn)⟩

theorem OnlyGate.of_within {w : Nat} {s t : State} (h : Within (Part.mask (Part.allBut [.wins, .gates])) s t) : OnlyGate w s t :=
  ⟨h.same_of_not_mem (p := .wins) (by simp [Part.allBut]),
    fun k _ => congrArg (vat · k) (h.same_of_not_mem (p := .gates) (by simp [Part.allBut]))⟩

theorem gateEdge_onlyGate (s : State) (w : Nat) (opening ok : Bool) : OnlyGate w s (gateEdge s w opening ok) :=
  ⟨(show Within 0x7400000000380 s (gateEdge s w opening ok) by simp) .wins rfl, (gateEdge_gates s w opening ok).2⟩

/-- An edge that acts on gate `w` opens or closes it. -/
theorem eyeAct_onlyGate (s : State) (n : Nat) {w : Nat} {e : EyeEdge} (ok : Bool) (he : edgeTarget e.action e.target = some (true, w)) :
    OnlyGate w s (eyeAct s n e ok) := by
  have hact : (e.action = 5 ∨ e.action = 6) ∧ e.target = w := by
    unfold edgeTarget at he
    split at he
    · exact ⟨‹_›, congrArg Prod.snd (Option.some.inj he)⟩
    · split at he <;> simp at he
  obtain ⟨h5 | h6, rfl⟩ := hact
  · simpa [eyeAct, h5] using gateEdge_onlyGate s e.target true ok
  · simpa [eyeAct, h6] using gateEdge_onlyGate s e.target false ok

/-- An eyelet whose next edge acts on gate `w` changes no window and no other gate. -/
theorem eyeFire_onlyGate {s : State} {n w r : Nat} (ok : Bool) (hu : unitEdge s (n + 8) = some (some (true, w), r)) :
    OnlyGate w s (eyeFire s n ok) := by
  have quiet (u : State) (b : Bool) : OnlyGate w u (raiseIf b u evEyeDone n 0) := .of_within (by simp [Part.bit])
  unfold eyeFire
  cases hn : eyeNext s n with
  | none => exact .of_within (.refl _ _)
  | some e =>
    have he : edgeTarget e.action e.target = some (true, w) := by
      simp only [unitEdge, show ¬ n + 8 < 8 by omega, if_false, Nat.add_sub_cancel, hn, Option.map_some, Option.some.injEq, Prod.mk.injEq] at hu
      exact hu.1
    dsimp only
    refine .trans ?_ (quiet _ _)
    split
    · exact .trans (.of_within (by simp [Part.bit])) (eyeAct_onlyGate _ n ok he)
    · exact .of_within (by simp [Part.bit])

/-- The unit that is the first on a target acts on it. -/
theorem firstOn_target {s : State} {g : Bool × Nat} {v : Nat} (h : firstOn s g = some v) : ∃ r, unitEdge s v = some (some g, r) := by
  unfold firstOn at h
  obtain ⟨x, hx, rfl⟩ := Option.map_eq_some_iff.mp h
  refine List.foldlRecOn (motive := fun b => ∀ x, b = some x → ∃ r, unitEdge s x.2 = some (some g, r)) _ _ (by simp)
    (fun b ih u _ x hx => ?_) x hx
  split at hx
  · rename_i k r hu
    split at hx
    · subst k
      have own : some (r, u) = some x → ∃ r, unitEdge s x.2 = some (some g, r) := by
        rintro ⟨⟩
        exact ⟨r, hu⟩
      split at hx
      · split at hx
        · exact own hx
        · exact ih x hx
      · exact own hx
    · exact ih x hx
  · exact ih x hx

/-- What fires before window `w` on its gate changes no window and no other gate. -/
theorem fireUnit_onlyGate {s : State} {v w : Nat} (ok : Bool) (hf : firstOn s (true, w) = some v) (hv : v ≠ w) :
    OnlyGate w s (fireUnit s v ok) := by
  obtain ⟨r, hr⟩ := firstOn_target hf
  by_cases h8 : v < 8
  · have : v = w := by
      simp only [unitEdge, h8, if_true, Option.map_eq_some_iff, Prod.mk.injEq, Option.some.injEq, true_and] at hr
      obtain ⟨-, -, e, -⟩ := hr
      exact e
    exact absurd this hv
  · obtain ⟨n, rfl⟩ : ∃ n, v = n + 8 := ⟨v - 8, by omega⟩
    rw [fireUnit_eye]
    exact eyeFire_onlyGate ok hr

theorem fireUpTo_window (w : Nat) (ok : Bool) (fuel : Nat) : ∀ s : State,
    ∃ u, OnlyGate w s u ∧ fireUpTo (true, w) w ok fuel s = fireUnit u w ok := by
  have own (s : State) : ∃ u, OnlyGate w s u ∧ fireUnit s w ok = fireUnit u w ok := ⟨s, .of_within (.refl _ _), rfl⟩
  induction fuel with
  | zero => exact own
  | succ fuel ih =>
    intro s
    unfold fireUpTo
    split
    · split
      · exact own s
      · obtain ⟨u, hu, h⟩ := ih (fireUnit s _ ok)
        exact ⟨u, (fireUnit_onlyGate ok ‹_› ‹_›).trans hu, h⟩
    · exact own s

/-! ## WINDOW_EDGE_FIRE (R96, R98) -/

theorem winNext_congr {s t : State} (h : t.wins = s.wins) (w : Nat) : winNext t w = winNext s w := by
  unfold winNext
  rw [h]

/-- A live edge that is due fires its window, after what R99 puts first on the gate. -/
theorem windowFire_due {s : State} {w : Fin 8} {e : WinEdge} (ok : Bool) (hc : s.coreOn = true) (he : winNext s w = some e)
    (ht : inTick s e.time = true) : ∃ u, OnlyGate w s u ∧ windowFire s w ok = winFire u w ok := by
  have passed : OnlyGate w s (passTo s e.time) := .of_within (by simp [Part.bit])
  have hu : unitEdge (passTo s e.time) w = some (some (true, w.val), e.time * 10 / 16384 * 64 + w.val) := by
    simp [unitEdge, (winNext_congr passed.wins w).trans he]
  obtain ⟨u, hut, hf⟩ := fireUpTo_window w ok (edgesLoaded (passTo s e.time)) (passTo s e.time)
  refine ⟨u, passed.trans hut, ?_⟩
  simp only [windowFire, he, unitFire, hc, ht, hu, Bool.not_true, Bool.or_self, Bool.false_eq_true, if_false, hf]
  exact if_pos w.isLt

/-- The edge leaves its window, a START is counted and shown, and the gate follows. -/
theorem winFire_spec {s : State} {w : Fin 8} {e : WinEdge} (ok : Bool) (he : winNext s w = some e) :
    (vat (winFire s w ok).wins w).edges = (vat s.wins w).edges.erase e ∧
    (vat (winFire s w ok).wins w).instances = (if e.isStop then (vat s.wins w).instances else min 65535 ((vat s.wins w).instances + 1)) ∧
    (e.isStop = false → (vat (winFire s w ok).wins w).st = .opened) ∧ vat (winFire s w ok).gates w = !e.isStop ∧
    ∀ k : Nat, k ≠ w → vat (winFire s w ok).wins k = vat s.wins k ∧ vat (winFire s w ok).gates k = vat s.gates k := by
  unfold winFire
  rw [he]
  dsimp only
  rw [(gateEdge_onlyGate _ w _ ok).wins]
  obtain ⟨own, others⟩ := gateEdge_gates (s.onWin w _) w (!e.isStop) ok
  exact ⟨by simp, by simp, fun h => by simp [h, winAfter], own w.isLt, fun k hk => ⟨by simp [hk.symm], others k hk⟩⟩

/-- Settles O12: what R99 puts first leaves the window and the other gates, and then the window fires. -/
theorem windowEdgesMoveTheirGate : Obligations.WindowEdgesMoveTheirGate := by
  intro s w ok e hc he ht
  obtain ⟨u, ⟨hw, hg⟩, hf⟩ := windowFire_due ok hc he ht
  obtain ⟨hedges, hinst, hst, hgate, others⟩ := winFire_spec ok ((winNext_congr hw w).trans he)
  refine ⟨_, congrArg Host.Outcome.next hf, hw ▸ hedges, hgate, hw ▸ hinst, hst, fun k hk => ?_⟩
  obtain ⟨hwk, hgk⟩ := others k hk
  exact ⟨by rw [hwk, hw], hgk.trans (hg k hk)⟩

end Sys2Proof.Machine
end

section
/-! PROOFS. The reception of a Lace cell (O27, O28). -/

namespace Sys2Proof.Machine

/-! ## A cell that the port accepts (R388, R400, R401, R413, R419) -/

/-- The port has counted the cell as received, no failing cell stands before it, and a TIME cell's arrival is kept. -/
def admitted (s : State) (p : Nat) (c : Cell) (at_ : Nat) : State :=
  let u := countSrc (0x150 + p) 1 (portCount (s.onPort p fun x => { x with failRun := 0 }) p cnRx)
  if c.typ = ctTime then u.onPort p fun x => { x with lastTime := some (c.seq, at_), lastTimeTick := u.time.tickSeq } else u

theorem admitted_within (s : State) (p : Nat) (c : Cell) (at_ : Nat) : Within 0x7400008000200 s (admitted s p c at_) := by
  simp [admitted]

theorem admitted_port (s : State) (p : Fin 4) (c : Cell) (at_ : Nat) : ∃ x tick, (c.typ = ctTime → x = some (c.seq, at_)) ∧
    vat (admitted s p c at_).ports p =
      { vat s.ports p with failRun := 0, cnts := vupd (vat s.ports p).cnts cnRx (stick 32), lastTime := x, lastTimeTick := tick } := by
  have counted (u : State) : (countSrc (0x150 + p.val) 1 u).ports = u.ports :=
    (show Within 0x7400000000200 u (countSrc (0x150 + p.val) 1 u) by simp) .ports rfl
  unfold admitted
  by_cases ht : c.typ = ctTime
  · simp [ht, counted, portCount]
  · exact ⟨(vat s.ports p).lastTime, (vat s.ports p).lastTimeTick, by simp [ht], by simp [ht, counted, portCount]⟩

theorem admitted_safeq (s : State) (p : Nat) (c : Cell) (at_ k : Nat) :
    (vat (admitted s p c at_).ports k).safeq = (vat s.ports k).safeq := by
  have counted (u : State) : (countSrc (0x150 + p) 1 u).ports = u.ports :=
    (show Within 0x7400000000200 u (countSrc (0x150 + p) 1 u) by simp) .ports rfl
  unfold admitted
  split <;> simp [counted, portCount, vat_vupd, apply_ite LacePort.safeq]

theorem admitted_carries (s : State) (p : Fin 4) (c : Cell) (at_ : Nat) : carries (admitted s p c at_) p = carries s p := by
  have hopers : (admitted s p c at_).opers = s.opers := admitted_within s p c at_ .opers rfl
  obtain ⟨x, tick, -, hport⟩ := admitted_port s p c at_
  simp [carries, portIsUp, hopers, hport]

/-- An accepted cell is counted; a SAFE cell on a port that carries no safety is discarded, any other is taken, and a BROADCAST cell goes on. -/
theorem receiveCell_accepted {s : State} {p : Fin 4} {c : Cell} (at_ : Nat) (h : cellAccepted s p c = true) (ht : c.typ ≠ 0) :
    receiveCell s p c at_ =
      if c.typ = ctSafe ∧ carries s p = false then portCount (admitted s p c at_) p cnDiscard
      else if c.scope = .broadcast then forwardCell (takeCell (admitted s p c at_) p c at_) p c
      else takeCell (admitted s p c at_) p c at_ := by
  simp only [cellAccepted, Bool.and_eq_true, beq_iff_eq, bne_iff_ne, Bool.or_eq_true] at h
  obtain ⟨⟨⟨⟨⟨⟨hcore, hlock⟩, hserves⟩, hheader⟩, hnet⟩, hsrc⟩, hdst⟩ := h
  have hact : (admitted s p c at_).act = s.act := (admitted_within s p c at_).act_eq rfl
  have hcarries := admitted_carries s p c at_
  have heard : receiveCell s p c at_ =
      if c.typ = ctSafe ∧ carries (admitted s p c at_) p = false then portCount (admitted s p c at_) p cnDiscard else
      match c.scope with
      | .unicast => if c.dst = laceAddr (admitted s p c at_).act then takeCell (admitted s p c at_) p c at_ else
          forwardCell (admitted s p c at_) p c
      | .broadcast => forwardCell (takeCell (admitted s p c at_) p c at_) p c
      | _ => takeCell (admitted s p c at_) p c at_ := by
    have hserves' : portServes (s.onPort p fun x => { x with failRun := 0 }) p = true := hserves
    have hsrc' : ¬ c.src = laceAddr (s.onPort p fun x => { x with failRun := 0 }).act := hsrc
    unfold receiveCell
    rw [hcore, hlock, Bool.not_true, Bool.or_self, if_neg Bool.false_ne_true]
    dsimp only
    rw [hserves', hheader, Bool.not_true, if_neg Bool.false_ne_true, if_neg Bool.false_ne_true, if_neg (not_not.mpr hnet), if_neg hsrc', if_neg ht]
    rfl
  rw [heard, hcarries, hact]
  cases hs : c.scope with
  | unicast => simp [hdst.resolve_left (not_not.mpr hs)]
  | _ => simp

/-! ## What a port keeps of the reception while the cell goes on (R400) -/

/-- Port `p` has the same receive queue, failing cells and TIME arrival, and all counts but those of discarded cells. -/
structure SameReceipt (p : Nat) (s t : State) : Prop where
  rxq : (vat t.ports p).rxq = (vat s.ports p).rxq
  failRun : (vat t.ports p).failRun = (vat s.ports p).failRun
  lastTime : (vat t.ports p).lastTime = (vat s.ports p).lastTime
  cnts : ∀ i, i ≠ cnDiscard → vat (vat t.ports p).cnts i = vat (vat s.ports p).cnts i

theorem SameReceipt.of_eq {p : Nat} {s t : State} (h : vat t.ports p = vat s.ports p) : SameReceipt p s t :=
  ⟨by rw [h], by rw [h], by rw [h], fun _ _ => by rw [h]⟩

theorem otherPort_ne (p : Nat) : otherPort p ≠ p := by
  unfold otherPort
  split <;> omega

/-- A cell is forwarded by the other port of its network; this port at most counts it as discarded. -/
theorem forwardCell_receipt (s : State) (p : Fin 4) (c : Cell) : SameReceipt p s (forwardCell s p c) := by
  have other {f : LacePort → LacePort} : SameReceipt p s (s.onPort (otherPort p) f) := .of_eq (by simp [otherPort_ne])
  unfold forwardCell
  dsimp only
  split
  · exact ⟨by simp [portCount], by simp [portCount], by simp [portCount], fun i hi => by simp [portCount, hi.symm]⟩
  split
  · exact other
  unfold enqueueTx
  dsimp only
  repeat' split
  all_goals exact other

/-! ## The rows -/

/-- Each row of a cell other than SAFE brings it to the port, a TIME cell with the instant of its K28.5 (R393). -/
theorem exec_cellRow {s : State} {p : Fin 4} {c : Cell} {sub : Fin 800} {i : Instr} (hi : i ∈ cellRows p c sub) :
    (c.typ ≠ 0 ∧ c.typ ≠ ctSafe) ∧ exec i s = .next (receiveCell s p c (if c.typ = ctTime then arriveTime s sub else s.now)) := by
  unfold cellRows at hi
  split at hi
  case h_7 => exact absurd hi List.not_mem_nil
  all_goals
    rename_i ht
    refine ⟨by simp [ht, ctSafe], ?_⟩
    simp only [List.mem_cons, List.not_mem_nil, or_false] at hi
    simp only [ht]
  case h_1 | h_2 | h_4 | h_5 =>
    subst hi
    rfl
  case h_3 => obtain rfl | rfl | rfl := hi <;> rfl
  case h_6 => obtain rfl | rfl | rfl | rfl := hi <;> rfl

/-- An accepted cell other than SAFE is counted, offered to the receive queue, and then at most forwarded. -/
theorem receiveCell_taken {s : State} {p : Fin 4} {c : Cell} (at_ : Nat) (h : cellAccepted s p c = true) (h0 : c.typ ≠ 0) (hs : c.typ ≠ ctSafe) :
    SameReceipt p (takeCell (admitted s p c at_) p c at_) (receiveCell s p c at_) := by
  rw [receiveCell_accepted at_ h h0, if_neg fun x => hs x.1]
  split
  · exact forwardCell_receipt _ p c
  · exact .of_eq rfl

/-- With room the cell joins the queue's end, with channel P's time and its arrival. -/
theorem takeCell_queued {s : State} {p : Fin 4} {c : Cell} (at_ : Nat) (h0 : c.typ ≠ 0) (hs : c.typ ≠ ctSafe)
    (h : (vat s.ports p).rxq.length < 16) : vat (takeCell s p c at_).ports p =
      { vat s.ports p with rxq := (vat s.ports p).rxq ++ [{ cell := c, arrival := at_, clk := s.safe.p.clk }] } := by
  simp [takeCell, hs, h0, Nat.not_le.mpr h]

/-- With 16 cells waiting it is lost and counted. -/
theorem takeCell_full {s : State} {p : Fin 4} {c : Cell} (at_ : Nat) (h0 : c.typ ≠ 0) (hs : c.typ ≠ ctSafe)
    (h : 16 ≤ (vat s.ports p).rxq.length) : vat (takeCell s p c at_).ports p =
      { vat s.ports p with cnts := vupd (vat s.ports p).cnts cnOvf (stick 32), rxOvf := true } := by
  have raised (b : Bool) (u : State) : (raiseIf b u evRxOvf p 0).ports = u.ports := by cases b <;> simp
  simp [takeCell, hs, h0, h, raised, portCount]

/-- Settles O27: what the port counts and queues before the cell goes on. -/
theorem receivedCellWaitsForEvaluate : Obligations.ReceivedCellWaitsForEvaluate := by
  refine ⟨fun s p c sub i hi h hroom => ?_, fun s p c sub i hi h hfull => ?_⟩
  all_goals
    obtain ⟨⟨h0, hs⟩, hexec⟩ := exec_cellRow (s := s) hi
    refine ⟨_, hexec, ?_⟩
    dsimp only
    generalize (if c.typ = ctTime then arriveTime s sub else s.now) = at_
    obtain ⟨hrxq, hfail, hlast, hcnts⟩ := receiveCell_taken at_ h h0 hs
    obtain ⟨x, tick, hx, hport⟩ := admitted_port s p c at_
    rw [hrxq, hcnts _ (by decide)]
  · have hclk : (admitted s p c at_).safe.p = s.safe.p := admitted_within s p c at_ .chanP rfl
    rw [hfail, hlast, takeCell_queued at_ h0 hs (by simpa [hport] using hroom), hport, hclk]
    exact ⟨rfl, rfl, by simp [cnRx], hx⟩
  · rw [takeCell_full at_ h0 hs (by simpa [hport] using hfull), hport]
    exact ⟨rfl, by simp [cnRx, cnOvf]⟩

/-- A cell of the other network is not taken: the port shows WIRING (R413). -/
theorem receiveCell_wiring {s : State} {p : Fin 4} {c : Cell} (at_ : Nat) (hc : s.coreOn = true) (hl : (vat s.ports p).cellLock = true)
    (hserves : portServes s p = true) (hh : headerOk c = true) (hn : c.net ≠ portNet p) :
    receiveCell s p c at_ = wiringFault (s.onPort p fun x => { x with failRun := 0 }) p := by
  have hserves' : portServes (s.onPort p fun x => { x with failRun := 0 }) p = true := hserves
  simp [receiveCell, hc, hl, hserves', hh, hn]

theorem wiringFault_spec (s : State) (p : Fin 4) : (wiringFault s p).safe = s.safe ∧
    (vat (wiringFault s p).ports p).rxq = (vat s.ports p).rxq ∧
    (vat (wiringFault s p).ports p).wiringUntil = some (s.time.tickSeq + 64) := by
  have raised (b : Bool) (u : State) : (raiseIf b u evWiring p 0).ports = u.ports ∧ (raiseIf b u evWiring p 0).safe = u.safe := by
    cases b <;> simp
  unfold wiringFault
  exact ⟨by simp [raised, portCount], by simp [raised, portCount], by simp [raised, portCount]⟩

/-- A SAFE cell that is taken joins channel P's inbox with its network (R71), and the ports stay. -/
theorem takeCell_safe {s : State} {p : Nat} {c : Cell} (at_ : Nat) (h : c.typ = ctSafe) :
    (takeCell s p c at_).safe.inbox = s.safe.inbox ++ [(portNet p, c)] ∧ (takeCell s p c at_).ports = s.ports := by
  unfold takeCell
  rw [if_pos h]
  exact ⟨rfl, rfl⟩

theorem forwardCell_safe (s : State) (p : Nat) (c : Cell) : (forwardCell s p c).safe = s.safe :=
  (show Within 0x8000000 s (forwardCell s p c) by simp).safe_eq (by decide)

/-- Settles O28: an accepted SAFE cell by what `carries` says of the port, and a cell of the other network. -/
theorem safeCellGoesToChannelP : Obligations.SafeCellGoesToChannelP := by
  refine ⟨fun s p c h ht hcarries => ⟨_, rfl, ?_⟩, fun s p c h ht hcarries => ⟨_, rfl, ?_⟩, fun s p c sub i hi hc hl hs hh hn => ?_⟩
  · have hsafe : (admitted s p c s.now).safe = s.safe := (admitted_within s p c s.now).safe_eq (by decide)
    obtain ⟨x, tick, -, hport⟩ := admitted_port s p c s.now
    obtain ⟨hinbox, hports⟩ := takeCell_safe (s := admitted s p c s.now) (p := p) s.now ht
    have taken : (takeCell (admitted s p c s.now) p c s.now).safe.inbox = s.safe.inbox ++ [(portNet p, c)] ∧
        (vat (takeCell (admitted s p c s.now) p c s.now).ports p).rxq = (vat s.ports p).rxq := ⟨by rw [hinbox, hsafe], by rw [hports, hport]⟩
    rw [receiveCell_accepted s.now h (by simp [ht, ctSafe]), if_neg (by simp [hcarries])]
    split
    · exact ⟨(congrArg Safety.inbox (forwardCell_safe _ p c)).trans taken.1, (forwardCell_receipt _ p c).rxq.trans taken.2⟩
    · exact taken
  · have hsafe : (admitted s p c s.now).safe = s.safe := (admitted_within s p c s.now).safe_eq (by decide)
    obtain ⟨x, tick, -, hport⟩ := admitted_port s p c s.now
    rw [receiveCell_accepted s.now h (by simp [ht, ctSafe]), if_pos ⟨ht, hcarries⟩]
    refine ⟨congrArg Safety.inbox hsafe, by simp [portCount, hport, cnRx, cnDiscard], fun k => ?_⟩
    simp [portCount, vat_vupd, apply_ite LacePort.safeq, admitted_safeq]
  · obtain ⟨at_, hexec⟩ : ∃ at_, exec i s = .next (receiveCell s p c at_) := by
      obtain rfl | hi := hi
      · exact ⟨s.now, rfl⟩
      · exact ⟨_, (exec_cellRow hi).2⟩
    obtain ⟨hsafe, hrxq, hwiring⟩ := wiringFault_spec (s.onPort p fun x => { x with failRun := 0 }) p
    refine ⟨_, hexec.trans (congrArg _ (receiveCell_wiring at_ hc hl hs hh hn)), hrxq.trans ?_, congrArg Safety.inbox hsafe, hwiring⟩
    simp

end Sys2Proof.Machine
end

section
/-! PROOFS. The tick, its phases and the whole second (O10). -/

namespace Sys2Proof.Machine

/-! ## Where a tick stands (R67, R68, R77) -/

/-- The period, whether ticks run, the phase, the tick's number and its unfinished and deferred jobs. -/
def TimeUnit.deckle (x : TimeUnit) : Nat × Bool × Phase × Nat × List Nat × List Nat :=
  (x.period, x.running, x.phase, x.tickSeq, x.deferred, x.unfinished)

/-- The second state stands where the first does in its tick. -/
def SameTick (s t : State) : Prop := t.time.deckle = s.time.deckle

theorem sameTick_iff {s t : State} : SameTick s t ↔ t.time.period = s.time.period ∧ t.time.running = s.time.running ∧
    t.time.phase = s.time.phase ∧ t.time.tickSeq = s.time.tickSeq ∧ t.time.deferred = s.time.deferred ∧
    t.time.unfinished = s.time.unfinished := by
  simp [SameTick, TimeUnit.deckle]

theorem SameTick.refl (s : State) : SameTick s s := rfl

theorem SameTick.trans {s t u : State} (h : SameTick s t) (k : SameTick t u) : SameTick s u := Eq.trans k h

theorem SameTick.ite {s t u : State} {c : Prop} [Decidable c] (h : SameTick s t) (k : SameTick s u) : SameTick s (if c then t else u) := by
  split
  · exact h
  · exact k

theorem SameTick.foldl {α : Type} {f : State → α → State} (hf : ∀ s a, SameTick s (f s a)) (l : List α) (s : State) :
    SameTick s (l.foldl f s) := by
  induction l generalizing s with
  | nil => exact .refl s
  | cons a l ih => exact (hf s a).trans (ih (f s a))

theorem SameTick.forN {n : Nat} {f : Nat → State → State} (hf : ∀ i s, SameTick s (f i s)) {s t : State} (h : SameTick s t) :
    SameTick s (forN n f t) := h.trans (.foldl (fun s i => hf i s) _ t)

theorem SameTick.onTime {s t : State} {f : TimeUnit → TimeUnit} (h : SameTick s t) (hf : ∀ x, (f x).deckle = x.deckle) :
    SameTick s (t.onTime f) := (hf t.time).trans h

/-- What touches neither the tick nor the job records leaves the place in the tick. -/
theorem SameTick.of_within {s t : State} (h : Within (Part.mask (Part.allBut [.tick, .time])) s t) : SameTick s t := by
  have tick := h.same_of_not_mem (p := .tick) (by simp [Part.allBut])
  have time := h.same_of_not_mem (p := .time) (by simp [Part.allBut])
  simp only [Part.same, Prod.mk.injEq, TimeUnit.mk.injEq] at tick time
  exact sameTick_iff.mpr ⟨by simp [tick], by simp [tick], by simp [tick], by simp [tick], by simp [time], by simp [time]⟩

/-! ## The jobs leave the place in the tick -/

/-- A step of bench time moves the tick's edge and is judged again; the tick stays (R103, R567). -/
theorem stepBench_sameTick (s : State) (d : Int) : SameTick s (stepBench s d) := by
  have moved (u : State) : SameTick u (moveInstants u d) := .of_within (by simp [Part.bit])
  have noted (u : State) : SameTick u (noteJump u) := by
    unfold noteJump
    refine SameTick.trans (t := u.onTime fun t => { t with rejudge := true, secSeen := t.bench / secB }) rfl (.of_within ?_)
    simp [Part.bit]
  exact .trans (t := s.onTime fun t => { t with bench := wrapBench t.bench d, tickEdge := wrapBench t.tickEdge d }) rfl
    ((moved _).trans (noted _))

theorem buildOut_sameTick (s : State) (d : Nat) : SameTick s (buildOut s d) := by
  have stepped (u : State) (x : Int) : SameTick u (stepTimescale u d x) := by
    unfold stepTimescale
    refine .trans (t := if d = 0 then stepBench u (x * u16) else u.onDpll d fun y => { y with timescale := wrapBench y.timescale (x * u16) })
      (.ite (stepBench_sameTick _ _) (.of_within ?_)) (.of_within ?_)
    · simp [Part.bit]
    · simp [Part.bit]
  unfold buildOut
  dsimp only
  split
  · exact .trans (.of_within (by simp [Part.bit])) (stepped _ _)
  · exact .of_within (by simp [Part.bit])

theorem loopFilter_sameTick (s : State) (disq : Nat → Bool) (d : Nat) : SameTick s (loopFilter s disq d) := by
  have cleared {u : State} (h : SameTick s u) : SameTick s (tdcClear u d) := h.trans (.of_within (by simp [Part.bit]))
  have filtered {u : State} (x : Int) (h : SameTick s u) : SameTick s (filterUpdate u d x) := h.trans (.of_within (by simp [Part.bit]))
  have built {u : State} (h : SameTick s u) : SameTick s (buildOut u d) := h.trans (buildOut_sameTick u d)
  unfold loopFilter
  dsimp only
  split
  · exact .ite (cleared rfl) (.ite rfl (cleared (.ite (built rfl) (filtered _ rfl))))
  · exact cleared rfl

theorem loopJob_sameTick (s : State) (room : Option Nat) : SameTick s (loopJob s room) := by
  unfold loopJob
  refine .trans (t := historyTick s) (.of_within ?_) (SameTick.foldl (fun t d => .trans (.of_within ?_) (loopFilter_sameTick _ _ d)) _ _)
  · simp [Part.bit]
  · simp [Part.bit]

theorem evalSources_sameTick (s : State) (room : Option Nat) : SameTick s (evalSources s room) := by
  have derived (u : State) : SameTick u (deriveSrcOpers u) := .of_within (by simp [Part.bit])
  have expired (n : Nat) (u : State) : SameTick u (forN 4 (fun d u => wtrExpire u d n) u) := .of_within (by simp [Part.bit])
  have updated (u : State) : SameTick u (forN 12 (fun n t => qlUpdate t n) (forN 12 (fun n t => forN 4 (fun d u => wtrExpire u d n) t) u)) :=
    .forN (fun n t => .of_within (by simp [Part.bit])) (.forN expired (.refl u))
  unfold evalSources
  dsimp only
  refine .trans (.ite ?_ (.trans ?_ (updated _))) (derived _)
  all_goals
    refine .onTime (.of_within ?_) fun _ => rfl
    simp [Part.bit]

theorem evaluateJob_sameTick (j : Nat) (room : Option Nat) (s : State) : SameTick s (evaluateJob j room s) := by
  unfold evaluateJob
  split
  case h_2 => exact loopJob_sameTick s room
  case h_4 => exact (evalSources_sameTick s room).trans (.of_within (by simp [Part.bit]))
  all_goals exact .of_within (by simp [Part.bit])

theorem loadAll_sameTick (s : State) (room : Option Nat) : SameTick s (loadAll s room) := by
  unfold loadAll
  dsimp only
  refine .forN (fun w u => .of_within ?_) (.forN (fun n u => .of_within ?_) (.onTime (.ite (.of_within ?_) (.refl s)) fun _ => rfl))
  all_goals simp [Part.bit]

theorem dispatchJob_sameTick (j : Nat) (room : Option Nat) (s : State) : SameTick s (dispatchJob j room s) := by
  unfold dispatchJob
  split
  case h_4 => exact loadAll_sameTick s room
  all_goals exact .of_within (by simp [Part.bit])

/-! ## The phases -/

/-- What touches no part of the tick unit leaves it. -/
theorem Within.time_eq {ps : Nat} {s t : State} (h : Within ps s t)
    (hp : ∀ p ∈ [Part.bench, .inc, .tick, .time], ps.testBit p.bit = false) : t.time = s.time := by
  have bench := h .bench (hp _ (by decide))
  have inc := h .inc (hp _ (by decide))
  have tick := h .tick (hp _ (by decide))
  have time := h .time (hp _ (by decide))
  simp only [Part.same, Prod.mk.injEq, TimeUnit.mk.injEq] at bench inc tick time
  cases ht : t.time
  cases hs : s.time
  simp_all

/-- Passing cycles changes bench time alone. -/
theorem runCycles_time (n : Nat) (s : State) : ∃ b, (runCycles n s).time = { s.time with bench := b } := by
  have counted (code k : Nat) (u : State) : (countSrc code k u).time = u.time :=
    (show Within 0x7400000000200 u (countSrc code k u) by simp).time_eq (by decide)
  unfold runCycles
  exact ⟨_, by simp [counted]; rfl⟩

/-- A phase begins: time has passed and the jobs' cycles are recorded. -/
theorem beginPhase_time (s : State) (ph : Phase) (pct : Nat) (used : List (Nat × Nat)) :
    ∃ b hwm, (beginPhase s ph pct used).time = { s.time with bench := b, phase := ph, jobHwm := hwm } := by
  obtain ⟨b, h⟩ := runCycles_time (cyclesTo s pct) s
  exact ⟨b, _, by simp [beginPhase, h]; rfl⟩

theorem tickBoundary_time {s : State} (smp : TickSample) (hc : s.coreOn = true) (hr : s.inReset = false) (hb : s.pwr.booting = false)
    (hg : s.time.running = true → s.time.phase = .guard) :
    let t := (tickBoundary s smp).time
    t.phase = .sample ∧ t.running = true ∧ t.tickSeq = s.time.tickSeq + 1 ∧ t.deferred = s.time.unfinished ∧
      t.unfinished = smp.late.filter fun j => j == 0 || j == 1 || j == 3 := by
  have now : (!s.coreOn || s.inReset || s.pwr.booting || (s.time.running && s.time.phase != .guard)) = false := by
    simpa [hc, hr, hb] using hg
  obtain ⟨b, hrun⟩ := runCycles_time (cyclesToBoundary s) s
  have rest (u : State) : SameTick u (sampleLatch (wmBoundary (fineSlew (activateArmed (commitInForce
      (latchEvents (firstTick u) (smp.late.contains 3)) smp.tioOk)))) smp) := .of_within (by simp [Part.bit])
  unfold tickBoundary
  rw [now, if_neg Bool.false_ne_true]
  obtain ⟨-, hrunning, hphase, hseq, hdeferred, hunfinished⟩ := sameTick_iff.mp (rest _)
  dsimp only
  rw [hrunning, hphase, hseq, hdeferred, hunfinished]
  simp [hrun]

theorem slotJob_sameTick (s : State) (overrun : Bool) : SameTick s (slotJob s overrun) := by
  have slot : SameTick s (slotP s) := .of_within (by simp [Part.bit])
  have faulted (u : State) : SameTick u (pOverrun u) := .of_within (by simp [Part.bit])
  unfold slotJob
  refine .ite (.trans ?_ (faulted _)) slot
  exact .onTime slot fun _ => rfl

/-- What EVALUATE does once it has begun: channel P's slot, the ports, the record of the unfinished jobs, and the jobs. -/
def evaluateRuns (rep : PhaseReport) (s : State) : State :=
  let s := deriveTimeOpers (portsJob (slotJob s rep.pOverrun))
  let late := (rep.unfinished.map (·.1)).filter (rng 5 13)
  let late := if late.isEmpty || late.contains 13 || !markDue s then late else late ++ [13]
  let s := s.onTime fun t => { t with unfinished := t.unfinished ++ late }
  (jobOrder s [5, 6, 7, 8, 9, 10, 11, 12, 13]).foldl
    (fun t j => evaluateJob j (if late.contains j then some ((roomOf rep j).getD 0) else none) t) s

theorem evaluatePhase_eq {s : State} (rep : PhaseReport) (hc : s.coreOn = true) (hr : s.time.running = true) (hp : s.time.phase = .sample) :
    evaluatePhase s rep = evaluateRuns rep (beginPhase s .evaluate 10 rep.used) := by
  have now : (!s.coreOn || !s.time.running || s.time.phase != .sample) = false := by simp [hc, hr, hp]
  unfold evaluatePhase evaluateRuns
  rw [now, if_neg Bool.false_ne_true]

/-- A job that is reported unfinished is remembered; the jobs that run leave the record (R77). -/
theorem evaluateRuns_time (rep : PhaseReport) (s : State) :
    (evaluateRuns rep s).time.phase = s.time.phase ∧ (evaluateRuns rep s).time.tickSeq = s.time.tickSeq ∧
      ∀ u ∈ rep.unfinished, rng 5 13 u.1 = true → u.1 ∈ (evaluateRuns rep s).time.unfinished := by
  have ports (u : State) : SameTick u (deriveTimeOpers (portsJob u)) := .of_within (by simp [Part.bit])
  have jobs (l : List Nat) (room : Nat → Option Nat) (u : State) : SameTick u (l.foldl (fun t j => evaluateJob j (room j) t) u) :=
    .foldl (fun t j => evaluateJob_sameTick j (room j) t) l u
  have before := (slotJob_sameTick s rep.pOverrun).trans (ports _)
  unfold evaluateRuns
  generalize deriveTimeOpers (portsJob (slotJob s rep.pOverrun)) = v at before ⊢
  obtain ⟨-, -, hphase, hseq, -, -⟩ := sameTick_iff.mp before
  dsimp only
  obtain ⟨-, -, jphase, jseq, -, junfinished⟩ := sameTick_iff.mp (jobs _ _ _)
  rw [jphase, jseq, junfinished]
  refine ⟨hphase, hseq, fun u hu hrow => List.mem_append_right _ ?_⟩
  have late : u.1 ∈ (rep.unfinished.map (·.1)).filter (rng 5 13) := List.mem_filter.mpr ⟨List.mem_map_of_mem hu, hrow⟩
  split
  · exact late
  · exact List.mem_append_left _ late

/-- What DISPATCH does once it has begun: the record of the unfinished jobs, the handover of edges, and the jobs. -/
def dispatchRuns (rep : PhaseReport) (s : State) : State :=
  let late := (rep.unfinished.map (·.1)).filter fun j => rng 14 20 j && j != 17
  let s := s.onTime fun t => { t with unfinished := t.unfinished ++ late }
  let s := if late.contains 14 then s else handoverAll s
  (jobOrder s [15, 16, 17, 18, 19, 20]).foldl
    (fun t j => dispatchJob j (if late.contains j then some ((roomOf rep j).getD 0) else none) t) s

theorem dispatchPhase_eq {s : State} (rep : PhaseReport) (hc : s.coreOn = true) (hr : s.time.running = true) (hp : s.time.phase = .evaluate) :
    dispatchPhase s rep = dispatchRuns rep (beginPhase s .dispatch 70 rep.used) := by
  have now : (!s.coreOn || !s.time.running || s.time.phase != .evaluate) = false := by simp [hc, hr, hp]
  unfold dispatchPhase dispatchRuns
  rw [now, if_neg Bool.false_ne_true]

/-- As for EVALUATE; row 17, channel P's work, is never deferred (R28). -/
theorem dispatchRuns_time (rep : PhaseReport) (s : State) :
    (dispatchRuns rep s).time.phase = s.time.phase ∧ (dispatchRuns rep s).time.tickSeq = s.time.tickSeq ∧
      ∀ u ∈ rep.unfinished, rng 14 20 u.1 = true → u.1 ≠ 17 → u.1 ∈ (dispatchRuns rep s).time.unfinished := by
  have handed (c : Bool) (u : State) : SameTick u (if c then u else handoverAll u) := .of_within (by simp [Part.bit])
  have jobs (l : List Nat) (room : Nat → Option Nat) (u : State) : SameTick u (l.foldl (fun t j => dispatchJob j (room j) t) u) :=
    .foldl (fun t j => dispatchJob_sameTick j (room j) t) l u
  unfold dispatchRuns
  dsimp only
  obtain ⟨-, -, jphase, jseq, -, junfinished⟩ := sameTick_iff.mp ((handed _ _).trans (jobs _ _ _))
  rw [jphase, jseq, junfinished]
  refine ⟨rfl, rfl, fun u hu hrow h17 => List.mem_append_right _ (List.mem_filter.mpr ⟨List.mem_map_of_mem hu, ?_⟩)⟩
  simp [hrow, h17]

/-- What GUARD does once it has begun: the unfinished jobs are counted, and a delayed snapshot mark is taken. -/
def guardStops (s : State) : State :=
  let late := s.time.unfinished
  if late.isEmpty then s else
  let s := s.onTime fun t => { t with
    unfinished := late.filter (· != 13)
    overrunCnt := vmap (fun j c => if late.contains j then stick 16 c else c) t.overrunCnt }
  let s := if late.contains 13 then snapMark s true else s
  raise s evOverrun

theorem guardPhase_eq {s : State} (hc : s.coreOn = true) (hr : s.time.running = true) (hp : s.time.phase = .dispatch) :
    guardPhase s = guardStops (beginPhase s .guard 95 []) := by
  have now : (!s.coreOn || !s.time.running || s.time.phase != .dispatch) = false := by simp [hc, hr, hp]
  unfold guardPhase guardStops
  rw [now, if_neg Bool.false_ne_true]

/-- GUARD counts each remembered job once (R73, R77). -/
theorem guardStops_time (s : State) : (guardStops s).time.phase = s.time.phase ∧ (guardStops s).time.tickSeq = s.time.tickSeq ∧
    ∀ j, j < 21 → vat (guardStops s).time.overrunCnt j =
      if j ∈ s.time.unfinished then stick 16 (vat s.time.overrunCnt j) else vat s.time.overrunCnt j := by
  have marked (c : Bool) (u : State) : (raise (if c then snapMark u true else u) evOverrun).time = u.time :=
    (show Within 0xc400000000200 u _ by simp).time_eq (by decide)
  unfold guardStops
  dsimp only
  split
  · rename_i none
    simp [show s.time.unfinished = [] by simpa using none]
  · rw [marked]
    exact ⟨rfl, rfl, fun j hj => by simp [hj]⟩

/-! ## The whole second (R61, R64, R282) -/

theorem secondsSet_sameTick (s : State) : SameTick s (secondsSet s) := by
  unfold secondsSet
  dsimp only
  exact .ite (.refl s) (.trans rfl (stepBench_sameTick _ _))

/-- The committed TICK_PERIOD is in force after the second, changed or not. -/
theorem periodChange_period (s : State) : (periodChange s).time.period = fPeriod.val s.act 0 := by
  have raised (c : Prop) [Decidable c] (u : State) (f : Txn → Txn) : SameTick u (raise (if c then u.onTxn f else u) evPeriodChanged) :=
    .of_within (by simp [Part.bit])
  unfold periodChange
  dsimp only
  split
  · exact Eq.symm ‹_›
  · rw [(sameTick_iff.mp (raised _ _ _)).1]

/-- The second is counted and judged, and what is committed for it takes effect. -/
def secondPasses (s : State) : State :=
  let s := countSrc 0x102 1 (raise s evSecond)
  let s := if s.coreOn then forN 4 (fun p t => sdSecond t p) s else s
  secondsSet (periodChange s)

theorem secondPasses_spec (s : State) : (secondPasses s).model = s.model ∧ (secondPasses s).time.period = fPeriod.val s.act 0 := by
  have model : Within (Part.mask (Part.allBut [.model])) s (secondPasses s) := by simp [secondPasses, Part.bit]
  have judged (c : Bool) : Within 0x7400008000200 s
      (if c then forN 4 (fun p t => sdSecond t p) (countSrc 0x102 1 (raise s evSecond)) else countSrc 0x102 1 (raise s evSecond)) := by simp
  refine ⟨model.same .model, ?_⟩
  unfold secondPasses
  dsimp only
  rw [(sameTick_iff.mp (secondsSet_sameTick _)).1, periodChange_period, (judged _).act_eq rfl]

/-- The XO's age grows while the XO is valid; the period is the committed one. -/
theorem wholeSecond_spec (s : State) : (wholeSecond s).model.xoAge = s.model.xoAge + b2n s.pwr.xoValid ∧
    (wholeSecond s).time.period = fPeriod.val s.act 0 := by
  have reached : ∃ u, Within 0x7400040040212 s u ∧
      wholeSecond s = secondPasses (if u.pwr.xoValid then u.onModel fun m => { m with xoAge := m.xoAge + 1 } else u) := by
    refine ⟨_, ?_, rfl⟩
    simp
  obtain ⟨u, hu, h⟩ := reached
  have hmodel : u.model = s.model := hu .model rfl
  obtain ⟨pmodel, pperiod⟩ := secondPasses_spec (if u.pwr.xoValid then u.onModel fun m => { m with xoAge := m.xoAge + 1 } else u)
  rw [h, pmodel, pperiod, ← hu.act_eq rfl, ← hu.xoValid_eq rfl, ← hmodel]
  cases u.pwr.xoValid
  · exact ⟨rfl, rfl⟩
  · exact ⟨rfl, rfl⟩

/-- Settles O10: what each row leaves of the place in the tick. -/
theorem deckleAndWholeSeconds : Obligations.DeckleAndWholeSeconds := by
  refine ⟨fun s smp hc hr hb hg => ⟨_, rfl, tickBoundary_time smp hc hr hb hg⟩, fun s rep hc hr hp => ?_, fun s rep hc hr hp => ?_,
    fun s hc hr hp => ?_, fun s => ⟨_, rfl, wholeSecond_spec s⟩, fun s m hs => ⟨_, rfl, ?_⟩⟩
  · have h := evaluateRuns_time rep (beginPhase s .evaluate 10 rep.used)
    obtain ⟨b, hwm, hbegin⟩ := beginPhase_time s .evaluate 10 rep.used
    rw [hbegin] at h
    exact ⟨_, congrArg Host.Outcome.next (evaluatePhase_eq rep hc hr hp), h⟩
  · have h := dispatchRuns_time rep (beginPhase s .dispatch 70 rep.used)
    obtain ⟨b, hwm, hbegin⟩ := beginPhase_time s .dispatch 70 rep.used
    rw [hbegin] at h
    exact ⟨_, congrArg Host.Outcome.next (dispatchPhase_eq rep hc hr hp), h⟩
  · have h := guardStops_time (beginPhase s .guard 95 [])
    obtain ⟨b, hwm, hbegin⟩ := beginPhase_time s .guard 95 []
    rw [hbegin] at h
    exact ⟨_, congrArg Host.Outcome.next (guardPhase_eq hc hr hp), h⟩
  have cleared : hwmClr (access s m) m =
      echo ((access s m).onTime fun t => { t with jobHwm := Vector.replicate 21 0 }) m 0x112 1 [] resAccepted := by
    simp [hwmClr, hs]
  rw [cleared]
  exact ⟨fun j => by simp [vat_replicate_zero], by simp⟩

end Sys2Proof.Machine
end


section
/-! PROOFS. Latched groups, stale reads, the holding registers and TS_HEAD (O44). -/

namespace Sys2Proof.Machine

/-! ## What an access leaves of a master's port -/

@[simp] theorem openWord_access (s : State) (k m : Master) (i : Item) (j : Nat) : openWord (access s k) m i j = openWord s m i j := by
  obtain ⟨x, e⟩ := access_shape s k
  rw [e]
  cases m <;> rfl

@[simp] theorem rolWord_access (s : State) (k m : Master) (a : Nat) : rolWord (access s k) m a = rolWord s m a := by simp [rolWord]

@[simp] theorem heldVal_access (s : State) (k m : Master) (a n : Nat) : heldVal (access s k) m a n = heldVal s m a n := by simp [heldVal]

/-! ## An opening read (R539, R540, R570) -/

/-- Words put one after another into a canonical store are found there. -/
theorem sget_foldl_sput (f : Nat → Word) (b : Nat) {l : List (Nat × Word)} (hl : swfFrom (fun _ => (0 : Word)) 0 l = true) (n : Nat) :
    swfFrom (fun _ => (0 : Word)) 0 ((List.range n).foldl (fun l k => sput 0 (f k) (b + k) l) l) = true ∧
    ∀ k, k < n → sget 0 ((List.range n).foldl (fun l k => sput 0 (f k) (b + k) l) l) (b + k) = f k := by
  induction n with
  | zero => exact ⟨hl, fun k hk => absurd hk (Nat.not_lt_zero k)⟩
  | succ n ih =>
    obtain ⟨hwf, hget⟩ := ih
    rw [List.range_succ, List.foldl_append]
    refine ⟨swf_sput (fun _ => 0) _ _ (Nat.zero_le _) hwf, fun k hk => ?_⟩
    by_cases hkn : k = n
    · subst hkn
      exact sget_sput_same (fun _ => 0) _ _ 0 _ hwf
    · exact (sget_sput_other 0 0 _ (by omega) _).trans (hget k (by omega))

theorem BlockInv.rolHold {s : State} (h : BlockInv s) (m : Master) : swfFrom (fun _ => (0 : Word)) 0 (s.host m).rolHold = true := by
  have port : portWf (s.host m) = true := by
    cases m
    · exact h.hb
    · exact h.mp
  exact (Bool.and_eq_true _ _ ▸ port).2

theorem BlockInv.wrHold {s : State} (h : BlockInv s) (m : Master) : swfFrom (fun _ => (0 : Word)) 0 (s.host m).wrHold = true := by
  have port : portWf (s.host m) = true := by
    cases m
    · exact h.hb
    · exact h.mp
  exact (Bool.and_eq_true _ _ ▸ port).1

/-- Every word of the opened group is held for the master. -/
theorem openGroup_rolWord {s : State} {m : Master} (i : Item) (h : swfFrom (fun _ => (0 : Word)) 0 (s.host m).rolHold = true) {k : Nat}
    (hk : k < i.len) : rolWord (openGroup s m i) m (i.base + k) = openWord s m i k % 65536 := by
  have held := (sget_foldl_sput (fun k => Word.ofN (openWord s m i k)) i.base h i.len).2 k hk
  simp only [rolWord, openGroup, State.host_onHost, held]
  exact BitVec.toNat_ofNat ..

theorem mapRead_group {s : State} {a : Nat} {i : Item} (m : Master) (h : groupAt s a = some i) : mapRead s m a = groupRead s m i a := by
  unfold mapRead
  rw [h]

/-- A read of a word of the map is delivered to its master. -/
theorem targetRead_map {s : State} (m : Master) (a : Fin 16777216) (hs : s.served = true) :
    targetRead s m (.map a) = (mapRead s m a).2.onHost m fun h => { h with readData := [Word.ofN (mapRead s m a).1] } := by
  unfold targetRead
  simp only [hs, if_true]
  exact deliver_of_not_reset ((mapRead_keeps s m a).inReset.trans (inReset_of_served hs))

theorem ofN_mod (n : Nat) : Word.ofN (n % 65536) = Word.ofN n := by simp [Word.ofN, ← BitVec.toNat_inj]

/-! ## A stale read (R539, R540) -/

/-- A word of a group that the master has not latched is delivered as it was held, and the port shows STALE. -/
theorem groupRead_stale {s : State} {m : Master} {i : Item} {a : Nat} (hb : a ≠ i.base) (hl : (s.host m).latched ≠ some i.base) (hon : i.on = true) :
    groupRead s m i a = (rolWord s m a, raise (s.onHost m fun h => { h with stale := true }) evStale) := by
  simp [groupRead, hb, hl, hon]

/-- The state after a stale read of word `a`. -/
theorem targetRead_stale {s : State} {m : Master} {i : Item} {a : Fin 16777216} (hs : s.served = true) (hg : groupAt s a = some i)
    (hb : a.val ≠ i.base) (hl : (s.host m).latched ≠ some i.base) (hon : i.on = true) :
    targetRead s m (.map a) = (raise (s.onHost m fun h => { h with stale := true }) evStale).onHost m fun h =>
      { h with readData := [Word.ofN (rolWord s m a)] } := by
  rw [targetRead_map m a hs, mapRead_group m hg, groupRead_stale hb hl hon]

/-! ## The holding registers (R541) -/

/-- The lower words, and the last word, of the values of the device page that are written through a holding register. -/
theorem deviceItems_holding (s : State) : ∀ a ∈ [0x305, 0x306, 0x307, 0x308, 0x30B, 0x30C], ∃ i, itemAt s a = some i ∧ i.on = true := by
  intro a ha
  simp only [List.mem_cons, List.not_mem_nil, or_false] at ha
  obtain rfl | rfl | rfl | rfl | rfl | rfl := ha <;> simp [itemAt, itemsNear, deviceItems, rol, one, singles, echoItem, repeated]

/-- A device word that is no configuration word is written by the device page's own rule. -/
theorem mapWrite_device {s : State} (m : Master) (v : Nat) :
    ∀ a ∈ [0x305, 0x306, 0x307, 0x308, 0x30B, 0x30C], mapWrite s m a v = deviceWrite s m a v := by
  intro a ha
  obtain ⟨i, hi, hon⟩ := deviceItems_holding s a ha
  have direct : ∀ a ∈ [0x305, 0x306, 0x307, 0x308, 0x30B, 0x30C], ¬ a < 0x80 ∧ isRws a = false ∧ a / 65536 = 0 := by decide +kernel
  obtain ⟨hd, hc, hpage⟩ := direct a ha
  simp [mapWrite, hd, hc, hi, hon, itemWrite, hpage]

/-- A lower word is held for its master. -/
theorem mapWrite_holds (s : State) (m : Master) (v : Nat) : ∀ a ∈ [0x1A, 0x305, 0x306, 0x307, 0x308, 0x30B], mapWrite s m a v = holdWord s m a v := by
  intro a ha
  obtain rfl | ha := List.mem_cons.1 ha
  · rfl
  · rw [mapWrite_device m v a (by simp only [List.mem_cons, List.not_mem_nil, or_false] at ha ⊢; omega)]
    simp only [List.mem_cons, List.not_mem_nil, or_false] at ha
    obtain rfl | rfl | rfl | rfl | rfl := ha <;> rfl

theorem heldVal_holdWord {s : State} {m : Master} (h : swfFrom (fun _ => (0 : Word)) 0 (s.host m).wrHold = true) (a : Nat) (v : Word) :
    heldVal (holdWord s m a v.toNat) m a 1 = v.toNat := by
  have held : sget 0 (sput 0 v a (s.host m).wrHold) a = v := sget_sput_same (fun _ => 0) _ _ 0 _ h
  simpa [heldVal, wordsAt, holdWord, wordOfN_toNat] using congrArg BitVec.toNat held

/-- A write of a holding register is the map's write, noted for the conflicts. -/
theorem exec_holdingWrite {s : State} (m : Master) {a : Fin 16777216} (v : Word) (hw : s.writable = true) (ha : holdsWord a = true) :
    exec (.holdingWrite m (.map a) v) s = .next (noted (access s m) m a (mapWrite (access s m) m a v.toNat)) := by
  simp [exec, execHoldingWrite, resolve, ha, targetWrite, hw]

/-! ## TS_HEAD (R81) -/

/-- The last word of TIO[pin].TS_HEAD belongs to its group. -/
theorem groupAt_tsHead (s : State) (pin : Fin 16) : groupAt s (tioBase pin + 0x0E) =
    some (rol s.coreOn (tioBase pin + 8) 7 fun _ => headWords (vat s.tios pin).fifo) := by
  have notCfg : ∀ p : Fin 16, isRws (tioBase p + 0x0E) = false := by decide +kernel
  have near : itemsNear s (tioBase pin + 0x0E) = tioItems s pin := by
    have page : (tioBase pin + 0x0E) / 65536 = 6 := by simp only [tioBase]; omega
    have index : (tioBase pin + 0x0E - tioBase 0) / 0x40 = pin := by simp only [tioBase]; omega
    have above : ¬ tioBase pin + 0x0E < winBase 0 ∧ ¬ tioBase pin + 0x0E < tioBase 0 ∧ tioBase pin + 0x0E < 0x060E00 := by
      simp only [tioBase, winBase]; omega
    obtain ⟨hw, ht, hg⟩ := above
    unfold itemsNear
    rw [page]
    simp only [if_neg hw, if_neg ht, if_pos hg, index]
  simp [groupAt, notCfg pin, itemAt, near, tioItems, rol]

/-- The head entry that a latched TS_HEAD shows is removed from its FIFO, and from no other. -/
theorem dropHead_shown {s : State} {m : Master} (pin : Fin 16) {i : Item} (hb : i.base = tioBase pin + 8) (hlen : i.len = 7)
    (hq : (vat s.tios pin).fifo ≠ [])
    (hh : ((List.range 7).map fun k => rolWord s m (tioBase pin + 8 + k)) = headWords (vat s.tios pin).fifo) :
    (dropHead s m i).tios = (s.onTio pin fun x => { x with fifo := x.fifo.drop 1 }).tios := by
  have inPage : tioBase 0 ≤ tioBase pin + 8 ∧ tioBase pin + 8 < 0x060E00 := by simp only [tioBase]; omega
  have index : (tioBase pin + 8 - tioBase 0) / 0x40 = pin := by simp only [tioBase]; omega
  have full : (vat s.tios pin).fifo.isEmpty = false := by simpa using hq
  unfold dropHead
  rw [hlen, hb, if_pos ⟨rfl, inPage⟩, index]
  simp only [full, hh, beq_self_eq_true, Bool.not_false, Bool.and_self, if_true]
  unfold raiseIf
  split <;> simp

/-- The last word of a latched group is delivered as held, the FIFO's shown head entry goes, and the latch is released. -/
theorem groupRead_lastWord {s : State} {m : Master} {i : Item} {a : Nat} (hlen : i.len = 7) (hl : (s.host m).latched = some i.base)
    (ha : a + 1 = i.base + 7) :
    groupRead s m i a = (rolWord s m a, (dropHead s m i).onHost m fun h => { h with latched := none }) := by
  have hb : a ≠ i.base := by omega
  simp [groupRead, hb, hl, hlen, ha]

/-- TS_HEAD_READ is the map's read of the group's last word. -/
theorem exec_tsHeadRead {s : State} (m : Master) (pin : Fin 16) (hs : s.served = true) :
    exec (.tsHeadRead m pin) s = .next ((groupRead (access s m) m (rol s.coreOn (tioBase pin + 8) 7 fun _ => headWords (vat s.tios pin).fifo)
      (tioBase pin + 0x0E)).2.onHost m fun h => { h with readData :=
        [Word.ofN (groupRead (access s m) m (rol s.coreOn (tioBase pin + 8) 7 fun _ => headWords (vat s.tios pin).fifo) (tioBase pin + 0x0E)).1] }) := by
  have hg := groupAt_tsHead (access s m) pin
  have kept := (mapRead_keeps (access s m) m (tioBase pin + 0x0E)).inReset
  rw [mapRead_group m hg] at kept
  have hr : (access s m).inReset = false := inReset_of_served (by simpa using hs)
  simp only [exec, execTsHeadRead, access_served, hs, if_true, mapRead_group m hg]
  rw [deliver_of_not_reset (kept.trans hr)]
  simp [State.coreOn]

/-! ## The obligation -/

/-- Settles O44: the read and the write of each row as the model's operation on the master's port. -/
theorem readLatchesAndHoldingRegisters : Obligations.ReadLatchesAndHoldingRegisters := by
  unfold Obligations.ReadLatchesAndHoldingRegisters
  refine ⟨fun s m a i hinv hs hg hb hon => ?_, fun s m a i hs hg hb hl hon => ?_, fun s m a v hinv hw ha => ?_, fun s m v hw => ?_,
    fun s m v hw => ?_, fun s m pin hs hl hf hh => ?_, fun s m pin hs hl => ?_⟩
  · have hopens : exec (.rolGroupOpen m (.map a)) s = .next (targetRead (access s m) m (.map a)) := by
      simp [exec, execRolGroupOpen, resolve, hg, hb]
    refine ⟨_, hopens, ?_⟩
    rw [targetRead_map m a (by simpa using hs), mapRead_group m hg]
    have hread : groupRead (access s m) m i a = (openWord s m i 0 % 65536, openGroup (access s m) m i) := by simp [groupRead, hb, hon]
    rw [hread]
    refine ⟨by simp [ofN_mod], by simp [openGroup, hb], by simp [openGroup], fun k hk => ?_⟩
    have := openGroup_rolWord (s := access s m) (m := m) i (by simpa using hinv.rolHold m) hk
    rw [← hb]
    simpa [rolWord] using this
  · have hb' : a.val ≠ i.base := fun e => hb e.symm
    have hl' : ((access s m).host m).latched ≠ some i.base := by simpa using hl
    have hreads : exec (.stale m (.map a)) s = .next (targetRead (access s m) m (.map a)) := by
      simp [exec, execStale, resolve, hg, hb, hl]
    refine ⟨_, hreads, ?_⟩
    rw [targetRead_stale (by simpa using hs) hg hb' hl' hon]
    refine ⟨by simp, by simp [raise], by simp [raise], ?_⟩
    exact (eventSet_raiseAt ((access s m).onHost m fun h => { h with stale := true }) 0 0 (by decide)).congr (by simp [raise]) (by simp [raise])
  · have ha' : a.val ∈ [0x1A, 0x305, 0x306, 0x307, 0x308, 0x30B] := List.mem_map_of_mem ha
    have holds : ∀ a ∈ [0x1A, 0x305, 0x306, 0x307, 0x308, 0x30B], holdsWord a = true := by decide
    refine ⟨_, exec_holdingWrite m v hw (holds a ha'), ?_⟩
    rw [mapWrite_holds _ m _ a ha']
    refine ⟨?_, by simp [holdWord]⟩
    simpa [heldVal] using heldVal_holdWord (s := access s m) (m := m) (by simpa using hinv.wrHold m) a v
  · refine ⟨_, exec_holdingWrite m (a := 0x1B) v hw (by decide), ?_⟩
    have atWrite (t : State) : mapWrite t m 0x1B v.toNat = t.onTxn fun x => { x with at_ := heldVal t m 0x1A 1 + 65536 * v.toNat } := rfl
    rw [show ((0x1B : Fin 16777216) : Nat) = 0x1B from rfl, atWrite]
    simp [State.onTxn]
  · refine ⟨_, exec_holdingWrite m (a := 0x30C) v hw (by decide), ?_⟩
    rw [mapWrite_device m _ _ (by decide)]
    simp [deviceWrite, State.onTxn]
  · have served : s.served = true := (Bool.and_eq_true _ _ ▸ hs).1
    refine ⟨_, exec_tsHeadRead m pin served, ?_⟩
    rw [groupRead_lastWord rfl (show ((access s m).host m).latched = some (tioBase pin + 8) by simpa using hl) (by simp [rol])]
    have dropped := dropHead_shown (s := access s m) (m := m) pin (i := rol s.coreOn (tioBase pin + 8) 7 fun _ => headWords (vat s.tios pin).fifo)
      rfl rfl (by simpa using hf) (by simpa using hh)
    refine ⟨?_, by simp, by simp, fun k hk => ?_⟩
    · simp [dropped]
    · simp [dropped, vat_vupd_others, hk]
  · have served : s.served = true ∧ s.coreOn = true := Bool.and_eq_true _ _ ▸ hs
    obtain ⟨served, on⟩ := served
    refine ⟨_, exec_tsHeadRead m pin served, ?_⟩
    rw [groupRead_stale (by simp [rol]) (by simpa [rol] using hl) on]
    simp [raise]

end Sys2Proof.Machine
end

section
/-! PROOFS. How a long operation ends: what it leaves in the queue, in HOST.OPH and of the events (for O46 and O47). -/

namespace Sys2Proof.Machine

/-! ## An event stays raised while a shutdown goes on (R142) -/

/-- Whether an event has been raised does not change where CORE, the raises and the events held for CORE are as before. -/
theorem EventSet.mono {t u : State} {e : Nat} (h : EventSet t e) (hc : u.coreOn = t.coreOn)
    (hr : t.evt.raised.getLsbD e = true → u.evt.raised.getLsbD e = true) (hp : u.pwr.pwrPend = t.pwr.pwrPend)
    (hs : u.pwr.safePend = t.pwr.safePend) : EventSet u e := by
  unfold EventSet at *
  rw [hc, hp, hs]
  split at h
  · rw [if_pos ‹_›]
    exact hr h
  · rwa [if_neg ‹_›]

theorem EventSet.of_within {ps : Nat} {s t : State} {e : Nat} (h : EventSet s e) (w : Within ps s t)
    (hps : ps.testBit Part.domains.bit = false ∧ ps.testBit Part.raised.bit = false ∧ ps.testBit Part.pend.bit = false) : EventSet t e := by
  obtain ⟨hd, hr, hp⟩ := hps
  have raised : t.evt.raised = s.evt.raised := w .raised hr
  have pend := w .pend hp
  simp only [Part.same, Prod.mk.injEq] at pend
  exact h.mono (w.coreOn_eq hd) (fun hb => raised ▸ hb) pend.1 pend.2

theorem EventSet.logPush {s : State} {e : Nat} (h : EventSet s e) (r : LogRec) : EventSet (logPush s r) e := by
  have raised := logPush_raised s r (e := e)
  obtain ⟨x, l, eq⟩ := logPush_shape s r
  rw [eq] at raised ⊢
  exact h.mono rfl raised rfl rfl

theorem EventSet.shutdownPower {s : State} {e : Nat} (h : EventSet s e) : EventSet (shutdownPower s) e := by
  unfold Machine.shutdownPower
  split
  · exact h
  · exact h.mono rfl id rfl rfl

/-- An operation of the device's own enters the queue, waiting, with EV_PWR_NVM_HELD where it is the first one held (R137, R559). -/
theorem enqueueOp_device (s : State) (code : Nat) (arg0 arg1 : Word) (seq : Nat) : ∃ o, o.st ≠ .running ∧
    (enqueueOp s none code arg0 arg1 seq = { s with opq := s.opq ++ [o], ticket := (s.ticket + 1) % 256 } ∨
      enqueueOp s none code arg0 arg1 seq = raise (({ s with opq := s.opq ++ [o], ticket := (s.ticket + 1) % 256 } : State).onPwr
        fun p => { p with heldRaised := true }) evNvmHeld) := by
  refine ⟨{ ticket := s.ticket, issuer := none, code := code, arg0 := arg0, arg1 := arg1,
            st := if s.pwr.supplyLow && opWrites code then .held else .queued, result := 0, cause := 0, tick := 0, abortIgnored := false,
            aborting := false, doneAt := 0, data := [], echoSeq := seq }, ?_, ?_⟩
  · dsimp only
    split <;> decide
  · unfold enqueueOp
    dsimp only
    split
    · exact .inr rfl
    · exact .inl rfl

theorem EventSet.enqueueDevice {s : State} {e : Nat} (h : EventSet s e) (code : Nat) (arg0 arg1 : Word) (seq : Nat) :
    EventSet (enqueueOp s none code arg0 arg1 seq) e := by
  obtain ⟨o, -, eq | eq⟩ := enqueueOp_device s code arg0 arg1 seq
  · rw [eq]
    exact h.congr rfl rfl
  · rw [eq, raise]
    refine EventSet.raiseAt ?_ evNvmHeld 0 0
    exact h.mono rfl id rfl rfl

theorem EventSet.shutdownStep {s : State} {e : Nat} (h : EventSet s e) : EventSet (shutdownStep s) e := by
  have moved (x : ShutStage) : EventSet (s.onPwr fun p => { p with shut := x }) e := h.mono rfl id rfl rfl
  unfold Machine.shutdownStep
  split
  · split
    · exact (moved _).enqueueDevice ..
    · exact h
  · split
    · exact h
    · exact ((moved _).logPush _).shutdownPower
  · exact h.shutdownPower
  · exact h

/-! ## A shutdown's step and the queue -/

theorem shutdownStep_none {s : State} (h : s.pwr.shut = .none) : shutdownStep s = s := by
  unfold shutdownStep
  rw [h]

theorem runningOp_append {s t : State} {o : LongOp} (ht : t.opq = s.opq ++ [o]) (h : s.runningOp = none) (ho : o.st ≠ .running) :
    t.runningOp = none := by
  unfold State.runningOp at *
  rw [ht, List.find?_append, h]
  simp [ho]

theorem runningOp_congr {s t : State} (h : t.opq = s.opq) : t.runningOp = s.runningOp := congrArg (List.find? _) h

theorem raise_opq (s : State) (e : Nat) : (raise s e).opq = s.opq := by simp [raise]

/-- A shutdown's step starts no operation. -/
theorem shutdownStep_runningOp {s : State} (h : s.runningOp = none) : (shutdownStep s).runningOp = none := by
  unfold shutdownStep
  split
  · split
    · obtain ⟨o, ho, eq | eq⟩ := enqueueOp_device (s.onPwr fun p => { p with shut := .saving }) 0x03 0 0 0
      · exact runningOp_append (congrArg (·.opq) eq) h ho
      · exact runningOp_append ((congrArg (·.opq) eq).trans (raise_opq _ _)) h ho
    · exact h
  · split
    · exact h
    · have kept : Within 0x4400000006a00 s (shutdownPower (logPush (s.onPwr fun p => { p with shut := .logging }) (shutRecord s))) := by simp
      exact (runningOp_congr (kept .opq rfl)).trans h
  · have kept : Within 0x2800 s (shutdownPower s) := by simp
    exact (runningOp_congr (kept .opq rfl)).trans h
  · exact h

/-! ## The end of an operation (R560, R561) -/

/-- The entry of HOST.OPH that an operation leaves. -/
def endedOp (s : State) (o : LongOp) (st : OpState) (result cause : Nat) : LongOp :=
  { o with st := st, result := result, cause := cause, tick := s.tickNum % 2 ^ 32, doneAt := s.time.bench, data := [] }

/-- The operation has left the queue for HOST.OPH. -/
def leftQueue (s : State) (o e : LongOp) : State :=
  shown { s with opq := s.opq.filter fun x => x.ticket != o.ticket, oph := (e :: s.oph).take 16 } e

/-- What an end does beside the queue: to the NVM, the snapshot, the exchange buffer and the outputs. -/
def endEffects (s : State) (o : LongOp) : State :=
  let s := if o.st = .running ∧ opWrites o.code = true then recCut s else s
  let s := if o.code = 0x07 then s.onSnap fun x => { x with exporting := false } else s
  let s := if o.code = 0x11 ∨ o.code = 0x12 then clearBuf s else s
  if o.code = 0x06 ∧ o.st = .running then settleOuts s else s

theorem closeOp_eq (s : State) (o : LongOp) (st : OpState) (result cause : Nat) : closeOp s o st result cause =
    raise (endEffects (leftQueue s o (endedOp s o st result cause)) o) (if st = .done ∧ result = orDone then evOpDone else evOpFail) := rfl

theorem endEffects_within (s : State) (o : LongOp) : Within 0x22c400001800200 s (endEffects s o) := by
  unfold endEffects
  simp

theorem closeOp_opq (s : State) (o : LongOp) (st : OpState) (result cause : Nat) :
    (closeOp s o st result cause).opq = s.opq.filter fun x => x.ticket != o.ticket := by
  have kept : (endEffects (leftQueue s o (endedOp s o st result cause)) o).opq = _ := endEffects_within _ o .opq rfl
  rw [closeOp_eq, raise]
  simp only [raiseAt_fields, kept]
  rfl

theorem closeOp_oph (s : State) (o : LongOp) (st : OpState) (result cause : Nat) :
    (closeOp s o st result cause).oph = (endedOp s o st result cause :: s.oph).take 16 := by
  have kept : (endEffects (leftQueue s o (endedOp s o st result cause)) o).oph = _ := endEffects_within _ o .oph rfl
  rw [closeOp_eq, raise]
  simp only [raiseAt_fields, kept]
  rfl

/-- The newest entry of HOST.OPH is the operation that ended. -/
theorem finishOp_oph_head (s : State) (o : LongOp) (st : OpState) (result cause : Nat) :
    (finishOp s o st result cause).oph.head? = some (endedOp s o st result cause) := by
  have kept : Within 0x4680c00006a00 (closeOp s o st result cause) (finishOp s o st result cause) := by
    unfold finishOp
    simp
  rw [show (finishOp s o st result cause).oph = _ from kept .oph rfl, closeOp_oph]
  rfl

theorem eventSet_finishOp (s : State) (o : LongOp) (st : OpState) (result cause : Nat) :
    EventSet (finishOp s o st result cause) (if st = .done ∧ result = orDone then evOpDone else evOpFail) := by
  refine EventSet.shutdownStep ?_
  rw [closeOp_eq]
  exact eventSet_raiseAt _ 0 0 (by split <;> decide)

/-- The end of an operation other than a self-test, but for its report, raises and logs nothing. -/
theorem leftQueue_endEffects_within (s : State) {o : LongOp} (ho : o.code ≠ 0x06) (e : LongOp) :
    Within 0x228180c00000000 s (endEffects (leftQueue s o e) o) := by
  unfold endEffects leftQueue
  simp [ho]

/-- What had been raised stays raised at the end of an operation; a self-test apart, which settles the outputs. -/
theorem EventSet.finishOp {s : State} {e : Nat} (h : EventSet s e) {o : LongOp} (ho : o.code ≠ 0x06) (st : OpState) (result cause : Nat) :
    EventSet (finishOp s o st result cause) e := by
  refine EventSet.shutdownStep ?_
  rw [closeOp_eq]
  exact EventSet.raiseAt (h.of_within (leftQueue_endEffects_within s ho _) ⟨rfl, rfl, rfl⟩) ..

end Sys2Proof.Machine
end

section
/-! PROOFS. OP_START and ABORT (O46). -/

namespace Sys2Proof.Machine

/-! ## The start of an operation (R139, R285, R561) -/

/-- What a start does before the operation is marked as running: to the model. -/
def startPrep (s : State) (o : LongOp) : State :=
  let s := if o.code = 0x04 ∧ o.data.isEmpty = true then modelClear s else s
  if (o.code = 0x03 ∨ o.code = 0x04) ∧ o.data.isEmpty = true then
    s.onModel fun m => { m with saveStarts := m.xoAge :: saveRecent s } else s

/-- The operation as it runs, with the data it takes over. -/
def startedOp (s : State) (o : LongOp) : LongOp := { o with st := .running, data := if o.data.isEmpty then opData s o else o.data }

/-- What a start does once the operation runs: to the NVM, the snapshot and the outputs. -/
def startEffects (s : State) (o : LongOp) : State :=
  let s := match opRecord o with
    | some r => recBegin s r
    | none => if o.code = 0x08 then s.onNvm fun v => { v with busy := some 12 } else s
  let s := if o.code = 0x07 then s.onSnap fun x => { x with exporting := true } else s
  if o.code = 0x06 then settleOuts s else s

theorem opBegin_eq (s : State) (o : LongOp) :
    opBegin s o = startEffects (setOp (startPrep s o) (startedOp (startPrep s o) o)) o := rfl

theorem startPrep_within (s : State) (o : LongOp) : Within 0x4400000100200 s (startPrep s o) := by
  unfold startPrep
  simp

theorem startEffects_within (s : State) (o : LongOp) : Within 0x3c400001800200 s (startEffects s o) := by
  unfold startEffects
  split <;> simp

/-- A started operation takes its place in the queue as a running one. -/
theorem opBegin_opq (s : State) (o : LongOp) : (opBegin s o).opq =
    s.opq.map fun x => if x.ticket = o.ticket then startedOp (startPrep s o) o else x := by
  have effects := startEffects_within (setOp (startPrep s o) (startedOp (startPrep s o) o)) o .opq rfl
  have prep : (startPrep s o).opq = s.opq := startPrep_within s o .opq rfl
  rw [opBegin_eq, show (startEffects _ o).opq = _ from effects, ← prep]
  rfl

/-- Where none runs, the operation that takes its place as a running one is the running one. -/
theorem find_running_map {q : List LongOp} {o o' : LongOp} (ho : o ∈ q) (hq : q.find? (fun x => x.st == .running) = none)
    (hr : o'.st = .running) :
    (q.map fun x => if x.ticket = o.ticket then o' else x).find? (fun x => x.st == .running) = some o' := by
  have runs : ∀ x ∈ q, ((if x.ticket = o.ticket then o' else x).st == .running) = decide (x.ticket = o.ticket) := fun x hx => by
    have idle := List.find?_eq_none.1 hq x hx
    split
    · simp [*]
    · simp [*]
  obtain ⟨x, hx⟩ := Option.isSome_iff_exists.1
    (List.find?_isSome.2 ⟨o, ho, by simp [hr]⟩ : (q.find? fun x => (if x.ticket = o.ticket then o' else x).st == .running).isSome = true)
  have same : x.ticket = o.ticket := by
    have h := runs x (List.mem_of_find?_eq_some hx)
    rw [List.find?_some hx] at h
    exact of_decide_eq_true h.symm
  rw [List.find?_map]
  show Option.map _ (q.find? fun x => (if x.ticket = o.ticket then o' else x).st == .running) = _
  rw [hx, Option.map_some, if_pos same]

/-- The operation whose turn it is waits in the queue. -/
theorem mem_of_nextOp {s : State} {vddOk : Bool} {o : LongOp} (h : nextOp s vddOk = some o) : o ∈ s.opq := List.mem_of_find?_eq_some h

/-! ## A need that is not met (R558, R733) -/

/-! No unmet need has the result DONE. -/

theorem loadNeeds_ne_done {s : State} {o : LongOp} {r c : Nat} (h : loadNeeds s o = some (r, c)) : r ≠ orDone := by
  unfold loadNeeds at h
  repeat' split at h
  all_goals cases h <;> decide

theorem opNeeds_ne_done {s : State} {o : LongOp} {r c : Nat} (h : opNeeds s o = some (r, c)) : r ≠ orDone := by
  unfold opNeeds at h
  dsimp only at h
  split at h
  case h_2 =>
    split at h
    · rename_i hl
      exact loadNeeds_ne_done (hl.trans h)
    · split at h
      all_goals cases h
      decide
  all_goals
    repeat' split at h
    all_goals cases h <;> decide
/-! ## OP_START (R72, R558) -/

/-- An operation whose needs are met runs, and the history stays. -/
theorem opBegin_runs {s : State} {o : LongOp} (ho : o ∈ s.opq) (hr : s.runningOp = none) :
    (opBegin s o).runningOp = some (startedOp (startPrep s o) o) ∧ (opBegin s o).oph = s.oph := by
  constructor
  · unfold State.runningOp
    rw [opBegin_opq]
    exact find_running_map ho hr rfl
  · have kept : Within 0x3c480c01900200 s (opBegin s o) := by simp
    exact kept .oph rfl

/-- Where none runs, none runs after an operation has ended without starting. -/
theorem finishOp_runningOp {s : State} (h : s.runningOp = none) (o : LongOp) (st : OpState) (result cause : Nat) :
    (finishOp s o st result cause).runningOp = none := by
  refine shutdownStep_runningOp ?_
  unfold State.runningOp at *
  rw [closeOp_opq]
  exact List.find?_eq_none.2 fun x hx => List.find?_eq_none.1 h x (List.mem_filter.1 hx).1

theorem opStart_idle {s : State} {vddOk : Bool} (h : nextOp s vddOk = none ∨ opCycles s = false) : opStart s vddOk = s := by
  unfold opStart
  split
  · rfl
  · rename_i hgo
    obtain h | h := h
    · rw [h]
    · simp [h] at hgo

theorem opStart_begins {s : State} {vddOk : Bool} {o : LongOp} (hw : s.writable = true) (hc : opCycles s = true) (hr : s.runningOp = none)
    (hn : nextOp s vddOk = some o) (hmet : o.data = [] → opNeeds s o = none) : opStart s vddOk = opBegin s o := by
  have met : (if o.data.isEmpty then opNeeds s o else none) = none := by
    split
    · exact hmet (List.isEmpty_iff.1 ‹_›)
    · rfl
  unfold opStart
  rw [if_neg (by simp [hw, hc, hr]), hn]
  dsimp only
  rw [met]

theorem opStart_unmet {s : State} {vddOk : Bool} {o : LongOp} {r c : Nat} (hw : s.writable = true) (hc : opCycles s = true)
    (hr : s.runningOp = none) (hn : nextOp s vddOk = some o) (hd : o.data = []) (hneed : opNeeds s o = some (r, c)) :
    opStart s vddOk = if o.code = 0x05 then raise (finishOp s o .done r c) (ev 6 14) else finishOp s o .done r c := by
  simp [opStart, hw, hc, hr, hn, hd, hneed]

theorem exec_opStart (vddOk : Bool) (s : State) : exec (.opStart vddOk) s = .next (opStart s vddOk) := rfl

/-! ## ABORT (R561, R569) -/

/-- The echo of an ABORT, with the ticket it names (R602). -/
def abortEcho (s : State) (m : Master) (result : Nat) : State :=
  echo (access s m) m 0x20 0xF0 [(s.host m).arg0.toNat, (s.host m).arg1.toNat] result

theorem echoed_abortEcho (s : State) (m : Master) (result : Nat) : Echoed (abortEcho s m result) m 0x20 0xF0 result :=
  ⟨_, echo_head .., rfl, rfl, rfl, rfl⟩

@[simp] theorem abortEcho_opq (s : State) (m : Master) (result : Nat) : (abortEcho s m result).opq = s.opq := by simp [abortEcho]

@[simp] theorem abortEcho_oph (s : State) (m : Master) (result : Nat) : (abortEcho s m result).oph = s.oph := by simp [abortEcho]

@[simp] theorem abortEcho_pwr (s : State) (m : Master) (result : Nat) : (abortEcho s m result).pwr = s.pwr := by simp [abortEcho]

theorem Echoed.congr {s t : State} {m : Master} {addr value result : Nat} (h : Echoed s m addr value result) (ht : t.echoes = s.echoes) :
    Echoed t m addr value result := by
  unfold Echoed at *
  rwa [ht]

/-- What ABORT does with an operation of the queue that it names: of another master, running, or waiting. -/
theorem exec_abort_found {s : State} {m : Master} {o : LongOp} (hw : s.writable = true)
    (hf : s.opq.find? (fun x => x.ticket == (s.host m).arg0.toNat % 256) = some o) :
    exec (.abort m) s = .next (if o.issuer ≠ some m then abortEcho s m ccNotOwner
      else if o.st = .running then setOp (abortEcho s m resAccepted) { o with aborting := true }
      else finishOp (abortEcho s m resAccepted) o .aborted 0 0) := by
  simp [exec, execAbort, abortOp, hw, hf, abortEcho]

/-- Whether an operation ended in this cycle is told by the bench time. -/
theorem doneNow_congr {s t : State} (h : t.time = s.time) (m : Master) (k : Nat) : doneNow t m k = doneNow s m k := by
  funext o
  simp only [doneNow, h]

/-- HOST.OPH where an operation that ended in this cycle is marked: its ABORT came too late. -/
def lateAborts (s : State) (m : Master) (t : Nat) : List LongOp :=
  s.oph.map fun o => { o with abortIgnored := o.abortIgnored || doneNow s m t o }

theorem lateAborts_eq (s : State) (m : Master) (t : Nat) :
    lateAborts s m t = s.oph.map fun o => if doneNow s m t o then { o with abortIgnored := true } else o := by
  refine List.map_congr_left fun o _ => ?_
  cases doneNow s m t o <;> simp

/-- An ABORT that names no operation of the queue but one that ended in this cycle. -/
theorem exec_abort_late {s : State} {m : Master} (hw : s.writable = true)
    (hf : s.opq.find? (fun x => x.ticket == (s.host m).arg0.toNat % 256) = none)
    (hd : s.oph.any (doneNow s m ((s.host m).arg0.toNat % 256)) = true) :
    exec (.abort m) s = .next (({ abortEcho s m resAccepted with oph := lateAborts s m ((s.host m).arg0.toNat % 256) } : State).onHost m
        fun x => if x.lastTicket = some ((s.host m).arg0.toNat % 256) then { x with lastIgnored := true } else x) := by
  have time : (abortEcho s m resAccepted).time = s.time := by simp [abortEcho]
  have marks : lateAborts s m ((s.host m).arg0.toNat % 256) = lateAborts (abortEcho s m resAccepted) m ((s.host m).arg0.toNat % 256) := by
    simp only [lateAborts, abortEcho_oph, doneNow_congr time]
  unfold exec execAbort abortOp
  simp only [access_writable, hw, access_fields, access_host, hf, doneNow_congr (access_fields s m).1, hd, if_true, marks]
  rfl

/-- An ABORT that names no operation. -/
theorem exec_abort_notFound {s : State} {m : Master} (hw : s.writable = true)
    (hf : s.opq.find? (fun x => x.ticket == (s.host m).arg0.toNat % 256) = none)
    (hd : s.oph.any (doneNow s m ((s.host m).arg0.toNat % 256)) = false) : exec (.abort m) s = .next (abortEcho s m resNotFound) := by
  unfold exec execAbort abortOp
  simp only [access_writable, hw, access_fields, access_host, hf, doneNow_congr (access_fields s m).1, hd]
  rfl

/-! ## The obligation -/

/-- Settles O46: OP_START by whether the needs are met, ABORT by what its ticket names. -/
theorem operationsStartAndAbort : Obligations.OperationsStartAndAbort := by
  unfold Obligations.OperationsStartAndAbort
  refine ⟨fun s vddOk o hw hc hr hn hmet => ?_, fun s vddOk o r c hw hc hr hn hd hneed => ?_, fun s vddOk h => ?_,
    fun s m o hw hshut hf hi hst => ?_, fun s m o hw hf hi hst => ?_, fun s m o hw hf hi => ?_, fun s m hw hf hno => ?_,
    fun s m hw hf hdone => ?_⟩
  · obtain ⟨runs, kept⟩ := opBegin_runs (mem_of_nextOp hn) hr
    refine ⟨_, by rw [exec_opStart, opStart_begins hw hc hr hn hmet], ?_, kept⟩
    rw [runs]
    rfl
  · have fails := eventSet_finishOp s o .done r c
    rw [if_neg fun h => opNeeds_ne_done hneed h.2] at fails
    refine ⟨_, by rw [exec_opStart, opStart_unmet hw hc hr hn hd hneed], ?_⟩
    have ended : ∃ e, (finishOp s o .done r c).oph.head? = some e ∧ e.ticket = o.ticket ∧ e.st = .done ∧ e.result = r ∧ e.cause = c :=
      ⟨_, finishOp_oph_head s o .done r c, rfl, rfl, rfl, rfl⟩
    have idle := finishOp_runningOp hr o .done r c
    split
    · refine ⟨EventSet.raiseAt fails .., (runningOp_congr (raise_opq _ _)).trans idle, ?_⟩
      simpa [raise] using ended
    · exact ⟨fails, idle, ended⟩
  · exact ⟨s, by rw [exec_opStart, opStart_idle h], rfl⟩
  · refine ⟨_, exec_abort_found hw hf, ?_⟩
    rw [if_neg (not_not.2 hi), if_neg hst]
    have fails := eventSet_finishOp (abortEcho s m resAccepted) o .aborted 0 0
    have echoes : Within 0x22c780c01806a00 (abortEcho s m resAccepted) (finishOp (abortEcho s m resAccepted) o .aborted 0 0) := by simp
    refine ⟨(echoed_abortEcho s m resAccepted).congr (echoes .echoes rfl), fails, fun x hx => ?_, ?_⟩
    · have left : (finishOp (abortEcho s m resAccepted) o .aborted 0 0).opq = s.opq.filter fun x => x.ticket != o.ticket := by
        have idle : (closeOp (abortEcho s m resAccepted) o .aborted 0 0).pwr.shut = .none := by
          have kept : Within 0x22c580c01800200 (abortEcho s m resAccepted) (closeOp (abortEcho s m resAccepted) o .aborted 0 0) := by simp
          have boot := kept .boot rfl
          simp only [Part.same, Prod.mk.injEq, abortEcho_pwr] at boot
          exact boot.2.2.2.trans hshut
        rw [finishOp, shutdownStep_none idle, closeOp_opq, abortEcho_opq]
      rw [left] at hx
      simpa using (List.mem_filter.1 hx).2
    · exact ⟨_, finishOp_oph_head _ o .aborted 0 0, rfl, rfl⟩
  · refine ⟨_, exec_abort_found hw hf, ?_⟩
    rw [if_neg (not_not.2 hi), if_pos hst]
    refine ⟨(echoed_abortEcho s m resAccepted).congr rfl, ?_, ?_⟩
    · refine List.mem_map.2 ⟨o, ?_, if_pos rfl⟩
      simpa using List.mem_of_find?_eq_some hf
    · exact abortEcho_oph s m resAccepted
  · refine ⟨_, exec_abort_found hw hf, ?_⟩
    rw [if_pos hi]
    exact ⟨echoed_abortEcho .., abortEcho_opq .., abortEcho_oph ..⟩
  · exact ⟨_, exec_abort_notFound hw hf hno, echoed_abortEcho .., abortEcho_opq .., abortEcho_oph ..⟩
  · refine ⟨_, exec_abort_late hw hf hdone, (echoed_abortEcho s m resAccepted).congr (by simp), ?_⟩
    rw [← lateAborts_eq]
    simp

end Sys2Proof.Machine
end

section
/-! PROOFS. OP_DONE (O47). -/

namespace Sys2Proof.Machine

/-! ## What an end leaves of the NVM and of the model -/

theorem recCut_of_idle {s : State} (h : s.nvm.busy = none) : recCut s = s := by
  unfold recCut State.onNvm
  rw [← h]

theorem finishOp_nvm_mem (s : State) (o : LongOp) (st : OpState) (result cause : Nat) : (finishOp s o st result cause).nvm.mem = s.nvm.mem := by
  have kept : Within 0x22c780c01806a00 s (finishOp s o st result cause) := by simp
  exact kept .nvm rfl

theorem finishOp_model (s : State) (o : LongOp) (st : OpState) (result cause : Nat) : (finishOp s o st result cause).model = s.model := by
  have kept : Within 0x22c780c01806a00 s (finishOp s o st result cause) := by simp
  exact kept .model rfl

/-- The NVM is not busy after the end of an operation that left it so. -/
theorem finishOp_nvm_busy {s : State} (h : s.nvm.busy = none) (o : LongOp) (st : OpState) (result cause : Nat) :
    (finishOp s o st result cause).nvm.busy = none := by
  have idle : (leftQueue s o (endedOp s o st result cause)).nvm.busy = none := h
  have kept : Within 0x20c780c01806a00 (leftQueue s o (endedOp s o st result cause)) (finishOp s o st result cause) := by
    unfold finishOp
    rw [closeOp_eq, endEffects, recCut_of_idle idle, ite_self]
    simp
  exact (kept .nvmBusy rfl).trans idle

/-! ## What an end leaves of the fault log (R594) -/

/-- The second log goes on from the first: records only join its buffer. -/
structure LogGoesOn (s t : State) : Prop where
  seq : t.log.nextSeq = s.log.nextSeq
  slot : t.log.slot = s.log.slot
  buf : ∀ r ∈ s.log.buf, r ∈ t.log.buf

theorem LogGoesOn.of_eq {s t : State} (h : t.log = s.log) : LogGoesOn s t :=
  ⟨congrArg _ h, congrArg _ h, fun _ hr => h ▸ hr⟩

theorem LogGoesOn.trans {s t u : State} (h : LogGoesOn s t) (k : LogGoesOn t u) : LogGoesOn s u :=
  ⟨k.seq.trans h.seq, k.slot.trans h.slot, fun r hr => k.buf r (h.buf r hr)⟩

theorem LogGoesOn.onLog (s : State) (f : FaultLog → FaultLog)
    (hf : ∀ l, (f l).nextSeq = l.nextSeq ∧ (f l).slot = l.slot ∧ (f l).buf = l.buf) : LogGoesOn s (s.onLog f) := by
  obtain ⟨hseq, hslot, hbuf⟩ := hf s.log
  exact ⟨hseq, hslot, fun r hr => hbuf.symm ▸ hr⟩

theorem LogGoesOn.logPush (s : State) (r : LogRec) : LogGoesOn s (logPush s r) := by
  unfold Machine.logPush
  split
  · exact ⟨rfl, rfl, fun r hr => List.mem_append_left _ hr⟩
  · dsimp only
    split <;> exact ⟨rfl, rfl, fun _ hr => hr⟩

theorem LogGoesOn.logRaise (s : State) (e origin unit cause : Nat) : LogGoesOn s (logRaise s e origin unit cause) := by
  unfold Machine.logRaise
  split
  · dsimp only
    split
    · exact ⟨rfl, rfl, fun _ hr => hr⟩
    · exact .trans (LogGoesOn.logPush s _) (LogGoesOn.onLog _ _ fun _ => ⟨rfl, rfl, rfl⟩)
  · exact .of_eq rfl

theorem LogGoesOn.raiseAt (s : State) (e unit cause : Nat) : LogGoesOn s (raiseAt s e unit cause) := by
  unfold Machine.raiseAt
  split
  · refine .trans ?_ (LogGoesOn.logRaise ..)
    exact .of_eq rfl
  split
  · refine .trans ?_ (LogGoesOn.logRaise ..)
    exact .of_eq rfl
  split
  · refine .trans ?_ (LogGoesOn.logRaise ..)
    exact .of_eq rfl
  · exact .of_eq rfl

theorem LogGoesOn.shutdownPower (s : State) : LogGoesOn s (shutdownPower s) := by
  have kept : Within 0x2800 s (Machine.shutdownPower s) := by simp
  exact .of_eq (kept .log rfl)

theorem LogGoesOn.shutdownStep (s : State) : LogGoesOn s (shutdownStep s) := by
  unfold Machine.shutdownStep
  split
  · split
    · obtain ⟨o, -, eq | eq⟩ := enqueueOp_device (s.onPwr fun p => { p with shut := .saving }) 0x03 0 0 0
      · exact .of_eq (congrArg (·.log) eq)
      · rw [eq]
        refine .trans ?_ (LogGoesOn.raiseAt ..)
        exact .of_eq rfl
    · exact .of_eq rfl
  · split
    · exact .of_eq rfl
    · refine .trans ?_ (LogGoesOn.shutdownPower _)
      refine .trans ?_ (LogGoesOn.logPush ..)
      exact .of_eq rfl
  · exact .shutdownPower s
  · exact .of_eq rfl

/-- The log goes on at the end of an operation; a self-test apart, which settles the outputs. -/
theorem LogGoesOn.finishOp (s : State) {o : LongOp} (ho : o.code ≠ 0x06) (st : OpState) (result cause : Nat) :
    LogGoesOn s (finishOp s o st result cause) := by
  refine .trans ?_ (LogGoesOn.shutdownStep _)
  rw [closeOp_eq]
  refine .trans ?_ (LogGoesOn.raiseAt ..)
  exact .of_eq (leftQueue_endEffects_within s ho _ .log rfl)

/-! ## The running operation ends (R560) -/

section
variable {s : State} {rep : OpReport} {o : LongOp}

theorem finishOp_endedAs (s : State) (o : LongOp) (result cause : Nat) : EndedAs (finishOp s o .done result cause) o result :=
  ⟨_, finishOp_oph_head s o .done result cause, rfl, rfl, rfl⟩

theorem eventSet_finishOp_done (s : State) (o : LongOp) (cause : Nat) : EventSet (finishOp s o .done orDone cause) evOpDone :=
  eventSet_finishOp s o .done orDone cause

theorem opDone_idle (h : s.opq.find? (fun o => o.st == .running || o.aborting) = none ∨ opCycles s = false) : opDone s rep = s := by
  unfold opDone
  split
  · rfl
  · rename_i hgo
    obtain h | h := h
    · rw [h]
    · simp [h] at hgo

theorem opDone_aborts (hc : opCycles s = true) (hf : s.opq.find? (fun o => o.st == .running || o.aborting) = some o) (ha : o.aborting = true)
    (hb : opBurns o.code = false) : opDone s rep = finishOp (opAborted s o) o .aborted 0 0 := by
  simp [opDone, hc, hf, ha, hb]

/-- The codes of the operations that write a record, with the records they write. -/
theorem opRecord_cases {r : Nat} (h : opRecord o = some r) :
    o.code = 0x01 ∧ r < 4 ∨ o.code = 0x03 ∧ r = 4 ∨ o.code = 0x04 ∧ r = 4 ∨ o.code = 0x05 ∧ r = 5 := by
  unfold opRecord at h
  split at h <;> simp only [Option.some.injEq, reduceCtorEq] at h <;> omega

theorem opRecord_code {r : Nat} (h : opRecord o = some r) : o.code ≠ 0x06 := by
  have := opRecord_cases h
  omega

theorem exec_opDone (rep : OpReport) (s : State) : exec (.opDone rep) s = .next (opDone s rep) := rfl

/-- How the running operation ends by its code, where no ABORT has asked it to stop. -/
def endsByCode (s : State) (rep : OpReport) (o : LongOp) : State :=
  match o.code with
  | 0x02 => loadDone s o
  | 0x06 => finishOp s o .done (if rep.testOk then orDone else wrapI 8 (Config.unstated 87 o.arg0.toNat 0)) 0
  | 0x07 => finishOp (exportDone s) o .done orDone 0
  | 0x08 => finishOp (if rep.verifyOk then logClear s else raise (logClear s) evNvmFail) o .done (if rep.verifyOk then orDone else orNvmFail) 0
  | 0x10 => match o.issuer with | some m => challengeDone s o m rep.rngOk | none => s
  | 0x11 => match o.issuer with | some m => responseDone s o m | none => s
  | _ => match opRecord o with
    | some r => recordEnds s o r rep.verifyOk
    | none => otpDone s o rep.verifyOk

theorem opDone_unasked (hc : opCycles s = true) (hf : s.opq.find? (fun o => o.st == .running || o.aborting) = some o) (ha : o.aborting = false) :
    opDone s rep = endsByCode s rep o := by
  have unasked : { o with abortIgnored := o.abortIgnored || o.aborting } = o := by rw [ha, Bool.or_false, ← ha]
  unfold opDone
  rw [if_neg (by simp [hc]), hf]
  dsimp only
  rw [if_neg (by simp [ha]), unasked]
  rfl

theorem endsByCode_record {r : Nat} (hr : opRecord o = some r) : endsByCode s rep o = recordEnds s o r rep.verifyOk := by
  obtain ⟨h, -⟩ | ⟨h, -⟩ | ⟨h, -⟩ | ⟨h, -⟩ := opRecord_cases hr <;> simp [endsByCode, h, hr]

theorem endsByCode_logClear (hcode : o.code = 0x08) (hok : rep.verifyOk = true) : endsByCode s rep o = finishOp (logClear s) o .done orDone 0 := by
  simp [endsByCode, hcode, hok]

theorem endsByCode_selfTest (hcode : o.code = 0x06) (hok : rep.testOk = true) : endsByCode s rep o = finishOp s o .done orDone 0 := by
  simp [endsByCode, hcode, hok]

theorem endsByCode_export (hcode : o.code = 0x07) : endsByCode s rep o = finishOp (exportDone s) o .done orDone 0 := by
  simp [endsByCode, hcode]

end

/-! ## The end of a record write (R286, R453, R591) -/

/-- The NVM after a record write. -/
def recordWritten (s : State) (o : LongOp) (r : Nat) (ok : Bool) : State := if ok then recEnd s r o.data else raise (recCut s) evNvmFail

/-- The model's own record of its save, and the confirmation of safety parameters. -/
def recordNoted (s : State) (o : LongOp) (r : Nat) (ok : Bool) : State :=
  if r = 4 then
    if ok then
      raise (s.onModel fun m => { m with
        saveSec := dataAt o.data 4 3, saveAge := dataAt o.data 2 2, saveFrom := dataAt o.data 2 2, learnedSince := false, retryAt := none,
        autoFail := none }) evModelSaved
    else
      let s := if o.issuer.isNone && o.echoSeq == 2 then
          s.onModel fun m => { m with retryAt := some (m.xoAge + 3600), autoFail := some m.xoAge } else s
      raise s evModelSaveFail
  else if r = 5 then
    if ok then raise (evaluateGroups (latchAll (s.onSafe fun f => { f with confirmed := some (imageOf o.data) }) caParChange)) (ev 6 13)
    else raise s (ev 6 14)
  else s

theorem recordEnds_eq (s : State) (o : LongOp) (r : Nat) (ok : Bool) : recordEnds s o r ok =
    finishOp (recordNoted (recordWritten s o r ok) o r ok) o .done (if ok then orDone else orNvmFail) 0 := rfl

/-- The notes of a record write do not touch the NVM. -/
theorem recordNoted_within (s : State) (o : LongOp) (r : Nat) (ok : Bool) : Within 0x44003e0100200 s (recordNoted s o r ok) := by
  unfold recordNoted
  cases ok <;> simp

theorem recordNoted_busy (s : State) (o : LongOp) (r : Nat) (ok : Bool) : (recordNoted s o r ok).nvm.busy = s.nvm.busy :=
  recordNoted_within s o r ok .nvmBusy rfl

theorem recordNoted_mem (s : State) (o : LongOp) (r : Nat) (ok : Bool) : (recordNoted s o r ok).nvm.mem = s.nvm.mem :=
  recordNoted_within s o r ok .nvm rfl

theorem recordWritten_busy (s : State) (o : LongOp) (r : Nat) (ok : Bool) : (recordWritten s o r ok).nvm.busy = none := by
  unfold recordWritten
  cases ok
  · simp [raise, recCut]
  · rfl

theorem recordEnds_busy (s : State) (o : LongOp) (r : Nat) (ok : Bool) : (recordEnds s o r ok).nvm.busy = none := by
  rw [recordEnds_eq]
  refine finishOp_nvm_busy ?_ ..
  rw [recordNoted_busy]
  exact recordWritten_busy s o r ok

/-- A record write ends DONE with its result, reported as every end is. -/
theorem recordEnds_reports (s : State) (o : LongOp) (r : Nat) (ok : Bool) : EndedAs (recordEnds s o r ok) o (if ok then orDone else orNvmFail) ∧
    EventSet (recordEnds s o r ok) (if ok then evOpDone else evOpFail) := by
  rw [recordEnds_eq]
  refine ⟨finishOp_endedAs .., ?_⟩
  cases ok
  · exact eventSet_finishOp _ o .done orNvmFail 0
  · exact eventSet_finishOp_done ..

/-- A save of the model leaves it nothing to save. -/
theorem recordEnds_model_saved (s : State) {o : LongOp} (ho : o.code ≠ 0x06) :
    (recordEnds s o 4 true).model.learnedSince = false ∧ (recordEnds s o 4 true).model.retryAt = none ∧
    EventSet (recordEnds s o 4 true) evModelSaved := by
  rw [recordEnds_eq, finishOp_model]
  refine ⟨?_, ?_, ?_⟩
  · simp [recordNoted, raise]
  · simp [recordNoted, raise]
  · exact EventSet.finishOp (eventSet_raiseAt _ 0 0 (by decide)) ho ..

/-- The evaluation of the groups that a confirmation causes, and its end, leave the confirmed image. -/
theorem confirmed_after_evaluation (s : State) (o : LongOp) (result : Nat) :
    (finishOp (raise (evaluateGroups (latchAll s caParChange)) (ev 6 13)) o .done result 0).safe.confirmed = s.safe.confirmed := by
  have kept : Within 0x22c780fc1806a00 s (finishOp (raise (evaluateGroups (latchAll s caParChange)) (ev 6 13)) o .done result 0) := by simp
  have params := kept .params rfl
  simp only [Part.same, Prod.mk.injEq] at params
  obtain ⟨-, -, confirmed, -⟩ := params
  exact confirmed

/-- A confirmation confirms the copy it began with. -/
theorem recordEnds_confirmed (s : State) (o : LongOp) : (recordEnds s o 5 true).safe.confirmed = some (imageOf o.data) := by
  rw [recordEnds_eq, recordNoted, if_neg (by decide), if_pos rfl, if_pos rfl]
  generalize recordWritten s o 5 true = u
  rw [confirmed_after_evaluation]

/-- A record that does not verify raises EV_HOST_NVM_FAIL and changes no octet. -/
theorem recordEnds_failed (s : State) {o : LongOp} (ho : o.code ≠ 0x06) (r : Nat) :
    EventSet (recordEnds s o r false) evNvmFail ∧ (recordEnds s o r false).nvm.mem = s.nvm.mem := by
  have written : EventSet (recordWritten s o r false) evNvmFail := eventSet_raiseAt _ 0 0 (by decide)
  have noted : EventSet (recordNoted (recordWritten s o r false) o r false) evNvmFail := by
    unfold recordNoted
    split
    · exact EventSet.raiseAt (by split <;> exact written.congr rfl rfl) ..
    split
    · exact EventSet.raiseAt written ..
    · exact written
  rw [recordEnds_eq]
  refine ⟨EventSet.finishOp noted ho .., ?_⟩
  rw [finishOp_nvm_mem, recordNoted_mem]
  simp [recordWritten, raise, recCut]

/-! ## The obligation -/

/-- Settles O47: by what the running operation is, whether it verifies and whether an ABORT has asked it to stop. -/
theorem operationsEnd : Obligations.OperationsEnd := by
  unfold Obligations.OperationsEnd
  refine ⟨fun s rep o r hc hf ha hr hok => ?_, fun s rep o r hc hf ha hr hok => ?_, fun s rep o hc hf ha hcode hok => ?_,
    fun s rep o hc hf ha h => ?_, fun s rep o hc hf ha hb => ?_, fun s rep h => ?_⟩
  · have hcode : o.code ≠ 0x06 := opRecord_code hr
    obtain ⟨ended, reported⟩ := recordEnds_reports s o r true
    refine ⟨recordEnds s o r true, by rw [exec_opDone, opDone_unasked hc hf ha, endsByCode_record hr, hok], ended, reported, recordEnds_busy ..,
      fun h => ?_, fun h => ?_⟩
    · subst h
      exact recordEnds_model_saved s hcode
    · subst h
      exact recordEnds_confirmed s o
  · obtain ⟨ended, reported⟩ := recordEnds_reports s o r false
    obtain ⟨fails, mem⟩ := recordEnds_failed s (opRecord_code hr) r
    exact ⟨recordEnds s o r false, by rw [exec_opDone, opDone_unasked hc hf ha, endsByCode_record hr, hok], ended, reported, fails,
      recordEnds_busy .., mem⟩
  · have log := LogGoesOn.finishOp (logClear s) (o := o) (by omega) .done orDone 0
    exact ⟨finishOp (logClear s) o .done orDone 0, by rw [exec_opDone, opDone_unasked hc hf ha, endsByCode_logClear hcode hok], finishOp_endedAs ..,
      log.seq, log.slot, fun r hr => log.buf r hr⟩
  · obtain ⟨hcode, hok⟩ | hcode := h
    · exact ⟨finishOp s o .done orDone 0, by rw [exec_opDone, opDone_unasked hc hf ha, endsByCode_selfTest hcode hok], finishOp_endedAs ..,
        eventSet_finishOp_done ..⟩
    · exact ⟨finishOp (exportDone s) o .done orDone 0, by rw [exec_opDone, opDone_unasked hc hf ha, endsByCode_export hcode], finishOp_endedAs ..,
        eventSet_finishOp_done ..⟩
  · exact ⟨finishOp (opAborted s o) o .aborted 0 0, by rw [exec_opDone, opDone_aborts hc hf ha hb], eventSet_finishOp _ o .aborted 0 0, _,
      finishOp_oph_head _ o .aborted 0 0, rfl, rfl⟩
  · exact ⟨s, by rw [exec_opDone, opDone_idle h], rfl⟩

end Sys2Proof.Machine
end

section
/-! PROOFS. The write-one-to-clear words, and the thirteen operations joining the queue (O7, O45). -/

namespace Sys2Proof.Machine

/-! ## Bits written with 1 (R580) -/

theorem bitOf_without (k l i : Nat) : bitOf (without k l) i = (bitOf k i && !bitOf l i) := without_testBit k l i

theorem bitOf_word (v : Word) (i : Nat) : bitOf v.toNat i = v.getLsbD i := rfl

theorem pwrPendClear_pwr (s : State) (v : Nat) :
    (pwrPendClear s v).pwr.pwrPend = if s.writable then without s.pwr.pwrPend v else s.pwr.pwrPend := by
  unfold pwrPendClear
  split <;> rfl

theorem resetCauseClear_pwr (s : State) (v : Nat) :
    (resetCauseClear s v).pwr.resetCause = if s.writable then without s.pwr.resetCause v else s.pwr.resetCause := by
  unfold resetCauseClear
  split <;> rfl

/-- A word after a write that clears the bits written with 1, if the write acts. -/
theorem bitOf_cleared (acts : Bool) (x : Nat) (v : Word) (i : Nat) :
    bitOf (if acts then without x v.toNat else x) i = (bitOf x i && !(acts && v.getLsbD i)) := by
  cases acts
  · simp
  · exact bitOf_without x v.toNat i

/-- Settles O7: both rows take the bits written with 1 out of their word where the host's writes act. -/
theorem writeOneToClearWords : Obligations.WriteOneToClearWords := by
  unfold Obligations.WriteOneToClearWords
  refine ⟨fun s m v => ⟨_, rfl, fun i _ => ?_⟩, fun s m v => ⟨_, rfl, fun i _ => ?_⟩⟩
  · simp [pwrPendClear_pwr, bitOf_cleared]
  · simp [resetCauseClear_pwr, bitOf_cleared]

/-! ## An operation joins the queue (R137, R557, R559) -/

/-- The entry of the queue for an operation that is issued now. -/
def issuedOp (s : State) (issuer : Option Master) (code : Nat) (arg0 arg1 : Word) (seq : Nat) : LongOp :=
  { ticket := s.ticket, issuer := issuer, code := code, arg0 := arg0, arg1 := arg1,
    st := if s.pwr.supplyLow && opWrites code then .held else .queued, result := 0, cause := 0, tick := 0, abortIgnored := false,
    aborting := false, doneAt := 0, data := [], echoSeq := seq }

theorem enqueueOp_adds (s : State) (issuer : Option Master) (code : Nat) (arg0 arg1 : Word) (seq : Nat) :
    (enqueueOp s issuer code arg0 arg1 seq).opq = s.opq ++ [issuedOp s issuer code arg0 arg1 seq] ∧
    (enqueueOp s issuer code arg0 arg1 seq).ticket = (s.ticket + 1) % 256 := by
  unfold enqueueOp
  extract_lets held o joined shownTo
  have kept : shownTo.opq = joined.opq ∧ shownTo.ticket = joined.ticket := by
    cases issuer
    · exact ⟨rfl, rfl⟩
    · exact ⟨State.onHost_opq .., State.onHost_ticket ..⟩
  obtain ⟨opq, ticket⟩ := kept
  have same : joined.opq = s.opq ++ [issuedOp s issuer code arg0 arg1 seq] := rfl
  split
  · exact ⟨(raise_opq ..).trans (opq.trans same), by simpa [raise] using ticket⟩
  · exact ⟨opq.trans same, ticket⟩

theorem enqueueOp_echoes (s : State) (issuer : Option Master) (code : Nat) (arg0 arg1 : Word) (seq : Nat) :
    (enqueueOp s issuer code arg0 arg1 seq).echoes = s.echoes := by
  have kept : Within 0x4680c00004200 s (enqueueOp s issuer code arg0 arg1 seq) := by simp
  exact kept .echoes rfl

theorem issueOp_room {s : State} {m : Master} {code : Nat} (hw : s.writable = true) (hq : s.opq.length < 4) :
    issueOp s m code = enqueueOp (echo s m 0x20 code [(s.host m).arg0.toNat, (s.host m).arg1.toNat] resAccepted) (some m) code
      (s.host m).arg0 (s.host m).arg1 s.echoSeq := by
  simp [issueOp, hw, hq]

theorem issueOp_full {s : State} {m : Master} {code : Nat} (hw : s.writable = true) (hq : 4 ≤ s.opq.length) :
    issueOp s m code = raise (echo s m 0x20 code [(s.host m).arg0.toNat, (s.host m).arg1.toNat] resQueueFull) evQueueFull := by
  simp [issueOp, hw, Nat.not_lt.mpr hq]

theorem echoed_echo (s : State) (m : Master) (addr value : Nat) (args : List Nat) (result : Nat) :
    Echoed (echo s m addr value args result) m addr value result :=
  ⟨_, echo_head .., rfl, rfl, rfl, rfl⟩

theorem Echoed.raise {s : State} {m : Master} {addr value result : Nat} (h : Echoed s m addr value result) (e : Nat) :
    Echoed (raise s e) m addr value result :=
  h.congr (by simp [Machine.raise])

/-- Each row of the table is a write of OP_CMD with its code (R558, R730). -/
theorem exec_longRow {m : Master} {p : Instr × Nat} (hp : p ∈ longRows m) (s : State) :
    exec p.1 s = .next (issueOp (access s m) m p.2) := by
  simp only [longRows, List.mem_cons, List.not_mem_nil, or_false] at hp
  obtain rfl | rfl | rfl | rfl | rfl | rfl | rfl | rfl | rfl | rfl | rfl | rfl | rfl := hp <;> rfl

/-- Settles O45: a row is OP_CMD with its code, which finds room in the queue or finds it full. -/
theorem longOperationsJoinTheQueue : Obligations.LongOperationsJoinTheQueue := by
  unfold Obligations.LongOperationsJoinTheQueue
  refine ⟨fun s m p hp hw hq => ⟨_, exec_longRow hp s, ?_⟩, fun s m p hp hw hq => ⟨_, exec_longRow hp s, ?_⟩⟩
  all_goals have hw' : (access s m).writable = true := by simpa using hw
  · rw [issueOp_room hw' (by simpa using hq), access_host]
    obtain ⟨opq, ticket⟩ := enqueueOp_adds (echo (access s m) m 0x20 p.2 [(s.host m).arg0.toNat, (s.host m).arg1.toNat] resAccepted) (some m) p.2
      (s.host m).arg0 (s.host m).arg1 (access s m).echoSeq
    exact ⟨_, by simpa using opq, rfl, by simp [issuedOp], rfl, rfl, rfl, by simp [issuedOp], by simpa using ticket,
      (echoed_echo ..).congr (enqueueOp_echoes ..)⟩
  · rw [issueOp_full hw' (by simpa using hq)]
    exact ⟨by simp [raise], by simp [raise], (echoed_echo ..).raise evQueueFull, eventSet_raiseAt _ _ _ (by decide)⟩

end Sys2Proof.Machine
end

section
/-! PROOFS. What a change of DEV_MODE, the end of BOOT, a fault and a ramp leave of the power unit (for O2, O3, O6, O9). -/

namespace Sys2Proof.Machine

/-! ## Fields of the power unit and the mode that an operation leaves -/

theorem Within.boot_eq {ps : Nat} {s t : State} (h : Within ps s t) (hp : ps.testBit Part.boot.bit = false) :
    t.pwr.booting = s.pwr.booting ∧ t.pwr.bootWait = s.pwr.bootWait ∧ t.pwr.bootDone = s.pwr.bootDone ∧ t.pwr.shut = s.pwr.shut := by
  have e := h .boot hp
  simpa only [Part.same, Prod.mk.injEq] using e

theorem Within.mode_eq {ps : Nat} {s t : State} (h : Within ps s t) (hp : ps.testBit Part.mode.bit = false) :
    t.mode.mode = s.mode.mode ∧ t.mode.opmode = s.mode.opmode ∧ t.mode.pendingOp = s.mode.pendingOp := by
  have e := h .mode hp
  simp only [Part.same, ModeUnit.mk.injEq] at e
  obtain ⟨mode, -, opmode, pending, -⟩ := e
  exact ⟨mode, opmode, pending⟩

theorem Within.domains_eq {ps : Nat} {s t : State} (h : Within ps s t) (hp : ps.testBit Part.domains.bit = false) :
    (∀ d, domainState t.pwr d = domainState s.pwr d) ∧ t.pwr.upQueue = s.pwr.upQueue ∧ t.pwr.downQueue = s.pwr.downQueue := by
  have e := h .domains hp
  simp only [Part.same, Prod.mk.injEq] at e
  obtain ⟨-, core, syn, outl, outh, up, down, -⟩ := e
  exact ⟨fun d => by cases d <;> assumption, up, down⟩

/-- What BOOT, the ramps and the faults of domains never change of the power unit's own latches (R118, R126, R128, R438). -/
def PowerUnit.latches (p : PowerUnit) : Bool × Nat × Nat × Bool := (p.xoValid, p.strapEcho, p.rstHeldMs, p.pendOwed)

theorem Within.latches_eq {ps : Nat} {s t : State} (h : Within ps s t) (hp : ps.testBit Part.pwr.bit = false) :
    t.pwr.latches = s.pwr.latches := by
  have e := h .pwr hp
  simp only [Part.same, PowerUnit.mk.injEq] at e
  unfold PowerUnit.latches
  simp only [e]

@[simp] theorem raiseAt_latches (s : State) (e unit cause : Nat) : (raiseAt s e unit cause).pwr.latches = s.pwr.latches :=
  Within.latches_eq (ps := 0x4400000000200) (by simp) rfl

@[simp] theorem raiseIf_latches (b : Bool) (s : State) (e unit cause : Nat) : (raiseIf b s e unit cause).pwr.latches = s.pwr.latches := by
  cases b <;> simp

@[simp] theorem refreshMode_latches (s : State) (cause : Nat) : (refreshMode s cause).pwr.latches = s.pwr.latches :=
  Within.latches_eq (ps := 0x4400000018200) (by simp) rfl

@[simp] theorem settleOuts_latches (s : State) : (settleOuts s).pwr.latches = s.pwr.latches :=
  Within.latches_eq (ps := 0x4400001800200) (by simp) rfl

@[simp] theorem out0Bypass_latches (s : State) (on : Bool) : (out0Bypass s on).pwr.latches = s.pwr.latches := by
  cases on <;> rfl

@[simp] theorem bypassEnds_latches (s : State) : (bypassEnds s).pwr.latches = s.pwr.latches :=
  Within.latches_eq (ps := 0x800000) (by simp) rfl

@[simp] theorem setDomain_latches (p : PowerUnit) (d : Domain) (x : DomState) : (setDomain p d x).latches = p.latches := by
  cases d <;> rfl

/-! ## A change of DEV_MODE (R157, R158) -/

/-- DEV_MODE is what the state resolves to. -/
theorem refreshMode_mode (s : State) (cause : Nat) : (refreshMode s cause).mode.mode = resolveMode s false := by
  unfold refreshMode
  dsimp only
  split
  · exact Eq.symm ‹_›
  · simp

@[simp] theorem refreshMode_opmode (s : State) (cause : Nat) : (refreshMode s cause).mode.opmode = s.mode.opmode := by
  unfold refreshMode
  dsimp only
  split <;> simp

theorem resolveMode_boot {s : State} (hr : s.inReset = false) (hb : s.pwr.booting = true) : resolveMode s false = .boot := by
  simp [resolveMode, hr, hb]

theorem resolveMode_shutdown {s : State} (hs : s.served = true) (he : s.pwr.shut = .ended) : resolveMode s false = .shutdown := by
  simp only [State.served, Bool.and_eq_true, Bool.not_eq_true'] at hs
  simp [resolveMode, hs, he]

theorem resolveMode_supplyLow {s : State} (hr : s.inReset = false) (hb : s.pwr.booting = false) (he : s.pwr.shut ≠ .ended)
    (hl : s.pwr.supplyLow = true) : resolveMode s false = .supplyLow := by
  simp [resolveMode, hr, hb, he, hl]

/-! ## The end of BOOT (R130, R133) -/

/-- BOOT is over, in RUN with CORE ON and AUTOSTART and in SETUP otherwise, and the latches of the power unit are as they were. -/
theorem bootFinish_spec (s : State) : (bootFinish s).pwr.booting = false ∧ (bootFinish s).pwr.bootWait = false ∧
    (bootFinish s).pwr.bootDone = true ∧ (bootFinish s).mode.opmode = (if s.coreOn && s.pwr.autostart then .run else .setup) ∧
    (bootFinish s).pwr.latches = s.pwr.latches := by
  unfold bootFinish
  extract_lets run ended moved done long discarded bypass loops
  have kept : Within 0x4400001b5c200 moved (settleOuts (refreshMode loops mcBootEnd)) := by
    simp [loops, bypass, discarded, long, done]
  have settled : Within 0x4400001800200 (refreshMode loops mcBootEnd) (settleOuts (refreshMode loops mcBootEnd)) := by simp
  have later : Within 0x4400001b44200 moved loops := by simp [loops, bypass, discarded, long, done]
  obtain ⟨booting, wait, ended', -⟩ := kept.boot_eq rfl
  obtain ⟨-, opmode, -⟩ := settled.mode_eq rfl
  obtain ⟨-, opmode', -⟩ := later.mode_eq rfl
  have afterDone : discarded.pwr.latches = long.pwr.latches := Within.latches_eq (ps := 0x4400000100200) (by simp [discarded]) rfl
  have afterBypass : loops.pwr.latches = bypass.pwr.latches := Within.latches_eq (ps := 0x4400001a40200) (by simp [loops]) rfl
  refine ⟨booting, wait, ended', ?_, ?_⟩
  · rw [opmode, refreshMode_opmode, opmode']
  · rw [settleOuts_latches, refreshMode_latches, afterBypass]
    have : bypass.pwr.latches = discarded.pwr.latches := by
      simp only [bypass]
      split <;> simp
    rw [this, afterDone, raiseIf_latches]
    exact raiseAt_latches ..

/-! ## Domains (R114, R116, R117) -/

theorem domainState_setDomain (p : PowerUnit) (d e : Domain) (x : DomState) :
    domainState (setDomain p d x) e = if e = d then x else domainState p e := by
  cases d <;> cases e <;> rfl

theorem setDomain_boot (p : PowerUnit) (d : Domain) (x : DomState) : (setDomain p d x).booting = p.booting ∧
    (setDomain p d x).bootWait = p.bootWait ∧ (setDomain p d x).bootDone = p.bootDone ∧ (setDomain p d x).upQueue = p.upQueue ∧
    (setDomain p d x).downQueue = p.downQueue := by
  cases d <;> exact ⟨rfl, rfl, rfl, rfl, rfl⟩

theorem bootFinish_domains (s : State) : (∀ d, domainState (bootFinish s).pwr d = domainState s.pwr d) ∧
    (bootFinish s).pwr.upQueue = s.pwr.upQueue ∧ (bootFinish s).pwr.downQueue = s.pwr.downQueue :=
  Within.domains_eq (ps := 0x4400001b5e200) (by simp) rfl

/-- A domain that shows FAULT: it alone, with the queues and the latches as they were; and BOOT waits no longer than before. -/
theorem markFault_spec (s : State) (d : Domain) : (∀ e, domainState (markFault s d).pwr e = if e = d then .fault else domainState s.pwr e) ∧
    (markFault s d).pwr.upQueue = s.pwr.upQueue ∧ (markFault s d).pwr.downQueue = s.pwr.downQueue ∧
    (markFault s d).pwr.latches = s.pwr.latches ∧ (s.pwr.bootWait = false → (markFault s d).pwr.bootWait = false) := by
  unfold markFault
  extract_lets shown
  obtain ⟨booting, wait, done, up, down⟩ := setDomain_boot s.pwr d .fault
  have raised : Within 0x4400000000200 (s.onPwr fun p => setDomain p d .fault) shown := by simp [shown]
  obtain ⟨doms, up', down'⟩ := raised.domains_eq rfl
  obtain ⟨booting', wait', done', -⟩ := raised.boot_eq rfl
  have doms' (e : Domain) : domainState shown.pwr e = if e = d then .fault else domainState s.pwr e :=
    (doms e).trans (domainState_setDomain ..)
  have latches : shown.pwr.latches = s.pwr.latches := (raised.latches_eq rfl).trans (setDomain_latches ..)
  split
  · exact ⟨doms', up'.trans up, down'.trans down, latches, fun h => wait'.trans (wait.trans h)⟩
  split
  · obtain ⟨domsB, upB, downB⟩ := bootFinish_domains shown
    obtain ⟨-, waitB, -, -, latchesB⟩ := bootFinish_spec shown
    exact ⟨fun e => (domsB e).trans (doms' e), upB.trans (up'.trans up), downB.trans (down'.trans down), latchesB.trans latches, fun _ => waitB⟩
  · have moved : Within 0x4400000018200 shown (refreshMode (shown.onMode fun m => { m with
        opmode := .setup, standby := false, pendingOp := none }) mcCoreFault) := by simp
    obtain ⟨domsM, upM, downM⟩ := moved.domains_eq rfl
    obtain ⟨-, waitM, -, -⟩ := moved.boot_eq rfl
    exact ⟨fun e => (domsM e).trans (doms' e), upM.trans (up'.trans up), downM.trans (down'.trans down), (moved.latches_eq rfl).trans latches,
      fun h => waitM.trans (wait'.trans (wait.trans h))⟩

/-- What a ramp of waiting domains leaves: the domains that do not wait, the latches, what is to power down, and a BOOT that does not wait. -/
structure RampKeeps (s t : State) : Prop where
  domain : ∀ d, (∀ q ∈ s.pwr.upQueue, q.1 ≠ d) → domainState t.pwr d = domainState s.pwr d
  queue : ∀ q ∈ t.pwr.upQueue, q ∈ s.pwr.upQueue
  down : t.pwr.downQueue = s.pwr.downQueue
  latches : t.pwr.latches = s.pwr.latches
  wait : s.pwr.bootWait = false → t.pwr.bootWait = false

theorem RampKeeps.refl (s : State) : RampKeeps s s := ⟨fun _ _ => rfl, fun _ => id, rfl, rfl, id⟩

theorem RampKeeps.trans {s t u : State} (h : RampKeeps s t) (k : RampKeeps t u) : RampKeeps s u :=
  ⟨fun d hd => (k.domain d fun q hq => hd q (h.queue q hq)).trans (h.domain d hd), fun q hq => h.queue q (k.queue q hq),
    k.down.trans h.down, k.latches.trans h.latches, fun hw => k.wait (h.wait hw)⟩

theorem rampFirst_keeps (s : State) : RampKeeps s (rampFirst s) := by
  unfold rampFirst
  split
  · exact .refl s
  · rename_i d w rest hq
    extract_lets busy taken
    have others (e : Domain) (he : ∀ q ∈ s.pwr.upQueue, q.1 ≠ e) : e ≠ d := fun h => he (d, w) (by simp [hq]) h.symm
    have sub (q : Domain × Nat) (h : q ∈ rest) : q ∈ s.pwr.upQueue := by simp [hq, h]
    split
    · exact .refl s
    split
    · obtain ⟨-, wait, -, up, down⟩ := setDomain_boot taken.pwr d .ramping
      exact ⟨fun e he => (domainState_setDomain ..).trans (if_neg (others e he)), fun q h => sub q (Eq.mp (congrArg (q ∈ ·) up) h), down,
        setDomain_latches .., fun h => wait.trans h⟩
    · obtain ⟨doms, up, down, latches, wait⟩ :=
        markFault_spec (taken.onPwr fun p => { p with upQueue := p.upQueue.filter fun q => q.2 != p.rampWrite }) d
      exact ⟨fun e he => (doms e).trans (if_neg (others e he)), fun q h => sub q (List.mem_of_mem_filter (up ▸ h)), down, latches, wait⟩

theorem nextRamp_keeps (s : State) : RampKeeps s (nextRamp s) :=
  forN_keeps (P := RampKeeps s) (fun _ t _ h => h.trans (rampFirst_keeps t)) (.refl s)

/-! ## Domains going down (R115, R117) -/

/-- With CORE lost every domain is off and none waits. -/
theorem coreLost_domains (s : State) (byWrite : Bool) : (∀ d, domainState (coreLost s byWrite).pwr d = .off) ∧
    (coreLost s byWrite).pwr.upQueue = [] ∧ (coreLost s byWrite).pwr.downQueue = [] := by
  have after (u : State) : Within 0x1800000 u (outsDomainOff u) := by simp
  have doms (u : State) (d : Domain) : domainState (outsDomainOff u).pwr d = domainState u.pwr d := ((after u).domains_eq rfl).1 d
  have up (u : State) : (outsDomainOff u).pwr.upQueue = u.pwr.upQueue := ((after u).domains_eq rfl).2.1
  have down (u : State) : (outsDomainOff u).pwr.downQueue = u.pwr.downQueue := ((after u).domains_eq rfl).2.2
  unfold coreLost
  refine ⟨fun d => (doms _ d).trans ?_, (up _).trans ?_, (down _).trans ?_⟩ <;> dsimp only
  · split <;> cases d <;> rfl
  · split <;> rfl
  · split <;> rfl

/-- One domain goes down. -/
def domainDown (byWrite : Bool) (t : State) (d : Domain) : State :=
  let was := domainState t.pwr d
  let t := t.onPwr fun p => setDomain p d .off
  if was != .on then t
  else if d = .core then coreLost (t.onPwr fun p => setDomain p d .on) byWrite
  else unitsOff t d

theorem powerDown_eq (s : State) (ds : List Domain) (byWrite : Bool) : powerDown s ds byWrite =
    (downOrder.filter fun d => ds.contains d).foldl (domainDown byWrite)
      (s.onPwr fun p => { p with upQueue := p.upQueue.filter fun d => !ds.contains d.1, downQueue := [] }) := rfl

/-- A domain that goes down is off, and what was off or had left the queues stays so. -/
structure DownKeeps (s t : State) : Prop where
  off : ∀ d, domainState s.pwr d = .off → domainState t.pwr d = .off
  up : ∀ q ∈ t.pwr.upQueue, q ∈ s.pwr.upQueue
  down : s.pwr.downQueue = [] → t.pwr.downQueue = []

theorem domainDown_spec (byWrite : Bool) (t : State) (d : Domain) :
    DownKeeps t (domainDown byWrite t d) ∧ domainState (domainDown byWrite t d).pwr d = .off := by
  obtain ⟨-, -, -, up, down⟩ := setDomain_boot t.pwr d .off
  have off (e : Domain) : domainState (setDomain t.pwr d .off) e = if e = d then .off else domainState t.pwr e := domainState_setDomain ..
  have off' (e : Domain) (h : domainState t.pwr e = .off) : domainState (setDomain t.pwr d .off) e = .off := by rw [off, h, ite_self]
  unfold domainDown
  extract_lets was gone
  split
  · exact ⟨⟨off', fun q h => up ▸ h, fun h => down.trans h⟩, (off d).trans (if_pos rfl)⟩
  split
  · obtain ⟨offC, upC, downC⟩ := coreLost_domains (gone.onPwr fun p => setDomain p d .on) byWrite
    exact ⟨⟨fun e _ => offC e, fun q h => absurd (upC ▸ h) List.not_mem_nil, fun _ => downC⟩, offC d⟩
  · obtain ⟨offU, upU, downU⟩ : _ ∧ (unitsOff gone d).pwr.upQueue = _ ∧ (unitsOff gone d).pwr.downQueue = _ :=
      Within.domains_eq (ps := 0x4400001a00200) (s := gone) (by simp) rfl
    exact ⟨⟨fun e h => (offU e).trans (off' e h), fun q h => up ▸ upU ▸ h, fun h => downU.trans (down.trans h)⟩,
      (offU d).trans ((off d).trans (if_pos rfl))⟩

theorem domainsDown_spec (byWrite : Bool) (l : List Domain) (s : State) :
    DownKeeps s (l.foldl (domainDown byWrite) s) ∧ ∀ d ∈ l, domainState (l.foldl (domainDown byWrite) s).pwr d = .off := by
  induction l generalizing s with
  | nil => exact ⟨⟨fun _ => id, fun _ => id, id⟩, fun _ h => absurd h List.not_mem_nil⟩
  | cons d l ih =>
    obtain ⟨keeps, off⟩ := domainDown_spec byWrite s d
    obtain ⟨later, offs⟩ := ih (domainDown byWrite s d)
    refine ⟨⟨fun e h => later.off e (keeps.off e h), fun q h => keeps.up q (later.up q h), fun h => later.down (keeps.down h)⟩, ?_⟩
    rintro e (_ | ⟨_, he⟩)
    · exact later.off d off
    · exact offs e he

/-- The domains named are off, nothing waits to go down, and none of them waits to come up. -/
theorem powerDown_spec (s : State) (ds : List Domain) (byWrite : Bool) : (∀ d ∈ ds, domainState (powerDown s ds byWrite).pwr d = .off) ∧
    (powerDown s ds byWrite).pwr.downQueue = [] ∧ ∀ d ∈ ds, ∀ q ∈ (powerDown s ds byWrite).pwr.upQueue, q.1 ≠ d := by
  rw [powerDown_eq]
  obtain ⟨keeps, off⟩ := domainsDown_spec byWrite (downOrder.filter fun d => ds.contains d)
    (s.onPwr fun p => { p with upQueue := p.upQueue.filter fun d => !ds.contains d.1, downQueue := [] })
  have ordered (d : Domain) : d ∈ downOrder := by cases d <;> decide
  refine ⟨fun d hd => off d (List.mem_filter.mpr ⟨ordered d, by simpa using hd⟩), keeps.down rfl, fun d hd q hq e => ?_⟩
  have waits := (List.mem_filter.mp (keeps.up q hq)).2
  simp [e, hd] at waits

end Sys2Proof.Machine
end

section
/-! PROOFS. What ends BOOT, the domains, and the shutdown (O3, O6, O9). -/

namespace Sys2Proof.Machine

/-! ## The strap of OUT0 (R132) and the TAP's reset (R653) -/

theorem out0Bypass_strap (s : State) (on : Bool) : (out0Bypass s on).pwr.bypOut0 = on ∧ (out0Bypass s on).pwr.straps = s.pwr.straps := by
  cases on <;> exact ⟨rfl, rfl⟩

/-- Bit 2 of the straps as a strap change sets it. -/
theorem bitOf_strap2 (k : Nat) (level b : Bool) : bitOf (k % 4 + 4 * b2n level + 8 * b2n b) 2 = level := by
  have h : (k % 4 + 4 * b2n level + 8 * b2n b) / 4 % 2 = b2n level := by cases level <;> cases b <;> simp [b2n] <;> omega
  rw [bitOf, Nat.testBit_eq_decide_div_mod_eq, show 2 ^ 2 = 4 from rfl, h]
  cases level <;> rfl

theorem bypOut0StrapChange_spec (s : State) (level : Bool) : Answers (.bypOut0StrapChange level) s fun t =>
    t.pwr.bypOut0 = (if s.inReset || s.pwr.booting then level else s.pwr.bypOut0) ∧ bitOf t.pwr.straps 2 = level := by
  refine ⟨_, rfl, ?_⟩
  split
  · obtain ⟨byp, straps⟩ := out0Bypass_strap (s.onPwr fun p => { p with straps := p.straps % 4 + 4 * b2n level + 8 * b2n (bitOf p.straps 3) }) level
    exact ⟨byp, straps ▸ bitOf_strap2 ..⟩
  · exact ⟨rfl, bitOf_strap2 ..⟩

/-! ## BOOT goes on once the XO is valid (R130, R438) -/

theorem bootPower_keeps (s : State) : (bootPower s).pwr.latches = s.pwr.latches ∧ (bootPower s).pwr.bootWait = false := by
  unfold bootPower
  extract_lets v k
  have keeps := nextRamp_keeps (s.onPwr fun p => { p with
    bootWait := false, ctrl := v, upWrites := k, upQueue := (upOrder.filter fun d => enabled v d).map fun d => (d, k) })
  exact ⟨keeps.latches, keeps.wait rfl⟩

/-- A valid XO ends the wait of BOOT; nothing else does here. -/
theorem bootGoesOn_spec (s : State) : (bootGoesOn s).pwr.latches = s.pwr.latches ∧
    (s.pwr.booting = true → (bootGoesOn s).pwr.bootWait = (s.pwr.bootWait && !s.pwr.xoValid)) := by
  unfold bootGoesOn
  split
  · rename_i h
    obtain ⟨latches, wait⟩ := bootPower_keeps s
    simp only [Bool.and_eq_true] at h
    exact ⟨latches, fun _ => by simp [wait, h]⟩
  · rename_i h
    refine ⟨rfl, fun hb => ?_⟩
    cases hw : s.pwr.bootWait <;> cases hx : s.pwr.xoValid <;> simp_all

theorem PowerUnit.xoValid_eq {p q : PowerUnit} (h : p.latches = q.latches) : p.xoValid = q.xoValid := congrArg (·.1) h

theorem xoValid_spec (s : State) : Answers .xoValid s fun t =>
    t.pwr.xoValid = true ∧ (s.pwr.booting = true → t.pwr.bootWait = false) := by
  refine ⟨_, rfl, ?_⟩
  obtain ⟨latches, wait⟩ := bootGoesOn_spec (s.onPwr fun p => { p with xoValid := true })
  have settled (u : State) : Within 0x4400001800200 u (settleOuts u) := by simp
  obtain ⟨-, wait', -⟩ := (settled (bootGoesOn (s.onPwr fun p => { p with xoValid := true }))).boot_eq rfl
  exact ⟨PowerUnit.xoValid_eq ((settleOuts_latches _).trans latches), fun hb => wait'.trans ((wait hb).trans (Bool.and_false _))⟩

/-! ## The obligation on BOOT -/

/-- A fault of CORE in BOOT ends it. -/
theorem markFault_core_booting {s : State} (hb : s.pwr.booting = true) :
    markFault s .core = bootFinish (raiseAt (s.onPwr fun p => setDomain p .core .fault) evDomainFault 0 0) := by
  unfold markFault
  extract_lets shown
  have kept : Within 0x4400000000200 (s.onPwr fun p => setDomain p .core .fault) shown := by simp [shown]
  obtain ⟨booting, -⟩ := kept.boot_eq rfl
  rw [if_neg (by simp), if_pos (booting.trans hb)]
  rfl

/-- Settles O3: row by row, from the end of BOOT and from the ramp that a valid XO lets begin. -/
theorem bootRuns : Obligations.BootRuns := by
  unfold Obligations.BootRuns
  refine ⟨bypOut0StrapChange_spec, fun s hb hw hx => ⟨_, rfl, ?_⟩, fun s hb hw hc => ⟨_, rfl, ?_⟩, xoValid_spec, fun s => ⟨_, rfl, ?_⟩⟩
  · have ends : (s.pwr.booting && s.pwr.bootWait && !s.pwr.xoValid) = true := by simp [hb, hw, hx]
    rw [if_pos ends]
    obtain ⟨doms, -⟩ := markFault_spec s .core
    have core : (markFault s .core).pwr.core = .fault := (doms .core).trans (if_pos rfl)
    rw [markFault_core_booting hb] at core ⊢
    obtain ⟨booting, -, done, opmode, -⟩ := bootFinish_spec (raiseAt (s.onPwr fun p => setDomain p .core .fault) evDomainFault 0 0)
    have off : (s.onPwr fun p => setDomain p .core .fault).coreOn = false := rfl
    exact ⟨core, booting, done, by simpa [off] using opmode⟩
  · have ends : (s.pwr.booting && !s.pwr.bootWait && (s.coreOn || !bitOf s.pwr.ctrl 0)) = true := by simp [hb, hw, hc]
    rw [if_pos ends]
    obtain ⟨booting, -, done, opmode, -⟩ := bootFinish_spec s
    exact ⟨booting, done, by simpa [hc] using opmode⟩
  · exact ⟨by simp [tapReset, bitOf, Nat.testBit_or, show Nat.testBit 32 5 = true from rfl], rfl, rfl⟩

end Sys2Proof.Machine
end

section
/-! PROOFS. Domains become ON, show FAULT and go off (O6). -/

namespace Sys2Proof.Machine

/-! ## CORE and the other domains become ON (R114, R116, R117) -/

theorem Within.spll_eq {ps : Nat} {s t : State} (h : Within ps s t) (hp : ps.testBit Part.spll.bit = false) : t.spll = s.spll :=
  h .spll hp

theorem PowerUnit.pendOwed_eq {p q : PowerUnit} (h : p.latches = q.latches) : p.pendOwed = q.pendOwed := congrArg (·.2.2.2) h

/-- CORE that comes ON on a valid XO is ON after its queue has gone on, with the SPLL locked and the pending events owed. -/
theorem coreUp_spec {s : State} (hr : s.pwr.core = .ramping) (hx : s.pwr.xoValid = true) (hq : ∀ q ∈ s.pwr.upQueue, q.1 ≠ .core) :
    (coreUp s).pwr.core = .on ∧ (coreUp s).spll.lock = true ∧ (coreUp s).spll.everOn = true ∧ (coreUp s).pwr.pendOwed = true := by
  unfold coreUp
  rw [if_neg (by simp [hr, hx])]
  extract_lets back pwr mode spll0 up raised loops searched told
  have kept : Within 0x44002d9b78200 up (settleOuts (refreshMode told mcPwrCtrl)) := by simp [told, searched, loops, raised]
  obtain ⟨doms, queue, -⟩ := kept.domains_eq rfl
  have ramp := nextRamp_keeps (settleOuts (refreshMode told mcPwrCtrl))
  have spll : (nextRamp (settleOuts (refreshMode told mcPwrCtrl))).spll = up.spll :=
    (Within.spll_eq (ps := 0x4400001b5ea00) (by simp) rfl).trans (kept.spll_eq rfl)
  have core : domainState (nextRamp (settleOuts (refreshMode told mcPwrCtrl))).pwr .core = .on :=
    (ramp.domain .core (by rw [queue]; exact hq)).trans (doms .core)
  exact ⟨core, by rw [spll], by rw [spll], PowerUnit.pendOwed_eq (ramp.latches.trans (kept.latches_eq rfl))⟩

theorem domainUp_spec {s : State} {d : Domain} (hd : d ≠ .core) (hr : domainState s.pwr d = .ramping) (hc : s.coreOn = true)
    (hq : ∀ q ∈ s.pwr.upQueue, q.1 ≠ d) : domainState (domainUp s d).pwr d = .on := by
  unfold domainUp
  rw [if_neg hd, if_neg (by simp [hr, hc])]
  extract_lets raised searched
  obtain ⟨-, -, -, up, -⟩ := setDomain_boot s.pwr d .on
  have kept : Within 0x4400001a00200 (s.onPwr fun p => setDomain p d .on) (settleOuts searched) := by simp [searched, raised]
  obtain ⟨doms, queue, -⟩ := kept.domains_eq rfl
  refine ((nextRamp_keeps _).domain d ?_).trans ((doms d).trans ((domainState_setDomain ..).trans (if_pos rfl)))
  rw [queue, up]
  exact hq

/-! ## A domain shows FAULT (R114, R116) -/

/-- A domain that does not come up shows FAULT, and no domain of the same write goes on. -/
theorem domainFault_ramping {s : State} {d : Domain} (hr : domainState s.pwr d = .ramping) (hq : ∀ q ∈ s.pwr.upQueue, q.1 ≠ d) :
    domainState (domainFault s d).pwr d = .fault ∧ ∀ q ∈ (domainFault s d).pwr.upQueue, q.2 ≠ s.pwr.rampWrite := by
  have e : domainFault s d = nextRamp (rampFault s d) := by simp [domainFault, hr]
  rw [e]
  obtain ⟨doms, up, -⟩ := markFault_spec (s.onPwr fun p => { p with upQueue := p.upQueue.filter fun q => q.2 != p.rampWrite }) d
  have ramp := nextRamp_keeps (rampFault s d)
  have waits (q : Domain × Nat) (h : q ∈ (rampFault s d).pwr.upQueue) : q ∈ s.pwr.upQueue ∧ q.2 ≠ s.pwr.rampWrite := by
    simpa using List.mem_filter.mp (Eq.mp (congrArg (q ∈ ·) up) h)
  exact ⟨(ramp.domain d fun q h => hq q (waits q h).1).trans ((doms d).trans (if_pos rfl)), fun q h => (waits q (ramp.queue q h)).2⟩

theorem domainFault_on {s : State} {d : Domain} (hd : domainState s.pwr d = .on) : domainState (domainFault s d).pwr d = .fault := by
  have fault (u : State) : domainState (markFault u d).pwr d = .fault := by
    obtain ⟨doms, -⟩ := markFault_spec u d
    exact (doms d).trans (if_pos rfl)
  unfold domainFault
  rw [hd]
  dsimp only
  split
  · rename_i hc
    subst hc
    exact fault _
  · exact fault _

/-! ## DOMAIN_POWER_DOWN (R115) -/

theorem domainPowerDown_spec {s : State} (hq : s.pwr.downQueue ≠ []) (hp : s.coreOn = true → s.time.running = true → s.time.phase = .guard) :
    (domainPowerDown s).pwr.downQueue = [] ∧ ∀ d ∈ s.pwr.downQueue, domainState (domainPowerDown s).pwr d = .off := by
  have now : ¬ (s.pwr.downQueue.isEmpty || (s.coreOn && s.time.running && s.time.phase != .guard)) = true := by
    simp only [Bool.or_eq_true, List.isEmpty_iff, hq, false_or, Bool.and_eq_true, bne_iff_ne]
    exact fun ⟨⟨hc, hr⟩, hg⟩ => hg (hp hc hr)
  unfold domainPowerDown
  extract_lets ds ready
  rw [if_neg now]
  obtain ⟨off, down, left⟩ := powerDown_spec ready ds true
  have ramp := nextRamp_keeps (powerDown ready ds true)
  have shown (u : State) (cause : Nat) : Within 0x4400000018200 u (refreshMode u cause) := by simp
  obtain ⟨doms, -, down'⟩ := (shown (nextRamp (powerDown ready ds true)) (if ready.pwr.shut = .powering then mcShutdown else mcPwrCtrl)).domains_eq rfl
  exact ⟨down'.trans (ramp.down.trans down), fun d hd => (doms d).trans ((ramp.domain d (left d hd)).trans (off d hd))⟩

/-- Settles O6: a ramp that goes on leaves what does not wait for it, and a power-down ends with its domains off. -/
theorem domainsPowerUpAndDown : Obligations.DomainsPowerUpAndDown := by
  unfold Obligations.DomainsPowerUpAndDown
  refine ⟨fun s d hr hq hx => ⟨_, rfl, ?_⟩, fun s hr hx hq => ⟨_, rfl, ?_⟩, fun s d hr hq => ⟨_, rfl, domainFault_ramping hr hq⟩,
    fun s d hd => ⟨_, rfl, domainFault_on hd⟩, fun s hq hp => ⟨_, rfl, domainPowerDown_spec hq hp⟩⟩
  · by_cases hd : d = .core
    · subst hd
      obtain ⟨core, -⟩ := coreUp_spec hr hx hq
      exact core
    · exact domainUp_spec hd hr (by simpa [hd] using hx) hq
  · obtain ⟨core, spll⟩ := coreUp_spec hr hx hq
    exact ⟨by simp [State.coreOn, core], spll⟩

end Sys2Proof.Machine
end

section
/-! PROOFS. The shutdown (O9). -/

namespace Sys2Proof.Machine

/-! ## What SHUTDOWN finds -/

/-- What a command finds is kept beside the state. -/
theorem noteCmd_shape (s : State) : ∃ u, noteCmd s = { s with undo := u } := by
  unfold noteCmd
  split
  · split
    · exact ⟨_, rfl⟩
    · exact ⟨_, rfl⟩
  · exact ⟨_, rfl⟩

theorem shutRefusal_noted (s : State) (m : Master) : shutRefusal (noteCmd (access s m)) = shutRefusal s := by
  obtain ⟨x, ha⟩ := access_shape s m
  obtain ⟨u, hn⟩ := noteCmd_shape (access s m)
  rw [hn, ha]
  rfl

theorem shutRefusal_none {s : State} (he : s.safeEnergy = false) (hl : s.pwr.supplyLow = false) : shutRefusal s = none := by
  simp [shutRefusal, he, hl]

theorem shutRefusal_some {s : State} (h : s.safeEnergy = true ∨ s.pwr.supplyLow = true) : ∃ r, shutRefusal s = some r := by
  cases he : s.safeEnergy
  · exact ⟨ccSupplyLow, by simp [shutRefusal, he, h.resolve_left (by simp [he])]⟩
  · exact ⟨resSafetyActive, by simp [shutRefusal, he]⟩

/-! ## Steps 1 and 2 of R142 -/

/-- Operations that end have left the queue. -/
theorem closeOps_opq (l : List LongOp) (st : OpState) (s : State) {x : LongOp}
    (h : x ∈ (l.foldl (fun t o => closeOp t o st 0 0) s).opq) : x ∈ s.opq ∧ ∀ o ∈ l, x.ticket ≠ o.ticket := by
  induction l generalizing s with
  | nil => exact ⟨h, fun _ ho => absurd ho List.not_mem_nil⟩
  | cons o l ih =>
    obtain ⟨left, later⟩ := ih _ h
    rw [closeOp_opq, List.mem_filter, bne_iff_ne] at left
    exact ⟨left.1, by simpa using ⟨left.2, later⟩⟩

/-- A shutdown that drains its queue goes on to the save of the model, which writes NVM, or waits (R142). -/
theorem shutdownStep_draining {s : State} (h : s.pwr.shut = .draining) (hq : ∀ o ∈ s.opq, opWrites o.code = true) :
    (shutdownStep s).pwr.shut ≠ .none ∧ ∀ o ∈ (shutdownStep s).opq, opWrites o.code = true := by
  unfold shutdownStep
  rw [h]
  dsimp only
  split
  · rename_i empty
    have kept : Within 0x4680c00004200 (s.onPwr fun p => { p with shut := .saving })
        (enqueueOp (s.onPwr fun p => { p with shut := .saving }) none 0x03 0 0 0) := by simp
    obtain ⟨-, -, -, shut⟩ := kept.boot_eq rfl
    obtain ⟨opq, -⟩ := enqueueOp_adds (s.onPwr fun p => { p with shut := .saving }) none 0x03 0 0 0
    rw [shut, opq]
    refine ⟨by simp, fun o ho => ?_⟩
    obtain ho | ho := List.mem_append.mp ho
    · exact hq o ho
    · rw [List.mem_singleton.mp ho]
      exact (by decide : opWrites 0x03 = true)
  · exact ⟨by simp [h], hq⟩

theorem shutdownBegin_spec (s : State) : (shutdownBegin s).pwr.shut ≠ .none ∧ (shutdownBegin s).mode.pendingOp = none ∧
    ∀ o ∈ (shutdownBegin s).opq, opWrites o.code = true := by
  unfold shutdownBegin
  extract_lets discarded rolled closed
  have kept : Within 0x22c7c0c11806a00 discarded (shutdownStep (closed.onPwr fun p => { p with shut := .draining })) := by
    simp [closed, rolled]
  obtain ⟨-, -, pending⟩ := kept.mode_eq rfl
  have writes (o : LongOp) (ho : o ∈ closed.opq) : opWrites o.code = true := by
    obtain ⟨inQueue, others⟩ := closeOps_opq _ .abortedPower rolled ho
    by_contra hw
    exact others o (List.mem_filter.mpr ⟨inQueue, by simpa using hw⟩) rfl
  obtain ⟨shut, opq⟩ := shutdownStep_draining (s := closed.onPwr fun p => { p with shut := .draining }) rfl writes
  exact ⟨shut, pending, opq⟩

/-! ## The obligation -/

theorem shutdown_accepted {s : State} {m : Master} (hw : s.writable = true) (hn : s.pwr.shut = .none) (hr : shutRefusal s = none) :
    ∃ u, exec (.shutdown m) s = .next (shutdownBegin u) := by
  have hw' : (access s m).writable = true := by simpa using hw
  obtain ⟨u, hu⟩ := noteCmd_shape (access s m)
  refine ⟨echo (noteCmd (access s m)) m 0x3 9 [] resAccepted, congrArg Host.Outcome.next ?_⟩
  unfold shutdown
  rw [hw', Bool.not_true, if_neg Bool.false_ne_true]
  dsimp only
  rw [shutRefusal_noted, hr]
  exact if_pos (by simp [hu, hn])

theorem shutdown_refused {s : State} {m : Master} {r : Nat} (hw : s.writable = true) (hr : shutRefusal s = some r) :
    exec (.shutdown m) s = .next (raise (echo (noteCmd (access s m)) m 0x3 9 [] r) evCmdRefused) := by
  have hw' : (access s m).writable = true := by simpa using hw
  refine congrArg Host.Outcome.next ?_
  unfold shutdown
  rw [hw', Bool.not_true, if_neg Bool.false_ne_true]
  dsimp only
  rw [shutRefusal_noted, hr]

theorem shutdownComplete_ends {s : State} (hp : s.pwr.shut = .powering) (hd : ∀ d, domainState s.pwr d = .off) (hl : s.pwr.supplyLow = false)
    (ho : s.runningOp = none) : shutdownComplete s = refreshMode (s.onPwr fun p => { p with shut := .ended }) mcShutdown := by
  unfold shutdownComplete
  exact if_pos ⟨hp, by simp [hd], hl, ho⟩

/-- Settles O9: SHUTDOWN begins with the queue drained of what writes no NVM, or is refused; its end resolves to SHUTDOWN. -/
theorem shutdownSequence : Obligations.ShutdownSequence := by
  unfold Obligations.ShutdownSequence
  refine ⟨fun s m hs hn he hl => ?_, fun s hp hd hl ho => ⟨_, rfl, ?_⟩, fun s m hs hn h => ?_⟩
  · obtain ⟨u, hu⟩ := shutdown_accepted (m := m) (writable_of_served hs (by simp [hn])) hn (shutRefusal_none he hl)
    exact ⟨_, hu, shutdownBegin_spec u⟩
  · rw [shutdownComplete_ends hp hd hl ho]
    have kept : Within 0x4400000018200 (s.onPwr fun p => { p with shut := .ended })
        (refreshMode (s.onPwr fun p => { p with shut := .ended }) mcShutdown) := by simp
    obtain ⟨-, -, -, shut⟩ := kept.boot_eq rfl
    exact ⟨shut, fun hs => (refreshMode_mode ..).trans (resolveMode_shutdown hs rfl)⟩
  · obtain ⟨r, hr⟩ := shutRefusal_some h
    have kept : Within 0x8084430000000200 s (raise (echo (noteCmd (access s m)) m 0x3 9 [] r) evCmdRefused) := by simp
    obtain ⟨-, -, -, shut⟩ := kept.boot_eq rfl
    exact ⟨_, shutdown_refused (writable_of_served hs (by simp [hn])) hr, shut.trans hn, kept .opq rfl, eventSet_raiseAt _ _ _ (by decide)⟩

end Sys2Proof.Machine
end

section
/-! PROOFS. Supply warnings and the rail monitors (O4). -/

namespace Sys2Proof.Machine

/-! ## The monitors of the rails -/

theorem Within.rails_eq {ps : Nat} {s t : State} (h : Within ps s t) (hp : ps.testBit Part.rails.bit = false) :
    (∀ r, warned r t.pwr = warned r s.pwr) ∧ t.pwr.bor18 = s.pwr.bor18 ∧ t.pwr.vddoBor = s.pwr.vddoBor ∧ t.pwr.vddoOvr = s.pwr.vddoOvr ∧
    t.pwr.supplyLow = s.pwr.supplyLow := by
  have e := h .rails hp
  simp only [Part.same, Prod.mk.injEq] at e
  obtain ⟨warn33, warnAon, warn09, warn18, -, bor18, -, vddoBor, vddoOvr, supplyLow⟩ := e
  exact ⟨fun r => by cases r <;> assumption, bor18, vddoBor, vddoOvr, supplyLow⟩

theorem anyWarn_eq (p : PowerUnit) : anyWarn p = (warned .vdd33 p || warned .vdd09aon p || warned .vdd09 p || warned .vdd18a p) := rfl

/-! ## SUPPLY_LOW is entered (R134, R136, R137) -/

/-- SUPPLY_LOW shows in SUPPLY_STATUS and, outside BOOT and before the end of a shutdown, in DEV_MODE; the warnings stay. -/
theorem supplyLowShow_spec (s : State) (unit : Nat) (waits : List LongOp) : (supplyLowShow s unit waits).pwr.supplyLow = true ∧
    (∀ r, warned r (supplyLowShow s unit waits).pwr = warned r s.pwr) ∧
    (s.inReset = false → s.pwr.booting = false → s.pwr.shut ≠ .ended → (supplyLowShow s unit waits).mode.mode = .supplyLow) ∧
    (s.inReset = false → s.pwr.booting = true → (supplyLowShow s unit waits).mode.mode = .boot) ∧
    (supplyLowShow s unit waits).pwr.latches = s.pwr.latches := by
  unfold supplyLowShow
  extract_lets held entered waiting
  have kept : Within 0x4480c00000200 (s.onPwr fun p => { p with supplyLow := true, heldRaised := held }) (raiseIf held waiting evNvmHeld 0 0) := by
    simp [waiting, entered]
  have shown : Within 0x4400000018200 (raiseIf held waiting evNvmHeld 0 0) (refreshMode (raiseIf held waiting evNvmHeld 0 0) mcSupply) := by simp
  obtain ⟨warns, -, -, -, low⟩ := kept.rails_eq rfl
  obtain ⟨warns', -, -, -, low'⟩ := shown.rails_eq rfl
  obtain ⟨booting, -, -, shut⟩ := kept.boot_eq rfl
  refine ⟨low'.trans low, fun r => (warns' r).trans ((warns r).trans (by cases r <;> rfl)), fun hr hb he => ?_, fun hr hb => ?_,
    (shown.latches_eq rfl).trans (kept.latches_eq rfl)⟩
  all_goals rw [refreshMode_mode]
  · exact resolveMode_supplyLow ((kept.inReset_eq rfl).trans hr) (booting.trans hb) (by rw [shut]; exact he) low
  · exact resolveMode_boot ((kept.inReset_eq rfl).trans hr) (booting.trans hb)

theorem supplyLowEnter_spec (s : State) (unit : Nat) : (supplyLowEnter s unit).pwr.supplyLow = true ∧
    (∀ r, warned r (supplyLowEnter s unit).pwr = warned r s.pwr) ∧
    (s.pwr.supplyLow = false → s.inReset = false → s.pwr.booting = false → s.pwr.shut ≠ .ended →
      (supplyLowEnter s unit).mode.mode = .supplyLow) := by
  unfold supplyLowEnter
  split
  · rename_i h
    exact ⟨h, fun _ => rfl, fun hl => absurd (hl.symm.trans h) Bool.false_ne_true⟩
  extract_lets waits stopped
  obtain ⟨low, warns, mode, -⟩ := supplyLowShow_spec stopped unit waits
  have kept : Within 0x30000000000000 s stopped := by simp [stopped]
  obtain ⟨warns', -⟩ := kept.rails_eq rfl
  obtain ⟨booting, -, -, shut⟩ := kept.boot_eq rfl
  exact ⟨low, fun r => (warns r).trans (warns' r), fun _ hr hb he => mode ((kept.inReset_eq rfl).trans hr) (booting.trans hb) (by rw [shut]; exact he)⟩

/-- The warning of one rail. -/
def warn (r : Rail) (p : PowerUnit) : PowerUnit :=
  match r with
  | .vdd33 => { p with warn33 := true }
  | .vdd09aon => { p with warnAon := true }
  | .vdd09 => { p with warn09 := true }
  | .vdd18a => { p with warn18 := true }

theorem exec_supplyWarn {s : State} (r : Rail) (hr : s.inReset = false) :
    exec (.supplyWarn r) s = .next (supplyLowEnter (s.onPwr (warn r)) 0) := by
  refine congrArg Host.Outcome.next ?_
  rw [hr, if_neg Bool.false_ne_true]
  cases r <;> rfl

theorem supplyWarn_spec {s : State} (r : Rail) (hr : s.inReset = false) : Answers (.supplyWarn r) s fun t =>
    t.pwr.supplyLow = true ∧ warned r t.pwr = true ∧
    (s.pwr.supplyLow = false → s.pwr.booting = false → s.pwr.shut ≠ .ended → t.mode.mode = .supplyLow) := by
  obtain ⟨low, warns, mode⟩ := supplyLowEnter_spec (s.onPwr (warn r)) 0
  have same : (s.onPwr (warn r)).pwr.supplyLow = s.pwr.supplyLow ∧ (s.onPwr (warn r)).inReset = s.inReset ∧
      (s.onPwr (warn r)).pwr.booting = s.pwr.booting ∧ (s.onPwr (warn r)).pwr.shut = s.pwr.shut ∧ warned r (s.onPwr (warn r)).pwr = true := by
    cases r <;> exact ⟨rfl, rfl, rfl, rfl, rfl⟩
  obtain ⟨lowS, resetS, bootS, shutS, warnS⟩ := same
  exact ⟨_, exec_supplyWarn r hr, low, (warns r).trans warnS,
    fun hl hb he => mode (lowS.trans hl) (resetS.trans hr) (bootS.trans hb) (by rw [shutS]; exact he)⟩

/-! ## SUPPLY_LOW ends (R136, R137, R160) -/

/-- Held operations that are queued again: what stays held was named by none of them. -/
theorem requeued_opq (l : List LongOp) (s : State) {x : LongOp}
    (h : x ∈ (l.foldl (fun u o => setOp u { o with st := .queued }) s).opq) :
    x.st ≠ .held ∨ x ∈ s.opq ∧ ∀ o ∈ l, x.ticket ≠ o.ticket := by
  induction l generalizing s with
  | nil => exact .inr ⟨h, fun _ ho => absurd ho List.not_mem_nil⟩
  | cons o l ih =>
    obtain free | ⟨left, later⟩ := ih _ h
    · exact .inl free
    obtain ⟨y, hy, e⟩ : ∃ y ∈ s.opq, (if y.ticket = o.ticket then { o with st := .queued } else y) = x := List.mem_map.mp left
    split at e
    · subst e
      exact .inl (by simp)
    · subst e
      exact .inr ⟨hy, by simpa using ⟨‹_›, later⟩⟩

/-- No rail warns, and the supply is not low. -/
def supplyBack (s : State) : State :=
  s.onPwr fun p => { p with warn33 := false, warnAon := false, warn09 := false, warn18 := false, supplyLow := false }

/-- Every held operation is queued again. -/
def requeueHeld (s : State) : State := (s.opq.filter fun o => o.st == .held).foldl (fun u o => setOp u { o with st := .queued }) s

theorem requeueHeld_opq (s : State) {o : LongOp} (ho : o ∈ (requeueHeld s).opq) : o.st ≠ .held := fun held => by
  obtain free | ⟨left, others⟩ := requeued_opq _ _ ho
  · exact free held
  · exact others o (List.mem_filter.mpr ⟨left, by simp [held]⟩) rfl

theorem exec_supplyOk {s : State} (hl : s.pwr.supplyLow = true) : exec .supplyOk s =
    .next (refreshMode (searchOwed (requeueHeld (raise (supplyBack s) evSupplyOk))) mcSupply) := by
  refine congrArg Host.Outcome.next ?_
  rw [hl, Bool.not_true, if_neg Bool.false_ne_true]
  rfl

theorem supplyOk_spec {s : State} (hl : s.pwr.supplyLow = true) : Answers .supplyOk s fun t =>
    t.pwr.supplyLow = false ∧ anyWarn t.pwr = false ∧ ∀ o ∈ t.opq, o.st ≠ .held := by
  have requeues (u : State) : Within 0x80c00000000 u (requeueHeld u) := by
    unfold requeueHeld
    simp
  have kept : Within 0x4400001a18200 (requeueHeld (raise (supplyBack s) evSupplyOk))
      (refreshMode (searchOwed (requeueHeld (raise (supplyBack s) evSupplyOk))) mcSupply) := by simp
  have raised : Within 0x4400000000200 (supplyBack s) (raise (supplyBack s) evSupplyOk) := by simp
  have rails := (raised.mono (n := 0x4480c01a18200) rfl).trans (((requeues _).mono rfl).trans (kept.mono rfl))
  obtain ⟨warns, -, -, -, low⟩ := rails.rails_eq rfl
  refine ⟨_, exec_supplyOk hl, low, by simp only [anyWarn_eq, warns]; rfl, fun o ho => requeueHeld_opq (raise (supplyBack s) evSupplyOk) (o := o) ?_⟩
  exact Eq.mp (congrArg (o ∈ ·) (kept .opq rfl)) ho

/-! ## The obligation -/

/-- A bank in which one entry was set. -/
theorem entry_of_vupd {n : Nat} {v w : Vector Bool n} {b : Fin n} {x : Bool} (h : w = vupd v b fun _ => x) :
    vat w b = x ∧ ∀ k : Nat, k ≠ b → vat w k = vat v k := by
  subst h
  exact ⟨vat_vupd_same _ _ b.isLt, vat_vupd_others⟩

/-- Settles O4: SUPPLY_LOW as it is entered and left, and each monitor's own bit, which nothing that follows in its row changes. -/
theorem supplyWarningsAndRailMonitors : Obligations.SupplyWarningsAndRailMonitors := by
  unfold Obligations.SupplyWarningsAndRailMonitors
  refine ⟨fun s r hr => supplyWarn_spec r hr, fun s hl => supplyOk_spec hl, fun s => ⟨_, rfl, ?_⟩, fun s => ⟨_, rfl, ?_⟩,
    fun s b => ⟨_, rfl, ?_⟩, fun s b => ⟨_, rfl, ?_⟩, fun s b => ⟨_, rfl, ?_⟩, fun s b => ⟨_, rfl, ?_⟩, fun s smp => ⟨_, rfl, ?_⟩⟩
  · have kept : Within 0x4400001a00200 (s.onPwr fun p => { p with bor18 := true })
        (raise (settleOuts (apllsLost (s.onPwr fun p => { p with bor18 := true }) true)) evSynInvalid) := by simp
    obtain ⟨-, bor, -⟩ := kept.rails_eq rfl
    exact bor
  · have kept : Within 0x4400001a00200 (s.onPwr fun p => { p with bor18 := false })
        (searchOwed (s.onPwr fun p => { p with bor18 := false })) := by simp
    obtain ⟨-, bor, -⟩ := kept.rails_eq rfl
    exact bor
  · have kept : Within 0x4400001804200 (s.onPwr fun p => { p with vddoBor := vupd p.vddoBor b fun _ => true })
        (raiseAt (settleOuts (bypassSettle (s.onPwr fun p => { p with vddoBor := vupd p.vddoBor b fun _ => true }))) evVddoLow b 0) := by simp
    obtain ⟨-, -, bor, -⟩ := kept.rails_eq rfl
    exact entry_of_vupd bor
  · have kept : Within 0x4400001804200 (s.onPwr fun p => { p with vddoBor := vupd p.vddoBor b fun _ => false })
        (settleOuts (bypassSettle (s.onPwr fun p => { p with vddoBor := vupd p.vddoBor b fun _ => false }))) := by simp
    obtain ⟨-, -, bor, -⟩ := kept.rails_eq rfl
    exact entry_of_vupd bor
  · have kept : Within 0x4400001800200 (s.onPwr fun p => { p with vddoOvr := vupd p.vddoOvr b fun _ => true })
        (raiseAt (settleOuts (s.onPwr fun p => { p with vddoOvr := vupd p.vddoOvr b fun _ => true })) evVddoLevel b 0) := by simp
    obtain ⟨-, -, -, ovr, -⟩ := kept.rails_eq rfl
    exact entry_of_vupd ovr
  · have kept : Within 0x4400001800200 (s.onPwr fun p => { p with vddoOvr := vupd p.vddoOvr b fun _ => false })
        (settleOuts (s.onPwr fun p => { p with vddoOvr := vupd p.vddoOvr b fun _ => false })) := by simp
    obtain ⟨-, -, -, ovr, -⟩ := kept.rails_eq rfl
    exact entry_of_vupd ovr
  · have kept : Within 0x44003c1f5ea00 (warningsEnd s smp.warn) (bootGoesOn (channelH s smp)) := by
      unfold channelH
      simp
    obtain ⟨warns, -⟩ := kept.rails_eq rfl
    exact ⟨warns .vdd33, warns .vdd09aon, warns .vdd09, warns .vdd18a⟩

end Sys2Proof.Machine
end

section
/-! PROOFS. The device leaves reset (O2). -/

namespace Sys2Proof.Machine

/-! ## BOOT loads its records and keeps the latches (R127 to R130) -/

@[simp] theorem strapBypass_latches (s : State) : (strapBypass s).pwr.latches = s.pwr.latches := by
  unfold strapBypass
  split
  · simp
  split <;> simp

@[simp] theorem bootCopy_latches (s : State) (r : Nat) : (bootCopy s r).pwr.latches = s.pwr.latches :=
  Within.latches_eq (ps := 0x4400000000200) (by simp) rfl

theorem bootProfile_latches (s : State) : (bootProfile s).pwr.latches = s.pwr.latches := by
  unfold bootProfile
  extract_lets n noted
  split
  · rfl
  split
  · extract_lets lead loaded skipped auto shown
    exact bootCopy_latches ..
  · exact raiseAt_latches ..

theorem bootModel_latches (s : State) : (bootModel s).pwr.latches = s.pwr.latches := by
  have load (u : State) (d : List Word) (b : Bool) : (modelLoad u d b).pwr.latches = u.pwr.latches :=
    Within.latches_eq (ps := 0x100000) (by simp) rfl
  have blank (u : State) : (modelBlank u).pwr.latches = u.pwr.latches := Within.latches_eq (ps := 0x100000) (by simp) rfl
  unfold bootModel
  split
  · dsimp only
    split
    · exact (bootCopy_latches ..).trans (load ..)
    · exact blank s
  · exact blank s

theorem bootSafety_latches (s : State) : (bootSafety s).pwr.latches = s.pwr.latches := by
  unfold bootSafety
  split
  · extract_lets m taken
    have kept : Within 0x2e0000000 s taken := by simp [taken]
    exact (bootCopy_latches ..).trans (kept.latches_eq rfl)
  · extract_lets blank lock locked
    have kept : Within 0x44003e0000200 s locked := by simp [locked, lock, blank]
    have latches : locked.pwr.latches = s.pwr.latches := kept.latches_eq rfl
    refine Eq.trans ?_ latches
    generalize locked = u
    rfl

/-- BOOT as it has loaded its records and waits for the XO. -/
def bootLoaded (s : State) : State := bootSafety (bootModel (bootFollow (bootProfile s)))

theorem bootLoaded_latches (s : State) : (bootLoaded s).pwr.latches = s.pwr.latches := by
  have follow (u : State) : (bootFollow u).pwr.latches = u.pwr.latches := Within.latches_eq (ps := 0x400008) (by simp) rfl
  rw [bootLoaded, bootSafety_latches, bootModel_latches, follow, bootProfile_latches]

/-! ## The device leaves reset -/

/-- Out of reset, the straps sampled unless the reset was a soft one, BOOT begun. -/
def sampled (s : State) : State :=
  s.onPwr fun p => { p with
    strapEcho := if p.resetClass = 0 then p.strapEcho else p.straps, booting := true, bootWait := true, bootResult0 := 0, bootResult1 := 0,
    bootResult2 := 0 }

/-- The master that strap bit 3 names has priority, DEV_MODE is BOOT, and a supply that is low is shown. -/
def bootShown (s : State) : State :=
  let s := refreshMode { s with prioMp := bitOf s.pwr.strapEcho 3 } mcReset
  if anyWarn s.pwr && !s.pwr.supplyLow then supplyLowShow s 0 [] else s

/-- The records are about to be loaded. -/
def bootReady (s : State) : State :=
  bootLog (((strapBypass s).onSec fun x => { x with field := (strapBypass s).otp.keySet }).onSafe fun f => { f with srstFrom := f.h.clk })

theorem release_eq (s : State) : release s = bootGoesOn (bootLoaded (bootReady (bootShown (sampled s)))) := rfl

theorem bootShown_spec {s : State} (hr : s.inReset = false) (hb : s.pwr.booting = true) : (bootShown s).mode.mode = .boot ∧
    (bootShown s).prioMp = bitOf s.pwr.strapEcho 3 ∧ (bootShown s).pwr.latches = s.pwr.latches := by
  unfold bootShown
  extract_lets moved
  have kept : Within 0x4400000018200 { s with prioMp := bitOf s.pwr.strapEcho 3 } moved := by simp [moved]
  have boot : resolveMode { s with prioMp := bitOf s.pwr.strapEcho 3 } false = .boot := resolveMode_boot hr hb
  obtain ⟨booting, -⟩ := kept.boot_eq rfl
  have prio : moved.prioMp = bitOf s.pwr.strapEcho 3 := kept .prioMp rfl
  split
  · have shown : Within 0x4480c0001d200 moved (supplyLowShow moved 0 []) := by simp
    obtain ⟨-, -, -, mode, latches⟩ := supplyLowShow_spec moved 0 []
    exact ⟨mode ((kept.inReset_eq rfl).trans hr) (booting.trans hb), (shown .prioMp rfl).trans prio, latches.trans (kept.latches_eq rfl)⟩
  · exact ⟨(refreshMode_mode ..).trans boot, prio, kept.latches_eq rfl⟩

theorem PowerUnit.strapEcho_eq {p q : PowerUnit} (h : p.latches = q.latches) : p.strapEcho = q.strapEcho := congrArg (·.2.1) h

theorem PowerUnit.rstHeldMs_eq {p q : PowerUnit} (h : p.latches = q.latches) : p.rstHeldMs = q.rstHeldMs := congrArg (·.2.2.1) h

/-- A release starts BOOT with the straps of that instant, or after a soft reset with those of before, and keeps RST_HELD_MS. -/
theorem release_boots {s : State} (hr : s.inReset = false) :
    Boots (if s.pwr.resetClass = 0 then s.pwr.strapEcho else s.pwr.straps) s.pwr.xoValid (release s) ∧
    (release s).pwr.rstHeldMs = s.pwr.rstHeldMs := by
  have out : Within 0xa04481fe1f5fa08 s (release s) := by simp
  have begun : Within 0x4481c0001d200 (sampled s) (bootShown (sampled s)) := by simp [bootShown]
  have loads : Within 0xa044003e0d04208 (bootShown (sampled s)) (bootLoaded (bootReady (bootShown (sampled s)))) := by
    simp [bootLoaded, bootReady]
  have goes (u : State) : Within 0x4400001b5ea00 u (bootGoesOn u) := by simp
  obtain ⟨mode, prio, latches⟩ := bootShown_spec (s := sampled s) hr rfl
  obtain ⟨booting, wait, -⟩ := (((begun.mono (n := 0xa04481fe0d1d208) rfl).trans (loads.mono rfl)).boot_eq rfl)
  obtain ⟨modeL, -⟩ := loads.mode_eq rfl
  have latchesL : (bootLoaded (bootReady (bootShown (sampled s)))).pwr.latches = (sampled s).pwr.latches := by
    have log (u : State) : (bootReady u).pwr.latches = (strapBypass u).pwr.latches := Within.latches_eq (ps := 0x204000200000000) (by simp [bootReady]) rfl
    rw [bootLoaded_latches, log, strapBypass_latches, latches]
  have xo := PowerUnit.xoValid_eq latchesL
  rw [release_eq] at out ⊢
  obtain ⟨latchesG, waitG⟩ := bootGoesOn_spec (bootLoaded (bootReady (bootShown (sampled s))))
  have all := latchesG.trans latchesL
  refine ⟨⟨(out.inReset_eq rfl).trans hr, PowerUnit.strapEcho_eq all, ?_, ?_, fun h => ?_⟩, (PowerUnit.rstHeldMs_eq all).trans rfl⟩
  · exact ((goes _) .prioMp rfl).trans ((loads .prioMp rfl).trans prio)
  · rw [waitG booting, wait, xo]
    rfl
  · have stays : bootGoesOn (bootLoaded (bootReady (bootShown (sampled s)))) = bootLoaded (bootReady (bootShown (sampled s))) :=
      if_neg (by simp [xo, show (sampled s).pwr.xoValid = false from h])
    rw [stays]
    exact ⟨booting, modeL.trans mode⟩

/-! ## The sources end (R120, R134, R147) -/

/-- The reset sources that hold the device still, once those named have ended. -/
def heldAfter (held : Nat) (bits : List Nat) : Nat := bits.foldl (fun k b => if bitOf k b then k - 2 ^ b else k) held

/-- With the last source gone and no page program to wait for, the device boots. -/
theorem endReset_boots {s : State} {bits : List Nat} (straps : BitVec 4) (hh : s.pwr.resetHeld ≠ 0) (hl : heldAfter s.pwr.resetHeld bits = 0)
    (hw : s.pwr.resetWaits = false) :
    Boots (if s.pwr.resetClass = 0 then s.pwr.strapEcho else straps.toNat) s.pwr.xoValid (endReset s bits straps) ∧
    (endReset s bits straps).pwr.rstHeldMs = s.pwr.rstHeldMs := by
  have was : s.inReset = true := by simp [State.inReset, hh]
  unfold endReset
  extract_lets held ended
  have out : ended.inReset = false := by
    have gone : ended.pwr.resetHeld = 0 := hl
    have waits : ended.pwr.resetWaits = false := hw
    simp [State.inReset, gone, waits]
  rw [show held = true from was, if_pos rfl, tryRelease, out, if_neg Bool.false_ne_true]
  exact release_boots out

/-- Settles O2: each row ends its sources, and what held the device was these alone. -/
theorem releaseStartsBoot : Obligations.ReleaseStartsBoot := by
  unfold Obligations.ReleaseStartsBoot
  refine ⟨fun s straps hh hw hc => ?_, fun s up33 up09 straps hh hs hw hc => ?_, fun s ms straps hh hw hc => ?_, fun s hh hw hc => ?_⟩
  · have last : s.pwr.resetHeld ≠ 0 ∧ heldAfter s.pwr.resetHeld [0, 1, 2] = 0 := by
      simp only [List.mem_cons, List.not_mem_nil, or_false] at hh
      obtain h | h | h | h := hh <;> rw [h] <;> decide
    obtain ⟨boots, -⟩ := endReset_boots (s := s.onPwr fun p => { p with bor33 := false }) straps last.1 last.2 hw
    exact ⟨_, rfl, by simpa [hc] using boots⟩
  · have last : heldAfter s.pwr.resetHeld ((if up33 then [1] else []) ++ if up09 then [2] else []) = 0 := by
      rw [hs]
      cases up33 <;> cases up09 <;> decide
    obtain ⟨boots, -⟩ := endReset_boots (s := s.onPwr fun p => { p with bor33 := p.bor33 && !up33, bor09 := p.bor09 && !up09 }) straps hh last hw
    exact ⟨_, rfl, by simpa [hc] using boots⟩
  · obtain ⟨boots, ms'⟩ := endReset_boots (bits := [3]) (s := s.onPwr fun p => { p with
      rstHeldMs := min 65535 ms, rstLong := p.rstLong || decide (1000 < ms) }) straps (by simp [hh]) (by rw [hh]; decide) hw
    refine ⟨_, congrArg Host.Outcome.next (if_pos (by rw [hh]; decide)), by simpa [hc] using boots, ms'⟩
  · obtain ⟨boots, -⟩ := endReset_boots (bits := [4]) (s := s) (BitVec.ofNat 4 s.pwr.straps) (by simp [hh]) (by rw [hh]; decide) hw
    refine ⟨_, congrArg Host.Outcome.next (if_pos (by rw [hh]; decide)), by simpa [hc] using boots⟩

end Sys2Proof.Machine
end

section
/-! PROOFS. The NVM work of the device itself (O49). -/

namespace Sys2Proof.Machine

/-! ## The octets of the NVM after an erase and a program (R138, R783) -/

theorem sget_filter_keys {α : Type} (d : α) (p : Nat → Bool) (l : List (Nat × α)) (a : Nat) :
    sget d (l.filter fun c => p c.1) a = if p a then sget d l a else d := by
  induction l with
  | nil => simp [sget]
  | cons c xs ih =>
    obtain ⟨k, v⟩ := c
    rw [List.filter_cons]
    by_cases hk : k = a
    · subst hk
      cases hp : p k <;> simp [hp, sget, ih]
    · cases hp : p k <;> simp [sget, hk, ih]

theorem nvmOctet_erase (s : State) (sector a : Nat) : nvmOctet (nvmErase s sector) a =
    if 4096 * sector ≤ a ∧ a < 4096 * sector + 4096 then 0xFF else nvmOctet s a := by
  have e := sget_filter_keys (0xFF : Byte) (fun k => !(decide (4096 * sector ≤ k) && decide (k < 4096 * sector + 4096))) s.nvm.mem a
  refine e.trans ?_
  by_cases h : 4096 * sector ≤ a ∧ a < 4096 * sector + 4096
  · simp [h]
  · have outside : (!(decide (4096 * sector ≤ a) && decide (a < 4096 * sector + 4096))) = true := by
      rw [← Bool.decide_and, decide_eq_false h]
      rfl
    rw [if_neg h, if_pos outside]
    rfl

theorem nvmErase_wf {s : State} (h : swfFrom (fun _ => (0xFF : Byte)) 0 s.nvm.mem = true) (sector : Nat) :
    swfFrom (fun _ => (0xFF : Byte)) 0 (nvmErase s sector).nvm.mem = true :=
  swf_filter _ _ _ h

/-- Octets put one after another into a canonical store are found there, and nothing else changes. -/
theorem sget_programmed (bs : List Byte) {m : List (Nat × Byte)} (hm : swfFrom (fun _ => (0xFF : Byte)) 0 m = true) (a x : Nat) :
    sget 0xFF ((bs.mapIdx fun i b => (a + i, b)).foldl (fun m p => sput 0xFF p.2 p.1 m) m) x =
      if a ≤ x ∧ x < a + bs.length then bs.getD (x - a) 0 else sget 0xFF m x := by
  induction bs generalizing a m with
  | nil => simp [show ¬(a ≤ x ∧ x < a) by omega]
  | cons b bs ih =>
    have next : (fun i (c : Byte) => (a + (i + 1), c)) = fun i c => (a + 1 + i, c) := by
      funext i c
      rw [Nat.add_right_comm, Nat.add_assoc]
    rw [List.mapIdx_cons, List.foldl_cons, next, ih (swf_sput (fun _ => 0xFF) b m (Nat.zero_le _) hm), List.length_cons]
    rw [show ((a + 0, b) : Nat × Byte) = (a, b) from rfl]
    by_cases hx : x = a
    · subst hx
      rw [if_neg (by omega), if_pos (by omega), Nat.sub_self]
      exact sget_sput_same (fun _ => 0xFF) b x 0 m hm
    · rw [sget_sput_other _ _ _ (fun h => hx h.symm)]
      by_cases hin : a ≤ x ∧ x < a + (bs.length + 1)
      · rw [if_pos (by omega), if_pos hin, show x - a = x - (a + 1) + 1 by omega]
        rfl
      · rw [if_neg (by omega), if_neg hin]

theorem nvmOctet_program {s : State} (h : swfFrom (fun _ => (0xFF : Byte)) 0 s.nvm.mem = true) (a : Nat) (bs : List Byte) (x : Nat) :
    nvmOctet (nvmProgram s a bs) x = if a ≤ x ∧ x < a + bs.length then bs.getD (x - a) 0 else nvmOctet s x :=
  sget_programmed bs h a x

theorem octetsLE_length (k n : Nat) : (octetsLE k n).length = k := by simp [octetsLE]

theorem logOctets_length (seq : Nat) (r : LogRec) : (logOctets seq r).length = 32 := by simp [logOctets, octetsLE_length]

/-! ## LOG_RECORD_PROGRAM (R593, R595) -/

/-- The NVM with a record in slot `n` of the ring, whose sector is erased first where the slot begins it. -/
def recordPut (s : State) (n : Nat) (bs : List Byte) : State :=
  nvmProgram (if n % 128 = 0 then nvmErase s (12 + n / 128) else s) (0xC000 + 32 * n) bs

theorem recordPut_octet {s : State} (h : swfFrom (fun _ => (0xFF : Byte)) 0 s.nvm.mem = true) (n : Nat) {bs : List Byte} (hl : bs.length = 32)
    (x : Nat) : nvmOctet (recordPut s n bs) x =
      if 0xC000 + 32 * n ≤ x ∧ x < 0xC000 + 32 * n + 32 then bs.getD (x - (0xC000 + 32 * n)) 0
      else if n % 128 = 0 ∧ 0xC000 + 32 * n ≤ x ∧ x < 0xC000 + 32 * n + 4096 then 0xFF else nvmOctet s x := by
  unfold recordPut
  split
  · rename_i first
    have sector : 4096 * (12 + n / 128) = 0xC000 + 32 * n := by omega
    rw [nvmOctet_program (nvmErase_wf h _), hl, nvmOctet_erase, sector]
    simp only [first, true_and]
  · rename_i inside
    rw [nvmOctet_program h, hl, if_neg (c := n % 128 = 0 ∧ _) fun first => inside first.1]

theorem logRecordProgram_record {s : State} {vddOk : Bool} {r : LogRec} {rest : List LogRec} (hb : s.log.buf = r :: rest)
    (hs : s.served = true) (hm : nvmMay s vddOk = true) (hn : s.nvm.busy = none) (hsh : s.pwr.shut = .none) :
    logRecordProgram s vddOk = (recordPut s s.log.slot (logOctets s.log.nextSeq r)).onLog fun l => { l with
      buf := rest, nextSeq := (l.nextSeq + 1) % 2 ^ 32, slot := (s.log.slot + 1) % 512 } := by
  simp only [State.served, Bool.and_eq_true, Bool.not_eq_true'] at hs
  unfold logRecordProgram
  rw [hb]
  dsimp only
  rw [if_neg (by simp [hs, hm, hn])]
  have seq : (if s.log.slot % 128 = 0 then nvmErase s (12 + s.log.slot / 128) else s).log.nextSeq = s.log.nextSeq := by
    split <;> rfl
  rw [seq]
  refine shutdownStep_none ?_
  have kept : Within 0x10000000000000 s (recordPut s s.log.slot (logOctets s.log.nextSeq r)) := by simp [recordPut]
  obtain ⟨-, -, -, shut⟩ := kept.boot_eq rfl
  exact shut.trans hsh

/-! ## PAGE_PROGRAM_END (R144, R630) -/

/-- The state as the page program or OTP cycle leaves it; with no operation running, as it was. -/
theorem programEnd_waits {s : State} (hw : s.pwr.resetWaits = true) : ∃ u, Within 0x40000000000000 s u ∧ (s.runningOp = none → u = s) ∧
    programEnd s = tryRelease (applyWarm (u.onPwr fun p => { p with resetWaits := false })) := by
  unfold programEnd
  rw [hw, Bool.not_true, if_neg Bool.false_ne_true]
  split
  · rename_i o ho
    exact ⟨_, by simp, fun h => absurd (ho.symm.trans h) (by simp), rfl⟩
  · exact ⟨s, .refl _ s, fun _ => rfl, rfl⟩

/-- A reset that is applied waits for nothing, and keeps the NVM and the fuses (R123). -/
theorem applyWarm_spec (s : State) : (applyWarm s).pwr.resetWaits = false ∧ (applyWarm s).nvm.busy = none ∧
    (applyWarm s).nvm.mem = s.nvm.mem ∧ (applyWarm s).otp = s.otp := by
  have strap (u : State) : (strapBypass u).pwr.resetWaits = u.pwr.resetWaits ∧ (strapBypass u).nvm = u.nvm ∧ (strapBypass u).otp = u.otp := by
    unfold strapBypass out0Bypass
    split
    · exact ⟨rfl, rfl, rfl⟩
    split <;> exact ⟨rfl, rfl, rfl⟩
  unfold applyWarm
  extract_lets b t p cls
  obtain ⟨waits, nvm, otp⟩ := strap _
  rw [waits, nvm, otp]
  exact ⟨rfl, rfl, rfl, rfl⟩

theorem programEnd_spec {s : State} (hw : s.pwr.resetWaits = true) : (programEnd s).pwr.resetWaits = false ∧ (programEnd s).nvm.busy = none ∧
    (programEnd s).nvm.mem = s.nvm.mem ∧ (s.runningOp = none → (programEnd s).otp = s.otp) := by
  obtain ⟨u, burned, idle, e⟩ := programEnd_waits hw
  rw [e]
  obtain ⟨waits, busy, mem, otp⟩ := applyWarm_spec (u.onPwr fun p => { p with resetWaits := false })
  have out : Within 0xa04481fe1f5fa08 (applyWarm (u.onPwr fun p => { p with resetWaits := false }))
      (tryRelease (applyWarm (u.onPwr fun p => { p with resetWaits := false }))) := by simp
  have hold := out .hold rfl
  simp only [Part.same, Prod.mk.injEq] at hold
  obtain ⟨-, -, -, waits'⟩ := hold
  exact ⟨waits'.trans waits, (out .nvmBusy rfl).trans busy, (out .nvm rfl).trans (mem.trans (burned .nvm rfl)),
    fun h => (out .otp rfl).trans (otp.trans (congrArg (·.otp) (idle h)))⟩

/-! ## The device's own model saves (R284, R286) -/

theorem queueSave_room {s : State} (hq : s.opq.length < 4) (seq : Nat) :
    ∃ o, (queueSave s seq).opq = s.opq ++ [o] ∧ o.code = 0x03 ∧ o.issuer = none := by
  obtain ⟨opq, -⟩ := enqueueOp_adds s none 0x03 0 0 seq
  exact ⟨issuedOp s none 0x03 0 0 seq, by rw [queueSave, if_pos hq, opq], rfl, rfl⟩

theorem modelSaveDue_queues {s : State} (hs : s.served = true) (hn : s.pwr.shut = .none) (hd : saveDue s = true) (hq : saveQueued s = false) :
    modelSaveDue s = queueSave s 2 := by
  simp [modelSaveDue, hs, hn, hd, hq]

theorem modelSaveRetry_queues {s : State} {a : Nat} (hs : s.served = true) (hn : s.pwr.shut = .none) (hr : s.model.retryAt = some a)
    (ha : a ≤ s.model.xoAge) (hq : saveQueued s = false) (hl : s.opq.length < 4) :
    modelSaveRetry s = queueSave (s.onModel fun m => { m with retryAt := none }) 1 := by
  simp [modelSaveRetry, hs, hn, hr, ha, hq, hl]

/-- Settles O49: a save joins the queue, a record is put into its slot, and the reset that waited is applied. -/
theorem nvmWorkOfTheDevice : Obligations.NvmWorkOfTheDevice := by
  unfold Obligations.NvmWorkOfTheDevice
  refine ⟨fun s hs hn hd hq hl => ⟨_, rfl, ?_⟩, fun s a hs hn hr ha hq hl => ⟨_, rfl, ?_⟩, fun s vddOk r rest inv hb hs hm hn hsh => ⟨_, rfl, ?_⟩,
    fun s hw => ⟨_, rfl, programEnd_spec hw⟩, fun s hw => ⟨_, rfl, ?_⟩⟩
  · rw [modelSaveDue_queues hs hn hd hq]
    exact queueSave_room hl 2
  · rw [modelSaveRetry_queues hs hn hr ha hq hl]
    have kept : Within 0x4680c00004200 (s.onModel fun m => { m with retryAt := none })
        (queueSave (s.onModel fun m => { m with retryAt := none }) 1) := by simp
    exact ⟨congrArg (·.retryAt) (kept .model rfl), queueSave_room (s := s.onModel fun m => { m with retryAt := none }) hl 1⟩
  · rw [logRecordProgram_record hb hs hm hn hsh]
    have octet (x : Nat) := recordPut_octet inv.nvm s.log.slot (logOctets_length s.log.nextSeq r) x
    have log : (recordPut s s.log.slot (logOctets s.log.nextSeq r)).log = s.log :=
      (show Within 0x10000000000000 s _ by simp [recordPut]) .log rfl
    generalize recordPut s s.log.slot (logOctets s.log.nextSeq r) = u at octet log ⊢
    refine ⟨rfl, by simp [log], rfl, fun i hi => ?_, fun a ha => ?_⟩
    · refine (octet _).trans ?_
      rw [if_pos (by omega), Nat.add_sub_cancel_left]
    · exact (octet a).trans (if_neg (by omega))
  · simp [programEnd, hw]

end Sys2Proof.Machine
end


section
/-! PROOFS. What the safety supervisor keeps while its groups move, and the states of the groups (for O38). -/

namespace Sys2Proof.Machine

/-! ## The latches of the supervisor: the running clear with its groups, the readback faults and the kill latch -/

def Safety.latches (f : Safety) : Bool × Nat × Nat × Bool := (f.clearing, f.clearOk, f.stoFault, f.kill)

@[simp] theorem onChan_safetyLatches (s : State) (c : Chan) (f : SafeChan → SafeChan) : (s.onChan c f).safe.latches = s.safe.latches := by
  cases c <;> rfl

@[simp] theorem raiseIf_safetyLatches (b : Bool) (s : State) (e unit cause : Nat) :
    (raiseIf b s e unit cause).safe.latches = s.safe.latches := congrArg Safety.latches (raiseIf_safe b s e unit cause)

@[simp] theorem noteNear_safetyLatches (b : Bool) (s : State) : (noteNear b s).safe.latches = s.safe.latches := by
  unfold noteNear
  split <;> rfl

@[simp] theorem noteCombined_safetyLatches (s : State) (n : Nat) (was : SafeState) (why : Nat) :
    (noteCombined s n was why).safe.latches = s.safe.latches := by
  unfold noteCombined
  dsimp only
  split
  · rfl
  · have raised := congrArg Safety.latches (raiseAt_safe s (ev 6 0) n (s.grpState n).code)
    simp only [raiseIf_safetyLatches]
    split
    · exact raised
    · exact raised

@[simp] theorem observe_safetyLatches (s : State) (c : Chan) (n : Nat) (entry : Bool) : (observe s c n entry).safe.latches = s.safe.latches := by
  unfold observe
  dsimp only
  split <;> simp

@[simp] theorem moveGroup_safetyLatches (s : State) (c : Chan) (n : Nat) (st : SafeState) (why : Nat) :
    (moveGroup s c n st why).safe.latches = s.safe.latches := by
  unfold moveGroup
  dsimp only
  split <;> simp

@[simp] theorem beginStop_safetyLatches (s : State) (c : Chan) (n : Nat) (fn : StopFn) (why : Nat) :
    (beginStop s c n fn why).safe.latches = s.safe.latches := by
  unfold beginStop
  simp

@[simp] theorem judgeStop_safetyLatches (s : State) (c : Chan) (n : Nat) : (judgeStop s c n).safe.latches = s.safe.latches := by
  unfold judgeStop
  dsimp only
  split <;> simp

@[simp] theorem stepUp_safetyLatches (s : State) (c : Chan) (n rq : Nat) (target : SafeState) :
    (stepUp s c n rq target).safe.latches = s.safe.latches := by
  unfold stepUp
  split <;> simp

@[simp] theorem follow_safetyLatches (s : State) (c : Chan) (n : Nat) (st : SafeState) : (follow s c n st).safe.latches = s.safe.latches := by
  unfold follow
  dsimp only
  split <;> simp

@[simp] theorem inSafeOff_safetyLatches (s : State) (c : Chan) (n causes : Nat) : (inSafeOff s c n causes).safe.latches = s.safe.latches := by
  unfold inSafeOff
  dsimp only
  split <;> simp

@[simp] theorem inReady_safetyLatches (s : State) (c : Chan) (n causes : Nat) : (inReady s c n causes).safe.latches = s.safe.latches := by
  unfold inReady
  dsimp only
  repeat' split
  all_goals simp

@[simp] theorem inEnergy_safetyLatches (s : State) (c : Chan) (n causes : Nat) : (inEnergy s c n causes).safe.latches = s.safe.latches := by
  unfold inEnergy
  extract_lets m fn group sto g expired first
  repeat' split
  all_goals simp

@[simp] theorem inStopping_safetyLatches (s : State) (c : Chan) (n : Nat) : (inStopping s c n).safe.latches = s.safe.latches := by
  unfold inStopping
  dsimp only
  split <;> simp

@[simp] theorem evalGroup_safetyLatches (s : State) (c : Chan) (n : Nat) : (evalGroup s c n).safe.latches = s.safe.latches := by
  unfold evalGroup
  extract_lets g causes lock also
  repeat' split
  all_goals simp

theorem evaluateGroups_safetyLatches (s : State) : (evaluateGroups s).safe.latches = s.safe.latches := by
  rw [evaluateGroups_eq]
  refine forN_keeps (P := fun t : State => t.safe.latches = s.safe.latches) (fun n t _ h => ?_) rfl
  unfold evaluateRound
  split <;> simp [h]

/-! ## A channel's self-test -/

theorem selftestOk_of_bare {x y : SafeChan} (h : x.bare = y.bare) : x.selftestOk = y.selftestOk :=
  (congrArg SafeChan.selftestOk h : x.bare.selftestOk = y.bare.selftestOk)

theorem GroupOnly.selftestOk {c : Chan} {n : Nat} {s t : State} (h : GroupOnly c n s t) (k : Chan) :
    (t.chan k).selftestOk = (s.chan k).selftestOk := by
  have hk : k = c ∨ k = otherChan c := by cases k <;> cases c <;> decide
  obtain rfl | rfl := hk
  · exact selftestOk_of_bare h.chan
  · rw [h.other]

/-! ## The combined state of a group (R436, R437) -/

theorem grpArch_congr {s t : State} (hi : t.image = s.image) (n : Nat) : t.grpArch n = s.grpArch n := by
  have hi : t.safe.par = s.safe.par := hi
  simp only [State.grpArch, State.par, hi]

/-- The combined state rests on the image, on whether a record is loaded, and on the two states of the group. -/
theorem grpState_congr {s t : State} {n : Nat} (hi : t.image = s.image) (hp : t.safe.hasPar = s.safe.hasPar)
    (hst : ∀ c, (vat (t.chan c).grps n).st = (vat (s.chan c).grps n).st) : t.grpState n = s.grpState n := by
  unfold State.grpState State.stP State.stH
  rw [grpUsed_congr hi hp, grpArch_congr hi, show (vat t.safe.p.grps n).st = _ from hst .p, show (vat t.safe.h.grps n).st = _ from hst .h]
  rfl

theorem grpState_of_both {s : State} {n : Nat} {st : SafeState} (hu : s.grpUsed n = true) (h : ∀ c, (vat (s.chan c).grps n).st = st) :
    s.grpState n = st := by
  unfold State.grpState State.stP State.stH
  rw [hu, Bool.not_true, if_neg Bool.false_ne_true, show (vat s.safe.p.grps n).st = st from h .p, show (vat s.safe.h.grps n).st = st from h .h]
  unfold SafeState.combine
  split
  · rfl
  · rw [if_pos (Nat.le_refl _)]

theorem grpUsed_of_lockout {s : State} {n : Nat} (h : s.grpState n = .lockout) : s.grpUsed n = true := by
  cases hu : s.grpUsed n with
  | true => rfl
  | false => simp [State.grpState, hu] at h

/-- A cause is latched on group `n` unless it is UNUSED, in both channels. -/
def latchGroup (code n : Nat) (s : State) : State :=
  if !s.grpUsed n then s else
  (s.onGrp .p n fun g => { g with latched := setBit g.latched code }).onGrp .h n fun g => { g with latched := setBit g.latched code }

theorem latchAll_eq (s : State) (code : Nat) : latchAll s code = forN 4 (latchGroup code) s := rfl

@[simp] theorem latchGroup_safetyLatches (s : State) (code n : Nat) : (latchGroup code n s).safe.latches = s.safe.latches := by
  unfold latchGroup
  split <;> simp

/-! ## Steps that move no group -/

/-- State `t` has the image, the groups' states and the self-tests of `s`. -/
structure StatesKept (s t : State) : Prop where
  image : t.image = s.image
  hasPar : t.safe.hasPar = s.safe.hasPar
  st : ∀ c n, (vat (t.chan c).grps n).st = (vat (s.chan c).grps n).st
  selftest : ∀ c, (t.chan c).selftestOk = (s.chan c).selftestOk

section
variable {s t u : State}

theorem StatesKept.refl (s : State) : StatesKept s s := ⟨rfl, rfl, fun _ _ => rfl, fun _ => rfl⟩

theorem StatesKept.trans (h : StatesKept s t) (k : StatesKept t u) : StatesKept s u :=
  ⟨k.image.trans h.image, k.hasPar.trans h.hasPar, fun c n => (k.st c n).trans (h.st c n), fun c => (k.selftest c).trans (h.selftest c)⟩

theorem StatesKept.grpState (h : StatesKept s t) (n : Nat) : t.grpState n = s.grpState n :=
  grpState_congr h.image h.hasPar fun c => h.st c n

theorem StatesKept.grpUsed (h : StatesKept s t) (n : Nat) : t.grpUsed n = s.grpUsed n := grpUsed_congr h.image h.hasPar n

theorem StatesKept.of_safe (h : t.safe = s.safe) : StatesKept s t :=
  ⟨congrArg Safety.par h, congrArg Safety.hasPar h, fun c _ => by rw [State.chan_congr h c], fun c => by rw [State.chan_congr h c]⟩

theorem StatesKept.raiseIf (s : State) (b : Bool) (e unit cause : Nat) : StatesKept s (raiseIf b s e unit cause) :=
  .of_safe (raiseIf_safe b s e unit cause)

/-- A change of one channel that keeps its groups' states and its self-test. -/
theorem StatesKept.onChan (s : State) (c : Chan) {f : SafeChan → SafeChan} (hst : ∀ x n, (vat (f x).grps n).st = (vat x.grps n).st)
    (hok : ∀ x, (f x).selftestOk = x.selftestOk) : StatesKept s (s.onChan c f) := by
  have same (k : Chan) : (s.onChan c f).chan k = f (s.chan k) ∨ (s.onChan c f).chan k = s.chan k := by cases c <;> cases k <;> simp [State.onChan, State.chan]
  refine ⟨by cases c <;> rfl, by cases c <;> rfl, fun k n => ?_, fun k => ?_⟩
  · obtain h | h := same k
    · rw [h, hst]
    · rw [h]
  · obtain h | h := same k
    · rw [h, hok]
    · rw [h]

theorem StatesKept.onGrp (s : State) (c : Chan) (n : Nat) {f : ChanGroup → ChanGroup} (hf : ∀ g, (f g).st = g.st) :
    StatesKept s (s.onGrp c n f) := by
  refine .onChan s c (fun x k => ?_) fun _ => rfl
  dsimp only
  rw [vat_vupd]
  split
  · exact hf _
  · rfl

theorem StatesKept.onBoth (h : StatesKept s t) (n : Nat) {f : ChanGroup → ChanGroup} (hf : ∀ g, (f g).st = g.st) :
    StatesKept s ((t.onGrp .p n f).onGrp .h n f) := (h.trans (.onGrp t .p n hf)).trans (.onGrp _ .h n hf)

theorem StatesKept.latchGroup (s : State) (code n : Nat) : StatesKept s (latchGroup code n s) := by
  unfold Machine.latchGroup
  split
  · exact .refl s
  · refine (StatesKept.refl s).onBoth n ?_
    exact fun _ => rfl

theorem StatesKept.latchAll (s : State) (code : Nat) : StatesKept s (latchAll s code) := by
  rw [latchAll_eq]
  exact forN_keeps (P := StatesKept s) (fun n t _ h => h.trans (.latchGroup t code n)) (.refl s)

theorem StatesKept.dropCauses (s : State) (k : Nat) : StatesKept s (dropCauses s k) := by
  refine forN_keeps (P := StatesKept s) (fun n t _ h => ?_) (.refl s)
  refine h.onBoth n ?_
  exact fun _ => rfl

theorem StatesKept.encClear (s : State) : StatesKept s (encClear s) := by
  unfold Machine.encClear
  refine StatesKept.trans (StatesKept.onChan s .p ?_ ?_) (StatesKept.onChan _ .h ?_ ?_)
  · exact fun _ _ => rfl
  · exact fun _ => rfl
  · exact fun _ _ => rfl
  · exact fun _ => rfl

end

@[simp] theorem latchAll_safetyLatches (s : State) (code : Nat) : (latchAll s code).safe.latches = s.safe.latches := by
  rw [latchAll_eq]
  exact forN_keeps (P := fun t : State => t.safe.latches = s.safe.latches) (fun n t _ h => by simp [h]) rfl

@[simp] theorem dropCauses_safetyLatches (s : State) (k : Nat) : (dropCauses s k).safe.latches = s.safe.latches :=
  forN_keeps (P := fun t : State => t.safe.latches = s.safe.latches) (fun n t _ h => by simp [h]) rfl

@[simp] theorem encClear_safetyLatches (s : State) : (encClear s).safe.latches = s.safe.latches := by simp [encClear]

theorem latchGroup_latched (s : State) (code k n : Nat) : bitOf (vat (latchGroup code k s).safe.h.grps n).latched code =
    (bitOf (vat s.safe.h.grps n).latched code || (s.grpUsed k && decide (k = n ∧ n < 4))) := by
  unfold latchGroup
  cases s.grpUsed k with
  | false => simp
  | true =>
    rw [Bool.not_true, if_neg Bool.false_ne_true, Bool.true_and]
    dsimp only [State.onGrp, State.onChan]
    rw [vat_vupd]
    split
    · simp [setBit, bitOf, *]
    · simp [*]

/-- A cause that is latched on all groups is latched on each group that is used. -/
theorem latchAll_latched (s : State) (code : Nat) {n : Nat} (hn : n < 4) (hu : s.grpUsed n = true) :
    bitOf (vat (latchAll s code).safe.h.grps n).latched code = true := by
  rw [latchAll_eq]
  refine forN_reaches (s := s) (Q := fun t : State => t.grpUsed n = true) (L := fun t : State => bitOf (vat t.safe.h.grps n).latched code = true)
    hn (fun k t _ h => ((StatesKept.latchGroup t code k).grpUsed n).trans h) (fun t h => ?_) (fun k t _ h => ?_) hu
  · simp [latchGroup_latched, h, hn]
  · simp [latchGroup_latched, h]

/-! ## Groups that leave LOCKOUT (R457) -/

@[simp] theorem raiseIf_chan (b : Bool) (s : State) (e unit cause : Nat) (c : Chan) : (raiseIf b s e unit cause).chan c = s.chan c :=
  State.chan_congr (raiseIf_safe b s e unit cause) c

@[simp] theorem noteNear_chan (b : Bool) (s : State) (c : Chan) : (noteNear b s).chan c = s.chan c := by
  unfold noteNear
  split
  · cases c <;> rfl
  · rfl

@[simp] theorem noteCombined_chan (s : State) (n : Nat) (was : SafeState) (why : Nat) (c : Chan) :
    (noteCombined s n was why).chan c = s.chan c := by
  have h : Within (Part.mask (Part.allBut [.chanP, .chanH])) s (noteCombined s n was why) := by simp [Part.bit]
  cases c
  · exact h.same_of_not_mem (p := .chanP) (by simp [Part.allBut])
  · exact h.same_of_not_mem (p := .chanH) (by simp [Part.allBut])

/-- Observing the inputs of a group moves no group. -/
theorem observe_st (s : State) (c : Chan) (n : Nat) (entry : Bool) (k : Nat) :
    (vat ((observe s c n entry).chan c).grps k).st = (vat (s.chan c).grps k).st := by
  unfold observe
  extract_lets m g was step g'
  have seen : g'.st = g.st := by
    refine List.foldlRecOn (motive := fun x : ChanGroup => x.st = g.st) _ step rfl fun x hx i _ => ?_
    simp only [step]
    split <;> split <;> exact hx
  split
  · rfl
  · rw [raiseIf_chan, State.chan_onChan]
    dsimp only
    rw [vat_vupd]
    split
    · rename_i h
      rw [← h.1]
      exact seen
    · rfl

/-- Taking a group into STARTUP_PENDING leaves it there. -/
theorem moveGroup_pending (s : State) (c : Chan) {n : Nat} (hn : n < 4) (why : Nat) :
    (vat ((moveGroup s c n .startupPending why).chan c).grps n).st = .startupPending := by
  unfold moveGroup
  dsimp only
  rw [noteCombined_chan, raiseIf_chan, if_pos rfl, observe_st, noteNear_chan, State.chan_onChan, vat_vupd_same _ _ hn]
  rfl

/-- State `t` follows from `s` where some groups have left LOCKOUT: the groups in `l` are in STARTUP_PENDING, the others as they were, and
so are the self-tests and the latches. -/
structure Cleared (l : List Nat) (s t : State) : Prop where
  used : ∀ k, t.grpUsed k = s.grpUsed k
  pending : ∀ k, k ∈ l → t.grpState k = .startupPending
  others : ∀ k, k ∉ l → t.grpState k = s.grpState k
  selftest : ∀ c, (t.chan c).selftestOk = (s.chan c).selftestOk
  latches : t.safe.latches = s.safe.latches

theorem clearGroup_cleared {s : State} {n : Nat} (hn : n < 4) (hu : s.grpUsed n = true) : Cleared [n] s (clearGroup s n) := by
  unfold clearGroup
  have h := (GroupOnly.refl .h n s).moveGroup .startupPending 0
  have ht := moveGroup_pending s .h hn 0
  have hl := moveGroup_safetyLatches s .h n .startupPending 0
  generalize moveGroup s .h n .startupPending 0 = t at h ht hl
  have p := (GroupOnly.refl .p n t).moveGroup .startupPending 0
  have hh : (moveGroup t .p n .startupPending 0).chan .h = t.chan .h := p.other
  have hp : t.chan .p = s.chan .p := h.other
  refine ⟨fun k => (p.grpUsed k).trans (h.grpUsed k), fun k hk => ?_, fun k hk => ?_, fun c => (p.selftestOk c).trans (h.selftestOk c),
    (moveGroup_safetyLatches t .p n .startupPending 0).trans hl⟩
  · obtain rfl := List.mem_singleton.mp hk
    refine grpState_of_both (((p.grpUsed k).trans (h.grpUsed k)).trans hu) fun c => ?_
    cases c
    · exact moveGroup_pending t .p hn 0
    · rw [hh]
      exact ht
  · have hk : k ≠ n := fun e => hk (List.mem_singleton.mpr e)
    refine grpState_congr (p.image.trans h.image) (p.hasPar.trans h.hasPar) fun c => congrArg ChanGroup.st ?_
    cases c
    · rw [p.grps k hk, hp]
    · rw [hh, h.grps k hk]

theorem Cleared.cons {n : Nat} {l : List Nat} {s t u : State} (one : Cleared [n] s t) (rest : Cleared l t u) : Cleared (n :: l) s u := by
  refine ⟨fun k => (rest.used k).trans (one.used k), fun k hk => ?_, fun k hk => ?_, fun c => (rest.selftest c).trans (one.selftest c),
    rest.latches.trans one.latches⟩
  · by_cases h : k ∈ l
    · exact rest.pending k h
    · have e : k = n := (List.mem_cons.mp hk).resolve_right h
      exact (rest.others k h).trans (one.pending k (List.mem_singleton.mpr e))
  · obtain ⟨hn, hl⟩ := not_or.mp fun h => hk (List.mem_cons.mpr h)
    exact (rest.others k hl).trans (one.others k fun h => hn (List.mem_singleton.mp h))

theorem clearGroups_cleared {l : List Nat} {s : State} (hl : ∀ n ∈ l, n < 4 ∧ s.grpUsed n = true) : Cleared l s (l.foldl clearGroup s) := by
  induction l generalizing s with
  | nil => exact ⟨fun _ => rfl, fun _ h => absurd h (List.not_mem_nil), fun _ _ => rfl, fun _ => rfl, rfl⟩
  | cons n l ih =>
    obtain ⟨hn, hu⟩ := hl n List.mem_cons_self
    have one := clearGroup_cleared hn hu
    have rest : ∀ k ∈ l, k < 4 ∧ (clearGroup s n).grpUsed k = true := fun k hk => by
      obtain ⟨hk, hused⟩ := hl k (List.mem_cons_of_mem n hk)
      exact ⟨hk, (one.used k).trans hused⟩
    rw [List.foldl_cons]
    exact one.cons (ih rest)

end Sys2Proof.Machine
end


section
/-! PROOFS. SRST_N pulses and the end of the self-tests (for O38). -/

namespace Sys2Proof.Machine

theorem StatesKept.lockout {s t : State} (h : StatesKept s t) : t.lockout = s.lockout := by
  unfold State.lockout
  simp only [h.grpUsed, h.grpState]

/-- Whether channel P runs rests on CORE, the tick, the debug halt, reset and BOOT (R434, R635). -/
theorem Within.pRuns_eq {ps : Nat} {s t : State} (h : Within ps s t)
    (hp : ∀ p ∈ [Part.domains, .tick, .sec, .hold, .boot], ps.testBit p.bit = false) : t.pRuns = s.pRuns := by
  have tick := h .tick (hp _ (by decide))
  have halt : t.sec.haltP = s.sec.haltP := congrArg (·.haltP) (h .sec (hp _ (by decide)))
  simp only [Part.same, Prod.mk.injEq] at tick
  unfold State.pRuns
  rw [h.coreOn_eq (hp _ (by decide)), h.inReset_eq (hp _ (by decide)), h.booting_eq (hp _ (by decide))]
  simp [tick, halt]

/-! ## Pulses on SRST_N (R153, R457, R495, R496) -/

theorem judgePulse_valid {l : Nat} (h : rng 101000 2970000 l = true) (tag at_ : Nat) : judgePulse tag at_ l = 1 := by
  simp only [rng, Bool.and_eq_true, decide_eq_true_eq] at h
  unfold judgePulse
  rw [if_neg (by omega), if_neg (by omega), if_pos h.2]

theorem judgePulse_short {l : Nat} (h : l < 99000) (tag at_ : Nat) : judgePulse tag at_ l = 4 := if_pos h

/-- A pulse that both channels can judge has ended: the hold with it, and each channel that runs publishes its judgement. -/
def pulseShown (s : State) (jp jh : Nat) : State :=
  let code := fun j => if j = 4 then 2 else j
  let s := s.onSafe fun f => { f with srstStuck := false, h := { f.h with srst := true } }
  let s := if s.pRuns then s.onChan .p fun x => { x with judge := code jp, srst := true } else s
  s.onChan .h fun x => { x with judge := code jh }

theorem pulseShown_kept (s : State) (jp jh : Nat) : StatesKept s (pulseShown s jp jh) ∧ (pulseShown s jp jh).safe.latches = s.safe.latches ∧
    (pulseShown s jp jh).pRuns = s.pRuns := by
  have within : Within 0x2c0000000 s (pulseShown s jp jh) := by simp [pulseShown]
  refine ⟨?_, ?_, within.pRuns_eq (by decide)⟩
  · unfold pulseShown
    extract_lets code u v
    have hu : StatesKept s u := ⟨rfl, rfl, fun c _ => by cases c <;> rfl, fun c => by cases c <;> rfl⟩
    have hv : StatesKept u v := by
      simp only [v]
      split
      · exact .onChan u .p (fun _ _ => rfl) fun _ => rfl
      · exact .refl u
    exact (hu.trans hv).trans (.onChan v .h (fun _ _ => rfl) fun _ => rfl)
  · unfold pulseShown
    dsimp only
    split <;> rfl

theorem srstPulse_ready {s : State} {lenP lenH highUs : Nat} (hs : s.served = true) (hr : srstReady s lenH highUs = true) {jp jh : Nat}
    (hp : judgePulse 70 s.time.bench lenP = jp) (hh : judgePulse 72 s.time.bench lenH = jh) {u v : State} (hu : pulseShown s jp jh = u)
    (hv : raiseIf (jh == 3 && !s.safe.srstStuck) (raiseIf (jh == 4 || (jp == 4 && u.pRuns)) u (ev 6 24) 0 0) (ev 6 23) 0 0 = v) :
    srstPulse s lenP lenH highUs = if jp == 1 && jh == 1 && v.pRuns then validPulse v else v := by
  simp only [State.served, Bool.and_eq_true, Bool.not_eq_true'] at hs
  subst hv hu hp hh
  unfold srstPulse
  rw [hs.1, hs.2, hr]
  rfl

/-- Without 100 ms of high before it a pulse is not judged. -/
theorem srstPulse_notReady {s : State} {lenP lenH highUs : Nat} (hr : srstReady s lenH highUs = false) :
    (srstPulse s lenP lenH highUs).safe.clearing = s.safe.clearing ∧ (srstPulse s lenP lenH highUs).evt = s.evt := by
  unfold srstPulse
  rw [hr]
  split <;> exact ⟨rfl, rfl⟩

/-- A valid pulse with a group in LOCKOUT and no clear running begins the clear (R457). -/
theorem validPulse_begins {s : State} (hl : s.lockout = true) (hc : s.safe.clearing = false) :
    (validPulse s).safe.clearing = true ∧ EventSet (validPulse s) (ev 6 22) := by
  have event : EventSet (raise s (ev 6 22)) (ev 6 22) := eventSet_raiseAt s 0 0 (by decide)
  have safe : (raise s (ev 6 22)).safe = s.safe := raiseAt_safe s (ev 6 22) 0 0
  unfold validPulse
  extract_lets t u ok
  have going : (!t.lockout || t.safe.clearing) = false := by
    rw [(StatesKept.of_safe safe).lockout, hl, safe, hc]
    rfl
  rw [going, if_neg Bool.false_ne_true]
  have hu : Within 0x2e0000000 t u := by
    simp only [u]
    split <;> simp
  exact ⟨rfl, (event.of_within hu (by decide)).congr rfl rfl⟩

theorem srstPulse_valid {s : State} {lenP lenH highUs : Nat} (hs : s.served = true) (hr : srstReady s lenH highUs = true) (hrun : s.pRuns = true)
    (hl : s.lockout = true) (hc : s.safe.clearing = false) (hp : rng 101000 2970000 lenP = true) (hh : rng 101000 2970000 lenH = true) :
    (srstPulse s lenP lenH highUs).safe.clearing = true ∧ EventSet (srstPulse s lenP lenH highUs) (ev 6 22) := by
  obtain ⟨kept, latches, runs⟩ := pulseShown_kept s 1 1
  rw [srstPulse_ready hs hr (judgePulse_valid hp _ _) (judgePulse_valid hh _ _) rfl rfl]
  generalize pulseShown s 1 1 = u at kept latches runs
  rw [show raiseIf (1 == 3 && !s.safe.srstStuck) (raiseIf (1 == 4 || (1 == 4 && u.pRuns)) u (ev 6 24) 0 0) (ev 6 23) 0 0 = u from rfl, runs, hrun]
  exact validPulse_begins (kept.lockout.trans hl) ((congrArg Prod.fst latches).trans hc)

theorem srstPulse_short {s : State} {lenP lenH highUs : Nat} (hs : s.served = true) (hr : srstReady s lenH highUs = true) (hh : lenH < 99000) :
    (srstPulse s lenP lenH highUs).safe.clearing = s.safe.clearing ∧ EventSet (srstPulse s lenP lenH highUs) (ev 6 24) := by
  rw [srstPulse_ready hs hr rfl (judgePulse_short hh _ _) rfl rfl]
  generalize judgePulse 70 s.time.bench lenP = jp
  obtain ⟨-, latches, -⟩ := pulseShown_kept s jp 4
  generalize pulseShown s jp 4 = u at latches
  have shown : raiseIf (4 == 3 && !s.safe.srstStuck) (raiseIf (4 == 4 || (jp == 4 && u.pRuns)) u (ev 6 24) 0 0) (ev 6 23) 0 0 =
      raiseAt u (ev 6 24) 0 0 := rfl
  rw [shown, if_neg (by simp)]
  exact ⟨(congrArg Safety.clearing (raiseAt_safe u (ev 6 24) 0 0)).trans (congrArg Prod.fst latches), eventSet_raiseAt u 0 0 (by decide)⟩

/-- A hold that passes 3 s is shown once (R496). -/
theorem srstStuck_shows {s : State} {who : Who} (hs : s.served = true) (hn : s.safe.srstStuck = false) (hw : who = .p → s.pRuns = true) :
    Answers (.srstStuck who) s fun t => t.safe.srstStuck = true ∧ EventSet t (ev 6 23) := by
  simp only [State.served, Bool.and_eq_true, Bool.not_eq_true'] at hs
  have acts : (s.inReset || s.pwr.booting || s.safe.srstStuck || (who == .p && !s.pRuns)) = false := by
    cases who
    · simp [hs, hn, hw rfl]
    · simp [hs, hn]
    · simp [hs, hn]
  refine ⟨_, congrArg Host.Outcome.next (if_neg (by rw [acts]; exact Bool.false_ne_true)), ?_, eventSet_raiseAt _ 0 0 (by decide)⟩
  rw [raiseAt_safe]

/-! ## The end of the self-tests (R455, R457) -/

/-- The outcomes of the self-tests are shown: in the channels, and as a cause of every group. -/
def selftestShown (s : State) (passP passH : Bool) : State :=
  let okP := passP || !s.pRuns
  let s := s.onSafe fun f => { f with
    p := { f.p with selftestOk := if s.pRuns then passP else f.p.selftestOk }, h := { f.h with selftestOk := passH } }
  let s := raiseIf (!okP || !passH) s (ev 6 15) 0 0
  if !okP || !passH then latchAll s caSelftest else dropCauses s (2 ^ caSelftest)

/-- The running clear is at its end. -/
def clearEnded (s : State) : State := s.onSafe fun f => { f with clearing := false, clearOk := 0 }

theorem clearEnded_kept (s : State) : StatesKept s (clearEnded s) :=
  ⟨rfl, rfl, fun c _ => by cases c <;> rfl, fun c => by cases c <;> rfl⟩

/-- The latched causes of a lockout end where the self-tests of a clear have passed. -/
def causesCleared (s : State) (stoOk : Bool) : State :=
  let s := encClear (dropCauses s (maskOf [caParChange, caPOverrun, caXchkDisagree]))
  if stoOk then (dropCauses s (2 ^ caReadback)).onSafe fun f => { f with stoFault := 0, kill := false } else s

/-- The groups of state `s` in LOCKOUT, and those of them that may leave it. -/
def lockedGroups (s : State) : List Nat := (List.range 4).filter fun n => s.grpUsed n && s.grpState n == .lockout
def freedGroups (s : State) (ok : Nat) : List Nat := (lockedGroups s).filter fun n => bitOf ok n && groupCauses s n &&& maskLock == 0

theorem selftestDone_eq (s : State) (passP passH stoOk : Bool) {u v w : State} (hu : selftestShown s passP passH = u) (hv : clearEnded u = v)
    (hw : causesCleared v stoOk = w) : selftestDone s passP passH stoOk =
      if !u.safe.clearing then (if !(passP || !s.pRuns) || !passH then evaluateGroups u else u)
      else if !passP || !passH || !v.pRuns then raise v (ev 6 4)
      else raiseIf (decide ((freedGroups w u.safe.clearOk).length < (lockedGroups w).length))
        (raiseIf (!(freedGroups w u.safe.clearOk).isEmpty) ((freedGroups w u.safe.clearOk).foldl clearGroup w) (ev 6 3) 0 0) (ev 6 4) 0 0 := by
  subst hw hv hu
  rfl

/-- Showing the outcomes moves no group and keeps the latches. -/
theorem selftestShown_spec {s u : State} {passP passH : Bool} (h : selftestShown s passP passH = u) :
    (∀ n, u.grpState n = s.grpState n) ∧ (∀ n, u.grpUsed n = s.grpUsed n) ∧ u.safe.latches = s.safe.latches ∧ u.pRuns = s.pRuns ∧
    u.safe.p.selftestOk = (if s.pRuns then passP else s.safe.p.selftestOk) ∧ u.safe.h.selftestOk = passH := by
  have within : Within 0x44000c0000200 s (selftestShown s passP passH) := by
    unfold selftestShown
    dsimp only
    split <;> simp
  have runs := h ▸ within.pRuns_eq (by decide)
  clear within
  unfold selftestShown at h
  extract_lets okP shown raised at h
  have state (n : Nat) : shown.grpState n = s.grpState n := grpState_congr rfl rfl fun c => by cases c <;> rfl
  have kept : StatesKept shown u ∧ u.safe.latches = shown.safe.latches := by
    rw [← h]
    split
    · exact ⟨(StatesKept.raiseIf ..).trans (.latchAll ..), by simp [raised]⟩
    · exact ⟨(StatesKept.raiseIf ..).trans (.dropCauses ..), by simp [raised]⟩
  obtain ⟨kept, latches⟩ := kept
  exact ⟨fun n => (kept.grpState n).trans (state n), fun n => kept.grpUsed n, latches, runs, kept.selftest .p, kept.selftest .h⟩

theorem causesCleared_spec (s : State) (stoOk : Bool) : StatesKept s (causesCleared s stoOk) ∧
    (causesCleared s stoOk).safe.clearing = s.safe.clearing ∧
    (stoOk = true → (causesCleared s stoOk).safe.stoFault = 0 ∧ (causesCleared s stoOk).safe.kill = false) := by
  unfold causesCleared
  extract_lets u
  have hu : StatesKept s u := (StatesKept.dropCauses ..).trans (.encClear _)
  have latches : u.safe.latches = s.safe.latches := by simp [u]
  cases stoOk with
  | false => exact ⟨hu, congrArg Prod.fst latches, fun h => absurd h Bool.false_ne_true⟩
  | true =>
    have drop := StatesKept.dropCauses u (2 ^ caReadback)
    have same := dropCauses_safetyLatches u (2 ^ caReadback)
    rw [if_pos rfl]
    generalize dropCauses u (2 ^ caReadback) = v at drop same
    have reset : StatesKept v (v.onSafe fun f => { f with stoFault := 0, kill := false }) :=
      ⟨rfl, rfl, fun c _ => by cases c <;> rfl, fun c => by cases c <;> rfl⟩
    exact ⟨(hu.trans drop).trans reset, congrArg Prod.fst (same.trans latches), fun _ => ⟨rfl, rfl⟩⟩

theorem mem_freedGroups {s : State} {ok n : Nat} (h : n ∈ freedGroups s ok) : n < 4 ∧ s.grpUsed n = true ∧ bitOf ok n = true := by
  unfold freedGroups lockedGroups at h
  simp only [List.mem_filter, List.mem_range, Bool.and_eq_true] at h
  obtain ⟨⟨hn, hu, -⟩, hok, -⟩ := h
  exact ⟨hn, hu, hok⟩

/-- With both self-tests passed the clear ends, and a group leaves LOCKOUT only for STARTUP_PENDING, and only where its causes had gone. -/
theorem selftestDone_passed {s : State} (stoOk : Bool) (hr : s.pRuns = true) (hc : s.safe.clearing = true) {t : State}
    (ht : selftestDone s true true stoOk = t) : t.safe.clearing = false ∧ t.safe.p.selftestOk = true ∧ t.safe.h.selftestOk = true ∧
      (stoOk = true → t.safe.stoFault = 0 ∧ t.safe.kill = false) ∧ ∀ n, n < 4 → s.grpState n = .lockout →
        t.grpState n = .lockout ∨ (t.grpState n = .startupPending ∧ bitOf s.safe.clearOk n = true) := by
  rw [selftestDone_eq s true true stoOk rfl rfl rfl] at ht
  obtain ⟨state, -, latches, runs, okP, okH⟩ := selftestShown_spec (s := s) (passP := true) (passH := true) rfl
  generalize selftestShown s true true = u at ht state latches runs okP okH
  have ended := clearEnded_kept u
  have endedRuns : (clearEnded u).pRuns = true := (runs.trans hr : u.pRuns = true)
  obtain ⟨kept, clearing, sto⟩ := causesCleared_spec (clearEnded u) stoOk
  have clearing : (causesCleared (clearEnded u) stoOk).safe.clearing = false := clearing
  generalize causesCleared (clearEnded u) stoOk = w at ht kept clearing sto
  simp only [Safety.latches, Prod.mk.injEq] at latches
  obtain ⟨was, ok, -⟩ := latches
  rw [was, hc, ok, endedRuns] at ht
  have member {n : Nat} := mem_freedGroups (s := w) (ok := s.safe.clearOk) (n := n)
  have freed := clearGroups_cleared fun n hn => ⟨(member hn).1, (member hn).2.1⟩
  generalize freedGroups w s.safe.clearOk = l at ht member freed
  generalize l.foldl clearGroup w = x at ht freed
  obtain ⟨-, pending, others, selftest, same⟩ := freed
  have safe : t.safe = x.safe := by
    rw [← ht]
    exact (raiseIf_safe ..).trans (raiseIf_safe ..)
  simp only [Safety.latches, Prod.mk.injEq] at same
  obtain ⟨sameClearing, -, sameSto, sameKill⟩ := same
  have shown := StatesKept.of_safe safe
  rw [safe]
  refine ⟨sameClearing.trans clearing, ?_, ?_, fun h => ⟨sameSto.trans (sto h).1, sameKill.trans (sto h).2⟩, fun n hn hl => ?_⟩
  · exact ((selftest .p).trans ((kept.selftest .p).trans (ended.selftest .p))).trans (okP.trans (if_pos hr))
  · exact ((selftest .h).trans ((kept.selftest .h).trans (ended.selftest .h))).trans okH
  · rw [shown.grpState]
    by_cases h : n ∈ l
    · exact .inr ⟨pending n h, (member h).2.2⟩
    · exact .inl ((others n h).trans ((kept.grpState n).trans ((ended.grpState n).trans ((state n).trans hl))))

/-- With a self-test failed the clear ends with an event, and no group moves. -/
theorem selftestDone_failed {s : State} {passP passH : Bool} (stoOk : Bool) (hc : s.safe.clearing = true) (hf : (passP && passH) = false)
    {t : State} (ht : selftestDone s passP passH stoOk = t) :
    t.safe.clearing = false ∧ EventSet t (ev 6 4) ∧ ∀ n, n < 4 → t.grpState n = s.grpState n := by
  rw [selftestDone_eq s passP passH stoOk rfl rfl rfl] at ht
  obtain ⟨state, -, latches, -⟩ := selftestShown_spec (s := s) (passP := passP) (passH := passH) rfl
  generalize selftestShown s passP passH = u at ht state latches
  have ended := clearEnded_kept u
  have clearing : (clearEnded u).safe.clearing = false := rfl
  have failed : (!passP || !passH || !(clearEnded u).pRuns) = true := by
    rw [← Bool.not_and, hf]
    rfl
  rw [show u.safe.clearing = true from (congrArg Prod.fst latches).trans hc, failed] at ht
  generalize clearEnded u = v at ht ended clearing
  have ht : raiseAt v (ev 6 4) 0 0 = t := ht
  have safe : t.safe = v.safe := ht ▸ raiseAt_safe ..
  exact ⟨safe ▸ clearing, ht ▸ eventSet_raiseAt v 0 0 (by decide), fun n _ =>
    ((StatesKept.of_safe safe).grpState n).trans ((ended.grpState n).trans (state n))⟩

/-! ## A failed self-test with no clear running (R437, R456) -/

theorem causesOf_latched {s : State} {c : Chan} {n code : Nat} (h : bitOf (vat (s.chan c).grps n).latched code = true) :
    (causesOf s c n).testBit code = true := by
  unfold bitOf at h
  simp [causesOf, h]

/-- A failed self-test that is latched on a group sends it to LOCKOUT in channel H. -/
theorem evaluateGroups_selftest {s : State} {n : Nat} (hn : n < 4) (hu : s.grpUsed n = true)
    (hb : bitOf (vat s.safe.h.grps n).latched caSelftest = true) : (vat (evaluateGroups s).safe.h.grps n).st = .lockout := by
  rw [evaluateGroups_eq]
  have others {k : Nat} (t : State) (hk : k ≠ n) : vat (evaluateRound k t).safe.h.grps n = vat t.safe.h.grps n := by
    rw [(evaluateRound_spec k t).2.2]
    exact (evalGroup_only t .h k).grps n hk.symm
  refine forN_reaches (s := s) (Q := fun t : State => t.grpUsed n = true ∧ bitOf (vat t.safe.h.grps n).latched caSelftest = true)
    (L := fun t : State => (vat t.safe.h.grps n).st = .lockout) hn (fun k t hk => ?_) (fun t => ?_) (fun k t hk => ?_) ⟨hu, hb⟩
  · intro ⟨hu, hb⟩
    obtain ⟨-, used, -⟩ := evaluateRound_spec k t
    exact ⟨(used n).trans hu, by rw [others t (Nat.ne_of_lt hk)]; exact hb⟩
  · intro ⟨hu, hb⟩
    obtain ⟨-, -, chanH⟩ := evaluateRound_spec n t
    rw [chanH]
    exact evalGroup_lockout hn hu (causesOf_latched (c := .h) hb) (by decide) (.inl (by decide))
  · intro h
    rw [others t (Nat.ne_of_gt hk)]
    exact h

theorem evaluateGroups_selftestOk (s : State) : (evaluateGroups s).safe.h.selftestOk = s.safe.h.selftestOk := by
  rw [evaluateGroups_eq]
  refine forN_keeps (P := fun t : State => t.safe.h.selftestOk = s.safe.h.selftestOk) (fun n t _ h => ?_) rfl
  rw [(evaluateRound_spec n t).2.2]
  exact ((evalGroup_only t .h n).selftestOk .h).trans h

theorem evaluateGroups_clearing (s : State) : (evaluateGroups s).safe.clearing = s.safe.clearing := by
  have latches := evaluateGroups_safetyLatches s
  generalize evaluateGroups s = t at latches ⊢
  exact congrArg Prod.fst latches

theorem selftestShown_latched {s : State} (passP : Bool) {n : Nat} (hn : n < 4) (hu : s.grpUsed n = true) :
    bitOf (vat (selftestShown s passP false).safe.h.grps n).latched caSelftest = true := by
  unfold selftestShown
  extract_lets okP shown raised
  rw [if_pos (by simp)]
  exact latchAll_latched raised caSelftest hn (((StatesKept.raiseIf ..).grpUsed n).trans hu)

/-- With no clear running channel H's self-test is shown, and a failed one locks out every group that is used. -/
theorem selftestDone_idle {s : State} {passP passH : Bool} (stoOk : Bool) (hc : s.safe.clearing = false) {t : State}
    (ht : selftestDone s passP passH stoOk = t) : t.safe.clearing = false ∧ t.safe.h.selftestOk = passH ∧
      (passH = false → ∀ n, n < 4 → s.grpUsed n = true → (vat t.safe.h.grps n).st = .lockout) := by
  rw [selftestDone_eq s passP passH stoOk rfl rfl rfl] at ht
  obtain ⟨-, used, latches, -, -, okH⟩ := selftestShown_spec (s := s) (passP := passP) (passH := passH) rfl
  have clearing : (selftestShown s passP passH).safe.clearing = false := (congrArg Prod.fst latches).trans hc
  rw [clearing, Bool.not_false, if_pos rfl] at ht
  by_cases hf : (!(passP || !s.pRuns) || !passH) = true
  · rw [if_pos hf] at ht
    subst ht
    refine ⟨(evaluateGroups_clearing _).trans clearing, (evaluateGroups_selftestOk _).trans okH, ?_⟩
    rintro rfl n hn hu
    exact evaluateGroups_selftest hn ((used n).trans hu) (selftestShown_latched passP hn hu)
  · rw [if_neg hf] at ht
    subst ht
    refine ⟨clearing, okH, ?_⟩
    rintro rfl
    simp at hf

end Sys2Proof.Machine
end


section
/-! PROOFS. SRST_N pulses, the end of the self-tests, and the copies and paths of a receiver (O38). -/

namespace Sys2Proof.Machine

/-! ## Copies that wait (R504) -/

/-- A copy that stands alone waits no longer, and no other receiver changes. -/
theorem standAlone_spec (s : State) {r : Nat} (hr : r < 8) (w : WaitCopy) :
    (vat (standAlone s r w).safe.rx r).waiting = (vat s.safe.rx r).waiting.erase w ∧
    ∀ k, k ≠ r → vat (standAlone s r w).safe.rx k = vat s.safe.rx k := by
  unfold standAlone
  exact ⟨by dsimp only; rw [vat_vupd_same _ _ hr], fun k hk => vat_vupd_other _ _ hk.symm⟩

theorem standAlones_spec {r : Nat} (hr : r < 8) (l : List WaitCopy) (s : State) :
    (vat (l.foldl (fun t w => standAlone t r w) s).safe.rx r).waiting = (vat s.safe.rx r).waiting.diff l ∧
    ∀ k, k ≠ r → vat (l.foldl (fun t w => standAlone t r w) s).safe.rx k = vat s.safe.rx k := by
  induction l generalizing s with
  | nil => exact ⟨rfl, fun _ _ => rfl⟩
  | cons w l ih =>
    obtain ⟨waiting, others⟩ := standAlone_spec s hr w
    obtain ⟨rest, keep⟩ := ih (standAlone s r w)
    rw [List.foldl_cons, List.diff_cons, ← waiting]
    exact ⟨rest, fun k hk => (keep k hk).trans (others k hk)⟩

/-- Taking every occurrence that meets a condition out of a list leaves none. -/
theorem not_of_mem_diff_filter {α : Type} [DecidableEq α] {l : List α} {p : α → Bool} {a : α} (h : a ∈ l.diff (l.filter p)) : p a = false := by
  cases hp : p a with
  | false => rfl
  | true =>
    have none : (l.diff (l.filter p)).count a = 0 := by rw [List.count_diff, List.count_filter hp, Nat.sub_self]
    exact absurd h (List.count_eq_zero.mp none)

theorem windowsEnd_spec (s : State) (r : Fin 8) :
    (∀ w ∈ (vat (windowsEnd s r).safe.rx r).waiting, s.time.tickSeq < w.tick + pWin s.image r) ∧
    ∀ k : Nat, k ≠ r → vat (windowsEnd s r).safe.rx k = vat s.safe.rx k := by
  obtain ⟨waiting, others⟩ := standAlones_spec r.isLt
    ((vat s.safe.rx r).waiting.filter fun w => decide (w.tick + pWin s.image r ≤ s.time.tickSeq)) s
  unfold windowsEnd
  refine ⟨fun w hw => ?_, others⟩
  rw [waiting] at hw
  have early := not_of_mem_diff_filter hw
  exact Nat.not_le.mp (of_decide_eq_false early)

/-! ## Paths (R506) -/

theorem path_onPath (r : TelRx) (net : Fin 2) (f : TelPath → TelPath) :
    (r.onPath net f).path net = f (r.path net) ∧ (r.onPath net f).path (1 - net.val) = r.path (1 - net.val) := by
  match net with
  | 0 => exact ⟨rfl, rfl⟩
  | 1 => exact ⟨rfl, rfl⟩

/-- A path of a receiver whose watchdog has run out is lost, with its event. -/
theorem pathJudge_lost {s : State} {r : Fin 8} {net : Fin 2} (he : pRxEn s.image r = true) (hl : ((vat s.safe.rx r).path net).lost = false)
    (hw : ((vat s.safe.rx r).path net).lastTick + pathWdog s.image r (vat s.safe.rx r) net ≤ s.time.tickSeq) {t : State}
    (ht : pathJudge s r net = t) : ((vat t.safe.rx r).path net).lost = true ∧ EventSet t (ev 6 25) ∧
      (vat t.safe.rx r).path (1 - net.val) = (vat s.safe.rx r).path (1 - net.val) ∧ ∀ k : Nat, k ≠ r → vat t.safe.rx k = vat s.safe.rx k := by
  have out : ¬ (((vat s.safe.rx r).path net).lost || !pRxEn s.image r || decide (s.time.tickSeq <
      ((vat s.safe.rx r).path net).lastTick + pathWdog s.image r (vat s.safe.rx r) net)) = true := by
    simp [hl, he, Nat.not_lt.mpr hw]
  unfold pathJudge at ht
  extract_lets m x p u at ht
  rw [if_neg out] at ht
  have event : EventSet t (ev 6 25) := by
    rw [← ht]
    unfold raiseIf
    split
    · exact (eventSet_raiseAt _ _ _ (by decide)).raiseAt _ _ _
    · exact eventSet_raiseAt _ _ _ (by decide)
  have safe : t.safe = { s.safe with rx := vupd s.safe.rx r fun y => y.onPath net fun p => { p with lost := true, run := 0 } } := by
    rw [← ht, raiseIf_safe]
    exact raiseAt_safe ..
  obtain ⟨own, other⟩ := path_onPath (vat s.safe.rx r) net fun p => { p with lost := true, run := 0 }
  rw [safe]
  refine ⟨?_, event, ?_, fun k hk => vat_vupd_other _ _ hk.symm⟩
  · rw [vat_vupd_same _ _ r.isLt, own]
  · rw [vat_vupd_same _ _ r.isLt, other]

/-- Settles O38: a valid pulse begins the clear, the end of the self-tests ends it, and the receivers are judged one by one. -/
theorem lockoutClearAndTelegramPaths : Obligations.LockoutClearAndTelegramPaths := by
  unfold Obligations.LockoutClearAndTelegramPaths
  refine ⟨fun s lenP lenH highUs hs hr hrun hl hc hp hh => ⟨_, rfl, srstPulse_valid hs hr hrun hl hc hp hh⟩,
    fun s lenP lenH highUs hs hr hh => ⟨_, rfl, srstPulse_short hs hr hh⟩,
    fun s lenP lenH highUs hr => ⟨_, rfl, srstPulse_notReady hr⟩,
    fun s who hs hn hw => srstStuck_shows hs hn hw,
    fun s stoOk hr hc => ⟨_, rfl, selftestDone_passed stoOk hr hc rfl⟩,
    fun s passP passH stoOk hr hc hf => ⟨_, rfl, selftestDone_failed stoOk hc hf rfl⟩,
    fun s passP passH stoOk hc => ⟨_, rfl, selftestDone_idle stoOk hc rfl⟩,
    fun s r hr => ⟨windowsEnd s r, ?_, windowsEnd_spec s r⟩,
    fun s r net hr he hl hw => ⟨pathJudge s r net, ?_, pathJudge_lost he hl hw rfl⟩⟩
  · exact congrArg Host.Outcome.next (if_pos hr)
  · exact congrArg Host.Outcome.next (if_pos hr)

end Sys2Proof.Machine
end

section
/-! PROOFS. Mode requests and the change of OPMODE (O8), and the guard of CORE_EN in MAINTENANCE (O60). -/

namespace Sys2Proof.Machine

/-! ## What a mode request finds -/

@[simp] theorem reqRefusal_noteCmd (s : State) (op : OpMode) : reqRefusal (noteCmd s) op = reqRefusal s op := by
  obtain ⟨u, e⟩ := noteCmd_shape s
  rw [e]
  rfl

@[simp] theorem reqRefusal_access (s : State) (m : Master) (op : OpMode) : reqRefusal (access s m) op = reqRefusal s op := by
  obtain ⟨x, e⟩ := access_shape s m
  rw [e]
  rfl

@[simp] theorem noteCmd_mode (s : State) : (noteCmd s).mode = s.mode := by
  obtain ⟨u, e⟩ := noteCmd_shape s
  rw [e]

@[simp] theorem noteCmd_time (s : State) : (noteCmd s).time = s.time := by
  obtain ⟨u, e⟩ := noteCmd_shape s
  rw [e]

/-! ## Mode requests (R163, R164, R173) -/

/-- The row of a request is an access and the request. -/
theorem exec_requestRow (m : Master) (op : OpMode) (s : State) : exec (requestRow m op) s = .next (modeRequest (access s m) m op) := by
  cases op <;> rfl

/-- The request for the operation in force is judged like one that nothing refuses. -/
theorem modeRequest_accepted {s : State} {m : Master} {op : OpMode} (hw : s.writable = true)
    (h : s.mode.opmode = op ∨ reqRefusal s op = none) :
    (modeRequest s m op).mode = { s.mode with pendingOp := some op, pendingTick := s.time.tickSeq } := by
  have judged : (if (noteCmd s).mode.opmode = op then none else reqRefusal (noteCmd s) op) = none := by
    rw [noteCmd_mode, reqRefusal_noteCmd]
    exact ite_eq_left_iff.mpr h.resolve_left
  unfold modeRequest
  rw [hw, Bool.not_true, if_neg Bool.false_ne_true]
  dsimp only
  rw [judged]
  simp

theorem modeRequest_refused {s : State} {m : Master} {op : OpMode} {e : Nat} (hw : s.writable = true) (ho : s.mode.opmode ≠ op)
    (hr : reqRefusal s op = some e) :
    modeRequest s m op = raise (echo (noteCmd s) m 0x3 (reqCode op) [] e) evModeRefused := by
  unfold modeRequest
  rw [hw, Bool.not_true, if_neg Bool.false_ne_true]
  dsimp only
  rw [noteCmd_mode, if_neg ho, reqRefusal_noteCmd, hr]

/-! ## The operation in force moves with OPMODE_CHANGE alone (R158, R164) -/

/-- The operation in force, the request that waits, and the operation under MAINTENANCE: what DEV_MODE and the loops never move. -/
def ModeUnit.operation (u : ModeUnit) : OpMode × Option OpMode × OpMode := (u.opmode, u.pendingOp, u.maintBase)

theorem Within.operation_eq {ps : Nat} {s t : State} (h : Within ps s t) (hp : ps.testBit Part.mode.bit = false) :
    t.mode.operation = s.mode.operation := by
  have e := h .mode hp
  simp only [Part.same, ModeUnit.mk.injEq] at e
  unfold ModeUnit.operation
  simp only [e]

@[simp] theorem refreshMode_operation (s : State) (cause : Nat) : (refreshMode s cause).mode.operation = s.mode.operation := by
  unfold refreshMode
  dsimp only
  split
  · rfl
  · simp [ModeUnit.operation]

/-- DPLL0's loop state moves DEV_MODE, and no loop state moves the operation. -/
@[simp] theorem setLoop_operation (s : State) (d : Nat) (l : LoopState) (cause : Nat) :
    (setLoop s d l cause).mode.operation = s.mode.operation := by
  unfold setLoop
  extract_lets was closed left entered thawed timed
  have before : Within 0x44000000c0200 s timed := by simp [timed, thawed, entered, left, closed]
  split
  · rfl
  split
  · exact (refreshMode_operation _ _).trans (before.operation_eq rfl)
  · exact before.operation_eq rfl

@[simp] theorem toFreerun_operation (s : State) (d cause : Nat) : (toFreerun s d cause).mode.operation = s.mode.operation := by
  unfold toFreerun
  extract_lets cleared
  have after : Within 0x40000 (setLoop cleared d .freerun cause) (tdcClear ((setLoop cleared d .freerun cause).onDpll d lockRestart) d) := by
    simp
  exact (after.operation_eq rfl).trans (setLoop_operation ..)

@[simp] theorem openLoops_operation (s : State) : (openLoops s).mode.operation = s.mode.operation := by
  unfold openLoops
  refine forN_keeps (P := fun t : State => t.mode.operation = s.mode.operation) (fun d t _ ht => ?_) rfl
  simpa using ht

@[simp] theorem startLoops_operation (s : State) : (startLoops s).mode.operation = s.mode.operation := rfl

@[simp] theorem searchAll_operation (s : State) : (searchAll s).mode.operation = s.mode.operation :=
  Within.operation_eq (ps := 0x4400001a00200) (by simp) rfl

@[simp] theorem apllsStop_operation (s : State) : (apllsStop s).mode.operation = s.mode.operation :=
  Within.operation_eq (ps := 0x4400001a00200) (by simp) rfl

@[simp] theorem settleOuts_operation (s : State) : (settleOuts s).mode.operation = s.mode.operation :=
  Within.operation_eq (ps := 0x4400001800200) (by simp) rfl

/-- The actions of R166 start, open and search loops, and move no operation. -/
@[simp] theorem modeActions_operation (s : State) (op base : OpMode) : (modeActions s op base).mode.operation = s.mode.operation := by
  unfold modeActions
  split <;> simp

/-! ## OPMODE_CHANGE (R164, R165, R166) -/

theorem opmodeChange_before_boundary {s : State} (h : s.time.tickSeq ≤ s.mode.pendingTick) : opmodeChange s = s := by
  unfold opmodeChange
  split
  · rfl
  · exact if_pos (by simp [Nat.not_lt.mpr h])

theorem opmodeChange_operation {s : State} {op : OpMode} (hp : s.mode.pendingOp = some op) (hc : s.coreOn = true)
    (hr : s.time.running = true) (ht : s.mode.pendingTick < s.time.tickSeq) (ho : s.mode.opmode ≠ op) (hg : modeGuard s op = true) :
    (opmodeChange s).mode.operation = (op, none, if op = .maintenance then s.mode.opmode else s.mode.maintBase) := by
  have due : ¬ (!(s.coreOn && s.time.running && decide (s.mode.pendingTick < s.time.tickSeq))) = true := by simp [hc, hr, ht]
  have guarded : ¬ (s.mode.opmode = op ∨ modeGuard s op = false) := by simp [ho, hg]
  unfold opmodeChange
  rw [hp]
  dsimp only
  rw [if_neg due]
  refine (congrArg (fun t : State => t.mode.operation) (if_neg guarded)).trans ?_
  rw [refreshMode_operation, settleOuts_operation, modeActions_operation, refreshMode_operation]
  rfl

/-! ## The obligations -/

/-- Settles O8: a request is kept with its tick or only raises its event, and of the change at the boundary only its own update moves
the operation. -/
theorem modeRequestsWaitForTheBoundary : Obligations.ModeRequestsWaitForTheBoundary := by
  unfold Obligations.ModeRequestsWaitForTheBoundary
  refine ⟨fun s m op hs he h => ⟨_, exec_requestRow m op s, ?_⟩, fun s m op e hs he ho hr => ⟨_, exec_requestRow m op s, ?_⟩,
    fun s op hp hc hr ht ho hg => ⟨_, rfl, ?_⟩, fun s h => ⟨_, rfl, opmodeChange_before_boundary h⟩⟩
  · have hw : (access s m).writable = true := by simpa using writable_of_served hs he
    have kept := modeRequest_accepted (m := m) hw (by simpa using h)
    simp [kept]
  · have hw : (access s m).writable = true := by simpa using writable_of_served hs he
    rw [modeRequest_refused hw (by simpa using ho) (by simpa using hr)]
    exact ⟨by simp [raise], eventSet_raiseAt _ _ _ (by decide)⟩
  · have moved := opmodeChange_operation hp hc hr ht ho hg
    simp only [ModeUnit.operation, Prod.mk.injEq] at moved
    obtain ⟨opmode, pending, base⟩ := moved
    exact ⟨opmode, pending, fun hm => base.trans (if_pos hm)⟩

/-- A write that clears CORE_EN is refused in MAINTENANCE (R165). -/
theorem pwrRefused_maintenance {s : State} {v : Nat} (hm : s.mode.opmode = .maintenance) (hc : bitOf s.pwr.ctrl 0 = true)
    (hv : bitOf v 0 = false) : pwrRefused s v = true := by
  simp [pwrRefused, hm, hc, hv]

/-- Settles O60: such a write is one of those that O5 refuses. -/
theorem coreClearsInMaintenanceAreRefused : Obligations.CoreClearsInMaintenanceAreRefused := by
  unfold Obligations.CoreClearsInMaintenanceAreRefused
  intro s m v hs he hm hc hv
  have low : bitOf (v.toNat % 16) 0 = false := by
    rw [← hv, ← bitOf_word]
    exact (Nat.testBit_mod_two_pow v.toNat 4 0).trans (by simp [bitOf])
  exact pwrCtrlWriteAndRefusal.2 s m v hs he (pwrRefused_maintenance hm hc low)

end Sys2Proof.Machine
end

section
/-! PROOFS. Frequency gates and the activity monitor (O14). -/

namespace Sys2Proof.Machine

/-- Raising an event leaves the sources. -/
@[simp] theorem raiseIf_srcs (b : Bool) (s : State) (e unit cause : Nat) : (raiseIf b s e unit cause).srcs = s.srcs := by cases b <;> simp

/-! ## A completed gate (R186, R188, R193, R194) -/

/-- A gate that began too early gives nothing (R193, R194). -/
theorem gateComplete_stale {s : State} {n : Nat} (edges span : Nat) (hf : ¬ gateFresh s n) : gateComplete s n edges span = s := by
  have early := Nat.not_le.mp hf
  exact if_pos (by simp [early])

section
variable {s : State} {n edges : Nat} (span : Nat)

/-- A fresh gate that the monitors cannot measure ends the validity of the measurement (R186). -/
theorem gateComplete_unmeasured (hc : s.coreOn = true) (hf : gateFresh s n) (he : edges < 2 ∨ seesEdges s n = false) :
    gateComplete s n edges span = s.onSrc n fun x => { x with freqValid := false } :=
  (if_neg (by simpa [hc] using hf)).trans (if_pos (by simpa using he))

/-- A fresh gate of two edges or more sets the measurement and the FREQ alarm of its source alone (R186, R188). -/
theorem gateComplete_measured (hc : s.coreOn = true) (hs : seesEdges s n = true) (hf : gateFresh s n) (he : 2 ≤ edges) :
    ∃ f : Source → Source, (gateComplete s n edges span).srcs = vupd s.srcs n f ∧ ∀ x,
      let off := gateOffset (srcNom s.act n) (srcPrediv s.act n) edges span
      (f x).freqValid = true ∧ (f x).freqOffset = clampI 32 (ratFree 1 off) ∧
      (f x).freqAlarm = (if offBeyond off (fReject.val s.act (srcBase n)) then true
        else if !offBeyond off (fAccept.val s.act (srcBase n)) then false else x.freqAlarm) := by
  unfold gateComplete
  extract_lets gate began c b off within reject was u
  have fresh : ¬ (!s.coreOn || decide (began < (vat s.srcs n).gateFrom)) = true := by
    rw [hc, decide_eq_false (Nat.not_lt.mpr hf)]
    exact Bool.false_ne_true
  have counted : ¬ (edges < 2 || !seesEdges s n) = true := by simp [hs, Nat.not_lt.mpr he]
  rw [if_neg fresh, if_neg counted]
  exact ⟨_, raiseIf_srcs .., fun x => ⟨rfl, rfl, rfl⟩⟩

end

/-! ## The activity monitor (R189) -/

theorem actAlarm_early {s : State} {n : Nat} (edges : Nat) (h : actPassed s n (s.safe.p.clk - (vat s.srcs n).lastEdge) = false) :
    actAlarm s n edges = s :=
  if_pos (by simp [h])

theorem actAlarm_due {s : State} {n : Nat} (edges : Nat) (hc : s.coreOn = true) (ha : (vat s.srcs n).actAlarm = false)
    (h : actPassed s n (s.safe.p.clk - (vat s.srcs n).lastEdge) = true) : actAlarm s n edges =
      raiseAt (s.onSrc n fun x => { x with actAlarm := true, alarmSince := true, hitEdges := 0, hitSkip := edges }) evActAlarm n 0 :=
  if_neg (by simp [hc, ha, h])

theorem actClear_seen {s : State} {n : Nat} (hc : s.coreOn = true) (hs : seesEdges s n = true) :
    actClear s n = s.onSrc n fun x => { x with actAlarm := false, lastEdge := s.safe.p.clk } :=
  if_neg (by simp [hc, hs])

/-- Settles O14: a gate by whether it is fresh and measured, the activity monitor by whether its window has passed. -/
theorem frequencyAndActivityMonitors : Obligations.FrequencyAndActivityMonitors := by
  unfold Obligations.FrequencyAndActivityMonitors
  refine ⟨fun s n edges span hc hs hf he => ⟨_, rfl, ?_⟩, fun s n edges span hc hf he => ⟨_, rfl, ?_⟩,
    fun s n edges span hf => ⟨_, rfl, gateComplete_stale edges span hf⟩, fun s n k hc ha h => ⟨_, rfl, ?_⟩,
    fun s n k h => ⟨_, rfl, actAlarm_early k h⟩, fun s n hc hs => ⟨_, rfl, ?_⟩⟩
  · obtain ⟨f, srcs, gives⟩ := gateComplete_measured span hc hs hf he
    obtain ⟨valid, offset, alarm⟩ := gives (vat s.srcs n)
    rw [srcs, vat_vupd_same _ f n.isLt]
    exact ⟨valid, offset, by simpa using alarm, vat_vupd_others⟩
  · rw [gateComplete_unmeasured span hc hf he]
    simpa using vat_vupd_others
  · rw [actAlarm_due k hc ha h]
    exact ⟨by simp, by simp, eventSet_raiseAt _ _ _ (by decide), by simpa using vat_vupd_others⟩
  · rw [actClear_seen hc hs]
    simpa using vat_vupd_others

end Sys2Proof.Machine
end

section
/-! PROOFS. The hold-off, the wait-to-restore timer and the QL timeout of a source (O15). -/

namespace Sys2Proof.Machine

/-! ## The hold-off (R192) -/

/-- The hold-off that ends in this tick lets the time up to its end pass (log 27). -/
theorem holdoffElapsed_due {s : State} {n : Nat} (hc : s.coreOn = true) (hq : (vat s.srcs n).qual = .holdOff)
    (ht : inTick s (holdEnd s n) = true) : holdoffElapsed s n = passTo s (holdEnd s n) :=
  if_pos (by rw [hc, hq, ← holdEnd, ht]; rfl)

theorem passTo_srcs (s : State) (t : Nat) : (passTo s t).srcs = s.srcs := passTo_stays s t .srcs rfl

theorem disqualify_qual (s : State) {n : Nat} (hn : n < 12) : (vat (disqualify s n).srcs n).qual = .disqualified := by
  unfold disqualify
  simp [hn]

theorem qualify_qual (s : State) {n : Nat} (hn : n < 12) : (vat (qualify s n).srcs n).qual = .qualified := by
  unfold qualify
  dsimp only
  split <;> simp [hn]

/-- The evaluation of a source in HOLD_OFF whose port is UP decides by its alarms and gates since the last one (R192). -/
theorem evalSource_holdOff {s : State} {n : Nat} (hn : n < 12) (hq : (vat s.srcs n).qual = .holdOff) (he : holdElapsed s n = true)
    (hp : portUp s n = true) :
    let x := vat s.srcs n
    (vat (evalSource s n).srcs n).qual =
      if x.actAlarm || x.freqAlarm || x.hitAlarm || x.alarmSince || x.gateBad then .disqualified
      else if x.gateClean then .qualified else .holdOff := by
  intro x
  unfold evalSource
  dsimp only
  rw [hp, Bool.not_true, if_neg Bool.false_ne_true, hq]
  dsimp only
  rw [he, Bool.true_and]
  split
  · exact disqualify_qual _ hn
  split
  · exact qualify_qual _ hn
  · simp [hn, hq]

/-! ## The timers (R198, R204, R213) -/

theorem wtrExpire_due {s : State} {d n b : Nat} (hb : vat (vat s.dplls d).wtrStart n = some b)
    (h : b + fWtr.val s.act (dpllBase d) * sec16 ≤ s.now) :
    wtrExpire s d n = raiseAt (s.onDpll d fun x => { x with wtrStart := vupd x.wtrStart n fun _ => none }) evWtrDone n d := by
  unfold wtrExpire
  rw [hb]
  exact if_pos h

theorem qlTimeout_due {s : State} {n : Nat} (ha : (vat s.srcs n).accQl ≠ none) (hx : (vat s.srcs n).qlExpired = false)
    (h : (vat s.srcs n).inbandAt + fQlTimeout.val s.act (srcBase n) * ms16 ≤ s.now) :
    qlTimeout s n = raiseAt (s.onSrc n fun y => { y with qlExpired := true }) evQlTimeout n 0 :=
  if_pos (by simp [Option.isSome_iff_ne_none, ha, hx, h])

/-- Settles O15: each timer by its condition, and the hold-off's end by the cases of the source's evaluation. -/
theorem holdoffWtrAndQlTimers : Obligations.HoldoffWtrAndQlTimers := by
  unfold Obligations.HoldoffWtrAndQlTimers
  refine ⟨fun s n hc hq ht => ⟨_, rfl, ?_⟩, fun s n hq he hp => evalSource_holdOff n.isLt hq he hp, fun s d n b hc hp hb h => ?_,
    fun s d n hp => ?_, fun s n hc ha hx h => ?_⟩
  · rw [holdoffElapsed_due hc hq ht]
    exact ⟨rfl, passTo_srcs _ _⟩
  · refine ⟨_, congrArg Host.Outcome.next (if_pos (by simp [hc, hp])), ?_⟩
    rw [wtrExpire_due hb h]
    exact ⟨by simp, eventSet_raiseAt _ _ _ (by decide), by simp, by simpa using vat_vupd_others⟩
  · exact ⟨_, congrArg Host.Outcome.next (if_neg (by simp [hp])), rfl⟩
  · refine ⟨_, congrArg Host.Outcome.next (if_pos hc), ?_⟩
    rw [qlTimeout_due ha hx h]
    exact ⟨by simp, eventSet_raiseAt _ _ _ (by decide), by simpa using vat_vupd_others⟩

end Sys2Proof.Machine
end

section
/-! PROOFS. The watermark decoder (O16). -/

namespace Sys2Proof.Machine

/-! ## The parts of a reception (R198, R201, R241) -/

/-- The decoder goes out of SYNC, its run begun anew. -/
theorem wmLose_srcs (s : State) (n : Nat) : (wmLose s n).srcs = vupd s.srcs n fun y => { y with wmSync := false, wmRun := 0 } :=
  raiseIf_srcs ..

theorem wmLose_source (s : State) {n : Nat} (hn : n < 12) : vat (wmLose s n).srcs n = { vat s.srcs n with wmSync := false, wmRun := 0 } := by
  rw [wmLose_srcs, vat_vupd_same _ _ hn]

theorem wmLose_others (s : State) {n k : Nat} (hk : k ≠ n) : vat (wmLose s n).srcs k = vat s.srcs k := by
  rw [wmLose_srcs, vat_vupd_other _ _ hk.symm]

theorem tickNumCheck_srcs (s : State) (n payload : Nat) : (tickNumCheck s n payload).srcs = s.srcs :=
  have same : Within 0x4400000040200 s (tickNumCheck s n payload) := by simp
  same .srcs rfl

/-- An in-band code becomes the last one of its source, and leaves the decoder and the other sources (R198). -/
theorem inbandQl_source (s : State) {n : Nat} (code : Nat) (hn : n < 12) :
    let x := vat s.srcs n
    let y := vat (inbandQl s n code).srcs n
    y.lastInband = code ∧ y.wmPayload = x.wmPayload ∧ y.wmSync = x.wmSync ∧ y.wmCrcCnt = x.wmCrcCnt ∧
    ∀ k, k ≠ n → vat (inbandQl s n code).srcs k = vat s.srcs k := by
  unfold inbandQl
  dsimp only
  simp only [raiseIf_srcs]
  rw [vat_vupd_same _ _ hn]
  refine ⟨?_, ?_, ?_, ?_, fun k hk => vat_vupd_other _ _ hk.symm⟩
  all_goals (repeat' split) <;> rfl

/-! ## Received payloads (R201, R367) -/

/-- The decoder of reference `n` listens: CORE and the decoder are on, and its input stage is not OFF (R183, R201). -/
structure WmListens (s : State) (n : Nat) : Prop where
  core : s.coreOn = true
  decoder : fDecode.on s.act (refBase n) = true
  stage : fInMode.val s.act (refBase n) ≠ 0

section
variable {s : State} {n p : Nat} {shape : Bool} (age : Nat)

theorem WmListens.not_idle (hl : WmListens s n) :
    ¬ (!s.coreOn || !fDecode.on s.act (refBase n) || fInMode.val s.act (refBase n) == 0) = true := by
  simp [hl.core, hl.decoder, hl.stage]

theorem WmListens.wmLose (hl : WmListens s n) : WmListens (wmLose s n) n := by
  have same : Within 0x4400000020200 s (Machine.wmLose s n) := by simp
  have act := same.act_eq rfl
  exact ⟨(same.coreOn_eq rfl).trans hl.core, by rw [act, hl.decoder], by rw [act]; exact hl.stage⟩

/-- A payload whose mark did not come where it was expected is one in its place to a decoder that has lost SYNC. -/
theorem wmReceived_late (p : Nat) (shape : Bool) (hn : n < 12) (hl : WmListens s n) :
    wmReceived s n p shape false age = wmReceived (wmLose s n) n p shape true age := by
  have run : (vat (wmLose s n).srcs n).wmRun = 0 := by rw [wmLose_source s hn]
  unfold wmReceived
  rw [if_neg hl.not_idle, if_neg hl.wmLose.not_idle]
  simp [run]

/-- In SYNC a good payload in its place is kept, and its code is received. -/
theorem wmReceived_inSync (hl : WmListens s n) (hg : wmGood p shape = true) (hs : (vat s.srcs n).wmSync = true) : ∃ u : State,
    u.srcs = vupd s.srcs n (fun y => { y with wmRun := 0, wmPayload := p, wmMark := markPhase s age }) ∧
    (wmReceived s n p shape true age).srcs = (inbandQl u n (bitsOf p 43 40)).srcs :=
  ⟨_, rfl, (congrArg State.srcs ((if_neg hl.not_idle).trans ((if_pos hg).trans (if_pos hs)))).trans (tickNumCheck_srcs ..)⟩

/-- Out of SYNC a good payload in its place is kept with its code, and the second in a row enters SYNC. -/
theorem wmReceived_outOfSync (hl : WmListens s n) (hg : wmGood p shape = true) (hs : (vat s.srcs n).wmSync = false) :
    let run := (vat s.srcs n).wmRun + 1
    (wmReceived s n p shape true age).srcs = vupd s.srcs n fun y =>
      { y with wmPayload := p, wmRun := if 2 ≤ run then 0 else run, wmSync := decide (2 ≤ run), wmMark := markPhase s age,
               lastInband := bitsOf p 43 40 } :=
  (congrArg State.srcs ((if_neg hl.not_idle).trans ((if_pos hg).trans (if_neg (Bool.eq_false_iff.mp hs))))).trans (raiseIf_srcs ..)

/-- A good payload in its place is kept with its code, and enters SYNC where it is the second in a row. -/
theorem wmReceived_good (hn : n < 12) (hl : WmListens s n) (hg : wmGood p shape = true) :
    let x := vat s.srcs n
    let t := wmReceived s n p shape true age
    (vat t.srcs n).wmPayload = p ∧ (vat t.srcs n).lastInband = bitsOf p 43 40 ∧
    (vat t.srcs n).wmSync = (x.wmSync || decide (1 ≤ x.wmRun)) ∧ (vat t.srcs n).wmCrcCnt = x.wmCrcCnt ∧
    ∀ k, k ≠ n → vat t.srcs k = vat s.srcs k := by
  dsimp only
  cases hs : (vat s.srcs n).wmSync with
  | true =>
    obtain ⟨u, before, after⟩ := wmReceived_inSync age hl hg hs
    obtain ⟨code, payload, sync, crc, others⟩ := inbandQl_source u (bitsOf p 43 40) hn
    rw [before, vat_vupd_same _ _ hn] at payload sync crc
    rw [after]
    refine ⟨payload, code, sync.trans hs, crc, fun k hk => ?_⟩
    rw [others k hk, before, vat_vupd_other _ _ hk.symm]
  | false =>
    rw [wmReceived_outOfSync age hl hg hs, vat_vupd_same _ _ hn]
    exact ⟨rfl, rfl, by simp, rfl, fun k hk => vat_vupd_other _ _ hk.symm⟩

/-- A bad payload in its place is counted; in SYNC the bad ones in a row are, and the third of them loses SYNC. -/
theorem wmReceived_badPayload (hl : WmListens s n) (hg : wmGood p shape = false) :
    let run := (vat s.srcs n).wmRun + 1
    let lost := (vat s.srcs n).wmSync && decide (3 ≤ run)
    (wmReceived s n p shape true age).srcs = vupd s.srcs n fun y =>
      { y with wmCrcCnt := stick 16 y.wmCrcCnt, wmSync := y.wmSync && !lost, wmRun := if y.wmSync && !lost then run else 0 } :=
  (congrArg State.srcs ((if_neg hl.not_idle).trans (if_neg (Bool.eq_false_iff.mp hg)))).trans ((raiseIf_srcs ..).trans (raiseIf_srcs true ..))

theorem wmReceived_bad (hn : n < 12) (hl : WmListens s n) (hg : wmGood p shape = false) :
    let x := vat s.srcs n
    let t := wmReceived s n p shape true age
    (vat t.srcs n).wmCrcCnt = stick 16 x.wmCrcCnt ∧ (vat t.srcs n).wmPayload = x.wmPayload ∧
    (vat t.srcs n).wmSync = (x.wmSync && decide (x.wmRun < 2)) ∧ ∀ k, k ≠ n → vat t.srcs k = vat s.srcs k := by
  dsimp only
  rw [wmReceived_badPayload age hl hg, vat_vupd_same _ _ hn]
  refine ⟨rfl, rfl, ?_, fun k hk => vat_vupd_other _ _ hk.symm⟩
  have third : (!decide (3 ≤ (vat s.srcs n).wmRun + 1)) = decide ((vat s.srcs n).wmRun < 2) := by
    rw [← decide_not, decide_eq_decide]
    omega
  cases hs : (vat s.srcs n).wmSync with
  | true => exact third
  | false => rfl

end

theorem wmMissing_listening {s : State} {n : Nat} (hc : s.coreOn = true) (hd : fDecode.on s.act (refBase n) = true) :
    wmMissing s n = wmLose s n :=
  if_neg (by simp [hc, hd])

/-- Settles O16: a payload in its place by whether it is good, a late one as a payload after the loss of SYNC. -/
theorem watermarkDecoder : Obligations.WatermarkDecoder := by
  unfold Obligations.WatermarkDecoder
  refine ⟨fun s n p shape time age hc hd hi hg => ⟨_, rfl, ?_⟩, fun s n p shape time age hc hd hi hg => ⟨_, rfl, ?_⟩,
    fun s n hc hd => ⟨_, rfl, ?_⟩⟩
  · have hn : n.val < 12 := by omega
    have hl : WmListens s n := ⟨hc, hd, hi⟩
    cases time with
    | true => exact wmReceived_good age hn hl hg
    | false =>
      obtain ⟨payload, code, sync, crc, others⟩ := wmReceived_good age hn hl.wmLose hg
      rw [wmLose_source s hn] at sync crc
      rw [wmReceived_late age _ _ hn hl]
      exact ⟨payload, code, sync, crc, fun k hk => (others k hk).trans (wmLose_others s hk)⟩
  · have hn : n.val < 12 := by omega
    have hl : WmListens s n := ⟨hc, hd, hi⟩
    cases time with
    | true => exact wmReceived_bad age hn hl hg
    | false =>
      obtain ⟨crc, payload, sync, others⟩ := wmReceived_bad age hn hl.wmLose hg
      rw [wmLose_source s hn] at crc payload sync
      rw [wmReceived_late age _ _ hn hl]
      exact ⟨crc, payload, sync, fun k hk => (others k hk).trans (wmLose_others s hk)⟩
  · rw [wmMissing_listening hc hd]
    exact ⟨by rw [wmLose_source s (by omega)], fun k hk => wmLose_others s hk⟩

end Sys2Proof.Machine
end

section
/-! PROOFS. TICKNUM_ADOPT and PHASE_HIT (O21). -/

namespace Sys2Proof.Machine

/-! ## The adoption of a tick number (R241, R260, R317) -/

/-- An adoption that acts: CORE is ON, one is due, and ADOPT is configured. -/
structure AdoptionDue (s : State) : Prop where
  core : s.coreOn = true
  due : (vat s.dplls 0).adoptDue = true
  adopt : fTicknum.val s.act (dpllBase 0) = 2

/-- The adoption is done with or discarded. -/
def adoptionTaken (s : State) : State := s.onDpll 0 fun y => { y with adoptDue := false, tickDiff := 0, tickDiffCnt := 0 }

theorem AdoptionDue.acts {s : State} (h : AdoptionDue s) :
    ¬ (!(s.coreOn && (vat s.dplls 0).adoptDue && fTicknum.val s.act (dpllBase 0) == 2)) = true := by
  simp [h.core, h.due, h.adopt]

/-- A committed seconds set at the same boundary wins over an adoption. -/
theorem adoptTicknum_secondsDue {s : State} (h : AdoptionDue s) (hd : secondsDue s = true) : adoptTicknum s = adoptionTaken s :=
  (if_neg h.acts).trans (if_pos hd)

theorem stepBench_dplls (s : State) (d : Int) : (stepBench s d).dplls = s.dplls := by
  have same : Within (Part.mask (Part.allBut [.dplls])) s (stepBench s d) := by simp [Part.bit]
  exact same.same .dplls

/-- Otherwise bench time steps by the difference in whole ticks; then APLL0 is not aligned. -/
theorem adoptTicknum_steps {s : State} (h : AdoptionDue s) (hd : secondsDue s = false) : adoptTicknum s =
    raiseIf (vat s.aplls 0).aligned ((stepBench (adoptionTaken s)
      (signedN 24 (vat s.dplls 0).tickDiff * (tickLenB s.time.period : Int))).onApll 0 fun a => { a with aligned := false }) evAlignLost 0 0 :=
  (if_neg h.acts).trans (if_neg (Bool.eq_false_iff.mp hd))

/-- The end of APLL0's alignment leaves the bench time and the DPLLs of the step, and its event. -/
theorem alignmentEnd_spec (b : Bool) (u : State) :
    let t := raiseIf b (u.onApll 0 fun a => { a with aligned := false }) evAlignLost 0 0
    t.time = u.time ∧ t.dplls = u.dplls ∧ (vat t.aplls 0).aligned = false ∧ (EventSet u evJump → EventSet t evJump) := by
  intro t
  have event (h : EventSet u evJump) : EventSet (u.onApll 0 fun a => { a with aligned := false }) evJump := h.congr (by simp) (by simp)
  cases b
  · exact ⟨rfl, rfl, by simp [t], event⟩
  · exact ⟨by simp [t], by simp [t], by simp [t], fun h => (event h).raiseAt evAlignLost 0 0⟩

theorem adoptTicknum_spec {s : State} (h : AdoptionDue s) (hd : secondsDue s = false) :
    let t := adoptTicknum s
    t.time.bench = wrapBench s.time.bench (signedN 24 (vat s.dplls 0).tickDiff * (tickLenB s.time.period : Int)) ∧
    (vat t.dplls 0).adoptDue = false ∧ (vat t.aplls 0).aligned = false ∧ EventSet t evJump := by
  dsimp only
  rw [adoptTicknum_steps h hd]
  obtain ⟨bench, -, jump⟩ := stepBench_spec (adoptionTaken s) (signedN 24 (vat s.dplls 0).tickDiff * (tickLenB s.time.period : Int))
  obtain ⟨time, dplls, aligned, event⟩ := alignmentEnd_spec (vat s.aplls 0).aligned
    (stepBench (adoptionTaken s) (signedN 24 (vat s.dplls 0).tickDiff * (tickLenB s.time.period : Int)))
  refine ⟨?_, ?_, aligned, event jump⟩
  · rw [time, bench]
    rfl
  · rw [dplls, stepBench_dplls]
    simp [adoptionTaken]

/-! ## Phase hits (R190, R237) -/

/-- What the loops do with a hit leaves the sources and the events that have been raised. -/
theorem hitBuildOut_stays (s : State) (n : Nat) : Within 0x140000 s (hitBuildOut s n) := by simp

/-- A hit is recorded, and disqualifies exactly where HIT_ACTION says so. -/
theorem phaseHit_recorded (s : State) (n : Fin 12) (edges : Nat) :
    let t := hitBuildOut (phaseHit s n edges) n
    (vat t.srcs n).hitClean = 0 ∧ (vat t.srcs n).hitAlarm = ((vat s.srcs n).hitAlarm || decide (fHitAction.val s.act (srcBase n) = 0)) ∧
    EventSet t evPhaseHit ∧ ∀ k : Nat, k ≠ n → vat t.srcs k = vat s.srcs k := by
  have stays := hitBuildOut_stays (phaseHit s n edges) n
  have event : EventSet (phaseHit s n edges) evPhaseHit := eventSet_raiseAt _ _ _ (by decide)
  dsimp only
  rw [stays .srcs rfl]
  exact ⟨by simp [phaseHit], by simp [phaseHit], event.of_within stays (by decide), by simpa [phaseHit] using vat_vupd_others⟩

/-- Settles O21: an adoption by whether a seconds set is due, a hit by whether the detector finds one. -/
theorem tickNumberAdoptionAndPhaseHits : Obligations.TickNumberAdoptionAndPhaseHits := by
  unfold Obligations.TickNumberAdoptionAndPhaseHits
  refine ⟨fun s hc ha hm hd => ⟨_, rfl, adoptTicknum_spec ⟨hc, ha, hm⟩ hd⟩, fun s hc ha hm hd => ⟨_, rfl, ?_⟩,
    fun s n span gap k h => ⟨_, congrArg Host.Outcome.next (if_neg (Bool.eq_false_iff.mp h)), rfl⟩,
    fun s n span gap k h => ⟨_, congrArg Host.Outcome.next (if_pos h), phaseHit_recorded s n k⟩⟩
  rw [adoptTicknum_secondsDue ⟨hc, ha, hm⟩ hd]
  exact ⟨rfl, by simp [adoptionTaken]⟩

end Sys2Proof.Machine
end

section
/-! PROOFS. What a change of a DPLL with its event leaves, and the timers of an acquisition (O18). -/

namespace Sys2Proof.Machine

/-! ## A change of one DPLL that raises its event -/

/-- What most commands of a DPLL come to: its event is raised, its own entry is the changed one, and the other DPLLs stay. -/
theorem onDpll_raiseAt_spec (s : State) (d : Fin 4) (f : Dpll → Dpll) {e : Nat} (unit cause : Nat) (he : e < 256) :
    let t := raiseAt (s.onDpll d f) e unit cause
    EventSet t e ∧ vat t.dplls d = f (vat s.dplls d) ∧ ∀ k : Nat, k ≠ d → vat t.dplls k = vat s.dplls k :=
  ⟨eventSet_raiseAt _ _ _ he, by simp, by simpa using vat_vupd_others⟩

/-! ## The timers (R226, R231, R244) -/

/-- The stage after `i`: the next one of the configuration, or the tracking loop after the last (R231). -/
def stageAfter (s : State) (d i : Nat) : Nat := if i + 1 < fNStages.val s.act (dpllBase d) then i + 1 else 7

theorem fastLock_due {s : State} {d b : Nat} (hl : (vat s.dplls d).loop = .acquire) (hs : (vat s.dplls d).stage < 4)
    (hb : (vat s.dplls d).lockSince = some b) (h : b + (fStageDwell (vat s.dplls d).stage).val s.act (dpllBase d) * ms16 ≤ s.now) :
    let nx := stageAfter s d (vat s.dplls d).stage
    fastLock s d = raiseAt (s.onDpll d fun y => { y with stage := nx, lockSince := if nx < 4 then some s.now else none }) evStage d nx := by
  unfold fastLock
  dsimp only
  rw [if_pos ⟨hl, hs⟩, hb]
  exact if_pos h

theorem acqTimeout_due {s : State} {d : Nat} (hl : (vat s.dplls d).loop = .acquire) (ht : (vat s.dplls d).acqTimedOut = false)
    (h : (vat s.dplls d).acqStart + fAcqTimeout.val s.act (dpllBase d) * sec16 < s.now) :
    acqTimeout s d = raiseAt (s.onDpll d fun y => { y with acqTimedOut := true }) evAcqTimeout d 0 := if_pos ⟨hl, ht, h⟩

theorem hostWdog_due {s : State} {d b : Nat} (hb : (vat s.dplls d).hostWrite = some b)
    (h : b + fWdog.val s.act (dpllBase d) * ms16 ≤ s.now) :
    hostWdog s d = raiseAt (s.onDpll d fun y => { y with hostWrite := none }) evHostWdog d 0 := by
  unfold hostWdog
  rw [hb]
  exact if_pos h

/-- Source 12 is usable only while its watchdog runs. -/
theorem hostUsable_of_hostWrite_none {s : State} {d : Nat} (h : (vat s.dplls d).hostWrite = none) : hostUsable s d = false := by
  simp [hostUsable, h]

/-- Settles O18: each timer that has run out changes its own DPLL and raises its event. -/
theorem acquisitionTimersOfADpll : Obligations.AcquisitionTimersOfADpll := by
  unfold Obligations.AcquisitionTimersOfADpll
  refine ⟨fun s d b hr hl hs hb h => ⟨_, congrArg Host.Outcome.next (if_pos hr), ?_⟩,
    fun s d hr hl ht h => ⟨_, congrArg Host.Outcome.next (if_pos hr), ?_⟩,
    fun s d b hc hb h => ⟨_, congrArg Host.Outcome.next (if_pos hc), ?_⟩⟩
  · rw [fastLock_due hl hs hb h]
    obtain ⟨event, own, others⟩ := onDpll_raiseAt_spec s d _ (e := evStage) _ _ (by decide)
    exact ⟨event, by rw [own]; rfl, others⟩
  · rw [acqTimeout_due hl ht h]
    obtain ⟨event, own, others⟩ := onDpll_raiseAt_spec s d _ (e := evAcqTimeout) _ _ (by decide)
    exact ⟨event, by rw [own], others⟩
  · rw [hostWdog_due hb h]
    obtain ⟨event, own, others⟩ := onDpll_raiseAt_spec s d _ (e := evHostWdog) _ _ (by decide)
    have stopped := congrArg Dpll.hostWrite own
    exact ⟨event, stopped, hostUsable_of_hostWrite_none stopped, others⟩

end Sys2Proof.Machine
end

section
/-! PROOFS. External feedback (O19). -/

namespace Sys2Proof.Machine

/-! ## A fault of the feedback (R243, R253) -/

theorem feedbackFault_watched {s : State} {d : Nat} (f : FbState) (e : Nat) (h : fbWatched s d = true) :
    feedbackFault s d f e = raiseAt (s.onDpll d fun y => { y with
      fb := f, fbFaultTick := some s.time.tickSeq, fbGood := 0, fbVaried := false }) e d 0 := by
  simp only [fbWatched, Bool.and_eq_true] at h
  obtain ⟨⟨⟨⟨runs, used⟩, closed⟩, ok⟩, monitored⟩ := h
  unfold feedbackFault
  dsimp only
  rw [runs, used, closed, ok, monitored]
  rfl

/-- A loop that has lost its source in this tick keeps the tick of the fault as it was, and the feedback is the cause. -/
theorem feedbackFault_justLost {s : State} {d : Nat} (f : FbState) (e : Nat) (h : fbJustLost s d = true) :
    feedbackFault s d f e = raiseAt (s.onDpll d fun y => { y with
      fb := f, fbGood := 0, fbVaried := false, loopCause := lcFeedback }) e d 0 := by
  simp only [fbJustLost, Bool.and_eq_true, Bool.not_eq_true'] at h
  obtain ⟨⟨⟨⟨⟨runs, used⟩, closed⟩, lost⟩, ok⟩, monitored⟩ := h
  unfold feedbackFault
  dsimp only
  rw [runs, used, closed, lost, ok, monitored]
  rfl

/-- Either fault of a watched loop: its state and event now, the loop state not yet (R243). -/
theorem feedbackFault_watched_spec {s : State} {d : Fin 4} (f : FbState) {e : Nat} (he : e < 256) (h : fbWatched s d = true) :
    let t := feedbackFault s d f e
    EventSet t e ∧ (vat t.dplls d).fb = f ∧ (vat t.dplls d).fbFaultTick = some s.time.tickSeq ∧
      (vat t.dplls d).loop = (vat s.dplls d).loop ∧ ∀ k : Nat, k ≠ d → vat t.dplls k = vat s.dplls k := by
  rw [feedbackFault_watched f e h]
  obtain ⟨event, own, others⟩ := onDpll_raiseAt_spec s d _ d 0 he
  exact ⟨event, by rw [own], by rw [own], by rw [own], others⟩

theorem feedbackFault_justLost_spec {s : State} {d : Fin 4} (f : FbState) {e : Nat} (he : e < 256) (h : fbJustLost s d = true) :
    let t := feedbackFault s d f e
    EventSet t e ∧ (vat t.dplls d).fb = f ∧ (vat t.dplls d).loopCause = lcFeedback ∧ (vat t.dplls d).loop = (vat s.dplls d).loop := by
  rw [feedbackFault_justLost f e h]
  obtain ⟨event, own, -⟩ := onDpll_raiseAt_spec s d _ d 0 he
  exact ⟨event, by rw [own], by rw [own], by rw [own]⟩

/-! ## The feedback is found again (R243) -/

theorem feedbackOk_due {s : State} {d : Nat} (hc : s.coreOn = true) (hf : (vat s.dplls d).fb ≠ .ok) (hg : 64 ≤ (vat s.dplls d).fbGood)
    (hv : (vat s.dplls d).fbVaried = true) : feedbackOk s d = raiseAt (s.onDpll d fun y => { y with fb := .ok }) evFbOk d 0 :=
  if_pos (by simp [hc, hf, hg, hv])

/-- Settles O19: a fault by whether its loop is watched or has just lost its source, the recovery by its count. -/
theorem externalFeedbackState : Obligations.ExternalFeedbackState := by
  unfold Obligations.ExternalFeedbackState
  refine ⟨fun s d hw h => ⟨_, congrArg Host.Outcome.next (if_pos h), feedbackFault_watched_spec .lost (by decide) hw⟩,
    fun s d hw h => ⟨_, congrArg Host.Outcome.next (if_pos h), feedbackFault_watched_spec .frozen (by decide) hw⟩,
    fun s d hl h => ⟨_, congrArg Host.Outcome.next (if_pos h), feedbackFault_justLost_spec .lost (by decide) hl⟩,
    fun s d h => ⟨_, congrArg Host.Outcome.next (if_neg (Bool.eq_false_iff.mp h)), rfl⟩,
    fun s d h => ⟨_, congrArg Host.Outcome.next (if_neg (Bool.eq_false_iff.mp h)), rfl⟩,
    fun s d hc hf hg hv => ⟨_, rfl, ?_⟩⟩
  rw [feedbackOk_due hc hf hg hv]
  obtain ⟨event, own, others⟩ := onDpll_raiseAt_spec s d _ (e := evFbOk) _ _ (by decide)
  exact ⟨event, by rw [own], by rw [own], others⟩

end Sys2Proof.Machine
end

section
/-! PROOFS. Lock and unlock are declared (O17). -/

namespace Sys2Proof.Machine

/-! ## A change of the loop state (R157, R770) -/

theorem EventSet.raiseIf {s : State} {e : Nat} (h : EventSet s e) (b : Bool) (n unit cause : Nat) :
    EventSet (raiseIf b s n unit cause) e := by
  cases b
  · exact h
  · exact h.raiseAt n unit cause

theorem EventSet.refreshMode {s : State} {e : Nat} (h : EventSet s e) (cause : Nat) : EventSet (refreshMode s cause) e := by
  unfold Machine.refreshMode
  dsimp only
  split
  · exact h
  · refine EventSet.raiseAt ?_ _ _ _
    exact h.congr rfl rfl

@[simp] theorem raiseIf_dplls (b : Bool) (s : State) (e unit cause : Nat) : (raiseIf b s e unit cause).dplls = s.dplls := by
  cases b <;> simp

@[simp] theorem raiseIf_model (b : Bool) (s : State) (e unit cause : Nat) : (raiseIf b s e unit cause).model = s.model := by
  cases b <;> simp

@[simp] theorem refreshMode_dplls (s : State) (cause : Nat) : (refreshMode s cause).dplls = s.dplls := by
  have kept : Within 0x4400000018200 s (refreshMode s cause) := by simp
  exact kept .dplls rfl

/-- A change of the loop state takes no event back. -/
theorem EventSet.setLoop {s : State} {e : Nat} (h : EventSet s e) (d : Nat) (l : LoopState) (cause : Nat) :
    EventSet (setLoop s d l cause) e := by
  unfold Machine.setLoop
  extract_lets was closed left entered thawed timed
  have marked : EventSet closed e := h.congr rfl rfl
  have told : EventSet entered e := (marked.raiseIf _ _ _ _).raiseIf _ _ _ _
  have frozen : EventSet thawed e := by
    unfold thawed
    split
    · exact told.congr rfl rfl
    · exact told
  have last : EventSet timed e := frozen.congr rfl rfl
  split
  · exact h
  split
  · exact last.refreshMode mcLoop
  · exact last

/-- DPLL `d` after a change of its loop state: the state, its cause, and the XO age from which it is LOCKED. -/
def Dpll.enter (l : LoopState) (cause age : Nat) (x : Dpll) : Dpll :=
  { x with loop := l, loopCause := cause, lockedSince := if l = .locked then some age else none }

/-- Among the DPLLs a change of the loop state is that of its own. -/
theorem setLoop_dpll {s : State} {d : Fin 4} {l : LoopState} (h : (vat s.dplls d).loop ≠ l) (cause : Nat) :
    vat (setLoop s d l cause).dplls d = (vat s.dplls d).enter l cause s.model.xoAge ∧
      ∀ k : Nat, k ≠ d → vat (setLoop s d l cause).dplls k = vat s.dplls k := by
  unfold setLoop
  extract_lets was closed left entered thawed timed
  have model : thawed.model = s.model := by
    unfold thawed
    split <;> simp [entered, left, closed]
  have dplls : thawed.dplls = closed.dplls := by
    unfold thawed
    split <;> simp [entered, left]
  have all : (if (d : Nat) = 0 then refreshMode timed mcLoop else timed).dplls = timed.dplls := by split <;> simp
  rw [if_neg h, all]
  have own : vat timed.dplls d = (vat s.dplls d).enter l cause s.model.xoAge := by
    simp [timed, dplls, closed, model, Dpll.enter]
  have others : ∀ k : Nat, k ≠ d → vat timed.dplls k = vat s.dplls k := fun k hk => by
    simp [timed, dplls, closed, hk.symm]
  exact ⟨own, others⟩

/-! ## DPLL_LOCK (R231, R233, R238, R251, R252) -/

/-- A loop that can declare is closed. -/
theorem loop_closed_of_canDeclare {s : State} {d : Nat} (h : canDeclare s d = true) :
    (vat s.dplls d).loop = .acquire ∨ (vat s.dplls d).loop = .locked := by
  simp only [canDeclare, Bool.and_eq_true, Bool.or_eq_true, beq_iff_eq] at h
  obtain ⟨⟨⟨-, closed⟩, -⟩, -⟩ := h
  exact closed

theorem loop_acquire_of_lockDue {x : Dpll} (h : lockDue x = true) : x.loop = .acquire := by
  simp only [lockDue, Bool.and_eq_true, beq_iff_eq] at h
  obtain ⟨⟨-, acquiring⟩, -⟩ := h
  exact acquiring

/-- Lock is told, and in a stage it starts the dwell. -/
def lockTold (s : State) (d : Nat) : State :=
  raiseAt (s.onDpll d fun y => { y with lockSince := if y.stage < 4 then some s.now else none }) evLock d lcLock

/-- Lock is declared: in the tracking loop it makes the loop LOCKED. -/
def lockDeclared (s : State) (d : Nat) : State :=
  if (vat s.dplls d).stage < 4 then lockTold s d else setLoop (lockTold s d) d .locked lcLock

/-- The realignment that a lock brings waits for a BO that is yet to be rebuilt (R238). -/
def realignOnLock (rebuilding : Bool) (s : State) (d : Nat) : State :=
  if fRelock.on s.act (dpllBase d) then s
  else if rebuilding then s.onDpll d fun y => { y with realignDue := true }
  else realign s d

theorem declareLock_due {s : State} {d : Nat} (hc : canDeclare s d = true) (hp : s.time.phase = .evaluate)
    (hl : lockDue (vat s.dplls d) = true) (hu : (vat s.dplls d).unlockTick ≠ some s.time.tickSeq)
    (hs : (vat s.dplls d).switchTick ≠ some s.time.tickSeq) :
    declareLock s d = realignOnLock (vat s.dplls d).boPending.isSome (lockDeclared s d) d :=
  if_neg (by simp [hc, hp, hl, hu, hs])

/-- A realignment leaves the loop state with its cause, the dwell, the other DPLLs, and what has been raised. -/
theorem realignOnLock_spec (rebuilding : Bool) (s : State) (d : Fin 4) :
    let t := realignOnLock rebuilding s d
    (vat t.dplls d).loop = (vat s.dplls d).loop ∧ (vat t.dplls d).loopCause = (vat s.dplls d).loopCause ∧
      (vat t.dplls d).lockSince = (vat s.dplls d).lockSince ∧ (∀ k : Nat, k ≠ d → vat t.dplls k = vat s.dplls k) ∧
      ∀ e, EventSet s e → EventSet t e := by
  have changed (f : Dpll → Dpll) : (∀ k : Nat, k ≠ d → vat (s.onDpll d f).dplls k = vat s.dplls k) ∧
      ∀ e, EventSet s e → EventSet (s.onDpll d f) e :=
    ⟨vat_vupd_others, fun _ h => h.congr rfl rfl⟩
  unfold realignOnLock
  dsimp only
  split
  · exact ⟨rfl, rfl, rfl, fun _ _ => rfl, fun _ h => h⟩
  split
  · exact ⟨by simp, by simp, by simp, changed _⟩
  · exact ⟨by simp [realign], by simp [realign], by simp [realign], changed _⟩

theorem lockTold_spec (s : State) (d : Fin 4) :
    let t := lockTold s d
    EventSet t evLock ∧ vat t.dplls d = { vat s.dplls d with lockSince := if (vat s.dplls d).stage < 4 then some s.now else none } ∧
      ∀ k : Nat, k ≠ d → vat t.dplls k = vat s.dplls k := onDpll_raiseAt_spec s d _ _ _ (by decide)

/-- In a stage lock starts the dwell; in the tracking loop it makes the loop LOCKED. -/
theorem lockDeclared_spec {s : State} {d : Fin 4} (hl : lockDue (vat s.dplls d) = true) :
    let t := lockDeclared s d
    EventSet t evLock ∧
      (if (vat s.dplls d).stage < 4 then (vat t.dplls d).loop = (vat s.dplls d).loop ∧ (vat t.dplls d).lockSince = some s.now
       else (vat t.dplls d).loop = .locked ∧ (vat t.dplls d).loopCause = lcLock) ∧
      ∀ k : Nat, k ≠ d → vat t.dplls k = vat s.dplls k := by
  obtain ⟨event, own, others⟩ := lockTold_spec s d
  unfold lockDeclared
  dsimp only
  by_cases stage : (vat s.dplls d).stage < 4
  · rw [if_pos stage, if_pos stage, own]
    exact ⟨event, ⟨rfl, if_pos stage⟩, others⟩
  · have acquiring : (vat (lockTold s d).dplls d).loop ≠ .locked := by
      rw [own, loop_acquire_of_lockDue hl]
      decide
    obtain ⟨entered, rest⟩ := setLoop_dpll acquiring lcLock
    rw [if_neg stage, if_neg stage, entered]
    exact ⟨event.setLoop d .locked lcLock, ⟨rfl, rfl⟩, fun k hk => (rest k hk).trans (others k hk)⟩

theorem declareLock_idle {s : State} {d : Nat} (h : s.time.phase ≠ .evaluate ∨ lockDue (vat s.dplls d) = false) : declareLock s d = s :=
  if_pos (by obtain h | h := h <;> simp [h])

/-! ## DPLL_UNLOCK (R225, R231, R232, R233) -/

/-- Unlock is told, and ends the dwell of a stage. -/
def unlockTold (s : State) (d : Nat) : State :=
  raiseAt (s.onDpll d fun y => { y with lockSince := none, unlockTick := some s.time.tickSeq }) evUnlock d lcUnlock

/-- A loop that was LOCKED acquires in the tracking loop, its acquisition timed anew (R226). -/
def reacquiring (s : State) (d : Nat) : State := s.onDpll d fun y => { y with stage := 7, acqStart := s.now, acqTimedOut := false }

theorem declareUnlock_due {s : State} {d : Nat} (hc : canDeclare s d = true) (hp : s.time.phase = .evaluate)
    (hu : (vat s.dplls d).unlockMet = true) (hl : (vat s.dplls d).loop = .locked ∨ (vat s.dplls d).lockSince ≠ none) :
    declareUnlock s d = if (vat s.dplls d).loop = .locked then setLoop (reacquiring (unlockTold s d) d) d .acquire lcUnlock
      else unlockTold s d :=
  if_neg (by simp [hc, hp, hu, imp_iff_not_or, hl])

theorem unlockTold_spec (s : State) (d : Fin 4) :
    let t := unlockTold s d
    EventSet t evUnlock ∧ vat t.dplls d = { vat s.dplls d with lockSince := none, unlockTick := some s.time.tickSeq } ∧
      ∀ k : Nat, k ≠ d → vat t.dplls k = vat s.dplls k := onDpll_raiseAt_spec s d _ _ _ (by decide)

theorem declareUnlock_spec {s : State} {d : Fin 4} (hc : canDeclare s d = true) (hp : s.time.phase = .evaluate)
    (hu : (vat s.dplls d).unlockMet = true) (hl : (vat s.dplls d).loop = .locked ∨ (vat s.dplls d).lockSince ≠ none) :
    let t := declareUnlock s d
    EventSet t evUnlock ∧ (vat t.dplls d).loop = .acquire ∧ (vat t.dplls d).lockSince = none ∧
      (vat t.dplls d).unlockTick = some s.time.tickSeq ∧
      (vat t.dplls d).stage = (if (vat s.dplls d).loop = .locked then 7 else (vat s.dplls d).stage) ∧
      ∀ k : Nat, k ≠ d → vat t.dplls k = vat s.dplls k := by
  obtain ⟨event, own, others⟩ := unlockTold_spec s d
  rw [declareUnlock_due hc hp hu hl]
  dsimp only
  by_cases locked : (vat s.dplls d).loop = .locked
  · have again : vat (reacquiring (unlockTold s d) d).dplls d = { vat s.dplls d with
        lockSince := none, unlockTick := some s.time.tickSeq, stage := 7, acqStart := (unlockTold s d).now, acqTimedOut := false } := by
      simp [reacquiring, own]
    have left : (vat (reacquiring (unlockTold s d) d).dplls d).loop ≠ .acquire := by
      rw [again, locked]
      decide
    have kept : EventSet (reacquiring (unlockTold s d) d) evUnlock := event.congr rfl rfl
    obtain ⟨entered, rest⟩ := setLoop_dpll left lcUnlock
    rw [if_pos locked, if_pos locked, entered, again]
    exact ⟨kept.setLoop d .acquire lcUnlock, rfl, rfl, rfl, rfl,
      fun k hk => (rest k hk).trans ((vat_vupd_others k hk).trans (others k hk))⟩
  · rw [if_neg locked, if_neg locked, own]
    exact ⟨event, (loop_closed_of_canDeclare hc).resolve_right locked, rfl, rfl, rfl, others⟩

theorem declareUnlock_idle {s : State} {d : Nat} (h : s.time.phase ≠ .evaluate ∨ (vat s.dplls d).unlockMet = false) :
    declareUnlock s d = s :=
  if_pos (by obtain h | h := h <;> simp [h])

/-- Settles O17: by whether the loop is in a stage or in the tracking loop. -/
theorem lockAndUnlockAreDeclared : Obligations.LockAndUnlockAreDeclared := by
  unfold Obligations.LockAndUnlockAreDeclared
  refine ⟨fun s d hc hp hl hu hs => ⟨_, rfl, ?_⟩, fun s d h => ⟨_, rfl, declareLock_idle h⟩,
    fun s d hc hp hu hl => ⟨_, rfl, declareUnlock_spec hc hp hu hl⟩, fun s d h => ⟨_, rfl, declareUnlock_idle h⟩⟩
  rw [declareLock_due hc hp hl hu hs]
  obtain ⟨event, state, others⟩ := lockDeclared_spec hl
  obtain ⟨loop, cause, since, rest, events⟩ := realignOnLock_spec (vat s.dplls d).boPending.isSome (lockDeclared s d) d
  rw [loop, cause, since]
  exact ⟨events _ event, state, fun k hk => (rest k hk).trans (others k hk)⟩

end Sys2Proof.Machine
end

section
/-! PROOFS. Temperature measurements and learning minutes (O22). -/

namespace Sys2Proof.Machine

/-! ## The TSENSE state (R275) -/

@[simp] theorem raise_model (s : State) (e : Nat) : (raise s e).model = s.model := by simp [raise]

/-- A change of the TSENSE state leaves the readings of the present second and the temperatures shown. -/
@[simp] theorem setTs_model (s : State) (t : TsState) :
    (setTs s t).model.tsState = t ∧ (setTs s t).model.samples = s.model.samples ∧ (setTs s t).model.tempTs = s.model.tempTs ∧
      (setTs s t).model.tempDie = s.model.tempDie := by
  unfold setTs
  split
  next same => exact ⟨same, rfl, rfl, rfl⟩
  next => cases t <;> simp

@[simp] theorem tsEnable_samples (s : State) : (tsEnable s).model.samples = s.model.samples := by
  unfold tsEnable
  dsimp only
  split
  · simp
  split
  · simp
  · rfl

@[simp] theorem tsEnable_act (s : State) : (tsEnable s).act = s.act := by
  have kept : Within 0x4400000100200 s (tsEnable s) := by simp
  exact kept.act_eq rfl

/-- EN alone decides whether the state is DISABLED. -/
theorem tsEnable_disabled_iff (s : State) : (tsEnable s).model.tsState = .disabled ↔ fTsEn.on s.act modelBase = false := by
  unfold tsEnable
  cases en : fTsEn.on s.act modelBase with
  | false => simp
  | true =>
    by_cases off : s.model.tsState = .disabled <;> simp [off]

/-! ## A measurement (R274, R275) -/

/-- The measurement makes the state FAULT: EN is set, and the excitation did not settle or the reading is out of range. -/
def badMeasure (s : State) (ts : Int) (settled : Bool) : Bool :=
  (tsEnable s).model.tsState != .disabled && (!settled || decide (tsReading s.act ts < -6000) || decide (16000 < tsReading s.act ts))

/-- The state in which a measurement is kept, before it is looked at. -/
def measureKept (s : State) (ts die : Int) (settled : Bool) : State :=
  (tsEnable s).onModel fun m =>
    { m with samples := (tsReading s.act ts, die) :: m.samples, tsBad := m.tsBad || badMeasure s ts settled }

theorem tsMeasure_eq {s : State} (hc : s.coreOn = true) (ts die : Int) (settled : Bool) :
    tsMeasure s ts die settled =
      if badMeasure s ts settled then setTs (measureKept s ts die settled) .fault else measureKept s ts die settled := by
  unfold measureKept badMeasure
  rw [← tsEnable_act s]
  exact if_neg (by simp [hc])

theorem tsMeasure_samples {s : State} (hc : s.coreOn = true) (ts die : Int) (settled : Bool) :
    (tsMeasure s ts die settled).model.samples = (tsReading s.act ts, die) :: s.model.samples := by
  rw [tsMeasure_eq hc]
  split <;> simp [measureKept]

theorem tsMeasure_fault {s : State} {ts : Int} {settled : Bool} (hc : s.coreOn = true) (die : Int)
    (hb : badMeasure s ts settled = true) : (tsMeasure s ts die settled).model.tsState = .fault := by
  rw [tsMeasure_eq hc, if_pos hb]
  simp

theorem badMeasure_of_enabled {s : State} {ts : Int} {settled : Bool} (he : fTsEn.on s.act modelBase = true)
    (h : settled = false ∨ tsReading s.act ts < -6000 ∨ 16000 < tsReading s.act ts) : badMeasure s ts settled = true := by
  have judged : (tsEnable s).model.tsState ≠ .disabled := by simp [tsEnable_disabled_iff, he]
  simpa [badMeasure, judged, or_assoc] using h

/-! ## The judgement of a second (R274, R275) -/

/-- The judgement shows the means and forgets the readings; after that it changes the TSENSE state at most, and not that of DISABLED. -/
theorem tsJudge_cases {s : State} (hc : s.coreOn = true) (hs : s.model.samples ≠ []) : ∃ u : State,
    u.model.tempTs = meanReading (s.model.samples.map (·.1)) ∧ u.model.tempDie = meanDie (s.model.samples.map (·.2)) ∧
    u.model.samples = [] ∧ u.model.tsState = (tsEnable s).model.tsState ∧
    (tsJudge s = u ∨ u.model.tsState ≠ .disabled ∧ ∃ t, tsJudge s = setTs u t) := by
  unfold tsJudge
  extract_lets enabled m t die averaged shown rs first last full still dt dd
  have measured : ¬ m.samples.isEmpty = true := by simpa [m, enabled] using hs
  have means : averaged = enabled.onModel _ := if_neg measured
  rw [hc, Bool.not_true, if_neg Bool.false_ne_true]
  refine ⟨shown, by simp [shown, means, t, m, enabled], by simp [shown, means, die, m, enabled], rfl, by simp [shown, means, enabled], ?_⟩
  split
  · exact .inl rfl
  next judged =>
    have on : shown.model.tsState ≠ .disabled := fun off => judged (by simp [off])
    split
    · exact .inr ⟨on, _, rfl⟩
    split
    · exact .inr ⟨on, _, rfl⟩
    · exact .inl rfl

theorem tsJudge_spec {s : State} (hc : s.coreOn = true) (hs : s.model.samples ≠ []) :
    let t := tsJudge s
    t.model.tempTs = meanReading (s.model.samples.map (·.1)) ∧ t.model.tempDie = meanDie (s.model.samples.map (·.2)) ∧
      t.model.samples = [] ∧ (fTsEn.on s.act modelBase = false → t.model.tsState = .disabled) := by
  obtain ⟨u, ts, die, forgot, state, unchanged | ⟨judged, t, changed⟩⟩ := tsJudge_cases hc hs
  · rw [unchanged]
    exact ⟨ts, die, forgot, fun off => state.trans ((tsEnable_disabled_iff s).mpr off)⟩
  · have on : ¬ fTsEn.on s.act modelBase = false := by rwa [state, ne_eq, tsEnable_disabled_iff] at judged
    rw [changed]
    simp [ts, die, forgot, on]

/-! ## A learning minute (R278, R280, R281, R288) -/

theorem learnMinute_short {s : State} (h : s.model.minDue.length < 30) : learnMinute s = s := if_pos h

/-- A waiting minute of 30 seconds or more fits, measures and judges the die set, with an AGE flag that both sets share; a flag it
changed is told. -/
theorem learnMinute_due {s : State} (h : 30 ≤ s.model.minDue.length) :
    ∃ (ts : SensorSet) (ag : Bool) (y temp u : Rat) (tau days : Nat),
      learnMinute s = flagEvent s.model (s.onModel fun m => { m with
        ts := { ts with ageV := ag },
        die := { ((m.die.learn y temp u tau days m.xoAge).measure days m.xoAge).judge (fResMax.val s.act modelBase) m.xoAge with ageV := ag },
        minDue := [], learnedSince := true }) :=
  ⟨_, _, _, _, _, _, _, if_neg (Nat.not_lt.mpr h)⟩

@[simp] theorem flagEvent_model (was : Model) (s : State) : (flagEvent was s).model = s.model := raiseIf_model ..

theorem eventSet_flagEvent {was : Model} {s : State} (h : s.model.flags ≠ was.flags) : EventSet (flagEvent was s) evModelValid := by
  unfold flagEvent
  rw [bne_iff_ne.mpr h]
  exact eventSet_raiseAt s 0 0 (by decide)

theorem learnMinute_spec {s : State} (h : 30 ≤ s.model.minDue.length) :
    let t := learnMinute s
    t.model.minDue = [] ∧ t.model.learnedSince = true ∧ t.model.die.minutes = min (2 ^ 32 - 1) (s.model.die.minutes + 1) ∧
      t.model.die.temp1 = (decide (200 ≤ t.model.die.span) && decide (1440 ≤ t.model.die.minutes) &&
        decide (t.model.die.residual ≤ fResMax.val s.act modelBase)) ∧
      t.model.die.temp2 = (t.model.die.temp1 && decide (800 ≤ t.model.die.span)) ∧ t.model.ts.ageV = t.model.die.ageV ∧
      (t.model.flags ≠ s.model.flags → EventSet t evModelValid) := by
  obtain ⟨ts, ag, y, temp, u, tau, days, processed⟩ := learnMinute_due h
  rw [processed]
  dsimp only
  rw [flagEvent_model]
  exact ⟨rfl, rfl, rfl, rfl, rfl, rfl, eventSet_flagEvent⟩

/-- Settles O22: a measurement by whether it is a bad one, the judgement by whether it changes the state of the means it shows, and a
minute by whether it is long enough and comes in spare cycles. -/
theorem temperatureAndLearning : Obligations.TemperatureAndLearning := by
  unfold Obligations.TemperatureAndLearning
  refine ⟨fun s ts die settled hc => ⟨_, rfl, tsMeasure_samples hc ts die settled,
      fun he h => tsMeasure_fault hc die (badMeasure_of_enabled he h)⟩,
    fun s hc hs => ⟨_, rfl, tsJudge_spec hc hs⟩,
    fun s hs h => ⟨_, congrArg Host.Outcome.next (if_pos hs), learnMinute_spec h⟩, fun s h => ?_⟩
  refine ⟨_, rfl, ?_⟩
  obtain short | busy := h
  · rw [learnMinute_short short, ite_self]
  · exact if_neg (by simp [busy])

end Sys2Proof.Machine
end

section
/-! PROOFS. The band searches of an APLL (O23). -/

namespace Sys2Proof.Machine

/-! ## What the outputs' and the FODs' share leaves of the APLLs -/

@[simp] theorem settleOuts_aplls (s : State) : (settleOuts s).aplls = s.aplls :=
  (show Within 0x4400001800200 s (settleOuts s) by simp) .aplls rfl

@[simp] theorem fodsStop_aplls (s : State) (n : Nat) : (fodsStop s n).aplls = s.aplls := rfl

theorem raiseAt_aplls (s : State) (e unit cause : Nat) : (raiseAt s e unit cause).aplls = s.aplls := by simp

theorem echo_aplls (s : State) (m : Master) (addr value : Nat) (args : List Nat) (result : Nat) :
    (echo s m addr value args result).aplls = s.aplls := rfl

theorem access_aplls (s : State) (m : Master) : (access s m).aplls = s.aplls := by simp

/-! ## When an APLL can search, and the start of a search (R309, R310) -/

/-- Whether an APLL can search is told by the power unit, the SPLL, the operating mode and the active configuration. -/
theorem searchable_congr {s t : State} (hp : t.pwr = s.pwr) (hs : t.spll = s.spll) (hm : t.mode = s.mode) (ha : t.act = s.act) (n : Nat) :
    searchable t n = searchable s n := by
  unfold searchable State.apllsRun State.clockMode State.coreOn State.synOn State.inReset
  rw [hp, hs, hm, ha]

theorem searchable_access (s : State) (m : Master) (n : Nat) : searchable (access s m) n = searchable s n :=
  searchable_congr (by simp) (by simp) (by simp) (by simp) n

/-- After an update of one APLL: that one as updated, the other as it was. -/
theorem apll_of_vupd {s t : State} {n : Fin 2} {f : Apll → Apll} (h : t.aplls = vupd s.aplls n f) :
    vat t.aplls n = f (vat s.aplls n) ∧ ∀ k : Nat, k ≠ n → vat t.aplls k = vat s.aplls k := by
  rw [h]
  exact ⟨vat_vupd_same _ _ n.isLt, vat_vupd_others⟩

/-- An APLL begins its search, at the average frequency and with the present word frozen (R310, R321, R328). -/
def searchBegun (s : State) (n : Nat) (a : Apll) : Apll :=
  { a with
    st := .search, secondTry := false, lock := false, aligned := false, owed := false, delayDue := false,
    frozenWord := (vat s.dplls n).applied, searchAt := s.now, searchFreq := vcoAvg s.act n }

/-- A search that can start, outside SUPPLY_LOW, starts (R309, R137). -/
theorem searchStart_aplls {s : State} {n : Nat} (hs : searchable s n = true) (hl : s.pwr.supplyLow = false) :
    (searchStart s n).aplls = vupd s.aplls n (searchBegun s n) := by
  unfold searchStart
  rw [if_neg (by simp [hs]), if_neg (by simp [hl]), settleOuts_aplls, fodsStop_aplls]
  rfl

theorem researchCmd_starts {s : State} {m : Master} {n : Nat} (hc : s.servedCore = true) (hs : searchable s n = true)
    (h1 : (vat s.aplls n).st ≠ .search) (h2 : (vat s.aplls n).st ≠ .locking) :
    researchCmd s m n = echo (searchStart s n) m (apllBase n + 0xE) 1 [] resAccepted := by
  unfold researchCmd
  simp [hc, hs, h1, h2]

/-! ## The end of a search (R310, R311, R312) -/

/-- The update of an APLL that goes on to ALIGNING, or past it where it can be aligned to nothing. -/
theorem alignStart_aplls (s : State) (n : Nat) : (alignStart s n).aplls = vupd s.aplls n fun x => { x with
    st := if unalignable s.act n then .waitEpoch else .aligning, aligned := false, readyAt := inCycles16 s n } := by
  simp [alignStart]

theorem st_of_searching {s : State} {n : Nat} (h : searching s n = true) :
    ((vat s.aplls n).st = .search ∨ (vat s.aplls n).st = .locking) ∧ (vat s.aplls n).delayDue = false ∧ s.synOn = true := by
  simpa [searching, and_assoc] using h

/-- APLL `n` has locked on band `code`, with the word in force (R310, R330). -/
def bandTaken (s : State) (n code vtune : Nat) : State :=
  s.onApll n fun x => { x with band := code, vtune := vtune, lock := true, word := (vat s.dplls n).applied }

theorem bandDone_searching {s : State} {n : Nat} (code vtune : Nat) (h : searching s n = true) :
    bandDone s n code vtune = raiseAt (raiseAt (alignStart (bandTaken s n code vtune) n) evBandDone n 0) evApllLock n 0 := by
  obtain ⟨st, delay, syn⟩ := st_of_searching h
  unfold bandDone
  obtain st | st := st <;> simp [st, delay, syn, bandTaken]

theorem bandFail_first {s : State} {n : Nat} (h : searching s n = true) (h2 : (vat s.aplls n).secondTry = false) :
    bandFail s n = s.onApll n fun x => { x with secondTry := true, st := .search, searchAt := s.now } := by
  obtain ⟨st, delay, syn⟩ := st_of_searching h
  unfold bandFail
  obtain st | st := st <;> simp [st, delay, syn, h2]

theorem bandFail_second {s : State} {n : Nat} (h : searching s n = true) (h2 : (vat s.aplls n).secondTry = true) :
    bandFail s n = raiseAt (settleOuts (s.onApll n fun x => { x with st := .fault })) evBandFail n 0 := by
  obtain ⟨st, delay, syn⟩ := st_of_searching h
  unfold bandFail
  obtain st | st := st <;> simp [st, delay, syn, h2]

/-- Settles O23: each row by the update of its APLL, which nothing that follows in the row changes. -/
theorem bandSearchesOfAnApll : Obligations.BandSearchesOfAnApll := by
  unfold Obligations.BandSearchesOfAnApll
  refine ⟨fun s m n hc hs hl h1 h2 => ⟨_, rfl, ?_⟩, fun s n code vt h => ⟨_, rfl, ?_⟩, fun s n h h2 => ⟨_, rfl, ?_⟩,
    fun s n h h2 => ⟨_, rfl, ?_⟩⟩
  · have can : searchable (access s m) n = true := (searchable_access s m n).trans hs
    rw [researchCmd_starts (by simpa using hc) can (by simpa using h1) (by simpa using h2)]
    obtain ⟨own, others⟩ := apll_of_vupd (searchStart_aplls can (by simpa using hl))
    rw [access_aplls] at others
    refine ⟨echoed_echo .., ?_⟩
    rw [echo_aplls, own]
    exact ⟨rfl, rfl, rfl, others⟩
  · rw [bandDone_searching code vt h]
    obtain ⟨own, others⟩ := apll_of_vupd (alignStart_aplls (bandTaken s n code vt) n)
    obtain ⟨taken, rest⟩ := apll_of_vupd (s := s) (t := bandTaken s n code vt) rfl
    generalize alignStart (bandTaken s n code vt) n = u at own others
    rw [raiseAt_aplls, raiseAt_aplls, own, taken]
    exact ⟨eventSet_raiseAt _ _ _ (by decide), rfl, rfl, rfl, rfl, fun k hk => (others k hk).trans (rest k hk)⟩
  · rw [bandFail_first h h2]
    obtain ⟨own, others⟩ := apll_of_vupd (s := s) (t := s.onApll n fun x => { x with secondTry := true, st := .search, searchAt := s.now })
      rfl
    rw [own]
    exact ⟨rfl, rfl, others⟩
  · rw [bandFail_second h h2]
    obtain ⟨own, others⟩ := apll_of_vupd (s := s) (t := s.onApll n fun x => { x with st := .fault }) rfl
    rw [← settleOuts_aplls (s.onApll n _)] at own others
    generalize settleOuts _ = u at own others
    rw [raiseAt_aplls, own]
    exact ⟨rfl, eventSet_raiseAt _ _ _ (by decide), others⟩

end Sys2Proof.Machine
end

section
/-! PROOFS. The alignment of an APLL, and the loss of lock of APLLs and SPLL (O24). -/

namespace Sys2Proof.Machine

/-! ## Alignment (R312, R313) -/

theorem alignDone_aligning {s : State} {n : Nat} {off : Int} (h : (vat s.aplls n).st = .aligning) :
    alignDone s n off = raiseAt (settleOuts (s.onApll n fun x => { x with
      aligned := true, alignOff := clampI 48 off, st := .waitEpoch, readyAt := inCycles16 s n })) evAlignDone n 0 := if_pos h

theorem epochOuts_aplls (s : State) (ns : List Nat) : (epochOuts s ns).aplls = s.aplls :=
  (show Within 0x4400000804200 s (epochOuts s ns) by simp) .aplls rfl

theorem passTs_aplls (s : State) (d t : Nat) : (passTs s d t).aplls = s.aplls :=
  (show Within 0x7400040040202 s (passTs s d t) by simp) .aplls rfl

/-- The changes of the commit of tick `f` whose epoch of APLL `n` is at `t` have taken effect, and the APLL shows that epoch (R303, R318). -/
def epochTaken (s : State) (n t f : Nat) : State :=
  let ns := (apllPends (passTs s n t) n).filter fun k =>
    (vat (passTs s n t).outs k).epochAt == some t && (vat (passTs s n t).outs k).epochFor == f
  (epochOuts (passTs s n t) ns).onApll n fun x => { x with epochTime := t, epochTick := f, epochCount := ns.length }

theorem epochTaken_aplls (s : State) (n t f : Nat) :
    ∃ c, (epochTaken s n t f).aplls = vupd s.aplls n fun x => { x with epochTime := t, epochTick := f, epochCount := c } := by
  unfold epochTaken
  dsimp only
  rw [epochOuts_aplls, passTs_aplls]
  exact ⟨_, rfl⟩

theorem apllDividerEpoch_cases (s : State) (n : Nat) : apllDividerEpoch s n = s ∨
    ∃ t f, apllDividerEpoch s n = raiseAt (settleOuts (epochTaken s n t f)) evEpoch n 0 := by
  unfold apllDividerEpoch
  split
  · split
    · exact .inl rfl
    · exact .inr ⟨_, _, rfl⟩
  · exact .inl rfl

/-- A divider epoch of an APLL leaves the other APLL (R318). -/
theorem apllDividerEpoch_others (s : State) (n : Fin 2) : ∀ k : Nat, k ≠ n → vat (apllDividerEpoch s n).aplls k = vat s.aplls k := by
  obtain h | ⟨t, f, h⟩ := apllDividerEpoch_cases s n
  · rw [h]
    exact fun _ _ => rfl
  · obtain ⟨c, taken⟩ := epochTaken_aplls s n t f
    rw [h, raiseAt_aplls, settleOuts_aplls, taken]
    exact vat_vupd_others

/-- RESYNC in RUN aligns again, after an epoch that applies first (R313, R332). -/
theorem resyncCmd_run {s : State} {m : Master} {n : Fin 2} (hc : s.servedCore = true) (h : (vat s.aplls n).st = .run) :
    ∃ u : State, u.act = s.act ∧ (∀ k : Nat, k ≠ n → vat u.aplls k = vat s.aplls k) ∧
      resyncCmd s m n = echo (alignStart (fodsStop u n) n) m (apllBase n + 0xE) 2 [] resAccepted := by
  have applied (now : Bool) : ∀ k : Nat, k ≠ n → vat (if now then apllDividerEpoch s n else s).aplls k = vat s.aplls k := by
    cases now
    · exact fun _ _ => rfl
    · exact apllDividerEpoch_others s n
  unfold resyncCmd
  rw [if_neg (by simp [hc])]
  dsimp only
  rw [if_pos (.inl h)]
  exact ⟨_, (show Within 0x7400041a44202 s _ by simp).act_eq rfl, applied _, rfl⟩

/-! ## The loss of lock (R311, R326, R329, R333) -/

/-- APLL `n` has lost its lock (R311). -/
def lockLost (s : State) (n : Nat) : State :=
  s.onApll n fun x => { x with st := .search, lock := false, aligned := false, delayDue := true, frozenWord := x.word }

theorem apllUnlock_locked {s : State} {n : Nat}
    (h : (vat s.aplls n).st = .run ∨ (vat s.aplls n).st = .aligning ∨ (vat s.aplls n).st = .waitEpoch) :
    apllUnlock s n = raiseAt (settleOuts (fodsStop (lockLost s n) n)) evApllUnlock n 0 := if_pos h

/-- After a loss of lock the APLL is not in RUN, whatever it was before. -/
theorem apllUnlock_spec (s : State) {n : Nat} (hn : n < 2) : (vat (apllUnlock s n).aplls n).st ≠ .run ∧
    ∀ k : Nat, k ≠ n → vat (apllUnlock s n).aplls k = vat s.aplls k := by
  by_cases h : (vat s.aplls n).st = .run ∨ (vat s.aplls n).st = .aligning ∨ (vat s.aplls n).st = .waitEpoch
  · rw [apllUnlock_locked h, raiseAt_aplls, settleOuts_aplls, fodsStop_aplls]
    refine ⟨?_, fun k hk => vat_vupd_other _ _ hk.symm⟩
    rw [lockLost, vat_vupd_same _ _ hn]
    simp
  · rw [show apllUnlock s n = s from if_neg h]
    exact ⟨fun hr => h (.inl hr), fun _ _ => rfl⟩

/-! ## The outputs that lose their source take no event back -/

/-- Every event that has been raised in `s` has been raised in `t`. -/
structure EventsKept (s t : State) : Prop where
  keeps : ∀ e, EventSet s e → EventSet t e

section
variable {s0 s : State}

theorem EventsKept.refl (s : State) : EventsKept s s := ⟨fun _ => id⟩

theorem EventsKept.raiseAt (h : EventsKept s0 s) (e unit cause : Nat) : EventsKept s0 (raiseAt s e unit cause) :=
  ⟨fun k hk => (h.keeps k hk).raiseAt e unit cause⟩

theorem EventsKept.raiseIf (h : EventsKept s0 s) (b : Bool) (e unit cause : Nat) : EventsKept s0 (raiseIf b s e unit cause) :=
  ⟨fun k hk => (h.keeps k hk).raiseIf b e unit cause⟩

/-- A change of the state that leaves the power unit and the event registers. -/
theorem EventsKept.of_same (h : EventsKept s0 s) {t : State} (hp : t.pwr = s.pwr) (he : t.evt = s.evt) : EventsKept s0 t :=
  ⟨fun k hk => (h.keeps k hk).congr hp he⟩

theorem EventsKept.onOut (h : EventsKept s0 s) (n : Nat) (f : Output → Output) : EventsKept s0 (s.onOut n f) := h.of_same rfl rfl

theorem EventsKept.stopOut (h : EventsKept s0 s) (n : Nat) (r : OutRun) : EventsKept s0 (stopOut s n r) := by
  unfold Machine.stopOut disturbOut
  split
  · exact h
  · exact ((h.onOut n _).raiseIf _ _ _ _).onOut n _

theorem EventsKept.squelchOut (h : EventsKept s0 s) (n : Nat) : EventsKept s0 (squelchOut s n) := by
  unfold Machine.squelchOut
  exact ((h.stopOut n _).onOut n _).raiseAt _ _ _

theorem EventsKept.waitNow (h : EventsKept s0 s) (n : Nat) : EventsKept s0 (waitNow s n) := by
  unfold Machine.waitNow waitFrom
  exact (h.stopOut n _).onOut n _

theorem EventsKept.settleOut (h : EventsKept s0 s) (n : Nat) : EventsKept s0 (settleOut s n) := by
  unfold Machine.settleOut
  extract_lets o bypass x
  split
  · exact h.onOut 0 _
  split
  · exact h.onOut n _
  split
  · split
    · exact h
    · exact (h.stopOut n _).onOut n _
  split
  · exact (h.stopOut n _).onOut n _
  split
  · split
    · split
      · exact h
      · exact h.stopOut n _
    · exact h.squelchOut n
  · split
    · exact h.waitNow n
    · exact h

theorem EventsKept.fodsSettle (h : EventsKept s0 s) : EventsKept s0 (fodsSettle s) := h.of_same rfl rfl

theorem EventsKept.settleOuts (h : EventsKept s0 s) : EventsKept s0 (settleOuts s) := by
  unfold Machine.settleOuts
  exact (forN_keeps (P := EventsKept s0) (fun n _ _ ht => ht.settleOut n) h).fodsSettle

theorem EventsKept.apllUnlock (h : EventsKept s0 s) (n : Nat) : EventsKept s0 (apllUnlock s n) := by
  unfold Machine.apllUnlock
  dsimp only
  split
  · refine EventsKept.raiseAt (EventsKept.settleOuts ?_) _ _ _
    exact h.of_same rfl rfl
  · exact h

end

/-- The 100 µs after a loss of lock are over for APLL `n` (R311). -/
def delayOver (s : State) (n : Nat) : State :=
  s.onApll n fun a => { a with delayDue := false, st := if s.pwr.supplyLow then .off else a.st }

theorem apllResearchDelay_due {s : State} {n : Fin 2} (h : (vat s.aplls n).delayDue = true) :
    exec (.apllResearchDelay n) s = .next (searchStart (delayOver s n) n) := congrArg Host.Outcome.next (if_pos h)

/-! ## The SPLL's loss of lock (R326, R333) -/

/-- An APLL loses its reference: its search is owed until the SPLL is back. -/
def referenceLost (n : Nat) (t : State) : State :=
  (apllUnlock t n).onApll n fun a => { a with
    delayDue := false, owed := inService t.act (apllBase n) && t.apllsRun }

theorem spllUnlock_locked {s : State} (h : s.spll.lock = true) :
    spllUnlock s = forN 2 referenceLost (raise (s.onSpll fun p => { p with lock := false }) evSpllUnlock) := by
  unfold spllUnlock
  rw [if_neg (by simp [h])]
  rfl

theorem referenceLost_spec {n : Nat} (hn : n < 2) (t : State) : (vat (referenceLost n t).aplls n).st ≠ .run ∧
    (∀ k : Nat, k ≠ n → vat (referenceLost n t).aplls k = vat t.aplls k) ∧ (referenceLost n t).spll = t.spll ∧
    EventsKept t (referenceLost n t) := by
  have kept : (apllUnlock t n).spll = t.spll := (show Within 0x4400001a00200 t (apllUnlock t n) by simp) .spll rfl
  have events := (EventsKept.refl t).apllUnlock n
  obtain ⟨st, others⟩ := apllUnlock_spec t hn
  unfold referenceLost
  generalize apllUnlock t n = u at kept events st others
  refine ⟨?_, fun k hk => (vat_vupd_other _ _ hk.symm).trans (others k hk), kept, events.of_same rfl rfl⟩
  rw [vat_vupd_same _ _ hn]
  exact st

theorem vat_beyond {α : Type} {n : Nat} [Inhabited α] (v : Vector α n) {i : Nat} (h : n ≤ i) : vat v i = default := by
  unfold vat
  simp [List.getD_eq_getElem?_getD, h]

/-- With the SPLL's lock lost no APLL runs. -/
theorem spllUnlock_spec {s : State} (h : s.spll.lock = true) : (spllUnlock s).spll.lock = false ∧ EventSet (spllUnlock s) evSpllUnlock ∧
    ∀ n, (vat (spllUnlock s).aplls n).st ≠ .run := by
  have lost : (raise (s.onSpll fun p => { p with lock := false }) evSpllUnlock).spll.lock = false := by simp [raise]
  have event := eventSet_raiseAt (s.onSpll fun p => { p with lock := false }) 0 0 (show evSpllUnlock < 256 by decide)
  rw [spllUnlock_locked h, forN_succ, forN_succ, forN_zero]
  rw [← raise] at event
  generalize raise _ evSpllUnlock = t at event lost
  obtain ⟨st0, -, spll0, kept0⟩ := referenceLost_spec (Nat.zero_lt_two) t
  obtain ⟨st1, others, spll1, kept1⟩ := referenceLost_spec Nat.one_lt_two (referenceLost 0 t)
  refine ⟨by rw [spll1, spll0, lost], kept1.keeps _ (kept0.keeps _ event), fun n => ?_⟩
  match n with
  | 0 => rw [others 0 (by decide)]; exact st0
  | 1 => exact st1
  | n + 2 => rw [vat_beyond _ (by omega)]; decide

/-- Settles O24: each row by the update of its APLL; the SPLL's loss of lock as that of both APLLs. -/
theorem alignmentAndLossOfLock : Obligations.AlignmentAndLossOfLock := by
  unfold Obligations.AlignmentAndLossOfLock
  refine ⟨fun s n off h => ⟨_, rfl, ?_⟩, fun s m n hc h => ⟨_, rfl, ?_⟩, fun s n h => ⟨_, rfl, ?_⟩,
    fun s n hd hs hl => ⟨_, apllResearchDelay_due hd, ?_⟩, fun s h => ⟨_, rfl, spllUnlock_spec h⟩⟩
  · rw [alignDone_aligning h]
    obtain ⟨own, others⟩ := apll_of_vupd (s := s) (n := n) (settleOuts_aplls (s.onApll n fun x => { x with
      aligned := true, alignOff := clampI 48 off, st := .waitEpoch, readyAt := inCycles16 s n }))
    generalize settleOuts _ = u at own others
    rw [raiseAt_aplls, own]
    exact ⟨eventSet_raiseAt _ _ _ (by decide), rfl, rfl, rfl, others⟩
  · obtain ⟨u, act, epoch, run⟩ := resyncCmd_run (s := access s m) (m := m) (by simpa using hc) (by simpa using h)
    rw [run]
    obtain ⟨own, others⟩ := apll_of_vupd (alignStart_aplls (fodsStop u n) n)
    have same : (fodsStop u n).act = s.act := act.trans (access_act s m)
    refine ⟨echoed_echo .., ?_⟩
    rw [echo_aplls, own, same]
    exact ⟨rfl, rfl, fun k hk => (others k hk).trans ((epoch k hk).trans (by rw [access_aplls]))⟩
  · rw [apllUnlock_locked h]
    obtain ⟨own, others⟩ := apll_of_vupd (s := s) (n := n) (settleOuts_aplls (fodsStop (lockLost s n) n))
    generalize settleOuts _ = u at own others
    rw [raiseAt_aplls, own]
    exact ⟨eventSet_raiseAt _ _ _ (by decide), rfl, rfl, rfl, rfl, others⟩
  · obtain ⟨-, rest⟩ := apll_of_vupd (s := s) (n := n) (t := delayOver s n) rfl
    obtain ⟨own, others⟩ := apll_of_vupd (n := n) (searchStart_aplls (s := delayOver s n) ((searchable_congr rfl rfl rfl rfl n).trans hs) hl)
    rw [own]
    exact ⟨rfl, rfl, rfl, fun k hk => (others k hk).trans (rest k hk)⟩

end Sys2Proof.Machine
end

section
/-! PROOFS. A start epoch at the end of the range of its timescale (O25). -/

namespace Sys2Proof.Machine

/-- APLL0 and output 22 on it are in service; all else is as at reset. -/
def wrapConfig : List (Nat × Word) :=
  sput (resetWordW (outBase 22)) 1 (outBase 22) (sput (resetWordW (apllBase 0)) 1 (apllBase 0) State.reset.cfg.active)

/-- APLL0 in RUN at the last instant of the range of bench time, which is its timescale (R56, R308). Output 22 is to start on it at the end
of that range: the instant that `ownInstant` gives a 1 Hz output that asks in the last second. -/
def startAtWrap : State :=
  let s := { State.reset with cfg := { State.reset.cfg with active := wrapConfig } }
  let s := s.onPwr fun p => { p with resetHeld := 0, bootDone := true, xoValid := true, core := .on, syn := .on, outh := .on }
  let s := s.onTime fun t => { t with bench := benchMod - 1, tickEdge := benchMod - 1 }
  let s := (s.onMode fun m => { m with opmode := .run, mode := .freerun }).onSpll fun x => { x with lock := true }
  (s.onApll 0 fun a => { a with st := .run }).onOut 22 fun o => { o with startAt := some (benchMod / u16) }

/-- Output 22 is to start on APLL0 now, at an instant that this tick reaches. -/
theorem startAtWrap_due : startAtWrap.coreOn = true ∧ (vat startAtWrap.aplls 0).st = .run ∧ startAtWrap.apllsRun = true ∧
    startAtWrap.synOn = true ∧ startAtWrap.pwr.bor18 = false ∧ (cfgSet startAtWrap.act 22).sel = 0 ∧ mayStart startAtWrap 22 = true ∧
    (vat startAtWrap.outs 22).startAt = some (benchMod / u16) ∧ tsInTick startAtWrap 0 (benchMod / u16) = true := by decide +kernel

/-- No other output on APLL0 is to start before it. -/
theorem startAtWrap_earliest : ∀ j : Fin 24, (cfgSet startAtWrap.act j).sel = 0 → mayStart startAtWrap j = true →
    benchMod / u16 ≤ ((vat startAtWrap.outs j).startAt).getD 0 := by decide +kernel

/-- The cycle that reaches the instant takes bench time back to the start of its range, where the instant is still to come. -/
theorem apllStartEpoch_at_wrap : (vat (apllStartEpoch startAtWrap 0).outs 22).run ≠ .running := by decide +kernel

theorem exec_startEpoch_apll {s : State} (hc : s.coreOn = true) (n : Fin 2) :
    exec (.startEpoch (.apll n)) s = .next (apllStartEpoch s n) := congrArg Host.Outcome.next (if_pos hc)

/-- Refutes O25: in its third clause an APLL in RUN starts the output that waits for the earliest instant, wherever this tick reaches that
instant. At the end of the range of the timescale (R56, R308) it does not: the timescale wraps as it reaches the instant, and the output,
judged by the wrapped time, goes on waiting. -/
theorem not_epochsStartAndChangeOutputs : ¬ Obligations.EpochsStartAndChangeOutputs := by
  unfold Obligations.EpochsStartAndChangeOutputs
  intro ⟨_, _, startsInRun, _⟩
  obtain ⟨core, st, runs, syn, bor, sel, may, instant, inTick⟩ := startAtWrap_due
  obtain ⟨t, answer, running, -⟩ := startsInRun startAtWrap 0 22 (benchMod / u16) core st runs syn bor (by decide) sel may instant
    (fun j hj => startAtWrap_earliest ⟨j, hj⟩) inTick
  rw [← Host.Outcome.next.inj ((exec_startEpoch_apll core 0).symm.trans answer)] at running
  exact apllStartEpoch_at_wrap running

end Sys2Proof.Machine
end

section
/-! PROOFS. The writes of SPLL.XO_CFG while CORE is not ON (O26). -/

namespace Sys2Proof.Machine

/-! ## A word put into a configuration (R111, R758) -/

/-- The words that a configuration store shows. -/
def storeView (l : List (Nat × Word)) : View := fun a => (sgetD resetWordW l a).toNat

/-- A word put into a configuration shows there with its reserved bits 0; every other word shows as before. -/
theorem storeView_put {l : List (Nat × Word)} (h : swfFrom resetWordW 0 l = true) (a : Nat) (v : Word) (b : Nat) :
    storeView (sput (resetWordW a) (cfgWord a v) a l) b = if b = a then v.toNat &&& cfgMask a else storeView l b := by
  by_cases hb : b = a
  · subst hb
    rw [if_pos rfl, ← cfgWord_toNat]
    exact congrArg BitVec.toNat (sget_sput_same resetWordW _ _ 0 _ h)
  · rw [if_neg hb]
    exact congrArg BitVec.toNat (sget_sput_other _ _ _ (Ne.symm hb) _)

/-! ## The write of a word of XO_CFG (R298, R302, R541) -/

/-- The active configuration that a write of word 0 of XO_CFG would give, and that of its last word with the held word 1 of XO_FREQ. -/
def xoModeStored (s : State) (v : Word) : List (Nat × Word) := sput (resetWordW spllBase) (cfgWord spllBase v) spllBase s.cfg.active
def xoFreqStored (s : State) (m : Master) (v : Word) : List (Nat × Word) :=
  sput (resetWordW (spllBase + 2)) (cfgWord (spllBase + 2) v) (spllBase + 2)
    (sput (resetWordW (spllBase + 1)) (cfgWord (spllBase + 1) (sget 0 (s.host m).wrHold (spllBase + 1))) (spllBase + 1) s.cfg.active)

theorem xoModeStored_view {s : State} (h : BlockInv s) (v : Word) (a : Nat) :
    storeView (xoModeStored s v) a = if a = spllBase then v.toNat &&& cfgMask spllBase else s.act a := storeView_put h.active spllBase v a

theorem xoFreqStored_view {s : State} (h : BlockInv s) (m : Master) (v : Word) (a : Nat) : storeView (xoFreqStored s m v) a =
    if a = spllBase + 2 then v.toNat &&& cfgMask (spllBase + 2)
    else if a = spllBase + 1 then (sget 0 (s.host m).wrHold (spllBase + 1)).toNat &&& cfgMask (spllBase + 1) else s.act a := by
  refine (storeView_put (swf_sput resetWordW _ _ (Nat.zero_le _) h.active) (spllBase + 2) v a).trans ?_
  rw [storeView_put h.active]
  rfl

/-- State `t` has taken the configuration `l` into use, loaded, where its XO_CFG is within the ranges; else it has the configuration of `s`
(R298, R299, R302). -/
def XoTaken (s t : State) (l : List (Nat × Word)) : Prop :=
  if xoCfgOk (storeView l) then t.cfg.active = l ∧ t.spll.cfgLoaded = true else t.cfg = s.cfg

/-- A write that gives a configuration, as the model writes it: the configuration is judged, then taken or left. -/
theorem xoTaken_of_judged {s u : State} {l : List (Nat × Word)} (hu : u.cfg.active = l ∧ u.spll.cfgLoaded = true) :
    XoTaken s (if !xoCfgOk (storeView l) then s else u) l := by
  unfold XoTaken
  cases xoCfgOk (storeView l)
  · rfl
  · exact hu

theorem xoCfgWrite_mode (s : State) (m : Master) (v : Word) : XoTaken s (xoCfgWrite s m 0 v.toNat) (xoModeStored s v) :=
  xoTaken_of_judged ⟨rfl, rfl⟩

theorem xoCfgWrite_freq (s : State) (m : Master) (v : Word) : XoTaken s (xoCfgWrite s m 2 v.toNat) (xoFreqStored s m v) :=
  xoTaken_of_judged ⟨rfl, rfl⟩

/-- The same of the words that the configuration shows. -/
theorem XoTaken.shows {s t : State} {l : List (Nat × Word)} (h : XoTaken s t l) {c : View} (hl : ∀ a, storeView l a = c a) :
    if xoCfgOk c then (∀ a, t.act a = c a) ∧ t.spll.cfgLoaded = true else t.cfg = s.cfg := by
  obtain rfl : storeView l = c := funext hl
  unfold XoTaken at h
  split at h
  · obtain ⟨rfl, loaded⟩ := h
    exact (if_pos ‹_›).mpr ⟨fun _ => rfl, loaded⟩
  · exact (if_neg ‹_›).mpr h

theorem XoTaken.noted {s t : State} {m : Master} {l : List (Nat × Word)} (h : XoTaken (access s m) t l) (a : Nat) :
    XoTaken s (noted (access s m) m a t) l := by
  unfold XoTaken at *
  simpa using h

theorem noted_cfg (s : State) (m : Master) (a : Nat) (t : State) : (noted s m a t).cfg = t.cfg := by simp

theorem exec_xoCfgWrite {s : State} (m : Master) (off : Fin 3) (v : Word) (hw : s.writable = true) (hc : s.coreOn = false) :
    exec (.xoCfgWrite m off v) s = .next (noted (access s m) m (spllBase + off) (xoCfgWrite (access s m) m off v.toNat)) := by
  refine congrArg Host.Outcome.next (if_pos ?_)
  simp [hw, hc]

/-- Word 1 is held for its master, and the configuration stays (R541). -/
theorem xoCfgWrite_holds {s : State} (h : BlockInv s) (m : Master) (v : Word) :
    sget 0 ((xoCfgWrite (access s m) m 1 v.toNat).host m).wrHold (spllBase + 1) = v ∧ (xoCfgWrite (access s m) m 1 v.toNat).cfg = s.cfg := by
  have held : sget 0 (sput 0 v (spllBase + 1) (s.host m).wrHold) (spllBase + 1) = v := sget_sput_same (fun _ => 0) _ _ 0 _ (h.wrHold m)
  simpa [xoCfgWrite, wordOfN_toNat] using held

/-- Settles O26: each write as the word that it holds, or as the configuration that it gives where that is within the ranges. -/
theorem xoCfgWrittenBeforeCore : Obligations.XoCfgWrittenBeforeCore := by
  unfold Obligations.XoCfgWrittenBeforeCore
  refine ⟨fun s m v h hw hc => ⟨_, exec_xoCfgWrite m 0 v hw hc, ?_⟩, fun s m v h hw hc => ⟨_, exec_xoCfgWrite m 1 v hw hc, ?_⟩,
    fun s m v h hw hc => ⟨_, exec_xoCfgWrite m 2 v hw hc, ?_⟩⟩
  · have taken := (xoCfgWrite_mode (access s m) m v).noted spllBase
    exact taken.shows fun a => by simpa [xoModeStored] using xoModeStored_view h v a
  · obtain ⟨held, kept⟩ := xoCfgWrite_holds h m v
    exact ⟨by rw [noted_host]; exact held, (noted_cfg ..).trans kept⟩
  · have taken := (xoCfgWrite_freq (access s m) m v).noted (spllBase + 2)
    exact taken.shows fun a => by simpa [xoFreqStored] using xoFreqStored_view h m v a

end Sys2Proof.Machine
end

section
/-! PROOFS. What an evaluation of a channel leaves of channel H's clock, word and calibration (for O36). -/

namespace Sys2Proof.Machine

/-! ## Channel H's own readings: its clock, its word, its level of SRST_N, the calibration and the judgement of the XO -/

/-- What channel H's evaluation of its groups leaves. -/
def Safety.reading (f : Safety) : Nat × XWord × Bool × Nat × Bool := (f.h.clk, f.h.word, f.h.srst, f.calib, f.clockXo)

/-- A change of a channel that leaves its clock, word and level of SRST_N. -/
@[simp] theorem onChan_reading (s : State) (c : Chan) {f : SafeChan → SafeChan}
    (hf : ∀ x, ((f x).clk, (f x).word, (f x).srst) = (x.clk, x.word, x.srst)) : (s.onChan c f).safe.reading = s.safe.reading := by
  cases c
  · rfl
  · have h := hf s.safe.h
    simp only [Prod.mk.injEq] at h
    obtain ⟨clk, word, srst⟩ := h
    simp [State.onChan, Safety.reading, clk, word, srst]

@[simp] theorem raiseIf_reading (b : Bool) (s : State) (e unit cause : Nat) : (raiseIf b s e unit cause).safe.reading = s.safe.reading :=
  congrArg Safety.reading (raiseIf_safe b s e unit cause)

@[simp] theorem raiseAt_reading (s : State) (e unit cause : Nat) : (raiseAt s e unit cause).safe.reading = s.safe.reading :=
  congrArg Safety.reading (raiseAt_safe s e unit cause)

/-! ## The evaluation of a group (R455) -/

@[simp] theorem noteNear_reading (b : Bool) (s : State) : (noteNear b s).safe.reading = s.safe.reading := by
  unfold noteNear
  split <;> rfl

@[simp] theorem noteCombined_reading (s : State) (n : Nat) (was : SafeState) (why : Nat) :
    (noteCombined s n was why).safe.reading = s.safe.reading := by
  unfold noteCombined
  dsimp only
  split
  · rfl
  · simp only [raiseIf_reading]
    split <;> exact raiseAt_reading ..

@[simp] theorem observe_reading (s : State) (c : Chan) (n : Nat) (entry : Bool) : (observe s c n entry).safe.reading = s.safe.reading := by
  unfold observe
  dsimp only
  split <;> simp

@[simp] theorem moveGroup_reading (s : State) (c : Chan) (n : Nat) (st : SafeState) (why : Nat) :
    (moveGroup s c n st why).safe.reading = s.safe.reading := by
  unfold moveGroup
  dsimp only
  split <;> simp

@[simp] theorem beginStop_reading (s : State) (c : Chan) (n : Nat) (fn : StopFn) (why : Nat) :
    (beginStop s c n fn why).safe.reading = s.safe.reading := by
  simp [beginStop]

@[simp] theorem judgeStop_reading (s : State) (c : Chan) (n : Nat) : (judgeStop s c n).safe.reading = s.safe.reading := by
  unfold judgeStop
  dsimp only
  split <;> simp

@[simp] theorem stepUp_reading (s : State) (c : Chan) (n rq : Nat) (target : SafeState) :
    (stepUp s c n rq target).safe.reading = s.safe.reading := by
  unfold stepUp
  split <;> simp

@[simp] theorem follow_reading (s : State) (c : Chan) (n : Nat) (st : SafeState) : (follow s c n st).safe.reading = s.safe.reading := by
  unfold follow
  dsimp only
  split <;> simp

@[simp] theorem inSafeOff_reading (s : State) (c : Chan) (n causes : Nat) : (inSafeOff s c n causes).safe.reading = s.safe.reading := by
  unfold inSafeOff
  dsimp only
  split <;> simp

@[simp] theorem inReady_reading (s : State) (c : Chan) (n causes : Nat) : (inReady s c n causes).safe.reading = s.safe.reading := by
  unfold inReady
  dsimp only
  repeat' split
  all_goals simp

@[simp] theorem inEnergy_reading (s : State) (c : Chan) (n causes : Nat) : (inEnergy s c n causes).safe.reading = s.safe.reading := by
  unfold inEnergy
  extract_lets m fn group sto g expired first
  repeat' split
  all_goals simp

@[simp] theorem inStopping_reading (s : State) (c : Chan) (n : Nat) : (inStopping s c n).safe.reading = s.safe.reading := by
  unfold inStopping
  dsimp only
  split <;> simp

@[simp] theorem evalGroup_reading (s : State) (c : Chan) (n : Nat) : (evalGroup s c n).safe.reading = s.safe.reading := by
  unfold evalGroup
  extract_lets g causes lock also
  repeat' split
  all_goals simp

/-! ## What comes before it in an evaluation (R433, R440) -/

/-- A loop whose rounds leave the readings leaves them. -/
theorem forN_reading {n : Nat} {f : Nat → State → State} (hf : ∀ i t, (f i t).safe.reading = t.safe.reading) (s : State) :
    (forN n f s).safe.reading = s.safe.reading :=
  forN_keeps (P := fun t : State => t.safe.reading = s.safe.reading) (fun i t _ h => (hf i t).trans h) rfl

@[simp] theorem encSamples_reading (s : State) (c : Chan) (raw : Vector Int 4) (bench : Nat) :
    (encSamples s c raw bench).safe.reading = s.safe.reading := by
  unfold encSamples
  dsimp only
  rw [forN_reading fun i t => by simp]
  simp

@[simp] theorem inputsJudge_reading (s : State) (c : Chan) : (inputsJudge s c).safe.reading = s.safe.reading := by
  unfold inputsJudge
  dsimp only
  rw [onChan_reading (hf := by exact fun _ => rfl)]
  refine forN_reading (fun i t => ?_) s
  repeat' split
  all_goals simp [ackDisc, discFault]

@[simp] theorem observeAll_reading (s : State) (c : Chan) : (observeAll s c).safe.reading = s.safe.reading :=
  forN_reading (fun i t => observe_reading t c i false) s

@[simp] theorem axesJudge_reading (s : State) (c : Chan) : (axesJudge s c).safe.reading = s.safe.reading := by
  refine forN_reading (fun i t => ?_) s
  split <;> simp

@[simp] theorem watchUpdates_reading (s : State) (c : Chan) : (watchUpdates s c).safe.reading = s.safe.reading := by
  unfold watchUpdates
  dsimp only
  repeat' split
  all_goals simp

@[simp] theorem disagree_reading (s : State) (c : Chan) (n : Nat) : (disagree s c n).safe.reading = s.safe.reading := by
  unfold disagree
  dsimp only
  split
  · rfl
  split
  · exact (raiseIf_reading ..).trans (onChan_reading _ _ fun _ => rfl)
  · simp

@[simp] theorem crossCheck_reading (s : State) (c : Chan) : (crossCheck s c).safe.reading = s.safe.reading := by
  unfold crossCheck
  dsimp only
  split
  · simp
  · have round (b : Bool) (t : State) (n : Nat) : (if b then disagree t c n else t).safe.reading = t.safe.reading := by
      cases b <;> simp
    rw [forN_reading (by exact fun i t => round _ t i)]
    simp

@[simp] theorem edmJudge_reading (s : State) (c : Chan) (n : Nat) : (edmJudge s c n).safe.reading = s.safe.reading := by
  unfold edmJudge
  extract_lets
  repeat' split
  all_goals simp

@[simp] theorem evaluateChan_reading (s : State) (c : Chan) : (evaluateChan s c).safe.reading = s.safe.reading := by
  unfold evaluateChan
  dsimp only
  rw [onChan_reading (hf := by exact fun _ => rfl), forN_reading (by exact fun i t => evalGroup_reading t c i), forN_reading (by simp [degStep])]
  simp

/-! ## A cycle of channel H (R433) -/

/-- The clock judgements of a cycle, with the calibration that they allow (R438, R439). -/
def clocksTaken (s : State) (smp : HSample) : State :=
  let xo := xoJudged s smp.xo
  let core := coreJudged smp.core
  calibrate (spllBack (setXoValid (judgeClocks (warningsEnd s smp.warn) xo core (rcJudged smp.rc)) xo) core) smp

/-- Channel H's clock then advances, and its samples are taken. -/
def cycleSampled (s : State) (smp : HSample) : State :=
  encSamples (sampleLevels (s.onChan .h fun x => { x with clk := x.clk + hCycle s }) .h smp.edm smp.srst) .h smp.encs s.time.bench

theorem channelH_eq (s : State) (smp : HSample) :
    channelH s smp = publish (evaluateChan (cycleSampled (clocksTaken s smp) smp) .h) .h := rfl

/-- The calibration factor after a cycle: the new one with a valid XO and within its range (R439). -/
def calibNext (now : Nat) (smp : HSample) (xoOk : Bool) : Nat :=
  match smp.rcHz with
  | some hz => if xoOk && rng 31040000 32960000 hz then hz else now
  | none => now

theorem calibrate_spec (s : State) (smp : HSample) : (calibrate s smp).pwr.xoValid = s.pwr.xoValid ∧
    (calibrate s smp).safe.reading = (s.safe.h.clk, s.safe.h.word, s.safe.h.srst, calibNext s.safe.calib smp s.pwr.xoValid, s.safe.clockXo) := by
  unfold calibrate calibNext
  cases smp.rcHz with
  | none => exact ⟨rfl, rfl⟩
  | some hz =>
    dsimp only
    split <;> exact ⟨rfl, rfl⟩

theorem clocksTaken_spec (s : State) (smp : HSample) : (clocksTaken s smp).pwr.xoValid = xoJudged s smp.xo ∧
    (clocksTaken s smp).safe.reading =
      (s.safe.h.clk, s.safe.h.word, s.safe.h.srst, calibNext s.safe.calib smp (xoJudged s smp.xo), !xoJudged s smp.xo) := by
  unfold clocksTaken
  extract_lets xo core
  obtain ⟨judged, -⟩ := judgeClocks_spec (warningsEnd s smp.warn) xo core (rcJudged smp.rc)
  obtain ⟨set, valid⟩ := setXoValid_spec (judgeClocks (warningsEnd s smp.warn) xo core (rcJudged smp.rc)) xo
  generalize setXoValid (judgeClocks (warningsEnd s smp.warn) xo core (rcJudged smp.rc)) xo = u at set valid ⊢
  have back : Within 0x4400001e00200 u (spllBack u core) := by simp
  have safe := back.safe_eq (by decide)
  have valid := (back.xoValid_eq rfl).trans valid
  obtain ⟨keepsValid, reading⟩ := calibrate_spec (spllBack u core) smp
  rw [keepsValid, reading, valid, safe, set, judged]
  exact ⟨rfl, rfl⟩

theorem cycleSampled_spec (s : State) (smp : HSample) : (cycleSampled s smp).pwr.xoValid = s.pwr.xoValid ∧
    (cycleSampled s smp).safe.reading =
      (s.safe.h.clk + hCycle s, s.safe.h.word, filtered 1000 smp.srst s.safe.h.srst, s.safe.calib, s.safe.clockXo) := by
  have kept : Within 0x44000c0000200 s (cycleSampled s smp) := by simp [cycleSampled]
  exact ⟨kept.xoValid_eq rfl, encSamples_reading ..⟩

/-- The word a channel writes carries the next sequence number and the states of its groups (R440). -/
theorem publish_spec (s : State) : (publish s .h).pwr.xoValid = s.pwr.xoValid ∧ (publish s .h).safe.h.clk = s.safe.h.clk ∧
    (publish s .h).safe.h.srst = s.safe.h.srst ∧ (publish s .h).safe.calib = s.safe.calib ∧ (publish s .h).safe.clockXo = s.safe.clockXo ∧
    (publish s .h).safe.h.word.seq = (s.safe.h.word.seq + 1) % 65536 ∧
    ∀ n, n < 4 → vat (publish s .h).safe.h.word.states n = (vat (publish s .h).safe.h.grps n).st :=
  ⟨rfl, rfl, rfl, rfl, rfl, rfl, fun _ hn => vat_vmap _ _ hn⟩

theorem hCycle_congr {s t : State} (h : s.safe.calib = t.safe.calib) : hCycle s = hCycle t :=
  congrArg (fun calib => (quotFree 62 (8000 * cS) calib).toNat) h

theorem channelHEvaluation_spec (s : State) (smp : HSample) : Answers (.channelHEvaluation smp) s fun t =>
    t.safe.h.clk = s.safe.h.clk + hCycle t ∧ t.safe.h.word.seq = (s.safe.h.word.seq + 1) % 65536 ∧
    t.safe.h.srst = filtered 1000 smp.srst s.safe.h.srst ∧ t.safe.clockXo = !xoJudged s smp.xo ∧ t.pwr.xoValid = xoJudged s smp.xo ∧
    t.safe.calib = calibNext s.safe.calib smp (xoJudged s smp.xo) ∧
    ∀ n, n < 4 → vat t.safe.h.word.states n = (vat t.safe.h.grps n).st := by
  refine ⟨_, rfl, ?_⟩
  have goes : Within 0x4400001b5ea00 (channelH s smp) (bootGoesOn (channelH s smp)) := by simp
  have safe := goes.safe_eq (by decide)
  obtain ⟨latches, -⟩ := bootGoesOn_spec (channelH s smp)
  have valid := PowerUnit.xoValid_eq latches
  generalize bootGoesOn (channelH s smp) = t at safe valid ⊢
  rw [channelH_eq] at safe valid
  obtain ⟨xoTaken, taken⟩ := clocksTaken_spec s smp
  generalize clocksTaken s smp = u at safe valid xoTaken taken ⊢
  obtain ⟨xoSampled, sampled⟩ := cycleSampled_spec u smp
  have evaluated := (evaluateChan_reading (cycleSampled u smp) .h).trans sampled
  have xoEvaluated := (show Within 0x44003c0000200 (cycleSampled u smp) (evaluateChan (cycleSampled u smp) .h) by simp).xoValid_eq rfl
  generalize evaluateChan (cycleSampled u smp) .h = v at safe valid evaluated xoEvaluated ⊢
  obtain ⟨xo, clk, srst, calib, clockXo, seq, states⟩ := publish_spec v
  generalize publish v .h = w at safe valid xo clk srst calib clockXo seq states
  simp only [Safety.reading, Prod.mk.injEq] at taken evaluated
  obtain ⟨clkTaken, wordTaken, srstTaken, calibTaken, clockTaken⟩ := taken
  obtain ⟨clkSeen, wordSeen, srstSeen, calibSeen, clockSeen⟩ := evaluated
  beta_reduce
  rw [hCycle_congr (s := t) (t := u) (by rw [safe, calib, calibSeen]), safe, valid]
  refine ⟨?_, ?_, ?_, ?_, ?_, ?_, states⟩
  · rw [clk, clkSeen, clkTaken]
  · rw [seq, wordSeen, wordTaken]
  · rw [srst, srstSeen, srstTaken]
  · rw [clockXo, clockSeen, clockTaken]
  · rw [xo, xoEvaluated, xoSampled, xoTaken]
  · rw [calib, calibSeen, calibTaken]

end Sys2Proof.Machine
end

section
/-! PROOFS. The channels check each other (O36). -/

namespace Sys2Proof.Machine

/-! ## A missing update (R441) -/

/-- An update that is overdue is held as a fault, with its event. -/
theorem watchUpdates_overdue {s : State} {c : Chan} (hd : updatesDue s c = true) (hq : (s.chan (otherChan c)).word.seq = (s.chan c).seenSeq)
    (hb : (s.chan c).xchkBad = false) (hl : (s.chan c).seenAt + (if c = .p then 600 * cUs else updateLimit s) < (s.chan c).clk) :
    watchUpdates s c = raiseAt (s.onChan c fun y => { y with xchkBad := true }) (ev 6 10) 0 caXchkTimeout := by
  unfold watchUpdates
  extract_lets x q limit
  have late : x.seenAt + limit < x.clk := by cases c <;> simpa [x, limit] using hl
  rw [if_neg (fun h => h hq), if_neg (by simp [hd]), if_pos late, hb]
  rfl

theorem watchUpdates_spec {s : State} {c : Chan} (hd : updatesDue s c = true) (hq : (s.chan (otherChan c)).word.seq = (s.chan c).seenSeq)
    (hb : (s.chan c).xchkBad = false) (hl : (s.chan c).seenAt + (if c = .p then 600 * cUs else updateLimit s) < (s.chan c).clk) :
    ((watchUpdates s c).chan c).xchkBad = true ∧ EventSet (watchUpdates s c) (ev 6 10) ∧
      ((watchUpdates s c).chan c).grps = (s.chan c).grps ∧ ∀ n, (watchUpdates s c).grpUsed n = s.grpUsed n := by
  rw [watchUpdates_overdue hd hq hb hl]
  obtain ⟨image, hasPar⟩ := onChan_params s c fun y => { y with xchkBad := true }
  have seen := s.chan_onChan c fun y => { y with xchkBad := true }
  generalize s.onChan c (fun y => { y with xchkBad := true }) = u at image hasPar seen ⊢
  have safe := raiseAt_safe u (ev 6 10) 0 caXchkTimeout
  refine ⟨?_, eventSet_raiseAt u 0 caXchkTimeout (by decide), ?_, grpUsed_congr ((congrArg Safety.par safe).trans image) (by rw [safe, hasPar])⟩
  · rw [State.chan_congr safe, seen]
  · rw [State.chan_congr safe, seen]

theorem xchkBad_of_bare {x y : SafeChan} (h : x.bare = y.bare) : x.xchkBad = y.xchkBad :=
  (congrArg SafeChan.xchkBad h : x.bare.xchkBad = y.bare.xchkBad)

theorem causesOf_xchkBad {s : State} {c : Chan} (n : Nat) (h : (s.chan c).xchkBad = true) : (causesOf s c n).testBit caXchkTimeout = true := by
  simp [causesOf, h, caIf_testBit]

/-- A channel evaluates every group. -/
def judgeAll (s : State) (c : Chan) : State := forN 4 (fun n t => evalGroup t c n) s

/-- Judging the groups keeps all of the channel but its groups, and every event. -/
theorem judgeAll_keeps (s : State) (c : Chan) :
    ((judgeAll s c).chan c).bare = (s.chan c).bare ∧ ∀ e, EventSet s e → EventSet (judgeAll s c) e := by
  refine forN_keeps (P := fun t : State => (t.chan c).bare = (s.chan c).bare ∧ ∀ e, EventSet s e → EventSet t e)
    (fun n t _ ⟨hc, he⟩ => ?_) ⟨rfl, fun _ => id⟩
  have h := evalGroup_only t c n
  exact ⟨h.chan.trans hc, fun e hs => h.events e (he e hs)⟩

/-- A missing update locks out every group of the channel in an active state. -/
theorem judgeAll_lockout {s : State} {c : Chan} {n : Nat} (hn : n < 4) (hb : (s.chan c).xchkBad = true) (hu : s.grpUsed n = true)
    (ha : (vat (s.chan c).grps n).st.active = true) : (vat ((judgeAll s c).chan c).grps n).st = .lockout := by
  refine forN_reaches (s := s)
    (Q := fun t : State => (t.chan c).xchkBad = true ∧ t.grpUsed n = true ∧ (vat (t.chan c).grps n).st.active = true)
    (L := fun t : State => (vat (t.chan c).grps n).st = .lockout) hn (fun k t hk => ?_) (fun t => ?_) (fun k t hk => ?_) ⟨hb, hu, ha⟩
  · intro ⟨hb, hu, ha⟩
    have h := evalGroup_only t c k
    exact ⟨(xchkBad_of_bare h.chan).trans hb, (h.grpUsed n).trans hu, by rw [h.grps n (by omega)]; exact ha⟩
  · intro ⟨hb, hu, ha⟩
    exact evalGroup_lockout hn hu (causesOf_xchkBad n hb) (by decide) (.inr ha)
  · intro h
    rw [(evalGroup_only t c k).grps n (by omega)]
    exact h

theorem exec_xchkTimeout {s : State} {c : Chan} (hr : s.chanRuns c = true) :
    exec (.xchkTimeout c) s = .next (judgeAll (watchUpdates s c) c) := congrArg Host.Outcome.next (if_pos hr)

/-! ## A disagreement (R443) -/

theorem moveGroup_lockout_latched (s : State) (c : Chan) {n : Nat} (hn : n < 4) (why : Nat) :
    (vat ((moveGroup s c n .lockout why).chan c).grps n).latched = (vat (s.chan c).grps n).latched := by
  unfold moveGroup
  dsimp only
  rw [noteCombined_chan, raiseIf_chan, if_neg (by decide), noteNear_chan, State.chan_onChan, vat_vupd_same _ _ hn]
  simp [enterState]

/-- Evaluating a group in LOCKOUT changes nothing. -/
theorem evalGroup_of_lockout {s : State} {c : Chan} {n : Nat} (hu : s.grpUsed n = true) (h : (vat (s.chan c).grps n).st = .lockout) :
    evalGroup s c n = s := by
  unfold evalGroup
  rw [hu, Bool.not_true, if_neg Bool.false_ne_true]
  extract_lets g causes lock also
  rw [if_neg (by simp [g, h]), followInto_lockout h]
  simp only [g, h, ite_self]

/-- A latched cause of LOCKOUT that is not marked R31 takes a group there from every other state. -/
theorem evalGroup_of_latched {s : State} {c : Chan} {n code : Nat} (hu : s.grpUsed n = true)
    (hb : bitOf (vat (s.chan c).grps n).latched code = true) (hl : maskLock.testBit code = true) (hr : maskR31.testBit code = false)
    (hs : (vat (s.chan c).grps n).st ≠ .lockout) : ∃ why, evalGroup s c n = moveGroup s c n .lockout why := by
  unfold evalGroup
  rw [hu, Bool.not_true, if_neg Bool.false_ne_true]
  extract_lets g causes lock also
  have hlock : lock.testBit code = true := by
    simp only [lock, without_testBit, Nat.testBit_and, causes, causesOf_latched hb, hl]
    split <;> simp [hr]
  have hne : lock ≠ 0 := fun h => by simp [h] at hlock
  exact ⟨_, if_pos (by simp [g, hs, hne])⟩

/-- Such a cause stays latched through the evaluation. -/
theorem evalGroup_keeps_latched {s : State} {c : Chan} {n code : Nat} (hn : n < 4) (hu : s.grpUsed n = true)
    (hb : bitOf (vat (s.chan c).grps n).latched code = true) (hl : maskLock.testBit code = true) (hr : maskR31.testBit code = false) :
    bitOf (vat ((evalGroup s c n).chan c).grps n).latched code = true := by
  by_cases hs : (vat (s.chan c).grps n).st = .lockout
  · rw [evalGroup_of_lockout hu hs]
    exact hb
  · obtain ⟨why, moved⟩ := evalGroup_of_latched hu hb hl hr hs
    rw [moved, moveGroup_lockout_latched s c hn]
    exact hb

/-- A disagreement changes its own group alone, and the kill latch. -/
theorem disagree_only (s : State) (c : Chan) (n : Nat) : GroupOnly c n s (disagree s c n) := by
  unfold disagree
  split
  · exact .refl c n s
  · extract_lets new latched
    have h : GroupOnly c n s latched := ((GroupOnly.refl c n s).onGrp _).raiseIf _ _ _ _
    clear_value latched
    split
    · exact h.of_same rfl rfl rfl (fun c => by cases c <;> rfl) fun _ he => he.congr rfl rfl
    · exact h

/-- A group that disagrees has the cause latched, and in SINGLE_HDC channel P sets the kill latch (R437). -/
theorem disagree_spec {s : State} {c : Chan} {n : Nat} (hn : n < 4) (hu : s.grpUsed n = true) :
    bitOf (vat ((disagree s c n).chan c).grps n).latched caXchkDisagree = true ∧
      (c = .p → pArch s.image n = 2 → (disagree s c n).safe.kill = true) := by
  unfold disagree
  rw [hu, Bool.not_true, if_neg Bool.false_ne_true]
  extract_lets new latched
  have bit : bitOf (vat (latched.chan c).grps n).latched caXchkDisagree = true := by
    simp [latched, setBit, bitOf, hn]
  have image : latched.image = s.image := (((GroupOnly.refl c n s).onGrp _).raiseIf _ _ _ _).image
  clear_value latched
  split
  · exact ⟨by cases c <;> exact bit, fun _ _ => rfl⟩
  · rename_i h
    exact ⟨bit, fun hc ha => absurd (by simp [hc, image, ha]) h⟩

theorem disagree_keeps_kill {s : State} (c : Chan) (n : Nat) (h : s.safe.kill = true) : (disagree s c n).safe.kill = true := by
  unfold disagree
  split
  · exact h
  · extract_lets new latched
    split
    · rfl
    · simp only [latched, raiseIf_safe]
      cases c <;> exact h

theorem evalGroup_kill (s : State) (c : Chan) (n : Nat) : (evalGroup s c n).safe.kill = s.safe.kill := by
  have latches := evalGroup_safetyLatches s c n
  simp only [Safety.latches, Prod.mk.injEq] at latches
  exact latches.2.2.2

/-- The round of a disagreement for group `n`. -/
def disagreeRound (c : Chan) (groups : BitVec 4) (n : Nat) (s : State) : State :=
  if groups.getLsbD n then evalGroup (disagree s c n) c n else s

theorem exec_xchkDisagree {s : State} {c : Chan} (groups : BitVec 4) (hr : s.chanRuns c = true) :
    exec (.xchkDisagree c groups) s = .next (forN 4 (disagreeRound c groups) s) := congrArg Host.Outcome.next (if_pos hr)

/-- What the round of group `k` keeps: the parameters, the other groups and a kill latch that is set. -/
theorem disagreeRound_keeps (c : Chan) (groups : BitVec 4) (k : Nat) (s : State) : (disagreeRound c groups k s).image = s.image ∧
    (∀ n, (disagreeRound c groups k s).grpUsed n = s.grpUsed n) ∧
    (∀ n, n ≠ k → vat ((disagreeRound c groups k s).chan c).grps n = vat (s.chan c).grps n) ∧
    (s.safe.kill = true → (disagreeRound c groups k s).safe.kill = true) := by
  unfold disagreeRound
  split
  · have first := disagree_only s c k
    have kill := disagree_keeps_kill (s := s) c k
    generalize disagree s c k = u at first kill
    have second := evalGroup_only u c k
    exact ⟨second.image.trans first.image, fun n => (second.grpUsed n).trans (first.grpUsed n),
      fun n hn => (second.grps n hn).trans (first.grps n hn), fun h => (evalGroup_kill u c k).trans (kill h)⟩
  · exact ⟨rfl, fun _ => rfl, fun _ _ => rfl, id⟩

/-- Group `n` is locked out in channel `c` by a disagreement. -/
def DisagreeHeld (m : ParImage) (c : Chan) (n : Nat) (t : State) : Prop :=
  (vat (t.chan c).grps n).st = .lockout ∧ bitOf (vat (t.chan c).grps n).latched caXchkDisagree = true ∧
    (c = .p → pArch m n = 2 → t.safe.kill = true)

theorem disagreeRound_holds {c : Chan} {groups : BitVec 4} {n : Nat} (hn : n < 4) (hg : groups.getLsbD n = true) {s : State}
    (hu : s.grpUsed n = true) : DisagreeHeld s.image c n (disagreeRound c groups n s) := by
  unfold disagreeRound
  rw [if_pos hg]
  have used := (disagree_only s c n).grpUsed n
  obtain ⟨bit, kill⟩ := disagree_spec (c := c) hn hu
  generalize disagree s c n = u at used bit kill
  have hu : u.grpUsed n = true := used.trans hu
  exact ⟨evalGroup_lockout hn hu (causesOf_latched bit) (by decide) (.inl (by decide)),
    evalGroup_keeps_latched hn hu bit (by decide) (by decide), fun hc ha => (evalGroup_kill u c n).trans (kill hc ha)⟩

/-- A group that is named and used is held; one that is not named keeps its view. -/
theorem disagreeRounds_spec {s : State} {c : Chan} {groups : BitVec 4} {n : Nat} (hn : n < 4) :
    if groups.getLsbD n && s.grpUsed n then DisagreeHeld s.image c n (forN 4 (disagreeRound c groups) s)
    else groups.getLsbD n = false → vat ((forN 4 (disagreeRound c groups) s).chan c).grps n = vat (s.chan c).grps n := by
  split
  · rename_i h
    obtain ⟨hg, hu⟩ := Bool.and_eq_true_iff.mp h
    refine forN_reaches (s := s) (Q := fun t : State => t.image = s.image ∧ t.grpUsed n = true)
      (L := DisagreeHeld s.image c n) hn (fun k t _ ⟨hi, hu⟩ => ?_) (fun t ⟨hi, hu⟩ => ?_) (fun k t hk ⟨hs, hb, hx⟩ => ?_) ⟨rfl, hu⟩
    · obtain ⟨image, used, -, -⟩ := disagreeRound_keeps c groups k t
      exact ⟨image.trans hi, (used n).trans hu⟩
    · rw [← hi]
      exact disagreeRound_holds hn hg hu
    · obtain ⟨-, -, grps, kill⟩ := disagreeRound_keeps c groups k t
      rw [DisagreeHeld, grps n (by omega)]
      exact ⟨hs, hb, fun hc ha => kill (hx hc ha)⟩
  · intro hg
    refine forN_keeps (P := fun t : State => vat (t.chan c).grps n = vat (s.chan c).grps n) (fun k t _ h => ?_) rfl
    by_cases hk : n = k
    · rw [disagreeRound, ← hk, hg]
      exact h
    · obtain ⟨-, -, grps, -⟩ := disagreeRound_keeps c groups k t
      exact (grps n hk).trans h

/-- Settles O36: a cycle of channel H by what each of its steps leaves of its readings, a missing update by the rounds over the groups that
it locks out, and a disagreement by the round of each group. -/
theorem channelsCheckEachOther : Obligations.ChannelsCheckEachOther := by
  unfold Obligations.ChannelsCheckEachOther
  refine ⟨fun s smp => channelHEvaluation_spec s smp, fun s c hr hd hq hb hl => ⟨_, exec_xchkTimeout hr, ?_⟩,
    fun s c groups hr => ⟨_, exec_xchkDisagree groups hr, fun n hn => disagreeRounds_spec hn⟩⟩
  obtain ⟨bad, event, grps, used⟩ := watchUpdates_spec hd hq hb hl
  generalize watchUpdates s c = u at bad event grps used
  have locked (n : Nat) (hn : n < 4) (hu : s.grpUsed n = true) (ha : (vat (s.chan c).grps n).st.active = true) :=
    judgeAll_lockout (c := c) hn bad ((used n).trans hu) (grps ▸ ha)
  obtain ⟨bare, events⟩ := judgeAll_keeps u c
  generalize judgeAll u c = t at locked bare events ⊢
  exact ⟨(xchkBad_of_bare bare).trans bad, events _ event, locked⟩

end Sys2Proof.Machine
end

section
/-! PROOFS. The cell slot of the ports (for O29). -/

namespace Sys2Proof.Machine

/-! ## What changes one port alone -/

/-- State `t` is `s` but for its port `p`. -/
def PortOnly (p : Nat) (s t : State) : Prop := ∃ v, t = { s with ports := v } ∧ ∀ k, k ≠ p → vat v k = vat s.ports k

theorem PortOnly.onPort {p : Nat} {s t : State} (h : PortOnly p s t) (f : LacePort → LacePort) : PortOnly p s (t.onPort p f) := by
  obtain ⟨v, rfl, hv⟩ := h
  exact ⟨vupd v p f, rfl, fun k hk => (vat_vupd_other v f hk.symm).trans (hv k hk)⟩

theorem PortOnly.refl (p : Nat) (s : State) : PortOnly p s s := ⟨s.ports, rfl, fun _ _ => rfl⟩

/-! ## A cell departs (R393, R402, R405) -/

/-- The payload of a TIME cell rests on no more of the ports than the last TIME cell that its own port has received. -/
theorem timePayload_ports (s : State) {v : Vector LacePort 4} {p : Nat} (hl : (vat v p).lastTime = (vat s.ports p).lastTime)
    (ht : (vat v p).lastTimeTick = (vat s.ports p).lastTimeTick) : timePayload { s with ports := v } p = timePayload s p := by
  simp only [timePayload, timeFlags, hl, ht]
  rfl

theorem timePayload_onPort (s : State) (p : Fin 4) {f : LacePort → LacePort} (hl : ∀ x, (f x).lastTime = x.lastTime)
    (ht : ∀ x, (f x).lastTimeTick = x.lastTimeTick) : timePayload (s.onPort p f) p = timePayload s p :=
  timePayload_ports s (by simp [hl]) (by simp [ht])

/-- What the slot of port `p` carries of a cell that departs: a TIME cell has its payload written. -/
def sentCell (s : State) (p : Nat) (c : Cell) : Cell := if c.typ = ctTime then { c with payload := timePayload s p } else c

/-- A departing cell stands in the slot, and the queues stay. -/
theorem departCell_port (s : State) (p : Fin 4) (c : Cell) : (vat (departCell s p c).ports p).slot = sentCell s p c ∧
    (vat (departCell s p c).ports p).safeq = (vat s.ports p).safeq ∧ (vat (departCell s p c).ports p).txq = (vat s.ports p).txq := by
  have payload : timePayload (portCount s p cnTx) p = timePayload s p := timePayload_onPort s p (fun _ => rfl) (fun _ => rfl)
  unfold departCell sentCell
  dsimp only
  rw [payload]
  split <;> simp [portCount]

theorem departCell_only {p : Nat} {s t : State} (h : PortOnly p s t) (c : Cell) : PortOnly p s (departCell t p c) := by
  unfold departCell
  dsimp only
  split
  · exact (h.onPort _).onPort _
  · exact (h.onPort _).onPort _

/-- The same of a cell that its queue has just let go. -/
theorem departCell_onPort (s : State) (p : Fin 4) (c : Cell) {f : LacePort → LacePort} (hl : ∀ x, (f x).lastTime = x.lastTime)
    (ht : ∀ x, (f x).lastTimeTick = x.lastTimeTick) : (vat (departCell (s.onPort p f) p c).ports p).slot = sentCell s p c ∧
    (vat (departCell (s.onPort p f) p c).ports p).safeq = (f (vat s.ports p)).safeq ∧
    (vat (departCell (s.onPort p f) p c).ports p).txq = (f (vat s.ports p)).txq := by
  obtain ⟨slot, safeq, txq⟩ := departCell_port (s.onPort p f) p c
  refine ⟨?_, by simp [safeq], by simp [txq]⟩
  rw [slot]
  unfold sentCell
  rw [timePayload_onPort s p hl ht]

/-! ## The slot of one port (R385, R402) -/

theorem slotPort_only (s : State) (p : Nat) : PortOnly p s (slotPort s p) := by
  have h := PortOnly.refl p s
  unfold slotPort
  dsimp only
  split
  · exact h.onPort _
  split
  · exact departCell_only (h.onPort _) _
  split
  · exact departCell_only (h.onPort _) _
  · exact h.onPort _

/-- A port that is out of service, or whose host is not served, drives nothing. -/
theorem slotPort_quiet {s : State} {p : Fin 4} (h : s.servedCore = false ∨ portServes s p = false) :
    vat (slotPort s p).ports p = { vat s.ports p with slot := idleCell } := by
  unfold slotPort
  rw [if_pos]
  · simp
  · obtain h | h := h <;> simp [h]

/-- The oldest SAFE cell goes first where the port carries safety. -/
theorem slotPort_safe {s : State} {p : Fin 4} {e : TxCell} {q : List TxCell} (hs : s.servedCore = true) (hp : portServes s p = true)
    (hc : carries s p = true) (hq : (vat s.ports p).safeq = e :: q) :
    (vat (slotPort s p).ports p).slot = sentCell s p e.cell ∧ (vat (slotPort s p).ports p).safeq = q := by
  have sends : slotPort s p = departCell (s.onPort p fun y => { y with safeq := y.safeq.drop 1 }) p e.cell := by
    simp [slotPort, hs, hp, hc, hq]
  obtain ⟨slot, safeq, -⟩ := departCell_onPort s p e.cell (f := fun y => { y with safeq := y.safeq.drop 1 }) (fun _ => rfl) (fun _ => rfl)
  rw [sends]
  exact ⟨slot, safeq.trans (congrArg (List.drop 1) hq)⟩

/-- With no SAFE cell to send, the first of the other cells goes. -/
theorem slotPort_queued {s : State} {p : Fin 4} {e : TxCell} (hs : s.servedCore = true) (hp : portServes s p = true)
    (hq : carries s p = false ∨ (vat s.ports p).safeq = []) (he : txFirst s (vat s.ports p).txq = some e) :
    (vat (slotPort s p).ports p).slot = sentCell s p e.cell ∧ (vat (slotPort s p).ports p).txq = (vat s.ports p).txq.erase e := by
  have none : (if carries s p then (vat s.ports p).safeq else []) = [] := by obtain h | h := hq <;> simp [h]
  have sends : slotPort s p = departCell (s.onPort p fun y => { y with txq := y.txq.erase e }) p e.cell := by
    simp [slotPort, hs, hp, none, he]
  obtain ⟨slot, -, txq⟩ := departCell_onPort s p e.cell (f := fun y => { y with txq := y.txq.erase e }) (fun _ => rfl) (fun _ => rfl)
  rw [sends]
  exact ⟨slot, txq⟩

/-- With nothing waiting an idle cell goes. -/
theorem slotPort_empty {s : State} {p : Fin 4} (hs : s.servedCore = true) (hp : portServes s p = true) (hq : (vat s.ports p).safeq = [])
    (he : (vat s.ports p).txq = []) :
    (vat (slotPort s p).ports p).slot = { idleCell with txPort := portTx p, net := portNet p, src := laceAddr s.act } := by
  simp [slotPort, hs, hp, hq, he, txFirst]

/-! ## The slots of all ports -/

/-- State `t` agrees with `s` in all that the slot of port `p` rests on. -/
structure SameSlot (p : Nat) (s t : State) : Prop where
  port : vat t.ports p = vat s.ports p
  served : t.servedCore = s.servedCore
  serves : portServes t p = portServes s p
  carries : carries t p = carries s p
  first : ∀ q, txFirst t q = txFirst s q
  sent : ∀ c, sentCell t p c = sentCell s p c
  addr : laceAddr t.act = laceAddr s.act

theorem SameSlot.of_ports (s : State) {v : Vector LacePort 4} {p : Nat} (hv : vat v p = vat s.ports p) :
    SameSlot p s { s with ports := v } where
  port := hv
  served := rfl
  serves := rfl
  carries := congrArg (fun x : LacePort => portIsUp s p && x.reportedHeld == some .up) hv
  first _ := rfl
  sent c := by
    unfold sentCell
    rw [timePayload_ports s (congrArg LacePort.lastTime hv) (congrArg LacePort.lastTimeTick hv)]
  addr := rfl

/-- Port `p` has its slot as it stands before it, whatever the slots of the others bring. -/
theorem cellSlot_port (s : State) (p : Fin 4) : ∃ t, SameSlot p s t ∧
    vat (forN 4 (fun p t => slotPort t p) s).ports p = vat (slotPort t p).ports p := by
  refine forN_reaches (Q := fun t : State => ∃ v, t = { s with ports := v } ∧ vat v p = vat s.ports p)
    (L := fun u : State => ∃ t, SameSlot p s t ∧ vat u.ports p = vat (slotPort t p).ports p) p.isLt
    (fun k t hk => ?_) (fun t => ?_) (fun k u hk => ?_) ⟨s.ports, rfl, rfl⟩
  · rintro ⟨v, rfl, hv⟩
    obtain ⟨w, hw, others⟩ := slotPort_only { s with ports := v } k
    exact ⟨w, hw, (others p (by omega)).trans hv⟩
  · rintro ⟨v, rfl, hv⟩
    exact ⟨_, .of_ports s hv, rfl⟩
  · rintro ⟨t, same, ht⟩
    obtain ⟨w, hw, others⟩ := slotPort_only u k
    refine ⟨t, same, ?_⟩
    rw [hw]
    exact (others p (by omega)).trans ht

/-- While the host is served, each port sends what goes first of what waits. -/
theorem cellSlot_served {s : State} (hs : s.servedCore = true) (p : Fin 4) :
    let y := vat (forN 4 (fun p t => slotPort t p) s).ports p
    (portServes s p = false → y.slot = idleCell ∧ y.txq = (vat s.ports p).txq) ∧
    (∀ e q, portServes s p = true → carries s p = true → (vat s.ports p).safeq = e :: q → y.slot = sentCell s p e.cell ∧ y.safeq = q) ∧
    (∀ e, portServes s p = true → (carries s p = false ∨ (vat s.ports p).safeq = []) → txFirst s (vat s.ports p).txq = some e →
      y.slot = sentCell s p e.cell ∧ y.txq = (vat s.ports p).txq.erase e) ∧
    (portServes s p = true → (vat s.ports p).safeq = [] → (vat s.ports p).txq = [] →
      y.slot = { idleCell with txPort := portTx p, net := portNet p, src := laceAddr s.act }) := by
  obtain ⟨t, same, hy⟩ := cellSlot_port s p
  rw [← same.served] at hs
  simp only [hy, ← same.port, ← same.serves, ← same.carries, ← same.first, ← same.sent, ← same.addr]
  refine ⟨fun hp => ?_, fun e q hp hc hq => slotPort_safe hs hp hc hq, fun e hp hq he => slotPort_queued hs hp hq he,
    fun hp hq he => slotPort_empty hs hp hq he⟩
  rw [slotPort_quiet (.inr hp)]
  exact ⟨rfl, rfl⟩

/-- While the host is not served no port sends. -/
theorem cellSlot_unserved {s : State} (hs : s.servedCore = false) (p : Fin 4) :
    vat (forN 4 (fun p t => slotPort t p) s).ports p = { vat s.ports p with slot := idleCell } := by
  obtain ⟨t, same, hy⟩ := cellSlot_port s p
  rw [hy, slotPort_quiet (.inl (same.served.trans hs)), same.port]

end Sys2Proof.Machine
end

section
/-! PROOFS. Cell slots, cell lock and failing cells (O29). -/

namespace Sys2Proof.Machine

/-! ## Cell lock is gained and lost (R392, R407, R411, R419, R423) -/

theorem gainLock_spec {s : State} {p : Fin 4} (hc : s.coreOn = true) (hl : (vat s.ports p).cellLock = false) :
    (vat (gainLock s p).ports p).cellLock = true ∧ (vat (gainLock s p).ports p).cdrLock = true ∧ (vat (gainLock s p).ports p).measures = 0 ∧
      EventSet (gainLock s p) evCellLock ∧ ∀ k : Nat, k ≠ p → vat (gainLock s p).ports k = vat s.ports k := by
  unfold gainLock
  rw [if_neg (by simp [hc, hl])]
  exact ⟨by simp, by simp, by simp, eventSet_raiseAt _ _ _ (by decide), by simpa using vat_vupd_others⟩

theorem gainLock_idle {s : State} {p : Nat} (h : s.coreOn = false ∨ (vat s.ports p).cellLock = true) : gainLock s p = s := by
  unfold gainLock
  rw [if_pos]
  obtain h | h := h <;> simp [h]

/-- A port that has lost its cell lock, and its CDR's where `cdr` says so. -/
def unlocked (s : State) (cdr : Bool) (x : LacePort) : LacePort :=
  { x with cdrLock := !cdr && x.cdrLock, cellLock := false, failRun := 0, measures := 0, rtts := [], outlierRun := 0, lastTime := none,
           peerAt := none, secCnt := 0, window := some s.now, cnts := vupd x.cnts cnLock (stick 32) }

theorem loseLock_spec {s : State} {p : Fin 4} (cdr : Bool) (hc : s.coreOn = true) (hl : (vat s.ports p).cellLock = true) :
    vat (loseLock s p cdr).ports p = unlocked s cdr (vat s.ports p) ∧ EventSet (loseLock s p cdr) evCellLockLost ∧
      ∀ k : Nat, k ≠ p → vat (loseLock s p cdr).ports k = vat s.ports k := by
  unfold loseLock
  rw [if_neg (by simp [hc])]
  have port : vat (if cdr then s.onPort p fun x => { x with cdrLock := false } else s).ports p =
      { vat s.ports p with cdrLock := !cdr && (vat s.ports p).cdrLock } := by cases cdr <;> simp
  have others : ∀ k : Nat, k ≠ p → vat (if cdr then s.onPort p fun x => { x with cdrLock := false } else s).ports k = vat s.ports k := by
    intro k hk
    cases cdr <;> simp [hk.symm]
  have now : (if cdr then s.onPort p fun x => { x with cdrLock := false } else s).now = s.now := by cases cdr <;> rfl
  generalize (if cdr then s.onPort p fun x => { x with cdrLock := false } else s) = u at port others now
  dsimp only
  rw [if_neg (by simp [port, hl])]
  exact ⟨by simp [portCount, unlocked, port, now], eventSet_raiseAt _ _ _ (by decide), fun k hk => by simp [portCount, hk.symm, others k hk]⟩

/-- Without cell lock the CDR alone loses its own. -/
theorem loseLock_cdr {s : State} {p : Fin 4} (hc : s.coreOn = true) (hl : (vat s.ports p).cellLock = false) :
    loseLock s p true = s.onPort p fun x => { x with cdrLock := false } := by
  simp [loseLock, hc, hl]

theorem loseLock_idle {s : State} {p : Nat} {cdr : Bool} (h : s.coreOn = false ∨ ((vat s.ports p).cellLock = false ∧ cdr = false)) :
    loseLock s p cdr = s := by
  unfold loseLock
  obtain h | ⟨hl, rfl⟩ := h
  · simp [h]
  · simp [hl]

/-! ## Errors of a failing cell are counted (R419) -/

/-- `n` counts into a counter of 32 bits, which stays at its end. -/
theorem stick_iterate {a : Nat} (n : Nat) (h : a < 2 ^ 32) : (stick 32)^[n] a = min (2 ^ 32 - 1) (a + n) := by
  induction n with
  | zero => exact (Nat.min_eq_right (a := 2 ^ 32 - 1) (b := a) (by omega)).symm
  | succ n ih =>
    rw [Function.iterate_succ_apply', ih]
    unfold stick
    split <;> omega

/-- Port `p` of `t` is that of `s` but for its link error counters `c`, and the other ports are those of `s`. -/
structure ErrorsCounted (p : Nat) (s t : State) (c : Vector Nat 9) : Prop where
  port : vat t.ports p = { vat s.ports p with cnts := c }
  others : ∀ k, k ≠ p → vat t.ports k = vat s.ports k

theorem ErrorsCounted.portCount {p : Fin 4} {s t : State} {c : Vector Nat 9} (h : ErrorsCounted p s t c) (i : Nat) :
    ErrorsCounted p s (portCount t p i) (vupd c i (stick 32)) where
  port := by simp [Machine.portCount, h.port]
  others k hk := by simp [Machine.portCount, hk.symm, h.others k hk]

/-- Code errors count into their own counter alone. -/
theorem codeErrors_counted (s : State) (p : Fin 4) (n : Nat) : ∃ c, ErrorsCounted p s (forN n (fun _ t => portCount t p cnCode) s) c ∧
    vat c cnCode = (stick 32)^[n] (vat (vat s.ports p).cnts cnCode) ∧ vat c cnCrc = vat (vat s.ports p).cnts cnCrc := by
  induction n with
  | zero => exact ⟨_, ⟨rfl, fun _ _ => rfl⟩, rfl, rfl⟩
  | succ n ih =>
    obtain ⟨c, counted, code, crc⟩ := ih
    rw [forN_succ]
    refine ⟨_, counted.portCount cnCode, ?_, ?_⟩
    · rw [vat_vupd_same c _ (by decide), code, Function.iterate_succ_apply']
    · rw [vat_vupd_other c _ (by decide), crc]

/-- The errors of a failing cell: its code errors, or its CRC error where it has none. -/
def countErrors (s : State) (p n : Nat) : State :=
  if decide (0 < n) then forN n (fun _ t => portCount t p cnCode) s else portCount s p cnCrc

theorem countErrors_counted (s : State) (p : Fin 4) (n : Nat) : ∃ c, ErrorsCounted p s (countErrors s p n) c ∧
    vat c cnCode = (stick 32)^[n] (vat (vat s.ports p).cnts cnCode) ∧
    vat c cnCrc = if n = 0 then stick 32 (vat (vat s.ports p).cnts cnCrc) else vat (vat s.ports p).cnts cnCrc := by
  unfold countErrors
  cases n with
  | zero =>
    have none : ErrorsCounted p s s (vat s.ports p).cnts := ⟨rfl, fun _ _ => rfl⟩
    exact ⟨_, none.portCount cnCrc, by simp [cnCode, cnCrc], by simp [cnCrc]⟩
  | succ n => exact codeErrors_counted s p (n + 1)

/-! ## A failing cell (R392, R420) -/

/-- A failing cell is counted, towards the loss of lock too. -/
def failCounted (s : State) (p n : Nat) : State :=
  let t := (countErrors s p n).onPort p fun x =>
    { x with failRun := x.failRun + 1, crcSec := if decide (0 < n) then x.crcSec else x.crcSec + 1 }
  if decide (0 < n) then t else countSrc (0x154 + p) 1 t

/-- A CRC error may raise the SD flag. -/
def failJudged (s : State) (p n : Nat) : State :=
  let x := vat s.ports p
  let sd := !decide (0 < n) && decide (fSdThr.val s.act (laceBase p) < x.crcSec)
  raiseIf (sd && !x.sd) (s.onPort p fun y => { y with sd := y.sd || sd, sdClean := if sd then 0 else y.sdClean }) evSignalDegrade p 0

theorem badCell_eq {s : State} {p n : Nat} (hc : s.coreOn = true) (hl : (vat s.ports p).cellLock = true) : badCell s p n =
    if 4 ≤ (vat (failCounted s p n).ports p).failRun then loseLock (failJudged (failCounted s p n) p n) p false
    else failJudged (failCounted s p n) p n := by
  unfold badCell
  rw [if_neg (by simp [hc, hl])]
  rfl

theorem badCell_idle {s : State} {p n : Nat} (h : s.coreOn = false ∨ (vat s.ports p).cellLock = false) : badCell s p n = s := by
  unfold badCell
  rw [if_pos]
  obtain h | h := h <;> simp [h]

theorem failCounted_port (s : State) (p : Fin 4) (n : Nat) :
    (∃ c q, vat (failCounted s p n).ports p = { vat s.ports p with failRun := (vat s.ports p).failRun + 1, crcSec := q, cnts := c } ∧
      vat c cnCode = (stick 32)^[n] (vat (vat s.ports p).cnts cnCode) ∧
      vat c cnCrc = if n = 0 then stick 32 (vat (vat s.ports p).cnts cnCrc) else vat (vat s.ports p).cnts cnCrc) ∧
    ∀ k : Nat, k ≠ p → vat (failCounted s p n).ports k = vat s.ports k := by
  obtain ⟨c, ⟨port, others⟩, code, crc⟩ := countErrors_counted s p n
  have counted (u : State) : (if decide (0 < n) then u else countSrc (0x154 + p.val) 1 u).ports = u.ports := by
    split
    · rfl
    · exact (show Within 0x7400000000200 u (countSrc (0x154 + p.val) 1 u) by simp) .ports rfl
  unfold failCounted
  rw [counted]
  exact ⟨⟨c, _, by rw [vat_vupd_same _ _ p.isLt, port], code, crc⟩, fun k hk => by simp [hk.symm, others k hk]⟩

/-- The SD flag is all of the port that the judgement moves. -/
theorem failJudged_port (s : State) (p : Fin 4) (n : Nat) :
    (∃ sd clean, vat (failJudged s p n).ports p = { vat s.ports p with sd := sd, sdClean := clean }) ∧
    ∀ k : Nat, k ≠ p → vat (failJudged s p n).ports k = vat s.ports k := by
  have raised (b : Bool) (u : State) : (raiseIf b u evSignalDegrade p 0).ports = u.ports := by cases b <;> simp
  unfold failJudged
  exact ⟨⟨_, _, by rw [raised, vat_vupd_same _ _ p.isLt]⟩, fun k hk => by simp [raised, hk.symm]⟩

theorem failJudged_coreOn (s : State) (p n : Nat) : (failJudged (failCounted s p n) p n).coreOn = s.coreOn :=
  (show Within 0x7400008000200 s (failJudged (failCounted s p n) p n) by simp [failJudged, failCounted, countErrors]).coreOn_eq rfl

/-- A failing cell counts its errors, and the fourth in a row loses lock. -/
theorem badCell_spec {s : State} {p : Fin 4} (n : Nat) (hc : s.coreOn = true) (hl : (vat s.ports p).cellLock = true) :
    let y := vat (badCell s p n).ports p
    vat y.cnts cnCrc = (if n = 0 then stick 32 (vat (vat s.ports p).cnts cnCrc) else vat (vat s.ports p).cnts cnCrc) ∧
    vat y.cnts cnCode = (stick 32)^[n] (vat (vat s.ports p).cnts cnCode) ∧
    y.cellLock = decide ((vat s.ports p).failRun < 3) ∧ ∀ k : Nat, k ≠ p → vat (badCell s p n).ports k = vat s.ports k := by
  have core := (failJudged_coreOn s p n).trans hc
  obtain ⟨⟨c, q, hcounted, code, crc⟩, counted_others⟩ := failCounted_port s p n
  obtain ⟨⟨sd, clean, hjudged⟩, judged_others⟩ := failJudged_port (failCounted s p n) p n
  rw [badCell_eq hc hl]
  rw [hcounted] at hjudged ⊢
  generalize failJudged (failCounted s p n) p n = t at core hjudged judged_others
  have others (k : Nat) (hk : k ≠ p) : vat t.ports k = vat s.ports k := (judged_others k hk).trans (counted_others k hk)
  split
  · rename_i fourth
    obtain ⟨port, -, lost_others⟩ := loseLock_spec (s := t) (p := p) false core (by simp [hjudged, hl])
    rw [port, hjudged]
    refine ⟨(vat_vupd_other c _ (by decide)).trans crc, (vat_vupd_other c _ (by decide)).trans code, ?_,
      fun k hk => (lost_others k hk).trans (others k hk)⟩
    simpa [unlocked] using fourth
  · rename_i fewer
    rw [hjudged]
    refine ⟨crc, code, ?_, others⟩
    simpa [hl] using fewer

/-! ## The obligation -/

/-- Settles O29: each slot by what waits at its port, the lock as it is gained and lost, and a failing cell by what it counts. -/
theorem portSlotAndLock : Obligations.PortSlotAndLock := by
  unfold Obligations.PortSlotAndLock
  refine ⟨fun s hs => ⟨_, rfl, fun p hp => ?_⟩, fun s hs => ⟨_, rfl, fun p hp => cellSlot_unserved hs ⟨p, hp⟩⟩,
    fun s p hc hl => ⟨_, rfl, gainLock_spec hc hl⟩, fun s p h => ⟨_, rfl, gainLock_idle h⟩, fun s p cdr hc hl => ⟨_, rfl, ?_⟩,
    fun s p hc hl => ⟨_, congrArg Host.Outcome.next (loseLock_cdr hc hl), by simp, vat_vupd_others⟩,
    fun s p cdr h => ⟨_, rfl, loseLock_idle h⟩, fun s p codeErrs hc hl => ⟨_, rfl, ?_⟩, fun s p codeErrs h => ⟨_, rfl, badCell_idle h⟩⟩
  · obtain ⟨quiet, safe, queued, empty⟩ := cellSlot_served hs ⟨p, hp⟩
    refine ⟨quiet, fun e q hserves hcarries hq ht => ?_, queued, empty⟩
    obtain ⟨slot, rest⟩ := safe e q hserves hcarries hq
    exact ⟨slot.trans (if_neg (by simp [ht, ctSafe, ctTime])), rest⟩
  · obtain ⟨port, event, others⟩ := loseLock_spec cdr hc hl
    rw [port]
    exact ⟨rfl, rfl, rfl, rfl, rfl, vat_vupd_same _ _ (by decide), event, others⟩
  · obtain ⟨crc, code, lock, others⟩ := badCell_spec (p := p) codeErrs hc hl
    exact ⟨crc, fun h => code.trans (stick_iterate codeErrs h), lock, others⟩

end Sys2Proof.Machine
end

section
/-! PROOFS. The timeout of a transaction and the deadlines of a distributed commit (O33). -/

namespace Sys2Proof.Machine

/-! ## A transaction ends or opens again (R416, R555, R556) -/

/-- A roll-back leaves the configuration. -/
theorem rollbackTxn_cfg (s : State) (result : Nat) : (rollbackTxn s result).cfg = s.cfg := by
  unfold rollbackTxn dcRollback
  split <;> rfl

/-- A roll-back ends the transaction with its result. -/
theorem rollbackTxn_txn (s : State) (result : Nat) :
    (rollbackTxn s result).txn.st = .idle ∧ (rollbackTxn s result).txn.owner = none ∧ (rollbackTxn s result).txn.result = result :=
  ⟨rfl, rfl, rfl⟩

/-- A transaction that opens again has its result and keeps its staged writes. -/
theorem reopenTxn_txn (s : State) (result : Nat) :
    (reopenTxn s result).txn.st = .opened ∧ (reopenTxn s result).txn.result = result ∧ (reopenTxn s result).txn.staged = s.txn.staged := by
  unfold reopenTxn resumeTxn
  split <;> exact ⟨rfl, rfl, rfl⟩

/-! ## TXN_TIMEOUT (R555, R565) -/

theorem txnTimeout_due {s : State} (hc : s.coreOn = true) (hr : timeoutRuns s = true) (ho : timeoutOver s = true) :
    txnTimeout s = raiseAt (rollbackTxn s trTimedOut) evTxnTimeout 0 0 := by
  simp [txnTimeout, raise, hc, hr, ho]

theorem txnTimeout_early {s : State} (h : s.coreOn = false ∨ timeoutRuns s = false ∨ timeoutOver s = false) : txnTimeout s = s := by
  unfold txnTimeout
  obtain h | h | h := h <;> simp [h]

/-! ## The deadlines of the distributed commit (R416, R417) -/

theorem exec_dcDeadline {s : State} (hc : s.coreOn = true) (hp : s.time.phase = .evaluate) : exec .dcDeadline s = .next (dcDeadline s) := by
  refine congrArg Host.Outcome.next (if_pos ?_)
  simp [hc, hp]

theorem dcDeadline_due {s : State} (hs : s.txn.st = .proposed) (ht : s.lace.dcTarget ≤ s.curTick + dcGuard s.act) :
    dcDeadline s = decideAbort s (if anyAck s.lace akRefused then 1 else 2) := if_pos ⟨hs, ht⟩

theorem dcResolve_due {s : State} (hs : s.txn.st = .prepared) (ht : s.lace.dcTarget ≤ s.curTick + 1) : dcResolve s =
    raiseAt ((reopenTxn s trNoDecision).onLace fun l => { l with dc := .noDecision, lastResult := 4 }) evDcNoDecision 0 0 := if_pos ⟨hs, ht⟩

/-- A participant that gives up has nothing left to validate. -/
theorem exec_dcParticipantResolve_due {s : State} (hc : s.coreOn = true) (hp : s.time.phase = .evaluate) (hr : s.lace.role = .participant)
    (hs : s.txn.st = .prepared) (ht : s.lace.dcTarget ≤ s.curTick + 1) : exec .dcParticipantResolve s = .next (dcResolve s) := by
  have opened : (dcResolve s).txn.st = .opened := by simpa [dcResolve_due hs ht] using (reopenTxn_txn s trNoDecision).1
  refine congrArg Host.Outcome.next ((if_pos ?_).trans (if_neg ?_))
  · simp [hc, hp, hr]
  · simp [opened]

/-- The watch ends, with its event where a participant of the mask has shown no APPLIED. -/
theorem dcSplitCheck_due {s : State} {b : Nat} (hb : s.lace.splitAt = some b) (ht : b ≤ s.curTick) :
    (dcSplitCheck s).lace.splitAt = none ∧ (∀ a, a < 32 → bitOf s.lace.dcMask a = true → (vat s.lace.acks a).kind ≠ akApplied →
      stateApplied s a = false → EventSet (dcSplitCheck s) evDcSplit) := by
  unfold dcSplitCheck
  simp only [hb, if_neg (Nat.not_lt.mpr ht)]
  refine ⟨?_, fun a ha hm hk hs => ?_⟩
  · rw [raiseIf]
    split <;> simp
  · have missing : ((List.range 32).any fun a => bitOf s.lace.dcMask a && (vat s.lace.acks a).kind != akApplied && !stateApplied s a) = true :=
      List.any_eq_true.mpr ⟨a, List.mem_range.mpr ha, by simp [hm, hk, hs]⟩
    rw [missing]
    exact eventSet_raiseAt _ 0 0 (by decide)

/-! ## The obligation -/

/-- Settles O33: the timeout as a roll-back, the deadlines as a transaction that opens again, and the watch by what it finds missing. -/
theorem transactionDeadlines : Obligations.TransactionDeadlines := by
  unfold Obligations.TransactionDeadlines
  refine ⟨fun s hc hr ho => ⟨_, rfl, ?_⟩, fun s h => ⟨_, rfl, txnTimeout_early h⟩, fun s hc hp hs ht => ⟨_, exec_dcDeadline hc hp, ?_⟩,
    fun s hc hp hr hs ht => ⟨_, exec_dcParticipantResolve_due hc hp hr hs ht, ?_⟩,
    fun s b hc hb ht => ⟨_, congrArg Host.Outcome.next (if_pos hc), dcSplitCheck_due hb ht⟩⟩
  · obtain ⟨idle, owner, result⟩ := rollbackTxn_txn s trTimedOut
    rw [txnTimeout_due hc hr ho]
    exact ⟨by simp [idle], by simp [owner], by simp [result], by simp [rollbackTxn_cfg], eventSet_raiseAt _ 0 0 (by decide)⟩
  · obtain ⟨opened, result, staged⟩ := reopenTxn_txn s trAborted
    rw [dcDeadline_due hs ht]
    exact ⟨opened, result, staged, rfl⟩
  · obtain ⟨opened, result, staged⟩ := reopenTxn_txn s trNoDecision
    rw [dcResolve_due hs ht]
    exact ⟨by simp [opened], by simp [result], by simp [staged], eventSet_raiseAt _ 0 0 (by decide)⟩

end Sys2Proof.Machine
end

section
/-! PROOFS. The security commands, SEC_DATA, and the timers of the session and of authentication (O51). -/

namespace Sys2Proof.Machine

/-! ## The debug level (R473, R632, R635) -/

theorem Within.sec_eq {ps : Nat} {s t : State} (h : Within ps s t)
    (hp : ∀ p ∈ [Part.lastAccess, .session, .sec], ps.testBit p.bit = false) : t.sec = s.sec := by
  have access := h .lastAccess (hp _ (by decide))
  have session := h .session (hp _ (by decide))
  have rest := h .sec (hp _ (by decide))
  simp only [Part.same] at access session rest
  generalize s.sec = x at *
  generalize t.sec = y at *
  cases x
  cases y
  simp_all

@[simp] theorem evaluateGroups_sec (s : State) : (evaluateGroups s).sec = s.sec :=
  (show Within 0x44003c0000200 s (evaluateGroups s) by simp).sec_eq (by decide)

theorem EventsKept.evalGroup {s0 s : State} (h : EventsKept s0 s) (c : Chan) (n : Nat) : EventsKept s0 (evalGroup s c n) :=
  ⟨fun e he => (evalGroup_only s c n).events e (h.keeps e he)⟩

theorem EventsKept.evaluateGroups {s0 s : State} (h : EventsKept s0 s) : EventsKept s0 (evaluateGroups s) := by
  rw [evaluateGroups_eq]
  refine forN_keeps (P := EventsKept s0) (fun n t _ ht => ?_) h
  unfold evaluateRound
  split
  · exact (ht.evalGroup .h n).evalGroup .p n
  · exact ht.evalGroup .h n

theorem causesOf_debug {s : State} (c : Chan) (n : Nat) (h : s.sec.dbg = 2) : (causesOf s c n).testBit caDebug = true := by
  simp [causesOf, h, caIf_testBit]

/-- At level D2 every group that is not UNUSED goes to LOCKOUT in channel H (R473). -/
theorem evaluateGroups_debug {s : State} (h : s.sec.dbg = 2) {n : Nat} (hn : n < 4) (hu : s.grpUsed n = true) :
    (vat (evaluateGroups s).safe.h.grps n).st = .lockout := by
  have sec (k : Nat) (t : State) : (evaluateRound k t).sec = t.sec :=
    (show Within 0x44003c0000200 t (evaluateRound k t) by simp [evaluateRound]).sec_eq (by decide)
  rw [evaluateGroups_eq]
  refine forN_reaches (s := s) (Q := fun t : State => t.sec.dbg = 2 ∧ t.grpUsed n = true)
    (L := fun t : State => (vat t.safe.h.grps n).st = .lockout) hn
    (fun k t _ ⟨hd, hu⟩ => ?_) (fun t ⟨hd, hu⟩ => ?_) (fun k t hk hl => ?_) ⟨h, hu⟩
  · exact ⟨by rw [sec, hd], ((evaluateRound_spec k t).2.1 n).trans hu⟩
  · rw [(evaluateRound_spec n t).2.2]
    exact evalGroup_lockout hn hu (causesOf_debug .h n hd) (by decide) (.inl (by decide))
  · rw [(evaluateRound_spec k t).2.2, show vat (evalGroup t .h k).safe.h.grps n = vat t.safe.h.grps n from
      (evalGroup_only t .h k).grps n (by omega)]
    exact hl

/-- The debug level as changed, with its event, and channel P restarted where it was halted. -/
def debugChanged (s : State) (level : Nat) : State :=
  let t := raise (s.onSec fun x => { x with dbg := level, haltP := false }) evDebugLevel
  if s.sec.haltP then chanPStart t else t

theorem setDebug_of_ne {s : State} {level : Nat} (h : level ≠ s.sec.dbg) :
    setDebug s level = if level = 2 then evaluateGroups (debugChanged s level) else debugChanged s level := if_neg h

@[simp] theorem debugChanged_sec (s : State) (level : Nat) : (debugChanged s level).sec = { s.sec with dbg := level, haltP := false } := by
  unfold debugChanged
  dsimp only
  split
  · rw [(show ∀ u, Within 0x2c0000000 u (chanPStart u) by simp) _ |>.sec_eq (by decide)]
    simp [raise]
  · simp [raise]

theorem debugChanged_grpUsed (s : State) (level n : Nat) : (debugChanged s level).grpUsed n = s.grpUsed n := by
  have hs := raiseAt_safe (s.onSec fun x => { x with dbg := level, haltP := false }) evDebugLevel 0 0
  have raised := grpUsed_congr (congrArg Safety.par hs) (congrArg Safety.hasPar hs) n
  unfold debugChanged
  dsimp only
  split
  · exact (grpUsed_congr rfl rfl n).trans raised
  · exact raised

theorem EventsKept.debugChanged {s0 s : State} (h : EventsKept s0 s) (level : Nat) : EventsKept s0 (debugChanged s level) := by
  have raised := (h.of_same (t := s.onSec fun x => { x with dbg := level, haltP := false }) rfl rfl).raiseAt evDebugLevel 0 0
  unfold Machine.debugChanged
  dsimp only
  split
  · exact raised.of_same rfl rfl
  · exact raised

/-- Of the security unit a change of the level moves the level and channel P's halt alone. -/
theorem setDebug_sec (s : State) (level : Nat) : ∃ b, (setDebug s level).sec = { s.sec with dbg := level, haltP := b } := by
  by_cases h : level = s.sec.dbg
  · exact ⟨s.sec.haltP, by simp [setDebug, h]⟩
  · rw [setDebug_of_ne h]
    exact ⟨false, by split <;> simp⟩

theorem EventsKept.setDebug {s0 s : State} (h : EventsKept s0 s) (level : Nat) : EventsKept s0 (setDebug s level) := by
  by_cases hl : level = s.sec.dbg
  · rw [show Machine.setDebug s level = s from if_pos hl]
    exact h
  · rw [setDebug_of_ne hl]
    split
    · exact (h.debugChanged level).evaluateGroups
    · exact h.debugChanged level

/-- Entering D2 sends every group that is not UNUSED to LOCKOUT in channel H (R473). -/
theorem setDebug_lockout {s : State} (h : s.sec.dbg ≠ 2) {n : Nat} (hn : n < 4) (hu : s.grpUsed n = true) :
    (vat (setDebug s 2).safe.h.grps n).st = .lockout := by
  rw [setDebug_of_ne h.symm, if_pos rfl]
  exact evaluateGroups_debug (by simp) hn ((debugChanged_grpUsed s 2 n).trans hu)

@[simp] theorem setDebug_echoes (s : State) (level : Nat) : (setDebug s level).echoes = s.echoes :=
  (show Within 0x2044003c0000200 s (setDebug s level) by simp) .echoes rfl

/-! ## The end of a session (R622, R634) -/

/-- The session as ended with its cause, before the level falls. -/
def sessionEnded (s : State) (cause : Nat) : State :=
  raise (raise (s.onSec fun x => { x with session := none, endCause := cause }) evSessionEnd) evSecState

theorem endSessionBy_of_some {s : State} {m : Master} (h : s.sec.session = some m) (cause : Nat) : endSessionBy s cause =
    if s.sec.field then setDebug (sessionEnded s cause) (min s.sec.dbg (noSessMax s)) else sessionEnded s cause := by
  have kept : (sessionEnded s cause).sec.field = s.sec.field ∧ (sessionEnded s cause).sec.dbg = s.sec.dbg ∧
      noSessMax (sessionEnded s cause) = noSessMax s := by simp [sessionEnded, raise, noSessMax]
  obtain ⟨field, dbg, most⟩ := kept
  unfold endSessionBy
  rw [h, Option.isNone_some, if_neg Bool.false_ne_true, ← field, ← dbg, ← most]
  rfl

theorem sessionEnded_event (s : State) (cause : Nat) : EventSet (sessionEnded s cause) evSessionEnd :=
  (eventSet_raiseAt _ 0 0 (by decide)).raiseAt evSecState 0 0

/-- A session ends with its cause and its event, whatever level it leaves. -/
theorem endSessionBy_spec {s : State} {m : Master} (h : s.sec.session = some m) (cause : Nat) :
    (endSessionBy s cause).sec.session = none ∧ (endSessionBy s cause).sec.endCause = cause ∧ EventSet (endSessionBy s cause) evSessionEnd ∧
    (endSessionBy s cause).echoes = s.echoes := by
  have ended : (sessionEnded s cause).sec.session = none ∧ (sessionEnded s cause).sec.endCause = cause ∧
      (sessionEnded s cause).echoes = s.echoes := by simp [sessionEnded, raise]
  obtain ⟨session, endCause, echoes⟩ := ended
  rw [endSessionBy_of_some h]
  split
  · obtain ⟨b, hb⟩ := setDebug_sec (sessionEnded s cause) (min s.sec.dbg (noSessMax s))
    rw [hb, setDebug_echoes]
    exact ⟨session, endCause, ((EventsKept.refl _).setDebug _).keeps _ (sessionEnded_event s cause), echoes⟩
  · exact ⟨session, endCause, sessionEnded_event s cause, echoes⟩

/-! ## An access and the security unit (R622) -/

@[simp] theorem access_security (s : State) (m : Master) :
    (access s m).sec.field = s.sec.field ∧ (access s m).sec.session = s.sec.session ∧ (access s m).sec.challenge = s.sec.challenge ∧
    (access s m).sec.buf = s.sec.buf ∧ (access s m).sec.bufWas = s.sec.bufWas ∧ (access s m).sec.ptr = s.sec.ptr ∧
    (access s m).sec.level = s.sec.level ∧ (access s m).sec.dbg = s.sec.dbg := by
  obtain ⟨x, e⟩ := access_shape s m
  rw [e]
  and_intros <;> rfl

theorem access_bufDenied (s : State) (m : Master) : bufDenied (access s m) m = bufDenied s m := by simp [bufDenied]

theorem access_bufBefore (s : State) (m : Master) : bufBefore (access s m) = bufBefore s := by simp [bufBefore]

theorem access_beforeWrite (s : State) (m : Master) (a : Nat) : beforeWrite (access s m) m a = beforeWrite s m a := by
  simp [beforeWrite, canonical]

/-! ## SEC_CTRL (R633, R743) -/

/-- A bank filled with the default reads as it everywhere. -/
theorem vat_replicate_default {α : Type} [Inhabited α] (n i : Nat) : vat (Vector.replicate n (default : α)) i = default := by
  by_cases h : i < n <;> simp [vat, List.getD_eq_getElem?_getD, h]

/-- SEC_CTRL as DBG_SET leaves it: its LEVEL, and the PTR of before. -/
def levelWritten (s : State) (m : Master) (level : Nat) : State :=
  (access s m).onSec fun x => { x with level := level, ptr := s.sec.ptr % 16 }

@[simp] theorem levelWritten_sec (s : State) (m : Master) (level : Nat) :
    (levelWritten s m level).sec = { (access s m).sec with level := level, ptr := s.sec.ptr % 16 } := rfl

@[simp] theorem levelWritten_servedCore (s : State) (m : Master) (level : Nat) : (levelWritten s m level).servedCore = s.servedCore :=
  access_servedCore s m

theorem levelWritten_grpUsed (s : State) (m : Master) (level n : Nat) : (levelWritten s m level).grpUsed n = s.grpUsed n := by
  have safe : (levelWritten s m level).safe = s.safe := by simp [levelWritten]
  exact grpUsed_congr (congrArg Safety.par safe) (congrArg Safety.hasPar safe) n

/-- What a master is permitted rests on the session, the key field, the present level and the policy fuses. -/
theorem levelPermitted_congr {s t : State} (hs : t.sec.session = s.sec.session) (hf : t.sec.field = s.sec.field) (hd : t.sec.dbg = s.sec.dbg)
    (ho : t.otp = s.otp) (m : Master) (l : Nat) : levelPermitted t m l = levelPermitted s m l := by
  unfold levelPermitted sessMax noSessMax
  rw [hs, hf, hd, ho]

theorem levelWritten_permitted (s : State) (m : Master) (level l : Nat) : levelPermitted (levelWritten s m level) m l = levelPermitted s m l :=
  levelPermitted_congr (by simp) (by simp) (by simp) (by simp [levelWritten]) m l

/-- The fields of the word that DBG_SET writes: DBG_SET, its LEVEL and the present PTR. -/
theorem secCtrl_bits (ptr : Nat) (l : BitVec 2) : bitsOf (256 * ptr + 16 * l.toNat + 2) 5 4 = l.toNat ∧
    bitsOf (256 * ptr + 16 * l.toNat + 2) 1 0 = 2 ∧ bitsOf (256 * ptr + 16 * l.toNat + 2) 11 8 = ptr % 16 := by
  have := l.isLt
  simp only [bitsOf, Nat.shiftRight_eq_div_pow]
  omega

theorem exec_dbgSet {s : State} {m : Master} {l : BitVec 2} (hc : s.servedCore = true) (hl : l ≠ 3) :
    exec (.dbgSet m l) s = .next (dbgSet (levelWritten s m l.toNat) m) := by
  obtain ⟨level, cmd, ptr⟩ := secCtrl_bits s.sec.ptr l
  have hne : l.toNat ≠ 3 := fun h => hl (BitVec.eq_of_toNat_eq h)
  refine congrArg Host.Outcome.next ?_
  unfold secCtrlWrite
  simp only [access_servedCore, hc, Bool.not_true, if_neg Bool.false_ne_true, level, cmd, ptr, if_neg hne]
  rfl

theorem exec_dbgSet_reserved {s : State} {m : Master} (hc : s.servedCore = true) :
    exec (.dbgSet m 3) s = .next (raise (echo (access s m) m 0x3D 2 [3] ccBadValue) evBadValue) := by
  obtain ⟨level, cmd, -⟩ := secCtrl_bits s.sec.ptr 3
  refine congrArg Host.Outcome.next ?_
  unfold secCtrlWrite
  simp only [access_servedCore, hc, Bool.not_true, if_neg Bool.false_ne_true, level, cmd]
  rfl

theorem dbgSet_permitted {s : State} {m : Master} (hc : s.servedCore = true) (hp : levelPermitted s m s.sec.level = true) :
    dbgSet s m = setDebug (echo s m 0x3D 2 [s.sec.level] resAccepted) s.sec.level := by simp [dbgSet, hc, hp]

theorem dbgSet_denied {s : State} {m : Master} (hc : s.servedCore = true) (hp : levelPermitted s m s.sec.level = false) :
    dbgSet s m = raise (echo s m 0x3D 2 [s.sec.level] resDebugDenied) evDebugDenied := by simp [dbgSet, hc, hp]

/-- END_SESSION by the session master, and by anyone else. -/
theorem exec_endSession_holder {s : State} {m : Master} (hc : s.servedCore = true) (hs : s.sec.session = some m) :
    exec (.endSession m) s = .next (endSessionBy (echo (access s m) m 0x3D 1 [] resAccepted) 1) :=
  congrArg Host.Outcome.next (by simp [sessionEndCmd, hc, hs])

theorem exec_endSession_other {s : State} {m : Master} (hc : s.servedCore = true) (hs : s.sec.session ≠ some m) :
    exec (.endSession m) s = .next (echo s m 0x3D 1 [] resNotHolder) :=
  congrArg Host.Outcome.next (by simp [sessionEndCmd, access, hc, hs])

theorem exec_bufClear {s : State} {m : Master} (hc : s.servedCore = true) : exec (.bufClear m) s =
    .next ((echo (access s m) m 0x3D 3 [] resAccepted).onSec fun x => { x with buf := Vector.replicate 16 0 }) :=
  congrArg Host.Outcome.next (by simp [bufClear, hc])

/-! ## SEC_DATA (R624, R744, R754) -/

/-- A write that is not denied: the word at PTR, unless this cycle clears the buffer; PTR advances. -/
theorem secDataWrite_sec {s : State} {m : Master} (hc : s.servedCore = true) (hd : bufDenied s m = false) (v : Nat) :
    (secDataWrite s m v).sec = { s.sec with
      buf := if (bufBefore s).isSome then s.sec.buf else vupd s.sec.buf s.sec.ptr fun _ => Word.ofN v
      ptr := (s.sec.ptr + 1) % 16 } := by
  simp [secDataWrite, bufWrite, ptrNext, hc, hd]

/-- A write against another master's challenge only advances PTR, with its event. -/
theorem secDataWrite_denied {s : State} {m : Master} (hc : s.servedCore = true) (hd : bufDenied s m = true) (v : Nat) :
    (secDataWrite s m v).sec = { s.sec with ptr := (s.sec.ptr + 1) % 16 } ∧ EventSet (secDataWrite s m v) evSecDenied := by
  have event := eventSet_raiseAt s 0 0 (show evSecDenied < 256 by decide)
  constructor
  · simp [secDataWrite, bufWrite, ptrNext, raise, hc, hd]
  · unfold secDataWrite bufWrite
    rw [hc, hd]
    exact event.congr rfl rfl

theorem secDataRead_served {s : State} (hc : s.servedCore = true) :
    secDataRead s = ((vat ((bufBefore s).getD s.sec.buf) s.sec.ptr).toNat, ptrNext s) := by simp [secDataRead, hc]

theorem exec_secDataWrite (s : State) (m : Master) (v : Word) :
    exec (.secData m (.write v)) s = .next (noted (access s m) m 0x3E (secDataWrite (access s m) m v.toNat)) := rfl

theorem exec_secDataRead {s : State} {m : Master} (hc : s.servedCore = true) : exec (.secData m .read) s =
    .next ((ptrNext (access s m)).onHost m fun h => { h with
      readData := [Word.ofN ((beforeWrite s m 0x3E).getD (vat ((bufBefore s).getD s.sec.buf) s.sec.ptr).toNat)] }) := by
  rw [← access_beforeWrite]
  refine congrArg Host.Outcome.next ?_
  dsimp only
  rw [secDataRead_served (by simp [hc]), access_bufBefore]
  simp

/-! ## The timers (R622, R626, R627) -/

theorem sessionIdle_due {s : State} {m : Master} (hs : s.sec.session = some m) (ht : s.sec.lastAccess + sessionTicks < s.safe.p.clk) :
    sessionIdle s = endSessionBy s 2 := by simp [sessionIdle, hs, ht]

theorem sessionIdle_early {s : State} (ht : s.safe.p.clk ≤ s.sec.lastAccess + sessionTicks) : sessionIdle s = s := by
  simp [sessionIdle, Nat.not_lt.mpr ht]

theorem challengeExpire_due {s : State} (ht : s.sec.chalEnd < s.safe.p.clk) :
    (challengeExpire s).sec.challenge = none ∧ (challengeExpire s).sec.buf = s.sec.buf := by
  cases hc : s.sec.challenge <;> simp [challengeExpire, hc, ht]

theorem challengeExpire_early {s : State} (ht : s.safe.p.clk ≤ s.sec.chalEnd) : challengeExpire s = s := by
  simp [challengeExpire, Nat.not_lt.mpr ht]

theorem authDelayExpire_of_some {s : State} {b : Nat} (hb : s.sec.delay = some b) :
    authDelayExpire s = if b ≤ s.safe.h.clk then s.onSec fun x => { x with delay := none } else s := by simp [authDelayExpire, hb]

/-! ## The obligation -/

/-- Settles O51: SEC_CTRL and SEC_DATA by whom they come from and what they may do, each timer by whether it has run out. -/
theorem securityCommandsAndTimers : Obligations.SecurityCommandsAndTimers := by
  unfold Obligations.SecurityCommandsAndTimers
  refine ⟨fun s m hc hs => ⟨_, exec_endSession_holder hc hs, ?_⟩, fun s m hc hs => ⟨_, exec_endSession_other hc hs, rfl, echoed_echo ..⟩,
    fun s m l hc hl hp => ⟨_, exec_dbgSet hc hl, ?_⟩, fun s m l hc hl hp => ⟨_, exec_dbgSet hc hl, ?_⟩,
    fun s m hc => ⟨_, exec_dbgSet_reserved hc, ?_⟩, fun s m hc => ⟨_, exec_bufClear hc, fun i => ?_, echoed_echo ..⟩,
    fun s m v hc hptr hd hb => ⟨_, exec_secDataWrite s m v, ?_⟩, fun s m v b hc hd hb => ⟨_, exec_secDataWrite s m v, ?_⟩,
    fun s m v hc hd => ⟨_, exec_secDataWrite s m v, ?_⟩, fun s m hc => ⟨_, exec_secDataRead hc, ?_⟩,
    fun s m hs ht => ⟨_, rfl, ?_⟩, fun s ht => ⟨_, rfl, sessionIdle_early ht⟩, fun s ht => ⟨_, rfl, challengeExpire_due ht⟩,
    fun s ht => ⟨_, rfl, challengeExpire_early ht⟩, fun s b hb ht => ⟨_, rfl, ?_⟩, fun s b hb ht => ⟨_, rfl, ?_⟩⟩
  · obtain ⟨session, cause, event, echoes⟩ := endSessionBy_spec (s := echo (access s m) m 0x3D 1 [] resAccepted) (by simpa using hs) 1
    exact ⟨session, cause, event, (echoed_echo ..).congr echoes⟩
  · rw [dbgSet_permitted (by simp [hc]) (by simpa [levelWritten_permitted] using hp)]
    obtain ⟨b, hb⟩ := setDebug_sec (echo (levelWritten s m l.toNat) m 0x3D 2 [l.toNat] resAccepted) l.toNat
    refine ⟨by simp [hb], by simp [hb], (echoed_echo ..).congr (setDebug_echoes ..), fun h2 hd n hn hu => ?_⟩
    subst h2
    exact setDebug_lockout (by simpa using hd) hn ((levelWritten_grpUsed s m 2 n).trans hu)
  · rw [dbgSet_denied (by simp [hc]) (by simpa [levelWritten_permitted] using hp)]
    exact ⟨by simp [raise], eventSet_raiseAt _ 0 0 (by decide), (echoed_echo ..).raise _⟩
  · exact ⟨by simp [raise], by simp [raise], by simp [raise], eventSet_raiseAt _ 0 0 (by decide), (echoed_echo ..).raise _⟩
  · exact vat_replicate_default 16 i
  · have sec := secDataWrite_sec (v := v.toNat) ((access_servedCore s m).trans hc) ((access_bufDenied s m).trans hd)
    simp only [access_bufBefore, hb] at sec
    refine ⟨?_, ?_, fun k hk => ?_⟩
    · simp [sec, hptr, wordOfN_toNat]
    · simp [sec]
    · simp [sec, hk.symm]
  · have sec := secDataWrite_sec (v := v.toNat) ((access_servedCore s m).trans hc) ((access_bufDenied s m).trans hd)
    simp only [access_bufBefore, hb] at sec
    exact ⟨by simp [sec], by simp [sec]⟩
  · obtain ⟨sec, event⟩ := secDataWrite_denied (v := v.toNat) ((access_servedCore s m).trans hc) ((access_bufDenied s m).trans hd)
    exact ⟨by simp [sec], by simp [sec], event.noted⟩
  · exact ⟨by simp, by simp [ptrNext], by simp [ptrNext]⟩
  · obtain ⟨session, cause, event, -⟩ := endSessionBy_spec hs 2
    rw [sessionIdle_due hs ht]
    exact ⟨session, cause, event⟩
  · rw [authDelayExpire_of_some hb, if_pos ht]
    exact ⟨rfl, rfl⟩
  · rw [authDelayExpire_of_some hb, if_neg (Nat.not_le.mpr ht)]

end Sys2Proof.Machine
end

section
/-! PROOFS. The safety inputs: filtered changes, discrepancies and test pulses (O34). -/

namespace Sys2Proof.Machine

/-! ## A channel and the other -/

theorem otherChan_ne (c : Chan) : otherChan c ≠ c := by cases c <;> decide

@[simp] theorem chan_onChan_otherChan (s : State) (c : Chan) (f : SafeChan → SafeChan) : (s.onChan c f).chan (otherChan c) = s.chan (otherChan c) :=
  State.chan_onChan_other s f (otherChan_ne c)

@[simp] theorem onChan_image (s : State) (c : Chan) (f : SafeChan → SafeChan) : (s.onChan c f).image = s.image := (onChan_params s c f).1

/-! ## The judgement of a changed input (R447) -/

/-- The other line has led for longer than T_DISC when both agree again at channel time `now`. -/
def ledTooLong (m : ParImage) (i : Nat) (wait : Option Nat) (now : Nat) : Bool :=
  match wait with
  | some b => !withinDisc m i b now
  | none => false

/-- The state of a judged input that is not in FAULT, after a change at channel time `now`. -/
def judgedState (m : ParImage) (i : Nat) (x : ChanInput) (now : Nat) : InState :=
  if actA m i x != actB m i x then .opened else if ledTooLong m i x.waitSince now then .fault
  else if actA m i x then .closed else .opened

/-- Input `i` of a channel is in state `st`, at the levels of `x`. -/
def InputShows (x : SafeChan) (i : Nat) (lvl : ChanInput) (st : InState) : Prop :=
  (vat x.ins i).lvlA = lvl.lvlA ∧ (vat x.ins i).lvlB = lvl.lvlB ∧ (vat x.ins i).st = st

/-- A discrepancy fault leaves the levels, and the other channel (R447). -/
theorem discFault_shows (s : State) (c : Chan) {i : Nat} (hi : i < 8) :
    InputShows ((discFault s c i).chan c) i (vat (s.chan c).ins i) .fault ∧ (discFault s c i).chan (otherChan c) = s.chan (otherChan c) := by
  simp [InputShows, discFault, hi]

/-- The judgement of an input that is not in FAULT leaves the levels, and the other channel. -/
theorem judgeInput_shows {s : State} {c : Chan} {i : Nat} (hi : i < 8) (hs : (vat (s.chan c).ins i).st ≠ .fault) (now : Nat) :
    InputShows ((judgeInput s c i now).chan c) i (vat (s.chan c).ins i) (judgedState s.image i (vat (s.chan c).ins i) now) ∧
    (judgeInput s c i now).chan (otherChan c) = s.chan (otherChan c) := by
  unfold judgeInput judgedState
  extract_lets m x a b
  rw [if_neg hs]
  split
  · simp [InputShows, hi]
  · split
    next t hw =>
      have led : ledTooLong m i x.waitSince now = !withinDisc m i t now := by rw [hw]; rfl
      rw [led]
      split
      next hin => simp [InputShows, hi, hin, a, x, m]
      next hin => simpa [hin] using discFault_shows s c hi
    next hw =>
      have led : ledTooLong m i x.waitSince now = false := by rw [hw]; rfl
      rw [led]
      simp [InputShows, hi, a, x, m]

/-- A judged input is none that is UNUSED, and no ACK input (R444). -/
theorem pType_of_demands {m : ParImage} {i : Nat} (h : demands m i = true) : pType m i ≠ 0 ∧ pType m i ≠ 3 := by
  unfold demands at h
  simp only [Bool.or_eq_true, beq_iff_eq] at h
  omega

/-! ## A filtered change of a line (R444, R445) -/

theorem ins_of_bare {x y : SafeChan} (h : x.bare = y.bare) : x.ins = y.ins := (congrArg SafeChan.ins h : x.bare.ins = y.bare.ins)

/-- The groups that observe their inputs leave the inputs, and the other channel. -/
theorem observeAll_keeps (s : State) (c : Chan) :
    ((observeAll s c).chan c).ins = (s.chan c).ins ∧ (observeAll s c).chan (otherChan c) = s.chan (otherChan c) := by
  unfold observeAll
  refine forN_keeps (P := fun t : State => (t.chan c).ins = (s.chan c).ins ∧ t.chan (otherChan c) = s.chan (otherChan c))
    (fun n t _ ⟨hi, ho⟩ => ?_) ⟨rfl, rfl⟩
  have h := (GroupOnly.refl c n t).observe false
  exact ⟨(ins_of_bare h.chan).trans hi, h.other.trans ho⟩

/-- An input with the new level of line `line`, which it has shown since channel time `t`. -/
def lineSet (line : Nat) (level : Bool) (t : Nat) (x : ChanInput) : ChanInput :=
  if line % 2 == 1 then { x with lvlB := level, tB := t } else { x with lvlA := level, tA := t }

/-- The line shows its new level, and the other line of the input the level of before. -/
theorem lineSet_lineLevel (line : Nat) (level : Bool) (t : Nat) (x : ChanInput) : lineLevel (lineSet line level t x) line = level ∧
    lineLevel (lineSet line level t x) (line + 1 - 2 * (line % 2)) = lineLevel x (line + 1 - 2 * (line % 2)) := by
  unfold lineLevel lineSet
  obtain h | h := Nat.mod_two_eq_zero_or_one line
  · have other : (line + 1) % 2 = 1 := by omega
    simp [h, other]
  · have other : (line - 1) % 2 = 0 := by omega
    simp [h, other]

@[simp] theorem lineSet_keeps (line : Nat) (level : Bool) (t : Nat) (x : ChanInput) :
    (lineSet line level t x).st = x.st ∧ (lineSet line level t x).waitSince = x.waitSince := by
  unfold lineSet
  split <;> exact ⟨rfl, rfl⟩

theorem lineChange_filtered {s : State} {c : Chan} {line : Nat} {level : Bool} {held : Nat}
    (h : filterPasses s (line / 2) (line % 2 == 1) level held = false) : lineChange s c line level held = s := by
  simp [lineChange, h]

/-- A new level of a line of a judged input is taken over, the input is judged, and the groups observe it. -/
theorem lineChange_judged {s : State} {c : Chan} {line : Nat} {level : Bool} {held : Nat} (hr : s.chanRuns c = true)
    (hf : filterPasses s (line / 2) (line % 2 == 1) level held = true) (hd : demands s.image (line / 2) = true)
    (hl : lineLevel (vat (s.chan c).ins (line / 2)) line ≠ level) :
    lineChange s c line level held =
      observeAll (judgeInput (s.onChIn c (line / 2) (lineSet line level (changeAt s c (line / 2) (line % 2 == 1) level held))) c (line / 2)
        (changeAt s c (line / 2) (line % 2 == 1) level held)) c := by
  have level' : ((if line % 2 == 1 then (vat (s.chan c).ins (line / 2)).lvlB else (vat (s.chan c).ins (line / 2)).lvlA) == level) = false := by
    obtain h | h := Nat.mod_two_eq_zero_or_one line <;> simpa [lineLevel, h] using hl
  obtain ⟨h0, h3⟩ := pType_of_demands hd
  unfold lineChange
  extract_lets i b t x u
  rw [if_neg (by simp [hr, hf, i, b]), if_neg (ne_true_of_eq_false level')]
  have image : u.image = s.image := onChan_image ..
  rw [image, if_neg h0, if_neg h3]
  rfl

theorem actA_congr {m : ParImage} {i : Nat} {x y : ChanInput} (h : x.lvlA = y.lvlA) : actA m i x = actA m i y := h

theorem actB_congr {m : ParImage} {i : Nat} {x y : ChanInput} (h : x.lvlB = y.lvlB) : actB m i x = actB m i y := by
  unfold actB
  rw [h]

theorem lineLevel_congr {x y : ChanInput} (ha : x.lvlA = y.lvlA) (hb : x.lvlB = y.lvlB) (k : Nat) : lineLevel x k = lineLevel y k := by
  unfold lineLevel
  rw [ha, hb]

/-- What such a change leaves: the line at its level, the other as it was, the input as judged, and the other channel's view. -/
theorem lineChange_spec {s : State} {c : Chan} {line : Nat} {level : Bool} {held : Nat} (hline : line < 16) (hr : s.chanRuns c = true)
    (hf : filterPasses s (line / 2) (line % 2 == 1) level held = true) (hd : demands s.image (line / 2) = true)
    (hs : (vat (s.chan c).ins (line / 2)).st ≠ .fault) (hl : lineLevel (vat (s.chan c).ins (line / 2)) line ≠ level) {x y : ChanInput}
    (hx : x = vat (s.chan c).ins (line / 2)) (hy : y = vat ((lineChange s c line level held).chan c).ins (line / 2)) :
    lineLevel y line = level ∧ lineLevel y (line + 1 - 2 * (line % 2)) = lineLevel x (line + 1 - 2 * (line % 2)) ∧
    y.st = (if actA s.image (line / 2) y != actB s.image (line / 2) y then .opened
      else if ledTooLong s.image (line / 2) x.waitSince (changeAt s c (line / 2) (line % 2 == 1) level held) then .fault
      else if actA s.image (line / 2) y then .closed else .opened) ∧
    (lineChange s c line level held).chan (otherChan c) = s.chan (otherChan c) := by
  have hi : line / 2 < 8 := by omega
  rw [lineChange_judged hr hf hd hl] at hy ⊢
  generalize changeAt s c (line / 2) (line % 2 == 1) level held = now at hy ⊢
  have set : vat ((s.onChIn c (line / 2) (lineSet line level now)).chan c).ins (line / 2) = lineSet line level now x := by simp [hi, hx]
  obtain ⟨ins, other⟩ := observeAll_keeps (judgeInput (s.onChIn c (line / 2) (lineSet line level now)) c (line / 2) now) c
  obtain ⟨shows, otherJudged⟩ := judgeInput_shows (s := s.onChIn c (line / 2) (lineSet line level now)) (c := c) hi
    (by rw [set, (lineSet_keeps ..).1, hx]; exact hs) now
  rw [set, onChan_image] at shows
  obtain ⟨lvlA, lvlB, st⟩ := shows
  rw [← ins, ← hy] at lvlA lvlB st
  obtain ⟨lvl, lvlOther⟩ := lineSet_lineLevel line level now x
  refine ⟨?_, ?_, ?_, ?_⟩
  · rw [lineLevel_congr lvlA lvlB, lvl]
  · rw [lineLevel_congr lvlA lvlB, lvlOther]
  · rw [st, actA_congr lvlA, actB_congr lvlB]
    simp [judgedState]
  · rw [other, otherJudged, chan_onChan_otherChan]

/-! ## T_DISC passes (R447, R448) -/

theorem exec_discrepancy {s : State} {i : Fin 8} {c : Chan} {b : Nat} (hr : s.chanRuns c = true)
    (hb : (vat (s.chan c).ins i).waitSince = some b) (ht : b + pTDisc s.image i * cMs < chanNow s c) :
    exec (.discrepancy i c) s = .next (if pType s.image i = 3 then ackDisc s c i else discFault s c i) :=
  congrArg Host.Outcome.next (if_neg (by simp [hr, hb, ht]))

theorem discFault_event {s : State} {c : Chan} {i : Nat} (h : (vat (s.chan (otherChan c)).ins i).st ≠ .fault) :
    EventSet (discFault s c i) (ev 6 5) := by
  unfold discFault
  rw [bne_iff_ne.mpr h]
  exact eventSet_raiseAt _ _ _ (by decide)

/-- A discrepancy of an ACK input ends the press, is no fault, and raises its event (R448). -/
theorem ackDisc_spec (s : State) (c : Chan) {i : Nat} (hi : i < 8) : (vat ((ackDisc s c i).chan c).ins i).ackSince = none ∧
    (vat ((ackDisc s c i).chan c).ins i).st = (vat (s.chan c).ins i).st ∧ EventSet (ackDisc s c i) (ev 6 5) := by
  have event : EventSet (ackDisc s c i) (ev 6 5) := eventSet_raiseAt _ _ _ (by decide)
  refine ⟨?_, ?_, event⟩ <;> simp [ackDisc, State.chan_congr (raiseAt_safe ..), hi]

/-! ## A test pulse (R446) -/

/-- An input after the check of a test pulse on its line B, or else its line A: the second failure in a row is a fault. -/
def pulseJudged (lineB failed : Bool) (x : ChanInput) : ChanInput :=
  if lineB then { x with tpFailB := failed, tpFaultB := failed && (x.tpFailB || x.tpFaultB) }
  else { x with tpFailA := failed, tpFaultA := failed && (x.tpFailA || x.tpFaultA) }

/-- The check of a pulse changes one input of one channel. -/
theorem pulseResult_spec (s : State) (c : Chan) (i : Nat) (lineB failed : Bool) :
    (pulseResult s c i lineB failed).image = s.image ∧ (pulseResult s c i lineB failed).chan (otherChan c) = s.chan (otherChan c) ∧
    (∀ k, k ≠ i → vat ((pulseResult s c i lineB failed).chan c).ins k = vat (s.chan c).ins k) ∧
    (i < 8 → vat ((pulseResult s c i lineB failed).chan c).ins i = pulseJudged lineB failed (vat (s.chan c).ins i)) := by
  unfold pulseResult
  refine ⟨?_, ?_, fun k hk => ?_, fun hi => ?_⟩
  · exact (congrArg Safety.par (raiseIf_safe ..)).trans (onChan_image ..)
  · simp
  · simp [hk.symm]
  · cases lineB <;> simp [hi, pulseJudged]

/-- The check of a pulse on input `i`, in channel P while it runs and in channel H. -/
def pulseRound (lineB : Bool) (p h : PulseSight) (i : Nat) (s : State) : State :=
  if !pTpEn s.image i || pType s.image i == 0 then s else
  let t := raiseIf ((pulseFails p i && s.pRuns) || pulseFails h i) s (ev 6 7) i 0
  pulseResult (if t.pRuns then pulseResult t .p i lineB (pulseFails p i && s.pRuns) else t) .h i lineB (pulseFails h i)

theorem testPulse_due {s : State} {line : TpLine} (hd : pulseDue s line = true) (p h : PulseSight) :
    testPulse s line p h = forN 8 (pulseRound (line == .tpb) p h)
      (s.onSafe fun f => { f with tpAt := vupd f.tpAt (b2n (line == .tpb)) fun _ => some (clockH s) }) := by
  unfold testPulse
  rw [hd]
  rfl

theorem testPulse_early {s : State} {line : TpLine} (hd : pulseDue s line = false) (p h : PulseSight) : testPulse s line p h = s := by
  simp [testPulse, hd]

/-- A round of the check keeps the parameters and, of channel H, the other inputs; its own input is judged where it is pulsed and used. -/
theorem pulseRound_spec (lineB : Bool) (p h : PulseSight) (i : Nat) (s : State) : (pulseRound lineB p h i s).image = s.image ∧
    (∀ k, k ≠ i → vat ((pulseRound lineB p h i s).chan .h).ins k = vat (s.chan .h).ins k) ∧
    (i < 8 → pTpEn s.image i = true → pType s.image i ≠ 0 →
      vat ((pulseRound lineB p h i s).chan .h).ins i = pulseJudged lineB (pulseFails h i) (vat (s.chan .h).ins i)) := by
  unfold pulseRound
  split
  next hskip => exact ⟨rfl, fun _ _ => rfl, fun _ hen hty => by simp [hen, hty] at hskip⟩
  next =>
    extract_lets t
    generalize hu : (if t.pRuns then pulseResult t .p i lineB (pulseFails p i && s.pRuns) else t) = u
    have before : u.image = s.image ∧ u.chan .h = s.chan .h := by
      have raised : t.image = s.image ∧ t.chan .h = s.chan .h := ⟨congrArg Safety.par (raiseIf_safe ..), raiseIf_chan ..⟩
      rw [← hu]
      split
      · obtain ⟨image, other, -⟩ := pulseResult_spec t .p i lineB (pulseFails p i && s.pRuns)
        exact ⟨image.trans raised.1, other.trans raised.2⟩
      · exact raised
    obtain ⟨image, -, others, own⟩ := pulseResult_spec u .h i lineB (pulseFails h i)
    rw [before.2] at others own
    exact ⟨image.trans before.1, others, fun hi _ _ => own hi⟩

/-- A pulse that is due is judged on each input that has TP_EN and is used. -/
theorem testPulse_input {s : State} {line : TpLine} (hd : pulseDue s line = true) (p h : PulseSight) {i : Nat} (hi : i < 8)
    (hen : pTpEn s.image i = true) (hty : pType s.image i ≠ 0) :
    vat (testPulse s line p h).safe.h.ins i = pulseJudged (line == .tpb) (pulseFails h i) (vat s.safe.h.ins i) := by
  rw [testPulse_due hd]
  refine forN_reaches (Q := fun t : State => t.image = s.image ∧ vat (t.chan .h).ins i = vat s.safe.h.ins i)
    (L := fun t : State => vat (t.chan .h).ins i = pulseJudged (line == .tpb) (pulseFails h i) (vat s.safe.h.ins i)) hi
    (fun k t hk ⟨image, same⟩ => ?_) (fun t ⟨image, same⟩ => ?_) (fun k t hk judged => ?_) ⟨rfl, rfl⟩
  · obtain ⟨kept, others, -⟩ := pulseRound_spec (line == .tpb) p h k t
    exact ⟨kept.trans image, (others i (by omega)).trans same⟩
  · obtain ⟨-, -, own⟩ := pulseRound_spec (line == .tpb) p h i t
    rw [own hi (by rw [image, hen]) (by rw [image]; exact hty), same]
  · obtain ⟨-, others, -⟩ := pulseRound_spec (line == .tpb) p h k t
    exact (others i (by omega)).trans judged

/-! ## The obligation -/

theorem exec_safetyInputChange (s : State) (line : Fin 16) (level : Bool) (c : Chan) (held : Nat) :
    exec (.safetyInputChange line level (whoOf c) held) s = .next (lineChange s c line level held) := by cases c <;> rfl

/-- Settles O34: a change as the judgement of its input, T_DISC by the type of the input, and a pulse input by input. -/
theorem safetyInputsAreJudged : Obligations.SafetyInputsAreJudged := by
  unfold Obligations.SafetyInputsAreJudged
  refine ⟨fun s c line level held hr hf hd hs hl =>
    ⟨_, exec_safetyInputChange s line level c held, lineChange_spec line.isLt hr hf hd hs hl rfl rfl⟩,
    fun s c line level held hf => ⟨_, exec_safetyInputChange s line level c held, lineChange_filtered hf⟩,
    fun s line level held => ⟨_, rfl, rfl⟩, fun s i c b hr hd hb ht => ⟨_, exec_discrepancy hr hb ht, ?_⟩,
    fun s i c b hr hty hb ht => ⟨_, exec_discrepancy hr hb ht, ?_⟩, fun s line p h hd => ⟨_, rfl, testPulse_early hd p h⟩,
    fun s line p h hd => ⟨_, rfl, fun i hi hen hty => ?_⟩⟩
  · obtain ⟨⟨-, -, fault⟩, other⟩ := discFault_shows s c i.isLt
    rw [if_neg (pType_of_demands hd).2]
    exact ⟨fault, by simp [discFault], discFault_event, other⟩
  · rw [if_pos hty]
    exact ackDisc_spec s c i.isLt
  · dsimp only
    rw [testPulse_input hd p h hi hen hty]
    cases line <;> simp [pulseJudged]

end Sys2Proof.Machine
end

section
/-! PROOFS. MASTER_PRIO written by both masters (O40), and DEV_ID (O41). -/

namespace Sys2Proof.Machine

/-! ## MASTER_PRIO (R573) -/

/-- A conflict is recorded without a word of the register that it is about. -/
@[simp] theorem noteConflict_prioMp (s : State) (a : Nat) (w : Master) (loser winVal loseVal : Nat) :
    (noteConflict s a w loser winVal loseVal).prioMp = s.prioMp := by simp [noteConflict, raise]

theorem busWrite_masterPrio {s : State} {m : Master} {v : Nat} (hw : s.writable = true) :
    (busWrite s m 0x40 v).prioMp = bitOf v 0 := by
  rw [busWrite_register hw (by decide) (by decide)]
  simp [regWrite, dirListed, dirCore, rng]

/-- Of two writes of MASTER_PRIO the winner's value stands. -/
theorem winWrite_masterPrio {s : State} (w : Master) (v r : Nat) (hw : s.writable = true) :
    (winWrite s w (.direct 0x40, v) (.direct 0x40, r)).prioMp = bitOf v 0 := by
  unfold winWrite
  rw [if_neg (show Target.direct 0x40 ≠ .direct 0x13 by decide), noteConflict_prioMp]
  exact busWrite_masterPrio hw

/-- Settles O40: the two writes conflict, and the write of the master named before wins. -/
theorem masterPrioWrittenByBoth : Obligations.MasterPrioWrittenByBoth := by
  intro s m v r hw
  refine ⟨_, rfl, ?_⟩
  have hu : (access (access s m) (otherMaster m)).writable = true := by simpa using hw
  have hp : priorMaster (access (access s m) (otherMaster m)) = priorMaster s := by simp [priorMaster]
  have named (u : State) (k : Master) : resolve u k (.direct 0x40) = 0x40 := resolve_direct (by decide) (by decide)
  dsimp only
  rw [bothWrite_conflict hu (by rw [named, named]) (by rw [named]; rfl)
    (by rw [named]; exact mapListed_direct (by decide) (by decide) (by decide) (by decide)), hp]
  change _ = (if m = priorMaster s then v else r).getLsbD 0
  split
  · exact winWrite_masterPrio m _ _ hu
  · exact winWrite_masterPrio (otherMaster m) _ _ hu

/-! ## DEV_ID (R712) -/

/-- DEV_ID reads the same with the host served and in BOOT, and no write of the other master's stands before it. -/
theorem busRead_devId {s : State} {m : Master} (hr : s.inReset = false) : (busRead s m 0).1 = 0x4E58 := by
  have group : groupAt s 0 = none := by simp [groupAt, itemAt, itemsNear, dirItems, rol]
  have word : dirWord s (some m) 0 = 0x4E58 := by simp [dirWord, dirCore, rng]
  unfold busRead
  split
  · simp [directRead, mapRead, group, beforeWrite, mapWord, word]
  · simp [hr, word]

/-- Settles O41: a frame of one word delivers what the bus reads at its register. -/
theorem devIdIsReadable : Obligations.DevIdIsReadable := by
  intro s hr
  obtain ⟨t, ht, hd⟩ := readReg_delivers (a := 0) 1 [] hr (by decide)
  have word : (readRegs .mp [] 0 0 1 (access s .mp)).1 = [0x4E58] := by
    have fetch : fetchReg .mp [] 0 0 (access s .mp) = busRead (access s .mp) .mp 0 := if_pos (by simp [lateFetch])
    rw [readRegs_succ, fetch, busRead_devId (by simpa using hr)]
    rfl
  exact ⟨t, ht, hd.trans (congrArg (List.map Word.ofN) word)⟩

end Sys2Proof.Machine
end

section
/-! PROOFS. The commands of a transaction: BEGIN, DISARM, KEEPALIVE and ROLLBACK (O31), the commit commands and ARM_DC (O32). -/

namespace Sys2Proof.Machine

/-! ## How a command is judged and answered (R546) -/

/-- The owner's command in a state that it can be given in is not refused. -/
theorem txnRefusal_none {s : State} {m : Master} {commits : Bool} {okIn : TxnState → Bool} (hc : commits = true → s.coreOn = true)
    (ho : s.txn.owner = some m) (hs : okIn s.txn.st = true) : txnRefusal s m commits okIn = none := by
  cases commits <;> simp_all [txnRefusal]

/-- A command of a master that does not own the transaction is refused as such. -/
theorem txnRefusal_not_owner {s : State} {m : Master} {commits : Bool} {okIn : TxnState → Bool} (hc : commits = true → s.coreOn = true)
    (ho : s.txn.owner ≠ some m) : txnRefusal s m commits okIn = some ccNotOwner := by
  cases commits <;> simp_all [txnRefusal]

/-- A refused command is echoed with the cause, and leaves the transaction. -/
theorem refuseTxn_spec (s : State) (m : Master) (cmd code : Nat) :
    (refuseTxn s m cmd code).txn = s.txn ∧ Echoed (refuseTxn s m cmd code) m 0x18 cmd code :=
  ⟨by simp [refuseTxn, setTxnErr], echoed_echo ..⟩

/-- An accepted command is echoed, and the echo changes nothing of the transaction or of the configuration. -/
theorem acceptTxn_spec (s : State) (m : Master) (cmd : Nat) :
    (acceptTxn s m cmd).txn = s.txn ∧ (acceptTxn s m cmd).cfg = s.cfg ∧ Echoed (acceptTxn s m cmd) m 0x18 cmd resAccepted :=
  ⟨rfl, rfl, echoed_echo ..⟩

/-! ## BEGIN, DISARM, KEEPALIVE and ROLLBACK (R545, R555, R556) -/

/-- A new transaction of the master, with nothing staged. -/
def openedTxn (s : State) (m : Master) : State :=
  s.onTxn fun t => { t with st := .opened, owner := some m, result := 0, abortIgnored := false, written := [], staged := [],
                            validated := false }

theorem txnBegin_opens {s : State} {m : Master} (hs : s.servedCore = true) (hp : s.pwr.shut = .none) (hi : s.txn.st = .idle) :
    txnBegin s m = acceptTxn (touchTxn (setTxnErr (openedTxn s m) m 0 0)) m 1 := by
  have served : s.served = true ∧ s.coreOn = true := by simpa [State.servedCore] using hs
  simp [txnBegin, openedTxn, State.writable, served, hp, hi]

theorem txnBegin_busy {s : State} {m : Master} (hw : s.writable = true) (hc : s.coreOn = true) (hi : s.txn.st ≠ .idle) :
    txnBegin s m = refuseTxn s m 1 ccBusy := by
  simp [txnBegin, hw, hc, hi]

theorem disarm_accepted {s : State} {m : Master} (hw : s.writable = true) (ho : s.txn.owner = some m) (ha : s.txn.st = .armed) :
    disarm s m = acceptTxn (touchTxn (s.onTxn fun t => { t with st := .opened })) m 7 := by
  simp [disarm, hw, txnRefusal_none (commits := false) nofun ho (okIn := (· == .armed)) (by simp [ha])]

theorem keepalive_accepted {s : State} {m : Master} (hw : s.writable = true) (ho : s.txn.owner = some m) (hi : s.txn.st ≠ .idle) :
    keepalive s m = acceptTxn (touchTxn s) m 9 := by
  simp [keepalive, hw, txnRefusal_none (commits := false) nofun ho (okIn := (· != .idle)) (by simp [hi])]

/-- The originator of an agreed commit apart, the owner can roll its transaction back. -/
theorem rollbackCmd_accepted {s : State} {m : Master} (hw : s.writable = true) (ho : s.txn.owner = some m) (hi : s.txn.st ≠ .idle)
    (hr : s.txn.st = .agreed → s.lace.role ≠ .originator) : rollbackCmd s m = acceptTxn (rollbackTxn s trRolledBack) m 8 := by
  have flipped : flippedNow s m = false := by simp [flippedNow, hi]
  have late : ¬ (s.txn.st = .agreed ∧ s.lace.role = .originator) := fun ⟨ha, h⟩ => hr ha h
  simp [rollbackCmd, hw, flipped, late, txnRefusal_none (commits := false) nofun ho (okIn := (· != .idle)) (by simp [hi])]

/-- Settles O31: each command is accepted or found busy, and leaves the transaction as its row says. -/
theorem transactionOpensAndCloses : Obligations.TransactionOpensAndCloses := by
  unfold Obligations.TransactionOpensAndCloses
  refine ⟨fun s m hs hp hi => ⟨_, congrArg Host.Outcome.next (txnBegin_opens (by simpa using hs) (by simpa using hp) (by simpa using hi)), ?_⟩,
    fun s m hw hc hi => ⟨_, congrArg Host.Outcome.next (txnBegin_busy (by simpa using hw) (by simpa using hc) (by simpa using hi)), ?_⟩,
    fun s m hw ho ha => ⟨_, congrArg Host.Outcome.next (disarm_accepted (by simpa using hw) (by simpa using ho) (by simpa using ha)), ?_⟩,
    fun s m hw ho hi => ⟨_, congrArg Host.Outcome.next (keepalive_accepted (by simpa using hw) (by simpa using ho) (by simpa using hi)), ?_⟩,
    fun s m hw ho hi hr => ⟨_, congrArg Host.Outcome.next
      (rollbackCmd_accepted (by simpa using hw) (by simpa using ho) (by simpa using hi) (by simpa using hr)), ?_⟩⟩
  · obtain ⟨txn, -, echoed⟩ := acceptTxn_spec (touchTxn (setTxnErr (openedTxn (access s m) m) m 0 0)) m 1
    rw [txn]
    exact ⟨by simp [touchTxn, setTxnErr, openedTxn], by simp [touchTxn, setTxnErr, openedTxn],
      by simp [touchTxn, setTxnErr, openedTxn], by simp [touchTxn, setTxnErr, openedTxn], echoed⟩
  · simpa using refuseTxn_spec (access s m) m 1 ccBusy
  · obtain ⟨txn, -, echoed⟩ := acceptTxn_spec (touchTxn ((access s m).onTxn fun t => { t with st := .opened })) m 7
    rw [txn]
    exact ⟨by simp [touchTxn], echoed⟩
  · obtain ⟨txn, -, echoed⟩ := acceptTxn_spec (touchTxn (access s m)) m 9
    rw [txn]
    exact ⟨by simp [touchTxn], echoed⟩
  · obtain ⟨txn, cfg, echoed⟩ := acceptTxn_spec (rollbackTxn (access s m) trRolledBack) m 8
    obtain ⟨idle, owner, result⟩ := rollbackTxn_txn (access s m) trRolledBack
    rw [txn, cfg, rollbackTxn_cfg]
    exact ⟨idle, owner, rfl, result, by simp, echoed⟩

/-! ## The boundary of a commit (R547, R553) -/

/-- The tick that 32 bits name follows the present one and has these low bits. -/
theorem extendTick_spec (a j : Nat) : extendTick a j % 2 ^ 32 = a % 2 ^ 32 ∧ j < extendTick a j := by
  unfold extendTick
  omega

@[simp] theorem access_curTick (s : State) (m : Master) : (access s m).curTick = s.curTick := by simp [State.curTick, State.tickNum]

theorem extendTick_access (s : State) (m : Master) :
    extendTick (access s m).txn.at_ (access s m).curTick = extendTick s.txn.at_ s.curTick := by simp

@[simp] theorem access_evaluateBegun (s : State) (m : Master) : evaluateBegun (access s m) = evaluateBegun s := by simp [evaluateBegun]
@[simp] theorem access_atTimeTick (s : State) (m : Master) : atTimeTick (access s m) = atTimeTick s := by simp [atTimeTick]

/-- An accepted commit waits for its boundary. -/
theorem acceptCommit_spec (s : State) (m : Master) (cmd : Nat) (k : CommitKind) (tick : Nat) :
    (acceptCommit s m cmd k tick).txn.st = .pending ∧ (acceptCommit s m cmd k tick).txn.kind = k ∧
    (acceptCommit s m cmd k tick).txn.commitTick = tick ∧ Echoed (acceptCommit s m cmd k tick) m 0x18 cmd resAccepted :=
  ⟨rfl, rfl, rfl, echoed_echo ..⟩

theorem commit_not_refused {s : State} {m : Master} (hc : s.coreOn = true) (ho : s.txn.owner = some m) (hs : s.txn.st = .opened) :
    txnRefusal s m true (· == .opened) = none :=
  txnRefusal_none (fun _ => hc) ho (by simp [hs])

section
variable {s : State} {m : Master} (hw : s.writable = true) (hc : s.coreOn = true) (ho : s.txn.owner = some m) (hs : s.txn.st = .opened)
include hw hc ho hs

theorem commitNext_accepted : commitNext s m = acceptCommit s m 2 .next (s.curTick + (if evaluateBegun s then 2 else 1)) := by
  simp [commitNext, hw, commit_not_refused hc ho hs]

/-- A tick that is not late: within half the range, and of the next tick only while its EVALUATE has not begun. -/
theorem commitAtTick_accepted (hf : extendTick s.txn.at_ s.curTick ≤ s.curTick + 2 ^ 31)
    (hn : extendTick s.txn.at_ s.curTick = s.curTick + 1 → evaluateBegun s = false) :
    commitAtTick s m = acceptCommit s m 3 .atTick (extendTick s.txn.at_ s.curTick) := by
  have late : ¬ (s.curTick + 2 ^ 31 < extendTick s.txn.at_ s.curTick ∨
      (extendTick s.txn.at_ s.curTick = s.curTick + 1 ∧ evaluateBegun s = true)) := by
    rintro (h | ⟨h, b⟩)
    · omega
    · simp [hn h] at b
  unfold commitAtTick
  simp only [hw, commit_not_refused hc ho hs, Bool.not_true, Bool.false_eq_true, if_false]
  rw [if_neg late]

theorem commitAtTime_accepted (hj : s.curTick < atTimeTick s) (hf : atTimeTick s ≤ s.curTick + 2 ^ 31)
    (hn : atTimeTick s = s.curTick + 1 → evaluateBegun s = false) : commitAtTime s m = acceptCommit s m 4 .atTime (atTimeTick s) := by
  have late : ¬ (atTimeTick s ≤ s.curTick ∨ (atTimeTick s = s.curTick + 1 ∧ evaluateBegun s = true)) := by
    rintro (h | ⟨h, b⟩)
    · omega
    · simp [hn h] at b
  unfold commitAtTime
  simp only [hw, commit_not_refused hc ho hs, Bool.not_true, Bool.false_eq_true, if_false]
  rw [if_neg late, if_neg (Nat.not_lt.mpr hf)]

theorem commitDist_accepted : commitDist s m = acceptCommit s m 5 .dist (extendTick s.txn.at_ s.curTick) := by
  simp [commitDist, hw, commit_not_refused hc ho hs]

end

theorem armDc_accepted {s : State} {m : Master} (hw : s.writable = true) (ho : s.txn.owner = some m) (hs : s.txn.st = .opened) :
    armDc s m = acceptTxn (touchTxn (s.onTxn fun t => { t with st := .armed, kind := .dist, armId := t.dcId })) m 6 := by
  simp [armDc, hw, txnRefusal_none (commits := false) nofun ho (okIn := (· == .opened)) (by simp [hs])]

/-- Each commit command of another master is refused. -/
theorem exec_commit_not_owner {s : State} {m : Master} (hw : s.writable = true) (hc : s.coreOn = true) (ho : s.txn.owner ≠ some m)
    {p : Instr × Nat} (hp : p ∈ [(Instr.commitNext m, 2), (.commitAtTick m, 3), (.commitAtTime m, 4), (.commitDist m, 5)]) :
    exec p.1 s = .next (refuseTxn (access s m) m p.2 ccNotOwner) := by
  have refused : txnRefusal (access s m) m true (· == .opened) = some ccNotOwner :=
    txnRefusal_not_owner (fun _ => by simpa using hc) (by simpa using ho)
  have served : (access s m).writable = true := by simpa using hw
  simp only [List.mem_cons, List.not_mem_nil, or_false] at hp
  obtain rfl | rfl | rfl | rfl := hp
  · exact congrArg Host.Outcome.next (by simp [commitNext, served, refused])
  · exact congrArg Host.Outcome.next (by simp [commitAtTick, served, refused])
  · exact congrArg Host.Outcome.next (by simp [commitAtTime, served, refused])
  · exact congrArg Host.Outcome.next (by simp [commitDist, served, refused])

/-- Settles O32: the accepted commands by the boundary that each sets, those of another master by their refusal. -/
theorem commitCommandsSetTheBoundary : Obligations.CommitCommandsSetTheBoundary := by
  unfold Obligations.CommitCommandsSetTheBoundary
  refine ⟨fun s m hw hc ho hs => ⟨_, congrArg Host.Outcome.next
      (commitNext_accepted (by simpa using hw) (by simpa using hc) (by simpa using ho) (by simpa using hs)), ?_⟩,
    fun s m hw hc ho hs hf hn => ⟨_, congrArg Host.Outcome.next
      (commitAtTick_accepted (by simpa using hw) (by simpa using hc) (by simpa using ho) (by simpa using hs) (by simpa using hf)
        (by simpa using hn)), ?_⟩,
    fun s m hw hc ho hs hj hf hn => ⟨_, congrArg Host.Outcome.next
      (commitAtTime_accepted (by simpa using hw) (by simpa using hc) (by simpa using ho) (by simpa using hs) (by simpa using hj)
        (by simpa using hf) (by simpa using hn)), ?_⟩,
    fun s m hw hc ho hs => ⟨_, congrArg Host.Outcome.next
      (commitDist_accepted (by simpa using hw) (by simpa using hc) (by simpa using ho) (by simpa using hs)), ?_⟩,
    fun s m hw ho hs => ⟨_, congrArg Host.Outcome.next
      (armDc_accepted (by simpa using hw) (by simpa using ho) (by simpa using hs)), ?_⟩,
    fun s m hw hc ho p hp => ⟨_, exec_commit_not_owner hw hc ho hp, by simpa using refuseTxn_spec (access s m) m p.2 ccNotOwner⟩⟩
  · simpa using acceptCommit_spec (access s m) m 2 .next _
  · obtain ⟨st, kind, tick, echoed⟩ := acceptCommit_spec (access s m) m 3 .atTick
      (extendTick (access s m).txn.at_ (access s m).curTick)
    obtain ⟨low, after⟩ := extendTick_spec s.txn.at_ s.curTick
    rw [tick.trans (extendTick_access s m)]
    exact ⟨st, kind, low, after, echoed⟩
  · simpa using acceptCommit_spec (access s m) m 4 .atTime (atTimeTick (access s m))
  · obtain ⟨st, kind, tick, echoed⟩ := acceptCommit_spec (access s m) m 5 .dist
      (extendTick (access s m).txn.at_ (access s m).curTick)
    obtain ⟨low, after⟩ := extendTick_spec s.txn.at_ s.curTick
    rw [tick.trans (extendTick_access s m)]
    exact ⟨st, kind, low, after, echoed⟩
  · obtain ⟨txn, -, echoed⟩ := acceptTxn_spec
      (touchTxn ((access s m).onTxn fun t => { t with st := .armed, kind := .dist, armId := t.dcId })) m 6
    rw [txn]
    exact ⟨rfl, by simp [touchTxn], by simp [touchTxn], echoed⟩

end Sys2Proof.Machine
end

section
/-! PROOFS. The instructions of the TAP (O52). -/

namespace Sys2Proof.Machine

/-! ## EXTEST (R639, R650) -/

theorem extestLoad_allowed {s : State} (cells : Nat) (h : nearEnergy s = false) :
    extestLoad s cells = s.onTap fun t => { t with instr := .extest, cells := cells } :=
  if_neg (ne_true_of_eq_false h)

theorem extestLoad_denied {s : State} (cells : Nat) (h : nearEnergy s = true) :
    extestLoad s cells = raise (s.onTap fun t => { t with instr := .bypass }) evDebugDenied := if_pos h

/-! ## DBG_CTRL (R635, R638) -/

/-- Below D2 the opcode acts as BYPASS. -/
theorem dbgCtrl_bypass {s : State} (halt : Bool) (h : s.sec.dbg ≠ 2) : dbgCtrl s halt = s.onTap fun t => { t with instr := .bypass } :=
  if_neg fun hd => h hd.1

theorem dbgCtrl_halt {s : State} (hd : s.sec.dbg = 2) (hc : s.coreOn = true) :
    dbgCtrl s true = (s.onTap fun t => { t with instr := .dbgCtrl }).onSec fun x => { x with haltP := true } := if_pos ⟨hd, hc⟩

theorem dbgCtrl_resume {s : State} (hd : s.sec.dbg = 2) (hc : s.coreOn = true) :
    dbgCtrl s false = if s.sec.haltP then chanPStart ((s.onTap fun t => { t with instr := .dbgCtrl }).onSec fun x => { x with haltP := false })
      else s.onTap fun t => { t with instr := .dbgCtrl } := if_pos ⟨hd, hc⟩

/-- A halted channel P does not run (R635). -/
theorem pRuns_of_halted {s : State} (h : s.sec.haltP = true) : s.pRuns = false := by simp [State.pRuns, h]

/-- Channel P's start touches neither the security unit nor the TAP. -/
@[simp] theorem chanPStart_sec (s : State) : (chanPStart s).sec = s.sec :=
  (show Within 0x2c0000000 s (chanPStart s) by simp).sec_eq (by decide)

@[simp] theorem chanPStart_tap (s : State) : (chanPStart s).tap = s.tap :=
  (show Within 0x2c0000000 s (chanPStart s) by simp) .tap rfl

/-- After RESUME_P channel P is not halted, whether it was or not. -/
theorem dbgCtrl_resume_spec {s : State} (hd : s.sec.dbg = 2) (hc : s.coreOn = true) :
    (dbgCtrl s false).sec.haltP = false ∧ (dbgCtrl s false).tap.instr = .dbgCtrl := by
  rw [dbgCtrl_resume hd hc]
  split
  next => exact ⟨by rw [chanPStart_sec], by rw [chanPStart_tap]⟩
  next hh => exact ⟨eq_false_of_ne_true hh, rfl⟩

/-! ## MAP_ACCESS (R637, R638) -/

/-- The result of a MAP_ACCESS as the TAP shows it. -/
def mapShown (s : State) (done : Bool) (a : Nat) (d : Word) : State :=
  s.onTap fun t => { t with instr := .mapAccess, mapDone := done, mapAddr := a, mapData := d }

theorem jtagAccess_read {s : State} (a : Nat) (v : Word) (h : s.sec.dbg ≠ 0) :
    jtagAccess s 1 a v = mapShown s true a (Word.ofN (mapWord s none s.act a)) := if_neg h

theorem jtagAccess_read_denied {s : State} (a : Nat) (v : Word) (h : s.sec.dbg = 0) :
    jtagAccess s 1 a v = mapShown (raise s evDebugDenied) false a v := if_pos h

theorem jtagAccess_write_denied {s : State} (a : Nat) (v : Word) (h : s.sec.dbg < 2) :
    jtagAccess s 2 a v = mapShown (raise s evDebugDenied) false a v := if_pos h

/-- Outside INTERNAL a write is discarded, and shown as completed (log 65). -/
theorem jtagAccess_write_discarded {s : State} {a : Nat} (v : Word) (h : 2 ≤ s.sec.dbg) (ha : a / 65536 ≠ 0x0F) :
    jtagAccess s 2 a v = mapShown s true a v := by
  have discarded : jtagWrite s a v = s := if_pos ha
  refine (if_neg (Nat.not_lt.mpr h)).trans ?_
  rw [discarded]
  rfl

/-- What the TAP shows takes no event back. -/
theorem eventSet_mapShown (s : State) (done : Bool) (a : Nat) (d : Word) {e : Nat} (he : e < 256) :
    EventSet (mapShown (raise s e) done a d) e :=
  (eventSet_raiseAt s 0 0 he).congr rfl rfl

/-! ## The obligation -/

/-- Settles O52: each instruction by the debug level, and EXTEST by the groups near energy. -/
theorem tapInstructions : Obligations.TapInstructions := by
  unfold Obligations.TapInstructions
  refine ⟨fun s cells h => ⟨_, congrArg Host.Outcome.next (extestLoad_allowed cells h), rfl, rfl⟩,
    fun s cells h => ⟨_, congrArg Host.Outcome.next (extestLoad_denied cells h), ?_⟩, fun s cells => ⟨_, rfl, rfl, rfl⟩,
    fun s => ⟨_, rfl, rfl, rfl⟩, fun s => ⟨_, rfl, rfl, rfl⟩,
    fun s hd hc => ⟨_, congrArg Host.Outcome.next (dbgCtrl_halt hd hc), rfl, pRuns_of_halted rfl, rfl⟩,
    fun s hd hc => ⟨_, rfl, dbgCtrl_resume_spec hd hc⟩,
    fun s hd => ⟨_, congrArg Host.Outcome.next (dbgCtrl_bypass true hd), rfl, rfl⟩,
    fun s hd => ⟨_, congrArg Host.Outcome.next (dbgCtrl_bypass false hd), rfl, rfl⟩,
    fun s a v hd => ⟨_, congrArg Host.Outcome.next (jtagAccess_read a.toNat v hd), rfl, rfl, rfl, rfl, rfl⟩,
    fun s a v hd => ⟨_, congrArg Host.Outcome.next (jtagAccess_read_denied a.toNat v hd), rfl, eventSet_mapShown _ _ _ _ (by decide)⟩,
    fun s a v hd => ⟨_, congrArg Host.Outcome.next (jtagAccess_write_denied a.toNat v hd), rfl, ?_, eventSet_mapShown _ _ _ _ (by decide)⟩,
    fun s a v hd ha => ⟨_, congrArg Host.Outcome.next (jtagAccess_write_discarded v hd ha), rfl, rfl⟩⟩
  · exact ⟨by simp [raise], by simp [raise], eventSet_raiseAt _ 0 0 (by decide)⟩
  · simp [mapShown, raise]

end Sys2Proof.Machine
end

section
/-! PROOFS. The sticky bits, the counters and the snapshot commands (O50). -/

namespace Sys2Proof.Machine

/-! ## Sticky bits (R579, R608) -/

/-- The bits of a word at its place among the events: those of the half of the group that it is written to. -/
theorem evWord_getLsbD (g : Nat) (hi : Bool) (v : Word) {i : Nat} (h : i < 256) :
    (evWord g hi v.toNat).getLsbD i = (decide (i / 16 = 2 * g + b2n hi) && v.getLsbD (i % 16)) := by
  have place : 32 * g + (if hi then 16 else 0) = 16 * (2 * g + b2n hi) := by cases hi <;> simp [b2n] <;> omega
  have small : v.toNat % 65536 = v.toNat := Nat.mod_eq_of_lt v.isLt
  unfold evWord
  rw [place, small, BitVec.getLsbD_ofNat, Nat.testBit_mul_two_pow, decide_eq_true h, Bool.true_and]
  generalize 2 * g + b2n hi = k
  by_cases hk : i / 16 = k
  · have offset : i - 16 * k = i % 16 := by omega
    simp [hk, offset, show 16 * k ≤ i by omega, BitVec.testBit_toNat]
  · by_cases hle : 16 * k ≤ i
    · have above : v.getLsbD (i - 16 * k) = false := BitVec.getLsbD_of_ge _ _ (by omega)
      simp [hk, above, BitVec.testBit_toNat]
    · simp [hk, hle]

/-- Of the bits written with 1 those go that no occurrence of this very cycle has set. -/
theorem stickyClear_sticky {s : State} {g : Nat} {hi : Bool} {v : Nat} (hs : s.servedCore = true) :
    (stickyClear s g hi v).evt.sticky = (s.evt.sticky &&& ~~~(evWord g hi v)) ||| (s.evt.sticky &&& setNewly s) := by
  simp [stickyClear, irqRelease, hs]

theorem stickyClear_getLsbD {s : State} {g : Nat} {hi : Bool} {v : Word} (hs : s.servedCore = true) {i : Nat} (h : i < 256) :
    (stickyClear s g hi v.toNat).evt.sticky.getLsbD i = (s.evt.sticky.getLsbD i &&
      !(decide (i / 16 = 2 * g + b2n hi) && v.getLsbD (i % 16) && !(setNewly s).getLsbD i)) := by
  rw [stickyClear_sticky hs]
  simp only [BitVec.getLsbD_or, BitVec.getLsbD_and, BitVec.getLsbD_not, evWord_getLsbD g hi v h, decide_eq_true h]
  cases s.evt.sticky.getLsbD i <;> simp

/-! ## Counters (R600, R601, R611) -/

theorem raiseIf_counting (b : Bool) (s : State) (e unit cause : Nat) :
    (raiseIf b s e unit cause).cnts = s.cnts ∧ (raiseIf b s e unit cause).cntCyc = s.cntCyc ∧ (raiseIf b s e unit cause).time = s.time ∧
    (raiseIf b s e unit cause).gates = s.gates ∧ (raiseIf b s e unit cause).cfg = s.cfg := by
  cases b <;> simp

/-- What counter `c` holds once the counts of this cycle are made again: its value, and whether it wrapped or saturated. -/
def counted (s : State) (c : Nat) : Counter × Bool :=
  (vat s.cntCyc c).base.add (fCntOvf.on s.act (cntBase c)) (if gateOpen s c then (vat s.cntCyc c).offered else 0)

/-- All that a count of counter `k` rests on stands in `t` as in `s`. -/
structure CountsAs (k : Nat) (s t : State) : Prop where
  cnt : vat t.cnts k = vat s.cnts k
  cyc : vat t.cntCyc k = vat s.cntCyc k
  time : t.time = s.time
  gates : t.gates = s.gates
  cfg : t.cfg = s.cfg

theorem CountsAs.refl (k : Nat) (s : State) : CountsAs k s s := ⟨rfl, rfl, rfl, rfl, rfl⟩

theorem CountsAs.trans {k : Nat} {s t u : State} (h : CountsAs k s t) (h' : CountsAs k t u) : CountsAs k s u :=
  ⟨h'.cnt.trans h.cnt, h'.cyc.trans h.cyc, h'.time.trans h.time, h'.gates.trans h.gates, h'.cfg.trans h.cfg⟩

/-- The active copy is read off the configuration store. -/
theorem act_of_cfg {s t : State} (h : t.cfg = s.cfg) : t.act = s.act := by
  unfold State.act
  rw [h]

theorem gateOpen_congr {s t : State} (hg : t.gates = s.gates) (hc : t.cfg = s.cfg) (c : Nat) : gateOpen t c = gateOpen s c := by
  unfold gateOpen
  rw [act_of_cfg hc, hg]

theorem CountsAs.clearedCounter {k : Nat} {s t : State} (h : CountsAs k s t) : clearedCounter t k = clearedCounter s k := by
  unfold Machine.clearedCounter
  rw [h.cyc, h.time, gateOpen_congr h.gates h.cfg, act_of_cfg h.cfg]

/-- Counter `c` as counted again, before its event. -/
def recounted (s : State) (c : Nat) : State :=
  { s.onCnt c fun _ => (counted s c).1 with cntCyc := vupd s.cntCyc c fun x => { x with over_ := x.over_ || (counted s c).2 } }

theorem recount_eq (s : State) (c : Nat) :
    recount c s = raiseIf ((counted s c).2 && !(vat s.cntCyc c).over_) (recounted s c) evCntOvf c 0 := rfl

/-- Counting again changes one counter, and raises its event where it wraps or saturates for the first time in the cycle. -/
theorem recount_spec (s : State) (c : Nat) : (∀ k, k ≠ c → CountsAs k s (recount c s)) ∧
    (c < 16 → vat (recount c s).cnts c = (counted s c).1) ∧
    ((counted s c).2 = true → (vat s.cntCyc c).over_ = false → EventSet (recount c s) evCntOvf) := by
  obtain ⟨cnts, cyc, time, gates, cfg⟩ :=
    raiseIf_counting ((counted s c).2 && !(vat s.cntCyc c).over_) (recounted s c) evCntOvf c 0
  rw [recount_eq]
  refine ⟨fun k hk => ⟨?_, ?_, time, gates, cfg⟩, fun hc => ?_, fun wraps first => ?_⟩
  · rw [cnts]
    exact vat_vupd_other _ _ hk.symm
  · rw [cyc]
    exact vat_vupd_other _ _ hk.symm
  · rw [cnts]
    exact vat_vupd_same _ _ hc
  · rw [wraps, first]
    exact eventSet_raiseAt _ c 0 (by decide)

/-- The cycle record of counter `c` changed. -/
def onCyc (s : State) (c : Nat) (f : CntCycle → CntCycle) : State := { s with cntCyc := vupd s.cntCyc c f }

/-- Counting again after a change of the cycle record: on this counter alone. -/
theorem recount_onCyc_others (s : State) {c k : Nat} (f : CntCycle → CntCycle) (hk : k ≠ c) : CountsAs k s (recount c (onCyc s c f)) :=
  have record : CountsAs k s (onCyc s c f) := ⟨rfl, vat_vupd_other _ _ hk.symm, rfl, rfl, rfl⟩
  record.trans ((recount_spec (onCyc s c f) c).1 k hk)

/-- It counts by the changed record, through the gate as it is. -/
theorem recount_onCyc (s : State) {c : Nat} (f : CntCycle → CntCycle) (hc : c < 16) {y : CntCycle} (hy : f (vat s.cntCyc c) = y)
    {r : Counter × Bool} (hr : y.base.add (fCntOvf.on s.act (cntBase c)) (if gateOpen s c then y.offered else 0) = r) :
    vat (recount c (onCyc s c f)).cnts c = r.1 ∧ (r.2 = true → y.over_ = false → EventSet (recount c (onCyc s c f)) evCntOvf) := by
  have record : vat (onCyc s c f).cntCyc c = y := (vat_vupd_same _ _ hc).trans hy
  have value : counted (onCyc s c f) c = r := by
    unfold counted
    rw [record]
    exact hr
  obtain ⟨-, own, event⟩ := recount_spec (onCyc s c f) c
  rw [value] at own event
  rw [record] at event
  exact ⟨own hc, event⟩

/-- A clear changes no other counter (R601). -/
theorem cntZero_others (s : State) {c k : Nat} (hk : k ≠ c) : CountsAs k s (cntZero s c) := recount_onCyc_others s _ hk

/-- A clear leaves what this cycle has counted (R611). -/
theorem cntZero_own (s : State) {c : Nat} (hc : c < 16) : vat (cntZero s c).cnts c = clearedCounter s c := by
  obtain ⟨own, -⟩ := recount_onCyc s
    (fun y => if (vat s.cntCyc c).at_ == some s.time.bench then { y with base := default } else default) hc rfl rfl
  refine own.trans ?_
  unfold clearedCounter
  by_cases now : (vat s.cntCyc c).at_ = some s.time.bench <;> by_cases gate : gateOpen s c = true <;> simp [now, gate] <;> rfl

/-- CNT_CMD clears the counters of its mask, one after the other. -/
theorem cntsCleared_spec (s : State) (mask : Word) {k : Nat} (hk : k < 16) :
    vat (forN 16 (fun c t => if bitOf mask.toNat c then cntZero t c else t) s).cnts k =
      if mask.getLsbD k then clearedCounter s k else vat s.cnts k := by
  refine forN_reaches (Q := CountsAs k s) (L := fun t : State => vat t.cnts k = if mask.getLsbD k then clearedCounter s k else vat s.cnts k)
    hk (fun c t hc h => ?_) (fun t h => ?_) (fun c t hc h => ?_) (.refl k s)
  · split
    · exact h.trans (cntZero_others t hc.ne')
    · exact h
  · change vat (if mask.getLsbD k then cntZero t k else t).cnts k = _
    split
    · rw [cntZero_own t hk, h.clearedCounter]
    · exact h.cnt
  · split
    · exact (cntZero_others t hc.ne).cnt.trans h
    · exact h

/-- A counter at its maximum that counts once more wraps, or is saturated with its value (R600). -/
theorem Counter.add_at_maximum {c : Counter} (wrap : Bool) (hv : c.value = 2 ^ 48 - 1) (hs : c.sat = false) :
    c.add wrap 1 = (if wrap then { c with value := 0, wraps := stick 8 c.wraps } else { c with sat := true }, true) := by
  unfold Counter.add
  rw [hs, hv]
  cases wrap <;> simp

/-- The first count of a cycle begins its record. -/
theorem countInto_first {s : State} {c : Nat} (n : Nat) (hf : (vat s.cntCyc c).at_ ≠ some s.time.bench) : countInto c n s =
    recount c (onCyc s c fun _ => { at_ := some s.time.bench, base := vat s.cnts c, offered := n, over_ := false }) := by
  unfold countInto
  dsimp only
  rw [if_neg hf]
  rfl

/-- A count through an open gate, at the maximum and with none before it in the cycle. -/
theorem counterOverflow_spec {s : State} {c : Nat} (hlt : c < 16) (hc : s.coreOn = true)
    (hw : fCntSrc.val s.act (cntBase c) = 0x100 ∨ rng 0x110 0x157 (fCntSrc.val s.act (cntBase c)) = true)
    (hv : (vat s.cnts c).value = 2 ^ 48 - 1) (hs : (vat s.cnts c).sat = false) (hg : gateOpen s c = true)
    (hf : (vat s.cntCyc c).at_ ≠ some s.time.bench) :
    EventSet (counterOverflow s c) evCntOvf ∧ (∀ k, k ≠ c → vat (counterOverflow s c).cnts k = vat s.cnts k) ∧
    vat (counterOverflow s c).cnts c = if fCntOvf.on s.act (cntBase c) then { vat s.cnts c with value := 0, wraps := stick 8 (vat s.cnts c).wraps }
      else { vat s.cnts c with sat := true } := by
  have counts : counterOverflow s c = countInto c 1 s := by
    unfold counterOverflow
    simp [hc, hw, hv, hg]
  obtain ⟨own, event⟩ := recount_onCyc s
    (fun _ => { at_ := some s.time.bench, base := vat s.cnts c, offered := 1, over_ := false }) hlt rfl
    ((congrArg (fun n => (vat s.cnts c).add (fCntOvf.on s.act (cntBase c)) n) (if_pos hg)).trans (Counter.add_at_maximum _ hv hs))
  rw [counts, countInto_first 1 hf]
  exact ⟨event rfl rfl, fun k hk => (recount_onCyc_others s _ hk).cnt, own⟩

/-! ## The snapshot commands (R604, R606, R738) -/

theorem snapCommand_req {s : State} {m : Master} (hs : s.servedCore = true) : snapCommand s m false true =
    echo (s.onSnap fun x => { x with reqDue := x.reqDue || !evaluateBegun s, reqNext := x.reqNext || evaluateBegun s }) m 0x34 1 []
      resAccepted := by simp [snapCommand, hs, b2n]

theorem snapCommand_release {s : State} {m : Master} (hs : s.servedCore = true) : snapCommand s m true false =
    echo (s.onSnap fun x => { x with released := x.hold && x.valid, missed := 0 }) m 0x34 8 [] resAccepted := by
  simp [snapCommand, hs, b2n]

/-! ## The obligation -/

theorem access_clearedCounter (s : State) (m : Master) (c : Nat) : clearedCounter (access s m) c = clearedCounter s c := by
  simp [clearedCounter, gateOpen]

/-- Settles O50: the sticky bits bit by bit, the counters one by one, and the snapshot commands by what they leave due. -/
theorem eventsCountersAndSnapshots : Obligations.EventsCountersAndSnapshots := by
  unfold Obligations.EventsCountersAndSnapshots
  refine ⟨fun s m hi v hs => ⟨_, rfl, fun i hlt => ?_⟩, fun s m c hs => ⟨_, congrArg Host.Outcome.next (if_neg (by simp [hs])), ?_⟩,
    fun s m mask hs => ⟨_, congrArg Host.Outcome.next (if_neg (by simp [hs])), echoed_echo .., fun k hk => ?_⟩,
    fun s m hs => ⟨_, congrArg Host.Outcome.next (snapCommand_req (by simpa using hs)), echoed_echo .., ?_⟩,
    fun s m hs => ⟨_, congrArg Host.Outcome.next (snapCommand_release (by simpa using hs)), echoed_echo .., ?_⟩,
    fun s c hc hw hv hu hg hf => ⟨_, rfl, counterOverflow_spec c.isLt hc hw hv hu hg hf⟩⟩
  · simpa [setNewly] using stickyClear_getLsbD (g := (access s m).evt.grpSel) (hi := hi) (v := v) ((access_servedCore s m).trans hs) hlt
  · exact ⟨(cntZero_own (access s m) c.isLt).trans (access_clearedCounter s m c), echoed_echo ..,
      fun k hk => (cntZero_others (access s m) hk).cnt.trans (by simp)⟩
  · exact (cntsCleared_spec (access s m) mask hk).trans (by simp [access_clearedCounter])
  · simp [evaluateBegun]
  · simp

end Sys2Proof.Machine
end

section
/-! PROOFS. Fuses that an OTP operation burns (for O48). -/

namespace Sys2Proof.Machine

/-! ## The burned fuses of a range (R629) -/

/-- The number of burned fuses among `lo` to `hi` − 1. -/
def burnedIn (f lo hi : Nat) : Nat := ∑ i ∈ Finset.Ico lo hi, b2n (bitOf f i)

/-- The fuses of the range that are burned. -/
def burnedSet (f lo hi : Nat) : Finset Nat := (Finset.Ico lo hi).filter fun i => bitOf f i = true

theorem burnedIn_eq_card (f lo hi : Nat) : burnedIn f lo hi = (burnedSet f lo hi).card := by
  unfold burnedIn burnedSet b2n
  rw [Finset.card_filter]

theorem burnedIn_le (f lo hi : Nat) : burnedIn f lo hi ≤ hi - lo := by
  rw [burnedIn_eq_card, ← Nat.card_Ico]
  exact Finset.card_filter_le _ _

/-- The count rests on the range's own fuses. -/
theorem burnedIn_congr {f g lo hi : Nat} (h : ∀ i, lo ≤ i → i < hi → bitOf g i = bitOf f i) : burnedIn g lo hi = burnedIn f lo hi :=
  Finset.sum_congr rfl fun i hi' => by rw [h i (Finset.mem_Ico.mp hi').1 (Finset.mem_Ico.mp hi').2]

theorem fuseCount_eq (f : Nat) : fuseCount f = burnedIn f 0 16 := by
  simp [fuseCount, burnedIn, List.range_succ, Finset.sum_range_succ]

theorem noSessMax_eq (s : State) : noSessMax s = 1 - burnedIn s.otp.policy 0 2 := by
  simp [noSessMax, burnedIn, Finset.sum_range_succ]

theorem sessMax_eq (s : State) : sessMax s = 2 - burnedIn s.otp.policy 2 4 := by
  simp [sessMax, burnedIn, Finset.sum_Ico_eq_sum_range, Finset.sum_range_succ]

/-! ## Burning (R628) -/

/-- The fuses that a burn takes: the first `k` unburned ones of the range. -/
def toBurn (f lo hi k : Nat) : List Nat := ((List.range hi).filter fun i => decide (lo ≤ i) && !bitOf f i).take k

theorem mem_toBurn {f lo hi k i : Nat} (h : i ∈ toBurn f lo hi k) : lo ≤ i ∧ i < hi ∧ bitOf f i = false := by
  simpa [and_left_comm] using List.mem_filter.mp (List.mem_of_mem_take h)

theorem toBurn_nodup (f lo hi k : Nat) : (toBurn f lo hi k).Nodup := (List.nodup_range.filter _).sublist (List.take_sublist k _)

/-- There are `k` of them where as many are unburned. -/
theorem toBurn_length {f lo hi k : Nat} (h : k + burnedIn f lo hi ≤ hi - lo) : (toBurn f lo hi k).length = k := by
  have unburned : ((List.range hi).filter fun i => decide (lo ≤ i) && !bitOf f i).toFinset =
      (Finset.Ico lo hi).filter fun i => ¬ bitOf f i = true := by
    ext i
    simp [and_left_comm, and_assoc]
  have parts := Finset.card_filter_add_card_filter_not (s := Finset.Ico lo hi) fun i => bitOf f i = true
  rw [← unburned, List.toFinset_card_of_nodup (List.nodup_range.filter _), Nat.card_Ico] at parts
  rw [burnedIn_eq_card] at h
  rw [toBurn, List.length_take]
  exact min_eq_left (by unfold burnedSet at h; omega)

theorem testBit_foldl_add_two_pow {l : List Nat} (hl : l.Nodup) {f : Nat} (hf : ∀ i ∈ l, f.testBit i = false) (b : Nat) :
    (l.foldl (fun f i => f + 2 ^ i) f).testBit b = (f.testBit b || decide (b ∈ l)) := by
  induction l generalizing f with
  | nil => simp
  | cons i l ih =>
    obtain ⟨hi, hl⟩ := List.nodup_cons.mp hl
    have e := add_two_pow_eq_or (hf i List.mem_cons_self)
    have kept : ∀ j ∈ l, (f + 2 ^ i).testBit j = false := fun j hj => by
      have hij : i ≠ j := fun e => hi (e ▸ hj)
      simp [e, hf j (List.mem_cons_of_mem i hj), hij]
    rw [List.foldl_cons, ih hl kept, e]
    obtain rfl | h := eq_or_ne b i
    · simp
    · simp [h, h.symm]

/-- A burn burns just those. -/
theorem bitOf_burn (f lo hi k b : Nat) : bitOf (burn f lo hi k) b = (bitOf f b || decide (b ∈ toBurn f lo hi k)) :=
  testBit_foldl_add_two_pow (toBurn_nodup f lo hi k) (fun _ hi => (mem_toBurn hi).2.2) b

/-- Outside its range a burn changes no count. -/
theorem burnedIn_burn_outside {f lo hi k lo' hi' : Nat} (h : hi' ≤ lo ∨ hi ≤ lo') :
    burnedIn (burn f lo hi k) lo' hi' = burnedIn f lo' hi' :=
  burnedIn_congr fun i h1 h2 => by
    have out : i ∉ toBurn f lo hi k := fun hm => by
      obtain ⟨h3, h4, -⟩ := mem_toBurn hm
      omega
    simp [bitOf_burn, out]

/-- Within its range a burn of `k` fuses burns `k` more, where so many are left. -/
theorem burnedIn_burn {f lo hi k : Nat} (h : k + burnedIn f lo hi ≤ hi - lo) : burnedIn (burn f lo hi k) lo hi = burnedIn f lo hi + k := by
  have union : burnedSet (burn f lo hi k) lo hi = burnedSet f lo hi ∪ (toBurn f lo hi k).toFinset := by
    ext i
    simp only [burnedSet, Finset.mem_union, Finset.mem_filter, List.mem_toFinset, bitOf_burn, Bool.or_eq_true, decide_eq_true_eq,
      Finset.mem_Ico]
    have := @mem_toBurn f lo hi k i
    tauto
  have apart : Disjoint (burnedSet f lo hi) (toBurn f lo hi k).toFinset := by
    refine Finset.disjoint_left.mpr fun i hb ht => ?_
    have unburned := (mem_toBurn (List.mem_toFinset.mp ht)).2.2
    simp [burnedSet, unburned] at hb
  rw [burnedIn_eq_card, union, Finset.card_union_of_disjoint apart, List.toFinset_card_of_nodup (toBurn_nodup f lo hi k), toBurn_length h,
    ← burnedIn_eq_card]

end Sys2Proof.Machine
end

section
/-! PROOFS. The ends of the authentication steps and of the OTP operations (O48). -/

namespace Sys2Proof.Machine

/-! ## What the end of an operation leaves of the security unit (R624) -/

@[simp] theorem shutdownStep_sec (s : State) : (shutdownStep s).sec = s.sec :=
  (show Within 0x4680c00006a00 s (shutdownStep s) by simp).sec_eq (by decide)

/-- What an end does beside the queue touches the exchange buffer alone, and that of a response or of a key write clears it. -/
theorem endEffects_sec (s : State) (o : LongOp) :
    (endEffects s o).sec = if o.code = 0x11 ∨ o.code = 0x12 then (clearBuf s).sec else s.sec := by
  unfold endEffects
  extract_lets cut exported cleared
  have before : exported.sec = s.sec ∧ exported.time = s.time := by
    unfold exported cut
    split <;> split <;> exact ⟨rfl, rfl⟩
  obtain ⟨sec, time⟩ := before
  have settled : (settleOuts cleared).sec = cleared.sec :=
    (show Within 0x4400001800200 cleared (settleOuts cleared) by simp).sec_eq (by decide)
  rw [apply_ite State.sec, settled, ite_self, apply_ite State.sec, sec]
  simp only [clearBuf, sec, time]

/-- So is the end of the operation. -/
theorem finishOp_sec (s : State) (o : LongOp) (st : OpState) (result cause : Nat) :
    (finishOp s o st result cause).sec = if o.code = 0x11 ∨ o.code = 0x12 then (clearBuf s).sec else s.sec := by
  unfold finishOp
  rw [shutdownStep_sec, closeOp_eq]
  have raised (u : State) (e : Nat) : (raise u e).sec = u.sec := by simp [raise]
  exact (raised ..).trans (endEffects_sec (leftQueue s o (endedOp s o st result cause)) o)

theorem finishOp_draws (s : State) (o : LongOp) (st : OpState) (result cause : Nat) : (finishOp s o st result cause).draws = s.draws :=
  (show Within 0x22c780c01806a00 s (finishOp s o st result cause) by simp) .draws rfl

/-- The buffer is 0 where it has been cleared. -/
theorem clearBuf_buf (s : State) (i : Nat) : vat (clearBuf s).sec.buf i = 0 := vat_replicate_default 16 i

section
variable {s : State} {rep : OpReport} {o : LongOp}

/-- The operation that ends, by its code. -/
theorem Ends.opDone_eq {code : Nat} (h : Ends s o code) (hc : opCycles s = true) :
    exec (.opDone rep) s = .next (endsByCode s rep o) ∧ o.code = code :=
  ⟨congrArg Host.Outcome.next (opDone_unasked hc h.1 h.2.1), h.2.2⟩

/-! ## AUTH_CHALLENGE and AUTH_RESPONSE (R625, R626, R627) -/

/-- The challenge as drawn for a master. -/
def challengeDrawn (s : State) (m : Master) : State :=
  { s with draws := s.draws + 1 }.onSec fun x => { x with
    buf := bufOf (octetsBE 16 (Config.randomBits s.draws).toNat), chalOctets := octetsBE 16 (Config.randomBits s.draws).toNat
    challenge := some m, chalEnd := s.safe.p.clk + chalTicks }

theorem endsByCode_challenge {m : Master} (hcode : o.code = 0x10) (hm : o.issuer = some m) (hr : rep.rngOk = true) :
    endsByCode s rep o = finishOp (challengeDrawn s m) o .done orDone 0 := by
  simp [endsByCode, hcode, hm, challengeDone, hr, challengeDrawn]

theorem endsByCode_response {m : Master} (hcode : o.code = 0x11) (hm : o.issuer = some m) : endsByCode s rep o = responseDone s o m := by
  simp [endsByCode, hcode, hm]

/-- The challenge is over. -/
def challengeOver (s : State) : State := s.onSec fun x => { x with challenge := none, chalOctets := [], chalEnd := 0 }

/-- The session of a master that has answered its challenge, with the staged parameters of R779. -/
def sessionOpened (s : State) (m : Master) : State :=
  ((challengeOver s).onSec fun x => { x with failCnt := 0, session := some m, openTime := s.now, lastAccess := s.safe.p.clk }).onSafe
    fun f => { f with stg := if f.hasPar then f.par else parFresh }

/-- One more failure in a row, with its delay. -/
def responseFailed (s : State) : State :=
  (challengeOver s).onSec fun x => { x with
    failCnt := min 255 (s.sec.failCnt + 1)
    delay := if 3 ≤ min 255 (s.sec.failCnt + 1) then some (s.safe.h.clk + delaySec (min 255 (s.sec.failCnt + 1)) * 10000000000) else x.delay }

theorem responseDone_match {m : Master} (hc : s.sec.challenge = some m) (h : bufOctets s = authResponse s m) :
    responseDone s o m = finishOp (raise (raise (sessionOpened s m) evAuthOk) evSecState) o .done orDone 0 := by
  unfold responseDone
  rw [if_neg (not_not.mpr hc), h]
  exact if_pos (beq_self_eq_true _)

theorem responseDone_mismatch {m : Master} (hc : s.sec.challenge = some m) (h : bufOctets s ≠ authResponse s m) :
    responseDone s o m = finishOp (raise (responseFailed s) evAuthFail) o .done orAuthFail 0 := by
  unfold responseDone
  rw [if_neg (not_not.mpr hc)]
  exact if_neg (by simpa using h)

theorem responseDone_none {m : Master} (hc : s.sec.challenge ≠ some m) : responseDone s o m = finishOp s o .done orNoChallenge 0 := if_pos hc

/-- A matching response opens the session and ends the failures; another one counts as a failure. The challenge is over, and the buffer
cleared, either way. -/
theorem responseDone_spec {m : Master} (hcode : o.code = 0x11) (hc : s.sec.challenge = some m) {t : State} (ht : t = responseDone s o m) :
    t.sec.challenge = none ∧ (∀ i, vat t.sec.buf i = 0) ∧
    (if bufOctets s = authResponse s m then EndedAs t o orDone ∧ t.sec.session = some m ∧ t.sec.failCnt = 0 ∧ EventSet t evAuthOk
     else EndedAs t o orAuthFail ∧ t.sec.session = s.sec.session ∧ t.sec.failCnt = min 255 (s.sec.failCnt + 1) ∧ EventSet t evAuthFail) := by
  have notSelfTest : o.code ≠ 0x06 := by omega
  have cleared (u : State) (result : Nat) : (finishOp u o .done result 0).sec = (clearBuf u).sec :=
    (finishOp_sec ..).trans (if_pos (.inl hcode))
  split
  next h =>
    have event : EventSet (raise (raise (sessionOpened s m) evAuthOk) evSecState) evAuthOk := (eventSet_raiseAt _ 0 0 (by decide)).raiseAt evSecState 0 0
    rw [responseDone_match hc h] at ht
    rw [ht, cleared]
    exact ⟨by simp [clearBuf, raise, sessionOpened, challengeOver], clearBuf_buf _, finishOp_endedAs .., by simp [clearBuf, raise, sessionOpened],
      by simp [clearBuf, raise, sessionOpened], event.finishOp notSelfTest ..⟩
  next h =>
    have event : EventSet (raise (responseFailed s) evAuthFail) evAuthFail := eventSet_raiseAt _ 0 0 (by decide)
    rw [responseDone_mismatch hc h] at ht
    rw [ht, cleared]
    exact ⟨by simp [clearBuf, raise, responseFailed, challengeOver], clearBuf_buf _, finishOp_endedAs ..,
      by simp [clearBuf, raise, responseFailed, challengeOver], by simp [clearBuf, raise, responseFailed, challengeOver],
      event.finishOp notSelfTest ..⟩

/-! ## The OTP operations (R628, R629, R634) -/

theorem endsByCode_otp (hcode : o.code = 0x12 ∨ o.code = 0x13 ∨ o.code = 0x14) : endsByCode s rep o = otpDone s o rep.verifyOk := by
  obtain h | h | h := hcode <;> simp [endsByCode, opRecord, h]

theorem otpDone_endedAs (s : State) (o : LongOp) : EndedAs (otpDone s o true) o orDone := finishOp_endedAs ..

/-- A verified key write burns the key that the operation took over. -/
theorem otpBurn_key (hcode : o.code = 0x12) : (otpBurn s o true).otp.keySet = true ∧
    (otpBurn s o true).otp.key = octetsOfWords (o.data.map fun w => w.rotateLeft 8) := by
  simp [otpBurn, hcode]

/-- A verified policy write burns what the requested levels need of each pair. -/
theorem otpBurn_policy (hcode : o.code = 0x13) : (otpBurn s o true).otp.policy =
    burn (burn s.otp.policy 0 2 (noSessMax s - (policyArgs o).1)) 2 4 (sessMax s - (policyArgs o).2) := by
  simp [otpBurn, hcode]

/-- A verified lock write burns one more fuse of its profile. -/
theorem otpBurn_lock (hcode : o.code = 0x14) (hp : o.arg0.toNat < 4) :
    vat (otpBurn s o true).otp.lock o.arg0.toNat = burn (vat s.otp.lock o.arg0.toNat) 0 16 1 := by
  simp [otpBurn, hcode, hp]

/-- The levels that the fuses leave are the requested ones (R629). -/
theorem otpDone_policy (hcode : o.code = 0x13) (hn : (policyArgs o).1 ≤ noSessMax s) (hx : (policyArgs o).2 ≤ sessMax s) :
    noSessMax (otpDone s o true) = (policyArgs o).1 ∧ sessMax (otpDone s o true) = (policyArgs o).2 := by
  have noSess := burnedIn_le s.otp.policy 0 2
  have sess := burnedIn_le s.otp.policy 2 4
  rw [noSessMax_eq] at hn ⊢
  rw [sessMax_eq] at hx ⊢
  rw [otpDone_otp, otpBurn_policy hcode, noSessMax_eq, sessMax_eq]
  constructor
  · rw [burnedIn_burn_outside (by omega), burnedIn_burn (by omega)]
    omega
  · have same (k : Nat) : burnedIn (burn s.otp.policy 0 2 k) 2 4 = burnedIn s.otp.policy 2 4 := burnedIn_burn_outside (by omega)
    rw [burnedIn_burn (by rw [same]; omega), same]
    omega

/-- One more fuse turns the lock around (R629). -/
theorem otpDone_lock (hcode : o.code = 0x14) (hp : o.arg0.toNat < 4) (hf : fuseCount (vat s.otp.lock o.arg0.toNat) < 16) :
    profileLocked (otpDone s o true) o.arg0.toNat = !profileLocked s o.arg0.toNat := by
  rw [fuseCount_eq] at hf
  have one : burnedIn (burn (vat s.otp.lock o.arg0.toNat) 0 16 1) 0 16 = burnedIn (vat s.otp.lock o.arg0.toNat) 0 16 + 1 :=
    burnedIn_burn (by omega)
  unfold profileLocked
  rw [otpDone_otp, otpBurn_lock hcode hp, fuseCount_eq, fuseCount_eq, one]
  obtain h | h := Nat.mod_two_eq_zero_or_one (burnedIn (vat s.otp.lock o.arg0.toNat) 0 16) <;> simp [Nat.add_mod, h]

/-- The end of a session, if there is one, leaves the key field as it was and no session. -/
theorem endSessionBy_closed (s : State) (cause : Nat) : (endSessionBy s cause).sec.session = none ∧ (endSessionBy s cause).sec.field = s.sec.field := by
  cases h : s.sec.session with
  | none => simp [endSessionBy, h]
  | some m =>
    have field : (sessionEnded s cause).sec.field = s.sec.field := by simp [sessionEnded, raise]
    refine ⟨(endSessionBy_spec h cause).1, ?_⟩
    rw [endSessionBy_of_some h]
    split
    · obtain ⟨b, hb⟩ := setDebug_sec (sessionEnded s cause) (min s.sec.dbg (noSessMax s))
      rw [hb]
      exact field
    · exact field

/-- With its key burned the device is FIELD, no session is open, and the buffer is cleared (R628, R634). -/
theorem otpDone_key (hcode : o.code = 0x12) : (otpDone s o true).sec.field = true ∧ (otpDone s o true).sec.session = none ∧
    ∀ i, vat (otpDone s o true).sec.buf i = 0 := by
  have done : otpDone s o true = finishOp (endSessionBy ((raise (otpBurn s o true) evOtpWrite).onSec fun x => { x with field := true }) 3)
      o .done orDone 0 := by
    simp [otpDone, hcode]
  obtain ⟨session, field⟩ := endSessionBy_closed ((raise (otpBurn s o true) evOtpWrite).onSec fun x => { x with field := true }) 3
  rw [done, finishOp_sec, if_pos (.inr hcode)]
  exact ⟨field, session, clearBuf_buf _⟩

end

/-! ## The obligation -/

/-- Settles O48: each operation by its code, a response by the buffer, and the fuses by their counts. -/
theorem authenticationAndOtpEnd : Obligations.AuthenticationAndOtpEnd := by
  unfold Obligations.AuthenticationAndOtpEnd
  refine ⟨fun s rep o m he hm hr hc => ?_, fun s rep o m he hm hs hc => ?_, fun s rep o m he hm hs hc => ?_, fun s rep o he hok hc => ?_,
    fun s rep o he hok hn hx hc => ?_, fun s rep o he hok hp hf hc => ?_⟩
  all_goals obtain ⟨run, code⟩ := he.opDone_eq (rep := rep) hc
  · rw [endsByCode_challenge code hm hr] at run
    have sec := (finishOp_sec (challengeDrawn s m) o .done orDone 0).trans (if_neg (by omega))
    exact ⟨_, run, finishOp_endedAs .., by rw [sec]; rfl, by rw [sec]; rfl, finishOp_draws ..⟩
  · rw [endsByCode_response code hm] at run
    exact ⟨_, run, responseDone_spec code hs rfl⟩
  · rw [endsByCode_response code hm, responseDone_none hs] at run
    have sec := (finishOp_sec s o .done orNoChallenge 0).trans (if_pos (.inl code))
    exact ⟨_, run, finishOp_endedAs .., by rw [sec]; rfl, by rw [sec]; rfl⟩
  · rw [endsByCode_otp (.inl code), hok] at run
    obtain ⟨keySet, key⟩ := otpBurn_key (s := s) code
    exact ⟨_, run, otpDone_endedAs s o, by rw [otpDone_otp, keySet], by rw [otpDone_otp, key], otpDone_key code⟩
  · rw [endsByCode_otp (.inr (.inl code)), hok] at run
    exact ⟨_, run, otpDone_endedAs s o, otpDone_policy code hn hx⟩
  · rw [endsByCode_otp (.inr (.inr code)), hok] at run
    exact ⟨_, run, otpDone_endedAs s o, otpDone_lock code hp hf⟩

end Sys2Proof.Machine
end

section
/-! PROOFS. The ends of the stop functions, the readback and EDM faults, and the degraded time (O37). -/

namespace Sys2Proof.Machine

/-! ## A group that is moved (R455, R456) -/

/-- What a channel makes of a group that it takes into another state than STARTUP_PENDING. -/
theorem moveGroup_group (s : State) (c : Chan) {n : Nat} (hn : n < 4) {st : SafeState} (hst : st ≠ .startupPending) (why : Nat) :
    vat ((moveGroup s c n st why).chan c).grps n = { enterState (s.chan c) st (vat (s.chan c).grps n) with request := 0 } := by
  unfold moveGroup
  dsimp only
  rw [noteCombined_chan, raiseIf_chan, if_neg hst, noteNear_chan, State.chan_onChan, vat_vupd_same _ _ hn]

/-- A group keeps its latched causes as it goes to LOCKOUT, and wherever it leaves SAFE_OFF not. -/
theorem enterState_latched {x : SafeChan} {st : SafeState} {g : ChanGroup} (h : st = .lockout ∨ g.st ≠ .safeOff) :
    (enterState x st g).latched = g.latched := by
  obtain h | h := h <;> simp [enterState, h]

/-- A group of a channel is changed. -/
theorem onGrp_group (s : State) (c : Chan) {n : Nat} (hn : n < 4) (f : ChanGroup → ChanGroup) :
    vat ((s.onGrp c n f).chan c).grps n = f (vat (s.chan c).grps n) := by
  rw [State.chan_onChan]
  exact vat_vupd_same _ _ hn

theorem bitOf_setBit (k i : Nat) : bitOf (setBit k i) i = true := by simp [bitOf, setBit]

/-! ## The verdict on a running stop (R483, R486) -/

/-- Since when the speed of a group has been below V_SS, as an evaluation finds it. -/
def belowFrom (s : State) (c : Chan) (n : Nat) (g : ChanGroup) : Option Nat :=
  if groupSpeed s c n < pVSs s.image n then some (g.belowSince.getD (s.chan c).clk) else none

/-- The time below V_SS is followed. -/
def speedFollowed (s : State) (c : Chan) (n : Nat) : State := s.onGrp c n fun g => { g with belowSince := belowFrom s c n g }

theorem speedFollowed_group (s : State) (c : Chan) {n : Nat} (hn : n < 4) : vat ((speedFollowed s c n).chan c).grps n =
    { vat (s.chan c).grps n with belowSince := belowFrom s c n (vat (s.chan c).grps n) } := onGrp_group s c hn _

/-- This leaves the parameters, the clock of the channel and the speeds. -/
theorem speedFollowed_keeps (s : State) (c : Chan) (n : Nat) : (speedFollowed s c n).image = s.image ∧
    ((speedFollowed s c n).chan c).clk = (s.chan c).clk ∧ groupSpeed (speedFollowed s c n) c n = groupSpeed s c n := by
  have image : (speedFollowed s c n).image = s.image := onChan_image s c _
  refine ⟨image, by simp [speedFollowed], ?_⟩
  unfold groupSpeed
  rw [image]
  cases axisOf s.image n <;> simp [speedFollowed, axisSpeed]

/-- A stop that has its verdict ends in SAFE_OFF with that cause. -/
theorem judgeStop_ends {s : State} {c : Chan} {n code : Nat} (hn : n < 4) (hs : (vat (s.chan c).grps n).st = .stopping)
    (hv : stopVerdict (speedFollowed s c n) c n = some code) : (vat ((judgeStop s c n).chan c).grps n).st = .safeOff ∧
    bitOf (vat ((judgeStop s c n).chan c).grps n).latched code = true := by
  have ends : judgeStop s c n =
      moveGroup ((speedFollowed s c n).onGrp c n fun g => { g with latched := setBit g.latched code }) c n .safeOff (2 ^ code) := by
    unfold judgeStop
    extract_lets m x v u
    have verdict : stopVerdict u c n = some code := hv
    rw [verdict]
    rfl
  rw [ends, moveGroup_group _ c hn (by decide)]
  refine ⟨rfl, ?_⟩
  dsimp only
  rw [enterState_latched (.inr ?_), onGrp_group _ c hn]
  · exact bitOf_setBit _ _
  · rw [onGrp_group _ c hn, speedFollowed_group s c hn]
    simp [hs]

/-- After T_MAX an SS1-r has its verdict, be it that of the ramp or of the time. -/
theorem stopVerdict_tmax {s : State} {c : Chan} {n : Nat} (hf : (vat (s.chan c).grps n).fn = .ss1r)
    (ht : (vat (s.chan c).grps n).tStart + pTMax s.image n * cMs ≤ (s.chan c).clk) :
    stopVerdict s c n = some caSs1Violation ∨ stopVerdict s c n = some caSs1Tmax := by
  have elapsed : pTMax s.image n * cMs ≤ (s.chan c).clk - (vat (s.chan c).grps n).tStart := by omega
  unfold stopVerdict
  extract_lets m x g el v
  rw [hf]
  dsimp only
  rw [if_pos elapsed]
  split
  · exact .inl rfl
  · exact .inr rfl

/-- Before T_MAX, with the speed below V_SS for T_SS, an SS1-r is done. -/
theorem stopVerdict_done {s : State} {c : Chan} {n b : Nat} (hf : (vat (s.chan c).grps n).fn = .ss1r)
    (hv : groupSpeed s c n < pVSs s.image n) (hb : (vat (s.chan c).grps n).belowSince = some b)
    (hd : b + pTSs s.image n * cMs ≤ (s.chan c).clk) (ht : (s.chan c).clk - (vat (s.chan c).grps n).tStart < pTMax s.image n * cMs) :
    stopVerdict s c n = some caSs1Done := by
  unfold stopVerdict
  extract_lets m x g el v
  have speed : v = groupSpeed s c n := by
    simp only [v, m, x, groupSpeed]
    cases axisOf s.image n <;> rfl
  have slow : ¬ (pVSs m n : Int) < v := by rw [speed]; exact_mod_cast Nat.not_lt.mpr (Nat.le_of_lt hv)
  rw [hf]
  dsimp only
  rw [if_neg fun h => slow h.2, if_neg (Nat.not_le.mpr ht), hb]
  exact if_pos ⟨by rw [speed]; exact_mod_cast hv, hd⟩

/-- After T_SS1T an SS1-t is done. -/
theorem stopVerdict_ss1t {s : State} {c : Chan} {n : Nat} (hf : (vat (s.chan c).grps n).fn = .ss1t)
    (ht : (vat (s.chan c).grps n).tStart + pTSs1t s.image n * cMs ≤ (s.chan c).clk) : stopVerdict s c n = some caSs1tDone := by
  have elapsed : pTSs1t s.image n * cMs ≤ (s.chan c).clk - (vat (s.chan c).grps n).tStart := by omega
  unfold stopVerdict
  extract_lets m x g el v
  rw [hf]
  exact if_pos elapsed

section
variable {s : State} {g : Fin 4} {c : Chan}

theorem exec_ss1Tmax (hr : s.chanRuns c = true) (hs : (vat (s.chan c).grps g).st = .stopping) (hf : (vat (s.chan c).grps g).fn = .ss1r) :
    exec (.ss1Tmax g c) s = .next (judgeStop s c g) := congrArg Host.Outcome.next (if_pos (by simp [hr, hs, hf]))

theorem exec_ss1Done (hr : s.chanRuns c = true) (hs : (vat (s.chan c).grps g).st = .stopping) (hf : (vat (s.chan c).grps g).fn = .ss1r) :
    exec (.ss1Done g c) s = .next (judgeStop s c g) := congrArg Host.Outcome.next (if_pos (by simp [hr, hs, hf]))

theorem exec_ss1tDone (hr : s.chanRuns c = true) (hs : (vat (s.chan c).grps g).st = .stopping) (hf : (vat (s.chan c).grps g).fn = .ss1t) :
    exec (.ss1tDone g c) s = .next (judgeStop s c g) := congrArg Host.Outcome.next (if_pos (by simp [hr, hs, hf]))

end

/-! ## A latched fault takes a group to LOCKOUT (R488, R494, R510) -/

/-- A group that is evaluated with such a fault latched is in LOCKOUT, with its causes and its EDM window as they were. -/
theorem evalGroup_of_fault {s : State} {c : Chan} {n code : Nat} (hn : n < 4) (hu : s.grpUsed n = true)
    (hb : bitOf (vat (s.chan c).grps n).latched code = true) (hl : maskLock.testBit code = true) (hr : maskR31.testBit code = false) :
    (vat ((evalGroup s c n).chan c).grps n).st = .lockout ∧
    (vat ((evalGroup s c n).chan c).grps n).latched = (vat (s.chan c).grps n).latched ∧
    (vat ((evalGroup s c n).chan c).grps n).edmWin = (vat (s.chan c).grps n).edmWin := by
  by_cases hs : (vat (s.chan c).grps n).st = .lockout
  · rw [evalGroup_of_lockout hu hs]
    exact ⟨hs, rfl, rfl⟩
  · obtain ⟨why, moved⟩ := evalGroup_of_latched hu hb hl hr hs
    rw [moved, moveGroup_group s c hn (by decide)]
    exact ⟨rfl, enterState_latched (x := s.chan c) (.inl rfl), rfl⟩

/-! ## STO readback (R437, R488) -/

/-- The fault as found: latched on the group, its line noted, and the kill latch where channel P finds a line that toggles. -/
def readbackFound (s : State) (c : Chan) (n : Nat) (lineB : Bool) (sight : StoSight) : State :=
  let first := !bitOf ((vat s.safe.p.grps n).latched ||| (vat s.safe.h.grps n).latched) caReadback
  let s := raiseIf first (s.onGrp c n fun g => { g with latched := setBit g.latched caReadback }) (ev 6 20) n (b2n lineB)
  let s := s.onSafe fun f => { f with stoFault := setBit f.stoFault (2 * n + b2n lineB) }
  if c == .p && pArch s.image n == 2 && sight == .edge then s.onSafe fun f => { f with kill := true } else s

theorem stoReadback_wrong {s : State} {c : Chan} {n : Nat} {lineB : Bool} {sight : StoSight} (hr : s.chanRuns c = true)
    (hu : s.grpUsed n = true) (hw : stoWrong s c n lineB sight = true) :
    stoReadback s c n lineB sight = evalGroup (readbackFound s c n lineB sight) c n := if_neg (by simp [hr, hu, hw])

theorem stoReadback_right {s : State} {c : Chan} {n : Nat} {lineB : Bool} {sight : StoSight} (hw : stoWrong s c n lineB sight = false) :
    stoReadback s c n lineB sight = s := if_pos (by simp [hw])

theorem readbackFound_spec (s : State) (c : Chan) {n : Nat} (hn : n < 4) (lineB : Bool) (sight : StoSight) :
    bitOf (vat ((readbackFound s c n lineB sight).chan c).grps n).latched caReadback = true ∧
    (readbackFound s c n lineB sight).grpUsed n = s.grpUsed n ∧
    bitOf (readbackFound s c n lineB sight).safe.stoFault (2 * n + b2n lineB) = true := by
  unfold readbackFound
  extract_lets first latched faulty
  have h : GroupOnly c n s latched := ((GroupOnly.refl c n s).onGrp _).raiseIf _ _ _ _
  have bit : bitOf (vat (latched.chan c).grps n).latched caReadback = true := by
    simp only [latched, raiseIf_chan]
    rw [onGrp_group s c hn]
    exact bitOf_setBit _ _
  have used : latched.grpUsed n = s.grpUsed n := h.grpUsed n
  clear_value latched
  split <;> exact ⟨by cases c <;> exact bit, used, bitOf_setBit _ _⟩

theorem evalGroup_stoFault (s : State) (c : Chan) (n : Nat) : (evalGroup s c n).safe.stoFault = s.safe.stoFault := by
  have latches := evalGroup_safetyLatches s c n
  simp only [Safety.latches, Prod.mk.injEq] at latches
  exact latches.2.2.1

/-! ## The EDM window (R494) -/

/-- A window that is over with the wrong level latches the EDM fault, and ends. -/
theorem edmJudge_breach {s : State} {c : Chan} {n : Nat} {w : EdmWindow} (hn : n < 4) (he : pEdmEn s.image n = true)
    (ht : (vat (s.chan c).grps n).wasToggling = stoToggles s n) (hw : (vat (s.chan c).grps n).edmWin = some w)
    (hl : (vat (s.chan c).grps n).edm = stoToggles s n)
    (hover : w.start + (if w.kindOn then pTEdmOn s.image n else pTEdmOff s.image n) * cMs < (s.chan c).clk) :
    bitOf (vat ((edmJudge s c n).chan c).grps n).latched caEdm = true ∧ (vat ((edmJudge s c n).chan c).grps n).edmWin = none ∧
    (edmJudge s c n).grpUsed n = s.grpUsed n := by
  unfold edmJudge
  extract_lets m on now g g1 g2 good ran first
  have edm : g1.edm = g.edm := by
    simp only [g1]
    split <;> rfl
  have window : g2.edmWin = some w := by
    have kept : g1.wasToggling = g.wasToggling ∧ g1.edmWin = g.edmWin := by
      simp only [g1]
      split <;> exact ⟨rfl, rfl⟩
    simp only [g2, kept, g, on, ht, hw, if_true]
  have wrong : good = false := by simp [good, g2, edm, g, on, hl]
  have expired : ran = true := by simp only [ran, window]; exact decide_eq_true hover
  rw [if_neg (by simp [m, he]), if_neg (by simp [wrong]), if_pos expired]
  have h := ((GroupOnly.refl c n s).onGrp fun _ => { g2 with edmWin := none, latched := setBit g2.latched caEdm }).raiseIf first (ev 6 21) n 0
  refine ⟨?_, ?_, h.grpUsed n⟩
  · rw [raiseIf_chan, onGrp_group s c hn]
    exact bitOf_setBit _ _
  · rw [raiseIf_chan, onGrp_group s c hn]

theorem exec_edmWindowExpire {s : State} {g : Fin 4} {c : Chan} (hr : s.chanRuns c = true) :
    exec (.edmWindowExpire g c) s = .next (evalGroup (edmJudge s c g) c g) := congrArg Host.Outcome.next (if_pos hr)

/-! ## The degraded time (R509) -/

/-- What no entry of a list has, no entry of a part of it has. -/
theorem any_filter_of_any {α : Type} {l : List α} {p q : α → Bool} (h : l.any p = false) : (l.filter q).any p = false := by
  rw [List.any_eq_false] at h ⊢
  exact fun a ha => h a (List.mem_of_mem_filter ha)

/-- No demand is present where its causes are not. -/
theorem demandCauses_of_none {s : State} {c : Chan} {n : Nat} (h : causesOf s c n &&& maskDemand = 0) (sto : Bool) :
    demandCauses s c n sto = 0 := by
  have absent {code : Nat} (hc : maskDemand.testBit code = true) : (causesOf s c n).testBit code = false := by
    have := congrArg (·.testBit code) h
    simpa [hc] using this
  have demand := absent (code := caDemand) (by decide)
  have discrepancy := absent (code := caDiscrepancy) (by decide)
  have telegram := absent (code := caTelDemand) (by decide)
  have opened : (inputsOn s.image n).any (fun i => (vat (s.chan c).ins i).st == .opened) = false := by
    by_contra h
    simp [causesOf, Bool.eq_true_of_not_eq_false h, caIf_testBit] at demand
  have faulty : (inputsOn s.image n).any (fun i => (vat (s.chan c).ins i).st == .fault) = false := by
    by_contra h
    simp [causesOf, Bool.eq_true_of_not_eq_false h, caIf_testBit] at discrepancy
  have told : (receiversOn s.image n).any (fun r => !bitOf (telSeen s c r) 0) = false := by
    by_contra h
    simp [causesOf, Bool.eq_true_of_not_eq_false h, caIf_testBit] at telegram
  unfold demandCauses
  extract_lets m x ins rxs
  rw [any_filter_of_any opened, any_filter_of_any faulty, any_filter_of_any told]
  rfl

/-- The cause latched of a group whose degraded time is over. -/
def degradedOver (s : State) (c : Chan) (n : Nat) : State :=
  raiseIf (!bitOf ((vat s.safe.p.grps n).latched ||| (vat s.safe.h.grps n).latched) caDegExpired)
    (s.onGrp c n fun g => { g with latched := setBit g.latched caDegExpired }) (ev 6 29) n 0

/-- With nothing else to act on, a group DEGRADED for T_DEG begins the stop of TEL_STOP. -/
theorem evalGroup_degraded {s : State} {c : Chan} {n : Nat} (hu : s.grpUsed n = true) (hs : (vat (s.chan c).grps n).st = .degraded)
    (ht : pTDeg s.image n * cS ≤ (vat (s.chan c).grps n).degTime)
    (hc : causesOf s c n &&& (maskLock ||| maskDemand ||| maskTelStop) = 0) (hf : followInto s c n = none) (hm : modeClass s ≠ .hold) :
    evalGroup s c n = beginStop (degradedOver s c n) c n (telFn s.image n) (2 ^ caDegExpired) := by
  rw [Nat.and_or_distrib_left, Nat.and_or_distrib_left] at hc
  simp only [Nat.or_eq_zero_iff] at hc
  obtain ⟨⟨lock, demand⟩, telStop⟩ := hc
  have energy : inEnergy s c n (causesOf s c n) = beginStop (degradedOver s c n) c n (telFn s.image n) (2 ^ caDegExpired) := by
    unfold inEnergy
    extract_lets m fn group sto g expired first
    have noGroup : group = 0 := demandCauses_of_none demand false
    have noSto : sto = 0 := by simp [sto, demandCauses_of_none demand true, noGroup]
    have late : expired = true := by simp [expired, g, m, hs, ht]
    rw [if_neg (by simp [noSto]), if_neg (by simp [noGroup]), if_neg (by simp [telStop]), if_pos late]
    rfl
  unfold evalGroup
  rw [hu, Bool.not_true, if_neg Bool.false_ne_true]
  extract_lets g causes locks also
  have noLock : locks = 0 := by simp [locks, causes, lock, without]
  rw [if_neg (by simp [noLock]), hf]
  dsimp only
  rw [if_neg (by simpa using hm)]
  simp only [g, hs]
  exact energy

/-- A group that begins a stop from another state than SAFE_OFF is in STOPPING with that function, its causes as they were. -/
theorem beginStop_group (s : State) (c : Chan) {n : Nat} (hn : n < 4) (fn : StopFn) (why : Nat) (hs : (vat (s.chan c).grps n).st ≠ .safeOff) :
    (vat ((beginStop s c n fn why).chan c).grps n).st = .stopping ∧ (vat ((beginStop s c n fn why).chan c).grps n).fn = fn ∧
    (vat ((beginStop s c n fn why).chan c).grps n).latched = (vat (s.chan c).grps n).latched := by
  unfold beginStop
  extract_lets x v
  rw [moveGroup_group _ c hn (by decide), onGrp_group s c hn]
  refine ⟨rfl, rfl, ?_⟩
  dsimp only
  rw [enterState_latched (.inr ?_)]
  exact hs

/-- The degraded time of a group is over in a channel. -/
def degradedDue (s : State) (g : Nat) (c : Chan) : Bool :=
  (vat (s.chan c).grps g).st == .degraded && decide (pTDeg s.image g * cS ≤ (vat (s.chan c).grps g).degTime)

/-- Where it is over in channel H, that channel's evaluation decides what the group becomes there: channel P's does not touch it. -/
theorem exec_degExpired {s : State} {g : Fin 4} (hd : degradedDue s g .h = true) :
    ∃ t, exec (.degExpired g) s = .next t ∧ t.safe.h = (evalGroup s .h g).safe.h := by
  refine ⟨if (evalGroup s .h g).pRuns && degradedDue s g .p then evalGroup (evalGroup s .h g) .p g else evalGroup s .h g, ?_, ?_⟩
  · have first : (if degradedDue s g .h then evalGroup s .h g else s) = evalGroup s .h g := if_pos hd
    exact congrArg (fun u => Host.Outcome.next (if u.pRuns && degradedDue s g .p then evalGroup u .p g else u)) first
  · split
    · exact (evalGroup_only (evalGroup s .h g) .p g).other
    · rfl

/-! ## The obligation -/

/-- Settles O37: each end of a stop is the verdict on the stopping group, a readback or EDM fault latches the cause that takes the group to
LOCKOUT, and the degraded time is the first cause that the evaluation of channel H finds. -/
theorem stopsEndInSafeOff : Obligations.StopsEndInSafeOff := by
  unfold Obligations.StopsEndInSafeOff
  refine ⟨?tmax, ?done, ?ss1t, ?wrong, ?right, ?edm, ?degraded⟩
  case tmax =>
    intro s g c hr hs hf ht
    obtain ⟨image, clk, -⟩ := speedFollowed_keeps s c g
    have group := speedFollowed_group s c g.isLt
    refine ⟨_, exec_ss1Tmax hr hs hf, ?_⟩
    have verdict := stopVerdict_tmax (s := speedFollowed s c g) (c := c) (n := g) (by rw [group]; exact hf)
      (by rw [group, image, clk]; exact ht)
    obtain hv | hv := verdict
    · obtain ⟨st, cause⟩ := judgeStop_ends g.isLt hs hv
      exact ⟨st, by rw [cause, Bool.or_true]⟩
    · obtain ⟨st, cause⟩ := judgeStop_ends g.isLt hs hv
      exact ⟨st, by rw [cause, Bool.true_or]⟩
  case done =>
    intro s g c b hr hs hf hv hb hd ht
    obtain ⟨image, clk, speed⟩ := speedFollowed_keeps s c g
    have group := speedFollowed_group s c g.isLt
    have below : belowFrom s c g (vat (s.chan c).grps g) = some b := by simp [belowFrom, hv, hb]
    refine ⟨_, exec_ss1Done hr hs hf, judgeStop_ends g.isLt hs (stopVerdict_done (b := b) ?_ ?_ ?_ ?_ ?_)⟩
    · rw [group]; exact hf
    · rw [speed, image]; exact hv
    · rw [group]; exact below
    · rw [image, clk]; exact hd
    · rw [group, image, clk]; exact ht
  case ss1t =>
    intro s g c hr hs hf ht
    obtain ⟨image, clk, -⟩ := speedFollowed_keeps s c g
    have group := speedFollowed_group s c g.isLt
    refine ⟨_, exec_ss1tDone hr hs hf, judgeStop_ends g.isLt hs (stopVerdict_ss1t ?_ ?_)⟩
    · rw [group]; exact hf
    · rw [group, image, clk]; exact ht
  case wrong =>
    intro s g lineB c sight hr hu hw
    obtain ⟨latched, used, line⟩ := readbackFound_spec s c g.isLt lineB sight
    obtain ⟨st, causes, -⟩ := evalGroup_of_fault g.isLt (used.trans hu) latched (by decide) (by decide)
    refine ⟨_, congrArg Host.Outcome.next (stoReadback_wrong hr hu hw), st, ?_, ?_⟩
    · rw [causes]; exact latched
    · rw [evalGroup_stoFault]; exact line
  case right =>
    exact fun s g lineB c sight hw => ⟨_, congrArg Host.Outcome.next (stoReadback_right hw), rfl⟩
  case edm =>
    intro s g c w hr hu he ht hw hl hover
    obtain ⟨latched, window, used⟩ := edmJudge_breach g.isLt he ht hw hl hover
    obtain ⟨st, causes, kept⟩ := evalGroup_of_fault g.isLt (used.trans hu) latched (by decide) (by decide)
    exact ⟨_, exec_edmWindowExpire hr, st, by rw [causes]; exact latched, kept.trans window⟩
  case degraded =>
    intro s g hu hs ht hc hf hm
    have due : degradedDue s g .h = true := by
      unfold degradedDue
      rw [Bool.and_eq_true]
      exact ⟨beq_iff_eq.mpr hs, decide_eq_true ht⟩
    obtain ⟨t, step, chanH⟩ := exec_degExpired due
    have group : vat ((degradedOver s .h g).chan .h).grps g =
        { vat (s.chan .h).grps g with latched := setBit (vat (s.chan .h).grps g).latched caDegExpired } := by
      unfold degradedOver
      rw [raiseIf_chan, onGrp_group s .h g.isLt]
    have energised : (vat ((degradedOver s .h g).chan .h).grps g).st ≠ .safeOff := by
      rw [group]
      exact fun h => absurd (hs.symm.trans h) (by decide)
    obtain ⟨st, fn, latched⟩ := beginStop_group _ .h g.isLt (telFn s.image g) (2 ^ caDegExpired) energised
    have cause : bitOf (vat ((degradedOver s .h g).chan .h).grps g).latched caDegExpired = true := by
      rw [group]
      exact bitOf_setBit _ _
    rw [evalGroup_degraded (c := .h) hu hs ht hc hf hm] at chanH
    refine ⟨t, step, ?_⟩
    dsimp only
    rw [chanH]
    exact ⟨st, fn, (congrArg (bitOf · caDegExpired) latched).trans cause⟩

end Sys2Proof.Machine
end
